-- ==== Sys2Proof/Word.lean ====
section
/-! DEFINITION. The word types: a register is 32 bits wide and little-endian (R19); memories are byte-addressed (R38). -/
namespace Sys2Proof

/-- A register's word (R19). -/
abbrev W32 := BitVec 32

/-- One byte of a memory (R38). -/
abbrev Byte := BitVec 8

end Sys2Proof
end

