-- ==== Sys2Proof/Syntax.lean ====
section
/-! DEFINITION. The commands the block takes (spec/opcode_table.json) and their operands. An operand is what the outside
world supplies with the command: the value of a register access, a message, an edge's position, or a measured quantity. -/
namespace Sys2Proof

/-- An output channel OC0 to OC191 and its step engine (R24). -/
abbrev OcId := Fin 192
/-- An input channel IC0 to IC31 and its capture engine (R24). -/
abbrev IcId := Fin 32
/-- A demodulator of an input channel (R195). -/
abbrev DtId := Fin 16
/-- A link port (R296). -/
abbrev PortId := Fin 6
/-- A lane of a link port (R296). -/
abbrev LaneId := Fin 4
/-- A sieve graph (R250). -/
abbrev GraphId := Fin 16
/-- A trigger unit (R280). -/
abbrev UnitId := Fin 8
/-- A DMA channel (R349). -/
abbrev ChanId := Fin 32
/-- A rill task input (R366). -/
abbrev TaskId := Fin 512
/-- A rill event source (R364). -/
abbrev SourceId := Fin 1024
/-- A switchable channel domain: 0 to 191 an OC, 192 + i an IC (R522, R411). -/
abbrev DomainId := Fin 224
/-- A calibration group (R477). -/
abbrev GroupId := Fin 236
/-- A quarter (R24). -/
abbrev QuarterId := Fin 4

/-- Who makes a register access: the host port (a relayed access counts as one, R344), the firmware, or the image
loader (R17, R372). -/
inductive Auth where
  | host | firmware | loader
  deriving DecidableEq, Repr

/-- The width of a host access, in bits 8, 16, 32 or 64 (R19). -/
inductive Width where
  | w8 | w16 | w32 | w64
  deriving DecidableEq, Repr

/-- The BAR of an access whose record GLB_MAPERR holds (R40, R571). -/
inductive Bar where
  | bar0 | bar2
  deriving DecidableEq, Repr

/-- A read or a write of a width (R19). -/
inductive Access where
  | read (w : Width) | write (w : Width) (v : BitVec 64)
  deriving DecidableEq, Repr

/-- The 32 sample codes of one input channel in one tick, the first sample first (R192). -/
structure AdcTick where
  ic : IcId
  codes : List (BitVec 12)
  deriving DecidableEq, Repr

/-- What reaches the balls of a physical receive lane in one slot (R297, R301): whether clock recovery is in lock, and the 34 symbols,
first one first, as the levels −3, −1, +1, +3 number them. -/
structure LaneRx where
  lane : LaneId
  lock : Bool
  syms : List (Fin 4)
  deriving DecidableEq, Repr

/-- What a FOLLOW flit carries (Table 10-5). -/
structure FollowFlit where
  xid : BitVec 8
  vSend : BitVec 74
  ntSend : BitVec 110
  hops : BitVec 4
  suspect : Bool
  epoch : BitVec 8
  deriving DecidableEq, Repr

/-- The three parts of a staged network time (R78). -/
inductive NtPart where
  | secLo | secHi | ns
  deriving DecidableEq, Repr

/-- The tone-synthesis registers that R158 stages. -/
inductive TsReg where
  | cfg | cphase | eq (k : Fin 32)
  deriving DecidableEq, Repr

/-- The read-out registers that R197 stages. -/
inductive DtReg where
  | trim | freqLo (k : DtId) | freqHi (k : DtId) | phase (k : DtId) | cfg (k : DtId)
  | cI (k : DtId) (st : Fin 3) | cQ (k : DtId) (st : Fin 3)
  deriving DecidableEq, Repr

/-- What a STAGED_VALUE_COMMIT moves into force: a channel's staged values (R158, R197), the held cycle-lock values
(R401) or a calibration group's values (R484). -/
inductive StageTarget where
  | oc (n : OcId) | ic (i : IcId) | cycleHold | group (g : GroupId)
  deriving DecidableEq, Repr

/-- The sluice routing registers (R231). -/
inductive RouteReg where
  | cisel (c : Fin 3072) | svsel (j : Fin 64) | lfwd (r : Fin 256)
  deriving DecidableEq, Repr

/-- Where a relayed flit was received: a link port, or the device's own slot when RLEN is 0 (R315, R343). -/
inductive RelayOrigin where
  | port (p : PortId) | self
  deriving DecidableEq, Repr

/-- The completion status of a PCI Express read (R352, R362). -/
inductive CplStatus where
  | ok | ur | ca | poisoned
  deriving DecidableEq, Repr

/-- The errors that Table 11-2 has the port report (R331). -/
inductive AerErr where
  | receiverError | badTlp | badDllp | replayTimeout | replayRollover | advisory
  | poisonedTlp | completionTimeout | completerAbort | unsupportedRequest | unexpectedCompletion
  | malformedTlp | receiverOverflow | dataLinkProtocol | flowControl | surpriseDown
  deriving DecidableEq, Repr

/-- What the host's configuration writes have left in the endpoint's configuration space (Tables 11-1 and 11-3): sizes and tags in
force, D3hot, ASPM L1 enabled, the completion timeout code, the three base addresses; and the errors the port has met. -/
structure PcieCfg where
  mps : Fin 3 := 0
  mrrs : Fin 6 := 2
  tag10 : Bool := false
  d3hot : Bool := false
  aspmL1 : Bool := false
  cplTo : BitVec 4 := 0
  bar0 : BitVec 64 := 0
  bar2 : BitVec 64 := 0
  bar4 : BitVec 64 := 0
  errors : List AerErr := []
  deriving DecidableEq, Repr

/-- Why a boot attempt fails: the nonzero codes of CFG_BOOT.CAUSEA and CAUSEB (R415). -/
inductive BootCause where
  | header | signature | svn | manifestHash | blockHash | blockCheck | flash | firmware | watchdog
  deriving DecidableEq, Repr

/-- The rows of Table 17-3 the self-test controller takes units from (R489). -/
inductive TestRow where
  | sram | tile | lane (p : PortId) | pll | oc | ic | part
  deriving DecidableEq, Repr

/-- The causes of Table 19-6 (R534). -/
inductive SafeCause where
  | host | task | pll | intscan | shutdown
  deriving DecidableEq, Repr

/-- The three causes that leave SLEEP (R518). -/
inductive WakeCause where
  | task | smbus | rstN
  deriving DecidableEq, Repr

/-- The freeze causes of Table 19-4 (R530). -/
inductive FreezeCause where
  | thermal | pfail | watchdog | safe | host
  deriving DecidableEq, Repr

/-- An SMBus transfer of a byte: a read, or a write of the byte (R564). -/
inductive SmbAccess where
  | read | write (b : Byte)
  deriving DecidableEq, Repr

/-- What the SMBus target refreshes for one rail: voltage, current and power as LINEAR11 words (R564). -/
structure RailReading where
  vin : BitVec 16
  iin : BitVec 16
  pin : BitVec 16
  deriving DecidableEq, Repr


/-- The commands of the block: one constructor for each row of the spec's table of operations and events. -/
inductive Instr where
  /-- POWER_ON (R548): VAUX rises through 1.60 V after being below 1.50 V, returning every class A value to default and starting a boot. -/
  | powerOn (strap : BitVec 3)
  /-- PIN_RESET (R558): An assertion of RST_N of sufficient length returns class B values to default and boots the device, or acts as the latch-clearing reset after shutdown. -/
  | pinReset (widthNs : Nat)
  /-- WATCHDOG_EXPIRY (R514): The firmware fails to service the watchdog for 1 s; the sediment record freezes and the device resets to class B and boots. -/
  | watchdogExpiry
  /-- WARM_RESET (R515): A write of 1 to GLB_RST.WARM in PARK, CALIBRATE, RELAY or SAFE returns class C to E values to default and re-applies the image. -/
  | warmReset (v : W32)
  /-- WARM_RESET_COMPLETE (R515): The re-application after a warm reset ends and the device enters PARK, or stays in SAFE while a SAFE cause is present. -/
  | warmResetComplete
  /-- FUNCTION_LEVEL_RESET (R335): A PCI Express Function Level Reset aborts host DMA channels, fails busy relay slots with 0xFE and resets the PCI and DMA class C values. -/
  | functionLevelReset
  /-- PERST (R560): Assertion of PERST_N holds the host port in reset and resets the PCI and DMA class C values. -/
  | perst (asserted : Bool)
  /-- PFAIL (R469): Assertion of PFAIL_N raises source 712 and runs the shutdown sequence with cause 2 in every mode. -/
  | pfail (widthNs : Nat)
  /-- RAIL_EXCURSION (R468): A rail stays outside its window for 10 µs or longer; RAIL is set and source 711 raised. -/
  | railExcursion (rail : Fin 11) (durNs : Nat)
  /-- DROOP_DETECT (R466): VDD_CORE falls below UNT_MV and the untimed clocks are stretched, with a taint when it falls below TIM_MV. -/
  | droopDetect (mv : Nat)
  /-- DROOP_STRETCH_END (R466): The core voltage has stayed above UNT_MV for HOLD ticks and the untimed clock stretch ends. -/
  | droopStretchEnd
  /-- TICK (R44): On every tick outside LOAD and SLEEP the timeline value increments and network time advances by NT_INC. -/
  | tick (adc : List AdcTick)
  /-- CRYSTAL_CYCLE (R81): In LOAD and SLEEP each always-on crystal cycle adds 25 × NT_INC to network time. -/
  | crystalCycle
  /-- SHOT_LO_WRITE (R36): A write of GLB_SHOT_LO in PARK stages the low half of the shot counter. -/
  | shotLoWrite (v : W32)
  /-- SHOT_HI_WRITE (R36): A write of GLB_SHOT_HI in PARK commits both halves of the shot counter. -/
  | shotHiWrite (v : W32)
  /-- SHOT_LO_READ (R36): A read of GLB_SHOT_LO returns the low half and copies SHOT_HI into the read shadow. -/
  | shotLoRead
  /-- NOW_LO_READ (R45): A read of TML_NOW_LO returns timeline bits [31:0] and copies bits [63:32] into the TML_NOW_HI shadow. -/
  | nowLoRead
  /-- REGISTER_WRITE (R16): A host, relay or loader write of a register without a row of its own acts under the field's access code. -/
  | registerWrite (auth : Auth) (off : Fin 0x2000000) (width : Width) (v : BitVec 64)
  /-- RESERVED_RANGE_ACCESS (R40): An access to a reserved range of BAR0 or BAR2 completes normally and the first one is recorded in GLB_MAPERR. -/
  | reservedRangeAccess (bar : Bar) (off : Nat) (acc : Access)
  /-- POWERED_OFF_DOMAIN_ACCESS (R571): An access to a powered-off OC or IC domain reads 0, drops writes and records the first in GLB_MAPERR. -/
  | poweredOffDomainAccess (bar : Bar) (off : Nat) (acc : Access)
  /-- ROUND_BOUNDARY (R246): A declared round boundary tick arrives and GLB_ROUND increments. -/
  | roundBoundary
  /-- WELLHEAD_START (R51): A write of 1 to TML_CTRL.START on a wellhead requests the count to start at the next TIMEBEAT edge. -/
  | wellheadStart (v : W32)
  /-- TIMEBEAT_EDGE (R48): A TIMEBEAT rising edge is registered; it sets the count in ACQUIRE, START or realignment, and is checked against the beat grid otherwise. -/
  | timebeatEdge (frac : BitVec 10)
  /-- TIMEBEAT_MISSING (R48): An expected TIMEBEAT edge does not arrive on the beat grid and BEAT_ERR is raised. -/
  | timebeatMissing
  /-- REALIGN (R66): A write of 1 to TML_CTRL.REALIGN in PARK, CALIBRATE, RELAY or SAFE runs the acquire arithmetic on the next usable SYNC. -/
  | realign (v : W32)
  /-- SYNC_FLIT_RECEIVE (R55): A SYNC flit arrives and is stamped at the medium boundary; usable flits may take a FREE device to ACQUIRE. -/
  | syncFlitReceive (p : PortId) (frac : BitVec 10) (xid : BitVec 8) (hops : BitVec 4) (suspect : Bool)
  /-- FOLLOW_FLIT_RECEIVE (R57): A FOLLOW flit delivers V_SEND and network time; the residual is computed and verification passes or fails. -/
  | followFlitReceive (p : PortId) (f : FollowFlit)
  /-- SYNC_SEND (R320): Each sync period a LOCKED or HOLDOVER device sends a SYNC flit on every trained non-upstream port and stamps its departure. -/
  | syncSend (p : PortId) (frac : BitVec 10)
  /-- FOLLOW_SEND (R320): At least 16 slots after a SYNC, the FOLLOW flit carrying its departure stamp and network time is sent. -/
  | followSend (p : PortId)
  /-- DREQ_SEND (R320): After the period's FOLLOW, a follower sends a DREQ on each port receiving SYNC flits and stamps t3. -/
  | dreqSend (p : PortId) (frac : BitVec 10)
  /-- DREQ_RECEIVE (R320): A DREQ arrives, is stamped as t4, and a DRESP is returned within 256 slots. -/
  | dreqReceive (p : PortId) (frac : BitVec 10) (xid : BitVec 8)
  /-- DRESP_RECEIVE (R60): A DRESP arrives and the mean path delay is computed into TML_MEANp. -/
  | drespReceive (p : PortId) (xid : BitVec 8) (t4 : BitVec 74)
  /-- SYNC_LOST (R61): The active upstream port delivers no SYNC for 4 sync periods; the device switches port or enters HOLDOVER. -/
  | syncLost
  /-- UP_PRI_RETURN (R67): After 64 sync periods of clean SYNC on UP_PRI the device returns to it from UP_ALT. -/
  | upPriReturn
  /-- ACTION_ARM (R71): A write setting TML_ACTn_CTL.ARM arms a timed action, or drops it as late with LATE and DROPPED. -/
  | actionArm (n : Fin 16) (v : W32)
  /-- ACTION_CANCEL (R73): A write of 1 to CANCEL disarms an entry without firing. -/
  | actionCancel (n : Fin 16) (v : W32)
  /-- ACT_NONE (R72): A timed action with code 0 or 6 to 15 fires, logging DONE only. -/
  | actNone (n : Fin 16)
  /-- ACT_RAISE_SOFTWARE_SOURCE (R72): A timed action with code 1 fires and raises software source 960 + ARG. -/
  | actRaiseSoftwareSource (n : Fin 16)
  /-- ACT_SET_MARKER (R394): A timed action with code 2 fires and sets marker level line ARG[3:0] to ARG[4]. -/
  | actSetMarker (n : Fin 16)
  /-- ACT_RELEASE_START_GROUP (R130): A timed action with code 3 fires and releases start group ARG for a start 64 tk later. -/
  | actReleaseStartGroup (n : Fin 16)
  /-- ACT_APPLY_NETWORK_TIME (R78): A timed action with code 4 applies staged network time and, on a wellhead, increments EPOCH. -/
  | actApplyNetworkTime (n : Fin 16)
  /-- ACT_COMMIT_NT_INC (R77): A timed action with code 5 commits the staged network-time increment from the next tick. -/
  | actCommitNtInc (n : Fin 16)
  /-- NT_INC_STAGE (R77): A write of NT_INC_LO or NT_INC_HI stages half of the increment. -/
  | ntIncStage (hi : Bool) (v : W32)
  /-- NT_TIME_STAGE (R78): A write of NT_SEC_LO, NT_SEC_HI or NT_NS stages a part of network time. -/
  | ntTimeStage (part : NtPart) (v : W32)
  /-- NT_SEC_LO_READ (R78): A read of NT_SEC_LO returns seconds and copies SEC_HI, NS, FRAC and EPOCH into shadows. -/
  | ntSecLoRead
  /-- PG_ARM (R84): Arming a pulse generator starts it, drops a late one-shot, re-phases a periodic one, or refuses a bad period. -/
  | pgArm (n : Fin 4) (v : W32)
  /-- PG_DISARM (R87): A write of 0 to NT_PGn_CTL.ARM stops further pulses. -/
  | pgDisarm (n : Fin 4) (v : W32)
  /-- PG_PULSE_RISE (R82): The first tick at or after a generator occurrence raises its pulse and source 667 + n. -/
  | pgPulseRise (n : Fin 4)
  /-- PG_PULSE_FALL (R82): A generator pulse ends after WIDTH ticks. -/
  | pgPulseFall (n : Fin 4)
  /-- PLAY (R140): A PLAY step is read and queues an envelope command for its tone. -/
  | play (oc : OcId)
  /-- SETF (R140): A SETF step is read and queues a frequency-and-phase command for its tone. -/
  | setf (oc : OcId)
  /-- IDLE (R92): An IDLE step is read and only advances the cursor. -/
  | idleStep (oc : OcId)
  /-- UNDEFINED_OPCODE (R90): A step with an undefined opcode, bad SHAPE, SYNC kind 3 or bad tone executes as IDLE with BADOP or BADTONE and taints the shot. -/
  | undefinedOpcode (oc : OcId)
  /-- WAIT (R120): A WAIT step is read and holds the cursor until a true condition event or a timeout. -/
  | waitStep (oc : OcId)
  /-- WAIT_RESUME (R120): A true event on the WAIT's condition input resumes the engine with the cursor at max(c, t + BRANCH_LEAD). -/
  | waitResume (oc : OcId)
  /-- WAIT_TIMEOUT (R120): Tick c + DUR passes without a true event; the cursor becomes c + DUR, WAIT_TO is set and WAIT_TIMEOUTS counts. -/
  | waitTimeout (oc : OcId)
  /-- BRANCH (R112): A BRANCH step is read and makes its segment's end boundary conditional on a condition input. -/
  | branchStep (oc : OcId)
  /-- BRANCH_DECISION (R113): On the decision tick the engine samples the condition input and selects TARGET or NEXT. -/
  | branchDecision (oc : OcId)
  /-- LOOP_STEP_LEVEL (R123): A step-level LOOP counts its counter and jumps within the segment or falls through. -/
  | loopStepLevel (oc : OcId)
  /-- LOOP_SEGMENT_LEVEL (R122): A segment-level LOOP counts its counter and replaces NEXT at the end boundary when it jumps. -/
  | loopSegmentLevel (oc : OcId)
  /-- CALL (R441): A CALL step runs the user micro-routine at TARGET, loading the build register and U0 to U7. -/
  | callStep (oc : OcId)
  /-- FRAME_SET (R125): A FRAME step with operation 0 sets the tone's Pauli frame. -/
  | frameSet (oc : OcId)
  /-- FRAME_XOR (R125): A FRAME step with operation 1 XORs the tone's Pauli frame. -/
  | frameXor (oc : OcId)
  /-- FRAME_CLEAR_ALL (R125): A FRAME step with operation 2 clears the frames of all tones. -/
  | frameClearAll (oc : OcId)
  /-- MARKONLY (R91): A MARKONLY step drives the channel's marker source line for DUR ticks. -/
  | markonly (oc : OcId)
  /-- SYNC_ABSOLUTE (R133): A SYNC of kind 0 moves the cursor to VALUE, or sets SYNC_LATE and taints when VALUE lies behind it. -/
  | syncAbsolute (oc : OcId)
  /-- SYNC_CYCLE_WINDOW (R133): A SYNC of kind 1 moves the cursor to the start of the next cycle-lock quiet window, or sets SYNC_LATE without a prediction. -/
  | syncCycleWindow (oc : OcId)
  /-- SYNC_SHOT_SLOT (R133): A SYNC of kind 2 moves the cursor to the first slot start that is not held. -/
  | syncShotSlot (oc : OcId)
  /-- SLOT_HOLD_DECISION (R460): On tick s − 64 the device decides whether slot s is held by throttling or the ledger. -/
  | slotHoldDecision (slot : BitVec 64)
  /-- END (R131): An END step stops reading; the engine becomes ENDED at the segment's end tick. -/
  | endStep (oc : OcId)
  /-- TONE_COMMAND_FIRE (R92): A queued command fires on its step tick, or on the first strobe for a strobed command. -/
  | toneCommandFire (oc : OcId) (tone : Fin 16)
  /-- CHECK_TICK (R107): On the check tick, end tick minus 64, VALID candidates are armed and absent ones fixed. -/
  | checkTick (oc : OcId)
  /-- SEGMENT_BOUNDARY (R108): At a segment's end tick the selected candidate becomes ACTIVE or starves, and the ending segment retires or returns to VALID. -/
  | segmentBoundary (oc : OcId)
  /-- STARVATION_END (R109): The starved segment's declared duration ends and its NEXT is treated as a boundary. -/
  | starvationEnd (oc : OcId)
  /-- SE_PRIME (R129): A write of 1 to SE_CTRL.PRIME arms the ENTRY segment and makes the engine PRIMED, or sets PRIME_FAIL. -/
  | sePrime (oc : OcId) (v : W32)
  /-- SE_HALT (R132): A write of 1 to SE_CTRL.HALT stops reading, discards later commands, returns segments to VALID and idles the engine. -/
  | seHalt (oc : OcId) (v : W32)
  /-- ENGINE_START (R130): At V + 64 after a group release, every PRIMED engine in the group starts its ENTRY segment. -/
  | engineStart (g : Fin 16)
  /-- SEG_REQUEST_LOADING (R102): A write of SE_SEGs_LO requesting LOADING moves an EMPTY or RETIRED segment to LOADING. -/
  | segRequestLoading (oc : OcId) (seg : Fin 256) (v : W32)
  /-- SEG_REQUEST_VALID (R104): A write of SE_SEGs_LO requesting VALID commits a LOADING segment if the commit check passes. -/
  | segRequestValid (oc : OcId) (seg : Fin 256) (v : W32)
  /-- SEG_REQUEST_EMPTY (R102): A write of SE_SEGs_LO requesting EMPTY empties a LOADING, VALID or RETIRED segment. -/
  | segRequestEmpty (oc : OcId) (seg : Fin 256) (v : W32)
  /-- SEG_REWRITE_FIELDS (R102): A write of SE_SEGs_LO requesting the current state in EMPTY, LOADING or RETIRED changes only its other fields. -/
  | segRewriteFields (oc : OcId) (seg : Fin 256) (v : W32)
  /-- SEG_HI_WRITE (R103): A write of SE_SEGs_HI sets NEXT and DUR in EMPTY, LOADING or RETIRED, or is refused with SEGSTATE. -/
  | segHiWrite (oc : OcId) (seg : Fin 256) (v : W32)
  /-- STEP_STORE_WRITE (R105): A step-store write writes unprotected words, drops protected ones with WPROT, and moves RETIRED segments to LOADING. -/
  | stepStoreWrite (oc : OcId) (off : Fin 0x40000) (bytes : List Byte)
  /-- REFILL_LIST_REBUILD (R106): On the tick after a soft reset or domain power-on the refill list is rebuilt from RETIRED segments. -/
  | refillListRebuild (oc : OcId)
  /-- CONDITION_EVENT (R116): A sluice event reaches a condition input and is latched, or dropped outside a PULSE window. -/
  | conditionEvent (oc : OcId) (ci : Fin 16)
  /-- OC_SOFT_RESET (R134): A write of 1 to OC_CFG.SRST returns class E values of OC, TS and SE to default and acts on segments as HALT. -/
  | ocSoftReset (oc : OcId) (v : W32)
  /-- TS_STAGED_WRITE (R158): A write of TS_CFG.SCALE, TS_CPHASE or TS_EQk stages the value. -/
  | tsStagedWrite (oc : OcId) (r : TsReg) (v : W32)
  /-- CARRIER_LO_WRITE (R159): A write of TS_CARRIER_LO stages the low half of the carrier word. -/
  | carrierLoWrite (oc : OcId) (v : W32)
  /-- CARRIER_HI_WRITE (R159): A write of TS_CARRIER_HI stages the high half and commits the carrier as one staged value. -/
  | carrierHiWrite (oc : OcId) (v : W32)
  /-- STAGED_VALUE_COMMIT (R158): Staged channel values move into force together at the shot boundary or on the tick after the write while the engine is idle. -/
  | stagedValueCommit (target : StageTarget)
  /-- SHAPE_LIBRARY_WRITE (R149): A write to a shape library takes effect on the tick after it arrives. -/
  | shapeLibraryWrite (q : QuarterId) (off : Fin 0x40000) (bytes : List Byte)
  /-- RANGE_CHANGE (R169): A write changing OC_CFG.GAIN is accepted while muted, starting settling, or refused with RANGE_BUSY. -/
  | rangeChange (oc : OcId) (v : W32)
  /-- SETTLE_END (R171): 256 tk after an accepted range change M_SETTLE clears. -/
  | settleEnd (oc : OcId)
  /-- LOAD_STAGE (R172): A write of OC_LOAD stages a mute request and trims for the next strobe. -/
  | loadStage (oc : OcId) (v : W32)
  /-- STROBE_NOW (R174): A write of 1 to GS_CTL.NOW strobes the group on the next tick. -/
  | strobeNow (g : Fin 16) (v : W32)
  /-- STROBE_ARM (R175): Setting GS_CTL.ARM arms timeline strobes, dropping or re-phasing late ones. -/
  | strobeArm (g : Fin 16) (v : W32)
  /-- TIMELINE_STROBE (R175): A timeline strobe occurrence GS_AT + k × GS_PER arrives. -/
  | timelineStrobe (g : Fin 16)
  /-- QUEUE_ENABLE (R178): A write of 1 to OC_QCTL.EN enables queue mode or is refused with QREFUSE or QLIMIT. -/
  | queueEnable (oc : OcId) (v : W32)
  /-- QUEUE_START (R179): A write of 1 to OC_QCTL.START arms the queue to play from the next group strobe. -/
  | queueStart (oc : OcId) (v : W32)
  /-- QUEUE_STOP (R179): A write of 1 to OC_QCTL.STOP plays zeros from the next tick and clears RUN. -/
  | queueStop (oc : OcId) (v : W32)
  /-- QUEUE_WR_WRITE (R180): A write of OC_QPTR.WR advances the write pointer or is refused with QOVER. -/
  | queueWrWrite (oc : OcId) (v : W32)
  /-- SHORT_DETECT (R186): The leg current limit acts for 2 consecutive ticks; SHORT is set, counted, tainted and M_SHORT set when SC_MUTE. -/
  | shortDetect (oc : OcId)
  /-- DT_STAGED_WRITE (R197): A write of DT_PHASE, DT_CFG, a centre, DT_FREQ or IC_TRIM stages the value. -/
  | dtStagedWrite (ic : IcId) (r : DtReg) (v : W32)
  /-- CE_PRIME (R200): A write of 1 to CE_CTRL.PRIME makes the capture engine PRIMED or sets PRIME_FAIL. -/
  | cePrime (ic : IcId) (v : W32)
  /-- CE_START (R200): At V + 64 after a group release a PRIMED capture engine starts reading at ENTRY. -/
  | ceStart (g : Fin 16)
  /-- CE_HALT (R204): A write of 1 to CE_CTRL.HALT discards unopened windows, clears counters and idles the engine. -/
  | ceHalt (ic : IcId) (v : W32)
  /-- IC_SOFT_RESET (R204): A write of 1 to IC_CFG.SRST discards all windows without result and returns class E values of the IC to default. -/
  | icSoftReset (ic : IcId) (v : W32)
  /-- WINDOW (R205): A WINDOW capture word places a window on its demodulator's queue and advances the cursor. -/
  | window (ic : IcId)
  /-- CE_IDLE (R199): An IDLE capture word advances the cursor. -/
  | ceIdle (ic : IcId)
  /-- CE_LOOP (R199): A LOOP capture word counts its counter and jumps or falls through. -/
  | ceLoop (ic : IcId)
  /-- JUMP (R199): A JUMP capture word continues at TARGET. -/
  | jump (ic : IcId)
  /-- SHOTWAIT (R202): A SHOTWAIT capture word holds the engine until the next shot boundary. -/
  | shotwait (ic : IcId)
  /-- SHOTWAIT_RELEASE (R202): A shot boundary at or after the cursor releases SHOTWAIT with the cursor at b + max(ADV, 8). -/
  | shotwaitRelease (ic : IcId)
  /-- CE_END (R204): An END capture word stops reading; queued windows complete and the engine becomes ENDED. -/
  | ceEnd (ic : IcId)
  /-- BADWORD (R203): An undefined or invalid capture word executes as IDLE with BADWORD or BADDT and a taint. -/
  | badword (ic : IcId)
  /-- WINDOW_OPEN (R206): A queued window opens at t_s, or late at e + 2 with WLATE and LATE. -/
  | windowOpen (ic : IcId) (dt : DtId)
  /-- WINDOW_END (R205): A window reaches its end tick and its integrated value is discriminated. -/
  | windowEnd (ic : IcId) (dt : DtId)
  /-- RESULT_EMIT (R215): D_R after the end tick the discriminator emits the result record to the collector and the result buffer. -/
  | resultEmit (ic : IcId) (dt : DtId)
  /-- RESULT_BUFFER_READ (R218): A read of the result buffer starting at RD advances RD under AUTORD. -/
  | resultBufferRead (ic : IcId) (off : Fin 0x80000) (len : Nat)
  /-- RESULT_BUFFER_WRITE_DROP (R217): Any write into a result buffer is dropped and completes normally. -/
  | resultBufferWriteDrop (ic : IcId) (off : Fin 0x80000) (bytes : List Byte)
  /-- RB_RD_WRITE (R219): A host write of IC_RB_RD is accepted or refused with RB_PTR. -/
  | rbRdWrite (ic : IcId) (v : W32)
  /-- WEIGHT_WRITE (R208): A write to a weight list takes effect on the tick after it arrives. -/
  | weightWrite (ic : IcId) (off : Fin 0x10000) (bytes : List Byte)
  /-- COLLECTOR_TAKE (R225): Each tick the collector takes up to 64 waiting records into the intake in its fixed order. -/
  | collectorTake
  /-- ROUTING_WRITE (R231): A write of SLU_CISELc, SLU_SVSELj or SLU_LFWDr acts from the next intake tick, or is refused with ROUTE_BAD. -/
  | routingWrite (r : RouteReg) (v : W32)
  /-- LINK_QUEUE_ENTRY (R238): A forwarded event enters a port's VC1 decision queue, or is dropped with LOVER or LDOWN. -/
  | linkQueueEntry (p : PortId)
  /-- FRAME_UPDATE_APPLY (R234): A frame update reaches a tone's Pauli-frame register and XORs it, or is discarded with FRAME_OFF. -/
  | frameUpdateApply
  /-- RECEIVE_KIND0_RESULT (R237): A received KIND 0 decision message enters the intake as source 1024 + TAG. -/
  | receiveKind0Result (p : PortId) (msg : BitVec 96)
  /-- RECEIVE_KIND1_FRAME (R237): A received KIND 1 decision message is handed to the frame-update path. -/
  | receiveKind1Frame (p : PortId) (msg : BitVec 96)
  /-- RECEIVE_RESERVED_KIND (R237): A received KIND 2 or 3 message is discarded with KIND_BAD and counted. -/
  | receiveReservedKind (p : PortId) (msg : BitVec 96)
  /-- SIEVE_RECORD_INTAKE (R253): A record reaches the sieve intake and becomes a detector value, or is unmapped or rejected. -/
  | sieveRecordIntake
  /-- ROUND_CLOSE_TIMEOUT (R257): CLOSE_LAG after a round's end the round closes with missing values set to 0, counted and tainted. -/
  | roundCloseTimeout (g : GraphId)
  /-- DECODE_START (R258): The tile takes the next closed round and grows clusters over its window. -/
  | decodeStart (g : GraphId)
  /-- DECODE_COMMIT (R262): A decode completes and commits its correction into accumulators, observables and WEIGHT. -/
  | decodeCommit (g : GraphId)
  /-- SIEVE_OUTPUT_ISSUE (R266): The sieve issues frame updates, LINK messages and FLIPs, at most 8 per tick. -/
  | sieveOutputIssue
  /-- CONDITION_OUTPUT_ISSUE (R268): After a commit each enabled SVOk issues an observable record into the sluice. -/
  | conditionOutputIssue (k : Fin 64)
  /-- DONE_SEND (R269): Within 16 + 2N tk after a close, DONE is sent on every seam port. -/
  | doneSend (g : GraphId)
  /-- OPEN_RECEIVE (R271): A received OPEN message becomes a defect of the mapped graph or is dropped with HMAP. -/
  | openReceive (p : PortId) (msg : BitVec 64)
  /-- DONE_RECEIVE (R271): A received DONE message counts toward round completion, with count mismatches as missing values. -/
  | doneReceive (p : PortId) (msg : BitVec 64)
  /-- FLIP_RECEIVE (R272): A received FLIP applies a label of a local graph within 4 tk. -/
  | flipReceive (p : PortId) (msg : BitVec 64)
  /-- SIEVE_TYPE3_RECEIVE (R270): A received sieve message of TYPE 3 is discarded with HMAP. -/
  | sieveType3Receive (p : PortId) (msg : BitVec 64)
  /-- GRAPH_STORE_WRITE (R248): A write of SV_GDATA writes the graph store when allowed, or is dropped with GWPROT, and advances ADDR. -/
  | graphStoreWrite (v : W32)
  /-- GRAPH_STORE_READ (R248): A read of SV_GDATA returns the addressed word and advances ADDR. -/
  | graphStoreRead
  /-- GRAPH_ENABLE (R251): A write of 1 to SV_Gg_CTL.EN starts the enable check. -/
  | graphEnable (g : GraphId) (v : W32)
  /-- GRAPH_ENABLE_CHECK_DONE (R251): The enable check ends, assigning a tile or refusing with GRAPH_BAD. -/
  | graphEnableCheckDone (g : GraphId)
  /-- GRAPH_DISABLE (R252): A write of 0 to EN disables a graph, discards its rounds and cancels its rotation. -/
  | graphDisable (g : GraphId) (v : W32)
  /-- TILE_RELEASE (R252): 4 tk after a disable the graph's tile is freed. -/
  | tileRelease (g : GraphId)
  /-- ROTATION_START (R273): After 2^ROT_EXP shot boundaries the sieve starts copying a graph to the spare. -/
  | rotationStart
  /-- ROTATION_COPY_DONE (R273): The copy to the spare completes and waits for a shot boundary. -/
  | rotationCopyDone
  /-- TILE_FAIL (R274): A serving tile reports an uncorrectable error; the graph's rounds close, the shot is tainted and the store is copied to the spare. -/
  | tileFail (tile : Fin 17) (storeLost : Bool)
  /-- GRAPH_RELOAD (R426): After GRAPH_LOST the firmware re-reads the graph's image entry into the store. -/
  | graphReload (g : GraphId)
  /-- ACQ_RUN (R275): A write of 1 to ACQ_CTL.RUN starts capture in an accepted mode or is refused with MODE_BAD. -/
  | acqRun (v : W32)
  /-- ICMASK_WRITE (R276): A write of ACQ_ICMASK sets the recorded ICs or is refused with MASK_BAD. -/
  | icmaskWrite (v : W32)
  /-- POOL_PERIOD_WRITE (R277): Each block period the pool writes one block per recorded IC, or drops the period against a floor. -/
  | poolPeriodWrite
  /-- TRIGGER_ARM (R282): A write setting TUn_CTL.ARM arms the unit or is refused with LEV_BAD. -/
  | triggerArm (u : UnitId) (v : W32)
  /-- TRIGGER_DISARM (R288): A write of 0 to ARM closes an open window with TRUNC. -/
  | triggerDisarm (u : UnitId) (v : W32)
  /-- TRIGGER_DECISION (R283): TDELAY after a sample the unit decides its met conditions and triggers, opening a window or stopping others. -/
  | triggerDecision (u : UnitId)
  /-- LATE_TRIGGER (R284): EXT or LINK evidence arriving after its decision tick is decided alone as a late trigger. -/
  | lateTrigger (u : UnitId)
  /-- LINK_TRIGGER_RECEIVE (R285): A link trigger arrives and supplies a LINK condition with its point. -/
  | linkTriggerReceive (p : PortId) (trig : BitVec 64)
  /-- CAPTURE_WINDOW_TRUNC (R288): A window not reaching S1 by LIMIT closes with TRUNC. -/
  | captureWindowTrunc (u : UnitId)
  /-- CAPTURE_RECORD_WRITE (R291): When the period holding S1 − 1 becomes readable, the window's capture record is written. -/
  | captureRecordWrite (u : UnitId)
  /-- REC_RD_WRITE (R292): A write of ACQ_REC_RD advances the record read pointer unless it passes WR. -/
  | recRdWrite (v : W32)
  /-- PRD_WRITE (R295): A host write of ACQ_PRD is accepted or refused with PRD_BAD. -/
  | prdWrite (v : W32)
  /-- POOL_STREAM_READ (R295): In STREAM a BAR4 read starting at PRD advances PRD by the lines it covers. -/
  | poolStreamRead (off : Fin 0x4000000) (len : Nat)
  /-- PORT_ENABLE (R300): A write of LNK_Pp_CTL.EN starts or stops training of a port. -/
  | portEnable (p : PortId) (v : W32)
  /-- LANE_ALIGNED (R301): A receive lane completes lock, bit-slip search, polarity and logical-lane discovery. -/
  | laneAligned (p : PortId) (lane logical : LaneId) (inverted : Bool) (slip : Fin 34)
  /-- TRAIN_TIMEOUT (R304): After 800,000 tk in TRAIN the port enters UP3 or restarts training with TRAIN_TO. -/
  | trainTimeout (p : PortId)
  /-- RX_TRAIN_BLOCK (R305): A TRAIN control block is received, recording the peer and its RXOK and mode requests. -/
  | rxTrainBlock (p : PortId) (payload : BitVec 64)
  /-- RX_ALIGN_BLOCK (R319): An ALIGN block is received for deskew and per-lane skew measurement. -/
  | rxAlignBlock (p : PortId) (lane : LaneId) (payload : BitVec 64) (instant : BitVec 16)
  /-- RX_IDLE_BLOCK (R298): An IDLE control block is received. -/
  | rxIdleBlock (p : PortId) (lane : LaneId)
  /-- LINK_MODE_CHANGE_REQUEST (R306): A change of PROT request or FPLAIN on an UP port sends MODE_REQ. -/
  | linkModeChangeRequest (p : PortId)
  /-- MODE_REQ_REPEAT (R306): MODE_REQ is repeated every 1,024 slots until MODE_SET arrives. -/
  | modeReqRepeat (p : PortId)
  /-- RX_MODE_REQ (R306): A received MODE_REQ is answered with MODE_SET within 64 slots. -/
  | rxModeReq (p : PortId) (payload : BitVec 64)
  /-- RX_MODE_SET (R306): A received MODE_SET fixes the new link mode for the next slot 0. -/
  | rxModeSet (p : PortId) (payload : BitVec 64)
  /-- LINK_MODE_SWITCH (R306): At the first transmitted slot 0 after MODE_SET the port switches mode and raises source 516 + 8p. -/
  | linkModeSwitch (p : PortId)
  /-- LANE_LOSS_DETECT (R322): A lane is declared lost and LANE DROP is sent on the opposite direction. -/
  | laneLossDetect (p : PortId) (lane : LaneId)
  /-- LANE_DROP_REPEAT (R322): LANE DROP is repeated every 64 slots until a SWITCH excluding the lane arrives. -/
  | laneDropRepeat (p : PortId)
  /-- RX_LANE_DROP (R323): A received DROP makes the transmitter send SWITCH and restripe for UP3, or take the port DOWN. -/
  | rxLaneDrop (p : PortId) (payload : BitVec 64)
  /-- RX_LANE_SWITCH (R323): A received SWITCH applies the new placement from the next slot. -/
  | rxLaneSwitch (p : PortId) (payload : BitVec 64)
  /-- LANE_READY_SEND (R325): After 65,536 clean blocks on a re-acquired lane READY is sent. -/
  | laneReadySend (p : PortId) (lane : LaneId)
  /-- RX_LANE_READY (R325): A received READY is answered with SWITCH including the lane, returning to UP4. -/
  | rxLaneReady (p : PortId) (payload : BitVec 64)
  /-- DUPLICATED_FLIT_RECEIVE (R311): A duplicated flit is taken from a passing copy or counted lost as DUP_LOST. -/
  | duplicatedFlitReceive (p : PortId) (lower : BitVec 256) (upper : BitVec 256)
  /-- STRIPED_FLIT_ERROR (R312): A striped flit CRC failure or SEQ gap sends NAK and discards until the expected SEQ. -/
  | stripedFlitError (p : PortId) (flit : BitVec 256)
  /-- NAK_REPEAT (R312): NAK is repeated every 256 slots while the expected flit does not arrive. -/
  | nakRepeat (p : PortId)
  /-- NAK_RECEIVE (R312): A received NAK makes the transmitter replay from ACK + 1. -/
  | nakReceive (p : PortId) (ack : BitVec 10)
  /-- REPLAY_TIMEOUT (R312): ACK not advancing for 4,096 slots makes the transmitter replay from the oldest flit. -/
  | replayTimeout (p : PortId)
  /-- FEC_CODEWORD (R314): A PROTECTED codeword of 16 slots is decoded and corrected, or counted uncorrectable. -/
  | fecCodeword (p : PortId) (lane : LaneId) (codeword : List Byte)
  /-- BAD_FLIT (R310): A flit of an undefined VC and TYPE is dropped with BADTYPE. -/
  | badFlit (p : PortId) (flit : BitVec 256)
  /-- ROUTE_FORWARD (R315): An outbound VC2 or VC3 flit is forwarded on its route or delivered at RPOS = RLEN. -/
  | routeForward (p : PortId) (flit : BitVec 256)
  /-- RETURN_FORWARD (R316): A return flit is sent back along its recorded route or delivered locally. -/
  | returnForward (p : PortId) (flit : BitVec 256)
  /-- PAT_WRITE (R328): A write of LNK_PpLq_PAT is accepted while EN is 0 or refused with PAT_BUSY. -/
  | patWrite (p : PortId) (lane : LaneId) (v : W32)
  /-- INJECT_FLIT (R329): A write of 1 to LNK_Pp_INJ.FLIT corrupts the CRC of the next flit sent. -/
  | injectFlit (p : PortId) (v : W32)
  /-- INJECT_LANE_DROP (R329): A write of 1 to LNK_Pp_INJ.DROP forces the loss of a transmit lane. -/
  | injectLaneDrop (p : PortId) (v : W32)
  /-- PORT_SOFT_RESET (R514): A write of 1 to LNK_Pp_CTL.SRST returns the port's class E values to default and retrains it. -/
  | portSoftReset (p : PortId) (v : W32)
  /-- RELAY_GO (R343): A write of 1 to PCI_RLYs_CTL.GO sends a READ or WRITE flit on the slot's route. -/
  | relayGo (slot : Fin 16) (v : W32)
  /-- RELAY_READ_EXECUTE (R344): A relayed READ reaches its target, is performed as a host access and a COMPLETION returned. -/
  | relayReadExecute (origin : RelayOrigin) (flit : BitVec 256)
  /-- RELAY_WRITE_EXECUTE (R344): A relayed WRITE reaches its target, is performed as a host access and a COMPLETION returned. -/
  | relayWriteExecute (origin : RelayOrigin) (flit : BitVec 256)
  /-- RELAY_COMPLETION (R345): A COMPLETION arrives and makes its slot DONE or FAIL, or is discarded as late. -/
  | relayCompletion (flit : BitVec 256)
  /-- RELAY_TIMEOUT (R345): No completion within TMO makes the slot FAIL with status 0xFE. -/
  | relayTimeout (slot : Fin 16)
  /-- DMA_START (R355): A write of 1 to DMA_Cc_CTL.START clears HOPS, FADDR and FCNT and fetches the first descriptor. -/
  | dmaStart (auth : Auth) (c : ChanId) (v : W32)
  /-- DMA_STOP (R355): A write of 1 to STOP ends the channel at the next descriptor boundary, or at once in WAITREQ. -/
  | dmaStop (auth : Auth) (c : ChanId) (v : W32)
  /-- DMA_ABORT (R355): A write of 1 to ABORT ends the channel on its tick in FAULT with cause ABORT. -/
  | dmaAbort (auth : Auth) (c : ChanId) (v : W32)
  /-- DESCRIPTOR_FETCH (R350): A fetched descriptor is checked and run, made to wait for a request, or refused with DESC_BAD. -/
  | descriptorFetch (c : ChanId) (hostData : BitVec 256)
  /-- DMA_REQUEST_SEEN (R353): A waiting WREQ descriptor sees its request line active and runs. -/
  | dmaRequestSeen (c : ChanId)
  /-- DMA_READ_RETURN (R352): Read data returns to the engine and is written to the destination lines. -/
  | dmaReadReturn (c : ChanId) (status : CplStatus) (hostData : List Byte)
  /-- DMA_DESCRIPTOR_COMPLETE (R341): A descriptor's last write, and read-back where required, completes and the completion source is raised. -/
  | dmaDescriptorComplete (c : ChanId)
  /-- DMA_NORESP (R360): A read, fetch or remote transfer unanswered within 2,048 tk stops the channel with NORESP. -/
  | dmaNoresp (c : ChanId)
  /-- LATE_COMPLETION (R361): A completion for a read abandoned after NORESP is discarded and counted. -/
  | lateCompletion (tag : Nat)
  /-- REMOTE_OUT_RECEIVE (R358): A target receives a remote OUT transfer, performs it and returns BACK status and data. -/
  | remoteOutReceive (p : PortId) (flit : BitVec 256)
  /-- REMOTE_BACK_RECEIVE (R358): The origin receives BACK flits, completing the remote burst or faulting with CPL_ERR. -/
  | remoteBackReceive (flit : BitVec 256)
  /-- MSIX_MESSAGE_SEND (R375): A pending unmasked MSI-X vector sends its message within 64 tk of its event. -/
  | msixMessageSend (vec : Fin 256)
  /-- GUARD_WINDOW_END (R371): A 1 µs guard window ends and per-source event counts restart. -/
  | guardWindowEnd
  /-- TASK_FIRE (R366): A task input that sampled events fires once at the end of its synchroniser cycle, acting as its register write. -/
  | taskFire (i : TaskId)
  /-- TASK_REARM (R367): A task's re-arm time ends and events received meanwhile make one further firing. -/
  | taskRearm (i : TaskId)
  /-- RELAY_TASK (R369): A relay task raises software source 992 + k for each event reaching it. -/
  | relayTask (k : Fin 32)
  /-- MARK_ENTRY (R526): Task 345 fires and writes a MARK entry into the sediment record. -/
  | markEntry
  /-- REQUEST_SAFE (R534): Task 347 fires and raises SAFE cause 2. -/
  | requestSafe
  /-- RILL_ROUTE_WRITE (R372): A write of RIL_RLr is accepted under the owner rules or refused with OWN_BAD. -/
  | rillRouteWrite (auth : Auth) (r : Fin 256) (v : W32)
  /-- RIL_SRC_WRITE (R370): A write of RIL_SRCs is accepted or refused for ownership or a relay cycle. -/
  | rilSrcWrite (auth : Auth) (src : SourceId) (v : W32)
  /-- RIL_TASK_WRITE (R372): A write of RIL_TASKi is accepted or refused for ownership, security or a relay cycle. -/
  | rilTaskWrite (auth : Auth) (i : TaskId) (v : W32)
  /-- SOFTWARE_RAISE (R378): A write of RIL_SWRAISE raises the software sources of its set bits. -/
  | softwareRaise (hi : Bool) (v : W32)
  /-- MARKER_EDGE (R382): A selected transition reaches a marker input and is stamped, held off or lost in dead time. -/
  | markerEdge (k : Fin 16) (rising : Bool) (frac : BitVec 10)
  /-- MARKER_EDGE_REGISTER (R384): 6 tk after the edge, it is registered and made available to the sluice, strobes, triggers and cycle lock. -/
  | markerEdgeRegister
  /-- STAMP_RD_WRITE (R389): A write of TDC_RD advances the stamp read pointer unless it passes WR. -/
  | stampRdWrite (v : W32)
  /-- CYCLE_EDGE_MISSING (R398): No reference edge by the predicted deadline sets MISSING and clears VALID. -/
  | cycleEdgeMissing
  /-- CYCLE_WINDOW_START (R399): A quiet window's start tick arrives and source 692 + w rises. -/
  | cycleWindowStart (w : Fin 4)
  /-- CYCLE_HOLD_COMMIT (R401): A write of 1 to CL_COMMIT.COMMIT stages held values or refuses them with HOLD_BAD. -/
  | cycleHoldCommit (v : W32)
  /-- CL_REF_LO_READ (R401): A read of CL_REF_LO copies CL_REF_HI, CL_PER_LO and CL_PER_HI into shadows. -/
  | clRefLoRead
  /-- BOOT_START (R420): After a reset the loader reads OTP, probes the flash, selects a slot and loads and checks the image. -/
  | bootStart (sfdp : Bool := true) (reread : BitVec 512 := 0)
  /-- BOOT_ATTEMPT_FAIL (R415): A boot attempt fails; its writes are undone, the slot's FAIL and CAUSE are set and the other slot is tried. -/
  | bootAttemptFail (cause : BootCause)
  /-- BOOT_LOAD_DONE (R421): Stage 4 ends; firmware starts, PLLs lock, the timeline starts and domain blocks are applied in CALIBRATE. -/
  | bootLoadDone
  /-- BOOT_PARK (R420): Boot calibration ends and the device enters PARK with STATE DONE and source 832. -/
  | bootPark
  /-- REBOOT (R417): A write of 1 to CFG_CTL.REBOOT in LOAD, PARK or SAFE acts as a pin reset. -/
  | reboot (v : W32)
  /-- FLASH_READ (R419): A host flash command with OP 0 reads 256 bytes into the buffer. -/
  | flashRead (v : W32)
  /-- FLASH_PROGRAM (R419): A host flash command with OP 1 programs 256 bytes, refused inside the booted slot. -/
  | flashProgram (v : W32)
  /-- FLASH_ERASE (R419): A host flash command with OP 2 erases 4 KiB, refused inside the booted slot. -/
  | flashErase (v : W32)
  /-- FLASH_READ_STATUS (R419): A host flash command with OP 3 reads the flash status into buffer byte 0. -/
  | flashReadStatus (v : W32)
  /-- FLASH_COMMAND_DONE (R419): A host flash command completes and sets DONE. -/
  | flashCommandDone (status : Byte)
  /-- FLASH_COMMAND_TIMEOUT (R419): A flash command not completed within 500 ms sets ERR and FL_ERR. -/
  | flashCommandTimeout
  /-- DOMAIN_POWER_WRITE (R523): A write of GLB_PWROCj or GLB_PWRIC powers domains on or off, refusing forbidden power-offs. -/
  | domainPowerWrite (j : Fin 7) (v : W32)
  /-- DOMAIN_POWER_UP (R524): A domain reaches its supply after power-on and is queued for rehydration. -/
  | domainPowerUp (d : DomainId)
  /-- DOMAIN_REHYDRATE (R422): The loader re-reads and re-applies the domain's image blocks, or the flash does not
  answer it (R425). -/
  | domainRehydrate (d : DomainId) (answers : Bool)
  /-- REHYDRATION_COMPLETE (R422): Rehydration ends; REHYDRATED is set and source 834 raised. -/
  | rehydrationComplete (d : DomainId)
  /-- PROVISION_FUSE (R413): After PARK the firmware fuses a PROVISION key hash and SVN, setting FUSE on failure. -/
  | provisionFuse (ok : Bool)
  /-- SHUTDOWN_LOG_COPY (R431): After PARK the firmware copies programmed shutdown pages into the log and erases them. -/
  | shutdownLogCopy
  /-- FRAME_ERASE (R533): After PARK the firmware erases frozen frames until two are fully erased. -/
  | frameErase
  /-- NVDATA_READ (R428): A read of CFG_NVDATA returns the eNVM word and advances the address. -/
  | nvdataRead
  /-- ATTEST (R433): A write of 1 to SEC_CTL.ATTEST starts an attestation report, or is refused with BUSY or NOKEY. -/
  | attest (v : W32)
  /-- ATTEST_DONE (R433): The signed attestation report is written, READY set and source 835 raised. -/
  | attestDone
  /-- STAGING_WRITE (R448): A write of MCS_UDATA stages a user micro-word and advances the address, dropped while BUSY. -/
  | stagingWrite (v : W32)
  /-- MICROCODE_COMMIT (R448): A write of 1 to MCS_UCTL.COMMIT checks the staging area or is refused with UMODE. -/
  | microcodeCommit (v : W32)
  /-- MICROCODE_COMMIT_DONE (R448): A checked commit copies into all four copies, or fails with UBAD. -/
  | microcodeCommitDone
  /-- NOP (R439): A user micro-word NOP does nothing. -/
  | uNop (oc : OcId)
  /-- LDI (R439): A user micro-word LDI loads an immediate. -/
  | uLdi (oc : OcId)
  /-- ADD (R439): A user micro-word ADD adds two scratch registers. -/
  | uAdd (oc : OcId)
  /-- SUB (R439): A user micro-word SUB subtracts two scratch registers. -/
  | uSub (oc : OcId)
  /-- AND (R439): A user micro-word AND ands two scratch registers. -/
  | uAnd (oc : OcId)
  /-- OR (R439): A user micro-word OR ors two scratch registers. -/
  | uOr (oc : OcId)
  /-- XOR (R439): A user micro-word XOR xors two scratch registers. -/
  | uXor (oc : OcId)
  /-- SHL (R439): A user micro-word SHL shifts left. -/
  | uShl (oc : OcId)
  /-- SHR (R439): A user micro-word SHR shifts right logically. -/
  | uShr (oc : OcId)
  /-- ADDI (R439): A user micro-word ADDI adds an immediate. -/
  | uAddi (oc : OcId)
  /-- MUL (R439): A user micro-word MUL multiplies two scratch registers. -/
  | uMul (oc : OcId)
  /-- GET (R440): A user micro-word GET reads a source as it stood when the CALL was read. -/
  | uGet (oc : OcId)
  /-- PUT (R439): A user micro-word PUT sets a field of the build register. -/
  | uPut (oc : OcId)
  /-- ISSUE_PLAY (R442): An ISSUE with IMM 0 queues the build register as a PLAY at c + DT. -/
  | uIssuePlay (oc : OcId)
  /-- ISSUE_SETF (R442): An ISSUE with IMM 1 queues the build register as a SETF at c + DT. -/
  | uIssueSetf (oc : OcId)
  /-- SKIPZ (R439): A user micro-word SKIPZ skips the next word when its register is zero. -/
  | uSkipz (oc : OcId)
  /-- SKIPNZ (R439): A user micro-word SKIPNZ skips the next word when its register is not zero. -/
  | uSkipnz (oc : OcId)
  /-- SKIPLT (R439): A user micro-word SKIPLT skips the next word on a signed less-than. -/
  | uSkiplt (oc : OcId)
  /-- RET (R444): A user micro-word RET ends the routine, at whose boundary held faults, HALT and soft reset act. -/
  | uRet (oc : OcId)
  /-- MICROWORD_REPAIR (R447): An uncorrectable micro-word is rewritten from a clean copy within 64 tk, or UNREPAIRED is set. -/
  | microwordRepair (q : QuarterId) (addr : Fin 16384) (rewrite : Bool)
  /-- SENSOR_SAMPLE (R454): At the sampling interval every sensor is read, estimates and the hottest estimate formed, and levels judged. -/
  | sensorSample (counts : List Nat) (powers : List Nat)
  /-- THROTTLE_LEVEL_DOWN (R457): 10 ms below THR − HYS lowers the throttle level by 1 unless a region sensor is failed. -/
  | throttleLevelDown
  /-- SHUTDOWN_RECORD (R464): The firmware programs the shutdown record into the lowest erased shutdown page. -/
  | shutdownRecord
  /-- SHUTDOWN_POWER_DOWN (R463): Within 1 ms every domain but always-on powers down and the device is SLEEP with SDLATCH. -/
  | shutdownPowerDown
  /-- AUTORESTART (R465): With AUTORESTART the device performs its own pin reset when the always-on sensors fall below SD − HYS. -/
  | autorestart
  /-- NOSLOT_CHECK (R462): While throttling or holding, no slot asked about for 1,048,576 tk sets NOSLOT. -/
  | noslotCheck
  /-- THM_LIM_WRITE (R455): A write of THM_LIM sets the thermal levels or is refused with LIM_BAD. -/
  | thmLimWrite (v : W32)
  /-- LEDGER_STEP (R472): Every 10 µs the ledger forms line and stage powers, updates each H_s and judges holding. -/
  | ledgerStep
  /-- TAU_WRITE (R472): A write of HL_STs_CFG.TAU outside 1 to 100,000 ms is refused with TAU_BAD. -/
  | tauWrite (st : Fin 8) (v : W32)
  /-- CAL_RUN (R487): A write of 1 to CAL_CTL.RUN in PARK or CALIBRATE recalibrates a group or all, else MODE_BAD. -/
  | calRun (v : W32)
  /-- CALIBRATION_COMPLETE (R478): A group completes every step in time; its count and time update and source 768 rises. -/
  | calibrationComplete (g : GroupId) (plausible : Bool)
  /-- CAL_STEP_DEADLINE (R479): A calibration step overruns its deadline; the group fails and old values stand. -/
  | calStepDeadline (g : GroupId) (calStep : BitVec 8)
  /-- CAL_RECOMPUTE (R484): A group's temperature moves 0.5 °C, a set is committed or a repair changes a choice, and values are restaged. -/
  | calRecompute (g : GroupId)
  /-- CAL_STORE (R485): A write of 1 to CAL_CTL.STORE commits a temperature set or is refused with STORE_BAD. -/
  | calStore (v : W32)
  /-- CAL_SET_COMMITTED (R429): The firmware finishes programming a set slot and its commit record. -/
  | calSetCommitted
  /-- SUBCONVERTER_EXCHANGE (R488): A calibrated spare ADC sub-converter replaces the oldest serving one at a qualifying shot boundary. -/
  | subconverterExchange (ic : IcId)
  /-- CAPACITOR_EXCHANGE (R488): A spare stamper capacitor replaces the oldest serving one of an idle source. -/
  | capacitorExchange (src : Fin 23)
  /-- GAP_WINDOW_START (R495): A declared gap window opens and a channel slice starts if it fits, else SHORTGAP counts. -/
  | gapWindowStart (k : Fin 8)
  /-- SELFTEST_SLICE (R489): The self-test controller starts a slice on the next unit of a row. -/
  | selftestSlice (row : TestRow)
  /-- SLICE_COMPLETE (R497): A slice completes and restores its unit; a failed element is recorded and repaired. -/
  | sliceComplete (row : TestRow) (fault : Option (BitVec 16))
  /-- SLICE_ABANDON (R493): A service request during a no-spare slice abandons it and restores within 40 cycles. -/
  | sliceAbandon (row : TestRow)
  /-- GAP_VIOLATION (R496): A command, load or window during a channel slice ends it with GAPVIOL and a taint. -/
  | gapViolation (d : DomainId)
  /-- PLL_FAILOVER (R498): The serving PLL loses lock and the quarter moves to the standby within 1 tk. -/
  | pllFailover (q : QuarterId)
  /-- REPAIR_FUSE (R500): A write of 1 to BST_FUSE.GO fuses a soft repair or is refused. -/
  | repairFuse (v : W32)
  /-- BST_SIG_LO_READ (R501): A read of BST_SIG_LO returns the signature and copies its high half into the shadow. -/
  | bstSigLoRead (auth : Auth)
  /-- MODE_REQUEST (R507): A write of GLB_MODE.GO requests mode REQ, accepted under the transition table and entry conditions or refused into GLB_MERR. -/
  | modeRequest (v : W32)
  /-- MODE_LEAVE_RUNNING (R509): A request leaving a running mode takes effect at the next shot boundary or next tick, halting engines and setting M_MODE. -/
  | modeLeaveRunning
  /-- MODE_ENTRY_COMPLETE (R510): A transition completes, GLB_MODE.CUR changes and source 839 rises. -/
  | modeEntryComplete
  /-- SAFE_ENTRY (R534): A SAFE cause arises; the device enters SAFE on its tick and writes a SAFE entry. -/
  | safeEntry (cause : SafeCause)
  /-- SAFE_ACK (R534): A write of 1 to BBX_SAFE.ACK clears SAFE cause 2. -/
  | safeAck (v : W32)
  /-- WAKE (R518): Task 346, the SMBus wake or RST_N leaves SLEEP and boots from stage 2, unless SDLATCH. -/
  | wake (cause : WakeCause)
  /-- NOTE_WRITE (R526): A write of BBX_NOTE adds a NOTE entry. -/
  | noteWrite (v : W32)
  /-- FREEZE_START (R529): A freeze cause snapshots the ring and starts programming an erased frame, or preempts or fails. -/
  | freezeStart (cause : FreezeCause)
  /-- FREEZE_COMPLETE (R529): A frame and its directory page are programmed; DONE is set and source 775 rises. -/
  | freezeComplete
  /-- LOCKSTEP_MISMATCH (R536): A management lockstep mismatch or memory error restarts the controller from the image. -/
  | lockstepMismatch
  /-- CONTROLLER_RESTART_DONE (R536): A controller restart ends, or after three failures source 840 rises. -/
  | controllerRestartDone (ok : Bool)
  /-- PAGE (R564): The SMBus PAGE command reads or sets the rail page. -/
  | smbPage (acc : SmbAccess)
  /-- READ_VIN (R564): The SMBus READ_VIN command returns the page rail voltage. -/
  | smbReadVin
  /-- READ_IIN (R564): The SMBus READ_IIN command returns the page rail current. -/
  | smbReadIin
  /-- READ_PIN (R564): The SMBus READ_PIN command returns the page rail or total power. -/
  | smbReadPin
  /-- READ_TEMPERATURE_1 (R564): The SMBus READ_TEMPERATURE_1 command returns the hottest estimate. -/
  | smbReadTemperature1
  /-- READ_TEMPERATURE_2 (R564): The SMBus READ_TEMPERATURE_2 command returns the hottest always-on sensor. -/
  | smbReadTemperature2
  /-- MFR_MODE (R564): The SMBus MFR_MODE command returns mode, throttle level and SDLATCH. -/
  | smbMfrMode
  /-- MFR_WAKE (R518): The SMBus MFR_WAKE command with 0x01 wakes the device from SLEEP. -/
  | smbMfrWake (data : Byte)
  /-- SMBUS_UNKNOWN_COMMAND (R564): An unlisted SMBus command returns 0xFF on read and is ignored on write. -/
  | smbUnknownCommand (code : Byte) (acc : SmbAccess)
  /-- SMBUS_TIMEOUT (R563): SMB_CLK low for 25 to 35 ms resets the target interface. -/
  | smbTimeout (lowMs : Nat)
  /-- SMBUS_REFRESH (R564): Every 1 ms the SMBus target refreshes its reported values. -/
  | smbRefresh (rails : List RailReading)
  /-- EXTEST (R566): The TAP instruction EXTEST takes the boundary balls from the logic. -/
  | tapExtest
  /-- IDCODE (R565): The TAP instruction IDCODE selects the identification register. -/
  | tapIdcode
  /-- SAMPLE_PRELOAD (R565): The TAP instruction SAMPLE/PRELOAD samples and preloads the boundary register. -/
  | tapSamplePreload
  /-- CLAMP (R566): The TAP instruction CLAMP holds boundary outputs and selects bypass. -/
  | tapClamp
  /-- HIGHZ (R566): The TAP instruction HIGHZ floats boundary outputs. -/
  | tapHighz
  /-- EXTEST_PULSE (R566): The TAP instruction EXTEST_PULSE runs IEEE 1149.6 pulse testing. -/
  | tapExtestPulse
  /-- EXTEST_TRAIN (R566): The TAP instruction EXTEST_TRAIN runs IEEE 1149.6 train testing. -/
  | tapExtestTrain
  /-- INTSCAN (R503): The TAP instruction INTSCAN enters SAFE, blocks OTP, zeroises secrets and then connects internal scan. -/
  | tapIntscan
  /-- BYPASS (R565): The TAP instruction BYPASS, or any unlisted code, selects the bypass register. -/
  | tapBypass (code : Byte)
  /-- SLOT (R309): In every slot of 0.64 ns each working lane of a port transmits one block: ALIGN in slot 0, parity in PROTECTED, otherwise blocks of the next flit chosen by the VC priority order. -/
  | slot (p : PortId) (rx : List LaneRx := [])
  /-- PLL_RELOCK (R534): The serving PLL of a quarter regains lock, which ends SAFE cause 3 so that the device may leave SAFE. -/
  | pllRelock (q : QuarterId)
  /-- VAUX_LOSS (R548): VAUX falls below 1.50 V, class A values and the always-on domain are lost, and the next rise through 1.60 V becomes a power-on. -/
  | vauxLoss
  /-- UREG_LO_READ (R441): A read of SE_UREGk_LO returns bits [31:0] of scratch register Uk and copies bits [63:32] into the shadow of SE_UREGk_HI. -/
  | uregLoRead (oc : OcId) (k : Fin 8)
  /-- STAGING_READ (R448): A read of MCS_UDATA returns the staged micro-word at ADDR and advances MCS_UADDR.ADDR by 4. -/
  | stagingRead
  /-- PATTERN_CHECKER_SYNC (R327): A lane pattern checker synchronises itself to the received pattern, sets CHK_LOCK and from then on counts bit errors in LNK_PpLq_PERR. -/
  | patternCheckerSync (p : PortId) (lane : LaneId)
  /-- HOST_PORT_LINK_CHANGE (R418): The PCI Express data link layer comes up or goes down, changing PCI_STAT.DL_UP and whether pending MSI-X messages can be sent. -/
  | hostPortLinkChange (up : Bool) (speed : Fin 6) (width : BitVec 4) (cfg : PcieCfg := {})
  deriving DecidableEq, Repr

end Sys2Proof
end

