-- ==== Sys2Proof/Config.lean ====
section
/-! DEFINITION. What the manual leaves open or a part fixes in manufacture: constants without a body, so that nothing can be
proved of their values. -/
namespace Sys2Proof

/-- A value the manual leaves undefined, by how many were drawn before it (assumption 5).
[DESIGN CHOICE, assumption 5] -/
opaque Config.free : Nat → BitVec 64

/-- What a byte of the witness pool holds that nothing has written since power-on or since SLEEP (R517, assumption 2), by BAR4
offset.
[PRESUMED, assumption 2; DEDUCED, assumption 70] -/
opaque Config.poolByte : Nat → Byte

/-- The output of an interpolation filter (R154 gives its limits and no coefficients): filter of a mode by its delay in
ticks, the complex samples its span holds, newest first, and the sample position (assumption 12).
[DESIGN CHOICE, assumption 12] -/
opaque Config.interp : Nat → List (Int × Int) → Nat → Int × Int

/-- A sensor's calibration (R451): sensor and frequency count to 1/16 °C (assumption 40).
[DESIGN CHOICE, assumption 40] -/
opaque Config.sensorTemp : Nat → Nat → Int

/-- θ_sr of R451, which the firmware loads from the eNVM: the rise of sensor `s` per mW of region `r`, in 2⁻¹⁶ of 1/16 °C
(assumption 40).
[DESIGN CHOICE, assumption 40] -/
opaque Config.theta : Nat → Nat → Int

/-- The identity key's modulus (R432).
[DESIGN CHOICE, assumptions 19, 95] -/
opaque Config.identityModulus : Nat
/-- The identity key's public exponent (R432), whose value the manual does not give.
[DESIGN CHOICE, assumption 19] -/
opaque Config.identityExponent : BitVec 32
/-- The SHA-256 of the patch key fixed in silicon (R437).
[DESIGN CHOICE, assumptions 19, 95] -/
opaque Config.patchKeyHash : Nat

/-- Whether a step of an opcode runs the vendor micro-word at a micro-address (R434, R447); the vendor microcode is not published
(assumption 32).
[DESIGN CHOICE, assumption 32] -/
opaque Config.stepRuns : Nat → Nat → Bool

/-- The signature the identity key makes over a message (R433), as a number of 384 bytes.
[DESIGN CHOICE, assumptions 19, 95] -/
opaque Config.identitySign : List Byte → Nat

/-- The OTP words that the security engine reads, except the identity key (M_OTP of Table 14-6), whose layout the manual does not
give: from the key hash, the fused SVN count and the fused repair words.
[DESIGN CHOICE, assumptions 19, 95] -/
opaque Config.otpWords : List Byte → Nat → List Nat → List Byte

/-- The expected signature of a logic-BIST partition, as BST_SIG returns it (R501).
[DESIGN CHOICE, assumptions 19, 95] -/
opaque Config.bistSignature : Nat → BitVec 64

/-- The factory copy of calibration set t passes its CRC-32 (R480); its place in the eNVM is not stated (assumption 41).
[DESIGN CHOICE, assumption 41] -/
opaque Config.factoryCopy : Nat → Bool

/-- The Vendor ID of the configuration header (R333, assumption 42).
[DESIGN CHOICE, assumption 42] -/
opaque Config.vendorId : BitVec 16

/-- The PCI Express completion timeout in ticks, by the code the host sets (R361, assumption 76).
[DESIGN CHOICE, assumption 76] -/
opaque Config.cplTimeout : BitVec 4 → Nat

/-- The JEP106 code assigned to Garolait, in the identification register (R565, assumption 42).
[DESIGN CHOICE, assumption 42] -/
opaque Config.jep106 : BitVec 11

/-- The voltage applied to the external reference ball of a quarter, in µV, on a tick count (R163, R553): what stands outside the
device (assumption 54).
[DESIGN CHOICE, assumption 54] -/
opaque Config.extRef : Nat → Nat → Nat

end Sys2Proof
end

