-- ==== Sys2Proof/Machine/RegMap.lean ====
section
/-! DEFINITION. The registers of the spec's own register tables: where each stands in BAR0 (R37, Table 01-3), its fields'
bits (R15), its access masks (Table 00-4), its reset value and its reset class (Table 00-5). A field descriptor is
`REGISTER.FIELD`, its register's BAR0 byte offset `REGISTER.off`; index letters are the spec's, with the channel
number `n` first for a register inside a channel window. -/
namespace Sys2Proof.Machine

/-- A field of a register: the BAR0 byte offset of its register and its bit range (R15). -/
structure Fld where
  off : Nat
  hi : Nat
  lo : Nat
  deriving DecidableEq, Repr

/-- The reset classes of Table 00-5 (R21). -/
inductive RClass where
  | a | b | c | d | e
  deriving DecidableEq, Repr

/-- One register, or one array of registers: offset of its first instance, its index ranges as (count, stride), its
class, its reset value and the masks of its RW and WO, RWL, W1C, and read-as-zero (W1P and WO) bits. -/
structure RegRow where
  base : Nat
  dims : List (Nat × Nat)
  cls : RClass
  reset : Nat
  rw : Nat
  rwl : Nat
  w1c : Nat
  w1p : Nat
  deriving DecidableEq, Repr

/-- GLB_SHOT_LO — offset 0x0010, 32 bits, class C (spec/01_device_and_flows.md). -/
abbrev GLB_SHOT_LO.off : Nat := 0x10
abbrev GLB_SHOT_LO.SHOT_LO : Fld := ⟨GLB_SHOT_LO.off, 31, 0⟩
/-- GLB_SHOT_HI — offset 0x0014, 32 bits, class C (spec/01_device_and_flows.md). -/
abbrev GLB_SHOT_HI.off : Nat := 0x14
abbrev GLB_SHOT_HI.SHOT_HI : Fld := ⟨GLB_SHOT_HI.off, 15, 0⟩
/-- GLB_ROUND — offset 0x0018, 32 bits, class C (spec/01_device_and_flows.md). -/
abbrev GLB_ROUND.off : Nat := 0x18
abbrev GLB_ROUND.ROUND : Fld := ⟨GLB_ROUND.off, 31, 0⟩
/-- GLB_ID — offset 0x0000, 32 bits, class A (spec/01_device_and_flows.md). -/
abbrev GLB_ID.off : Nat := 0x0
abbrev GLB_ID.RANGE : Fld := ⟨GLB_ID.off, 16, 16⟩
abbrev GLB_ID.REV : Fld := ⟨GLB_ID.off, 15, 0⟩
/-- GLB_PART — offset 0x0004, 32 bits, class A (spec/01_device_and_flows.md). -/
abbrev GLB_PART.off : Nat := 0x4
abbrev GLB_PART.PART : Fld := ⟨GLB_PART.off, 31, 16⟩
/-- GLB_MAPERR — offset 0x0020, 32 bits, class C (spec/01_device_and_flows.md). -/
abbrev GLB_MAPERR.off : Nat := 0x20
abbrev GLB_MAPERR.VALID : Fld := ⟨GLB_MAPERR.off, 31, 31⟩
abbrev GLB_MAPERR.BAR : Fld := ⟨GLB_MAPERR.off, 30, 29⟩
abbrev GLB_MAPERR.OFFSET : Fld := ⟨GLB_MAPERR.off, 28, 0⟩
/-- TML_CTRL — offset 0x0000, 32 bits, class B (spec/02_timeline.md). -/
abbrev TML_CTRL.off : Nat := 0x20000
abbrev TML_CTRL.REALIGN : Fld := ⟨TML_CTRL.off, 30, 30⟩
abbrev TML_CTRL.START : Fld := ⟨TML_CTRL.off, 29, 29⟩
abbrev TML_CTRL.ALIGN_TOL : Fld := ⟨TML_CTRL.off, 23, 16⟩
abbrev TML_CTRL.SYNC_PER : Fld := ⟨TML_CTRL.off, 15, 12⟩
abbrev TML_CTRL.UP_ALT : Fld := ⟨TML_CTRL.off, 11, 9⟩
abbrev TML_CTRL.UP_PRI : Fld := ⟨TML_CTRL.off, 8, 6⟩
abbrev TML_CTRL.REF : Fld := ⟨TML_CTRL.off, 5, 5⟩
abbrev TML_CTRL.ROLE : Fld := ⟨TML_CTRL.off, 4, 4⟩
/-- TML_STATUS — offset 0x0004, 32 bits, class C (spec/02_timeline.md). -/
abbrev TML_STATUS.off : Nat := 0x20004
abbrev TML_STATUS.HOPS : Fld := ⟨TML_STATUS.off, 11, 8⟩
abbrev TML_STATUS.ACTIVE : Fld := ⟨TML_STATUS.off, 7, 5⟩
abbrev TML_STATUS.SUSPECT_RX : Fld := ⟨TML_STATUS.off, 4, 4⟩
abbrev TML_STATUS.TSUS : Fld := ⟨TML_STATUS.off, 3, 3⟩
abbrev TML_STATUS.STATE : Fld := ⟨TML_STATUS.off, 1, 0⟩
/-- TML_NOW_LO — offset 0x0008, 32 bits, class C (spec/02_timeline.md). -/
abbrev TML_NOW_LO.off : Nat := 0x20008
abbrev TML_NOW_LO.NOW_LO : Fld := ⟨TML_NOW_LO.off, 31, 0⟩
/-- TML_NOW_HI — offset 0x000C, 32 bits, class C (spec/02_timeline.md). -/
abbrev TML_NOW_HI.off : Nat := 0x2000c
abbrev TML_NOW_HI.NOW_HI : Fld := ⟨TML_NOW_HI.off, 31, 0⟩
/-- TML_START_LO — offset 0x0010, 32 bits, class C (spec/02_timeline.md). -/
abbrev TML_START_LO.off : Nat := 0x20010
abbrev TML_START_LO.START_LO : Fld := ⟨TML_START_LO.off, 31, 0⟩
/-- TML_START_HI — offset 0x0014, 32 bits, class C (spec/02_timeline.md). -/
abbrev TML_START_HI.off : Nat := 0x20014
abbrev TML_START_HI.START_HI : Fld := ⟨TML_START_HI.off, 31, 0⟩
/-- TML_ERR — offset 0x0018, 32 bits, class C (spec/02_timeline.md). -/
abbrev TML_ERR.off : Nat := 0x20018
abbrev TML_ERR.PG_BAD : Fld := ⟨TML_ERR.off, 9, 9⟩
abbrev TML_ERR.PG_LATE : Fld := ⟨TML_ERR.off, 8, 8⟩
abbrev TML_ERR.HOPLOOP : Fld := ⟨TML_ERR.off, 7, 7⟩
abbrev TML_ERR.NOTIME : Fld := ⟨TML_ERR.off, 6, 6⟩
abbrev TML_ERR.BEAT_ERR : Fld := ⟨TML_ERR.off, 5, 5⟩
abbrev TML_ERR.UNCAL_HOP : Fld := ⟨TML_ERR.off, 4, 4⟩
abbrev TML_ERR.SYNC_LOST : Fld := ⟨TML_ERR.off, 3, 3⟩
abbrev TML_ERR.MISMATCH : Fld := ⟨TML_ERR.off, 2, 2⟩
abbrev TML_ERR.ALIGN_FAIL : Fld := ⟨TML_ERR.off, 1, 1⟩
abbrev TML_ERR.LATE : Fld := ⟨TML_ERR.off, 0, 0⟩
/-- TML_RESID — offset 0x001C, 32 bits, class C (spec/02_timeline.md). -/
abbrev TML_RESID.off : Nat := 0x2001c
abbrev TML_RESID.RESID : Fld := ⟨TML_RESID.off, 31, 0⟩
/-- TML_HOPp — offset 0x0040 + 4 × p, p = 0 to 5, 32 bits, class B (spec/02_timeline.md). -/
abbrev TML_HOP.off (p : Nat) : Nat := 0x20040 + 0x4 * p
abbrev TML_HOP.VALID (p : Nat) : Fld := ⟨TML_HOP.off p, 31, 31⟩
abbrev TML_HOP.DELAY (p : Nat) : Fld := ⟨TML_HOP.off p, 21, 0⟩
/-- TML_MEANp — offset 0x0060 + 4 × p, p = 0 to 5, 32 bits, class C (spec/02_timeline.md). -/
abbrev TML_MEAN.off (p : Nat) : Nat := 0x20060 + 0x4 * p
abbrev TML_MEAN.VALID (p : Nat) : Fld := ⟨TML_MEAN.off p, 31, 31⟩
abbrev TML_MEAN.MEAN (p : Nat) : Fld := ⟨TML_MEAN.off p, 21, 0⟩
/-- TML_ACTn_LO — offset 0x0100 + 0x10 × n, n = 0 to 15, 32 bits, class C (spec/02_timeline.md). -/
abbrev TML_ACT_LO.off (n : Nat) : Nat := 0x20100 + 0x10 * n
abbrev TML_ACT_LO.VALUE_LO (n : Nat) : Fld := ⟨TML_ACT_LO.off n, 31, 0⟩
/-- TML_ACTn_HI — offset 0x0104 + 0x10 × n, 32 bits, class C (spec/02_timeline.md). -/
abbrev TML_ACT_HI.off (n : Nat) : Nat := 0x20104 + 0x10 * n
abbrev TML_ACT_HI.VALUE_HI (n : Nat) : Fld := ⟨TML_ACT_HI.off n, 31, 0⟩
/-- TML_ACTn_CTL — offset 0x0108 + 0x10 × n, 32 bits, class C (spec/02_timeline.md). -/
abbrev TML_ACT_CTL.off (n : Nat) : Nat := 0x20108 + 0x10 * n
abbrev TML_ACT_CTL.ARM (n : Nat) : Fld := ⟨TML_ACT_CTL.off n, 31, 31⟩
abbrev TML_ACT_CTL.ASAP (n : Nat) : Fld := ⟨TML_ACT_CTL.off n, 30, 30⟩
abbrev TML_ACT_CTL.CANCEL (n : Nat) : Fld := ⟨TML_ACT_CTL.off n, 29, 29⟩
abbrev TML_ACT_CTL.FIRED (n : Nat) : Fld := ⟨TML_ACT_CTL.off n, 28, 28⟩
abbrev TML_ACT_CTL.DROPPED (n : Nat) : Fld := ⟨TML_ACT_CTL.off n, 27, 27⟩
abbrev TML_ACT_CTL.CODE (n : Nat) : Fld := ⟨TML_ACT_CTL.off n, 11, 8⟩
abbrev TML_ACT_CTL.ARG (n : Nat) : Fld := ⟨TML_ACT_CTL.off n, 7, 0⟩
/-- TML_ACTn_DONE — offset 0x010C + 0x10 × n, 32 bits, class C (spec/02_timeline.md). -/
abbrev TML_ACT_DONE.off (n : Nat) : Nat := 0x2010c + 0x10 * n
abbrev TML_ACT_DONE.DONE (n : Nat) : Fld := ⟨TML_ACT_DONE.off n, 31, 0⟩
/-- NT_SEC_LO — offset 0x0400, 32 bits, class A (spec/02_timeline.md). -/
abbrev NT_SEC_LO.off : Nat := 0x20400
abbrev NT_SEC_LO.SEC_LO : Fld := ⟨NT_SEC_LO.off, 31, 0⟩
/-- NT_SEC_HI — offset 0x0404, 32 bits, class A (spec/02_timeline.md). -/
abbrev NT_SEC_HI.off : Nat := 0x20404
abbrev NT_SEC_HI.SEC_HI : Fld := ⟨NT_SEC_HI.off, 31, 0⟩
/-- NT_NS — offset 0x0408, 32 bits, class A (spec/02_timeline.md). -/
abbrev NT_NS.off : Nat := 0x20408
abbrev NT_NS.NS : Fld := ⟨NT_NS.off, 29, 0⟩
/-- NT_FRAC — offset 0x040C, 32 bits, class A (spec/02_timeline.md). -/
abbrev NT_FRAC.off : Nat := 0x2040c
abbrev NT_FRAC.EPOCH : Fld := ⟨NT_FRAC.off, 23, 16⟩
abbrev NT_FRAC.FRAC : Fld := ⟨NT_FRAC.off, 15, 0⟩
/-- NT_INC_LO — offset 0x0410, 32 bits, class A (spec/02_timeline.md). -/
abbrev NT_INC_LO.off : Nat := 0x20410
abbrev NT_INC_LO.INC_FRAC : Fld := ⟨NT_INC_LO.off, 31, 0⟩
/-- NT_INC_HI — offset 0x0414, 32 bits, class A (spec/02_timeline.md). -/
abbrev NT_INC_HI.off : Nat := 0x20414
abbrev NT_INC_HI.INC_INT : Fld := ⟨NT_INC_HI.off, 7, 0⟩
/-- NT_DIFF — offset 0x0418, 32 bits, class C (spec/02_timeline.md). -/
abbrev NT_DIFF.off : Nat := 0x20418
abbrev NT_DIFF.DIFF : Fld := ⟨NT_DIFF.off, 31, 0⟩
/-- NT_PGn_SEC — offset 0x0500 + 0x10 × n, n = 0 to 3, 32 bits, class C (spec/02_timeline.md). -/
abbrev NT_PG_SEC.off (n : Nat) : Nat := 0x20500 + 0x10 * n
abbrev NT_PG_SEC.SEC (n : Nat) : Fld := ⟨NT_PG_SEC.off n, 31, 0⟩
/-- NT_PGn_NS — offset 0x0504 + 0x10 × n, 32 bits, class C (spec/02_timeline.md). -/
abbrev NT_PG_NS.off (n : Nat) : Nat := 0x20504 + 0x10 * n
abbrev NT_PG_NS.NS (n : Nat) : Fld := ⟨NT_PG_NS.off n, 29, 0⟩
/-- NT_PGn_PERIOD — offset 0x0508 + 0x10 × n, 32 bits, class C (spec/02_timeline.md). -/
abbrev NT_PG_PERIOD.off (n : Nat) : Nat := 0x20508 + 0x10 * n
abbrev NT_PG_PERIOD.PERIOD (n : Nat) : Fld := ⟨NT_PG_PERIOD.off n, 31, 0⟩
/-- NT_PGn_CTL — offset 0x050C + 0x10 × n, 32 bits, class C (spec/02_timeline.md). -/
abbrev NT_PG_CTL.off (n : Nat) : Nat := 0x2050c + 0x10 * n
abbrev NT_PG_CTL.ARM (n : Nat) : Fld := ⟨NT_PG_CTL.off n, 31, 31⟩
abbrev NT_PG_CTL.FIRED (n : Nat) : Fld := ⟨NT_PG_CTL.off n, 30, 30⟩
abbrev NT_PG_CTL.WIDTH (n : Nat) : Fld := ⟨NT_PG_CTL.off n, 15, 8⟩
/-- SE_CTRL — offset 0x0800, 32 bits, class D (spec/03_step_engines.md). -/
abbrev SE_CTRL.off (n : Nat) : Nat := 0x100800 + 0x10000 * n
abbrev SE_CTRL.PRIME (n : Nat) : Fld := ⟨SE_CTRL.off n, 31, 31⟩
abbrev SE_CTRL.HALT (n : Nat) : Fld := ⟨SE_CTRL.off n, 30, 30⟩
abbrev SE_CTRL.AUTOCOMMIT (n : Nat) : Fld := ⟨SE_CTRL.off n, 29, 29⟩
abbrev SE_CTRL.GROUP (n : Nat) : Fld := ⟨SE_CTRL.off n, 23, 20⟩
abbrev SE_CTRL.ENTRY (n : Nat) : Fld := ⟨SE_CTRL.off n, 19, 12⟩
abbrev SE_CTRL.BRANCH_LEAD (n : Nat) : Fld := ⟨SE_CTRL.off n, 6, 0⟩
/-- SE_STATUS — offset 0x0804, 32 bits, class E (spec/03_step_engines.md). -/
abbrev SE_STATUS.off (n : Nat) : Nat := 0x100804 + 0x10000 * n
abbrev SE_STATUS.ACTIVE_SEG (n : Nat) : Fld := ⟨SE_STATUS.off n, 31, 24⟩
abbrev SE_STATUS.AHEAD (n : Nat) : Fld := ⟨SE_STATUS.off n, 23, 14⟩
abbrev SE_STATUS.LEAD (n : Nat) : Fld := ⟨SE_STATUS.off n, 13, 7⟩
abbrev SE_STATUS.STATE (n : Nat) : Fld := ⟨SE_STATUS.off n, 2, 0⟩
/-- SE_ERR — offset 0x0808, 32 bits, class E (spec/03_step_engines.md). -/
abbrev SE_ERR.off (n : Nat) : Nat := 0x100808 + 0x10000 * n
abbrev SE_ERR.CTRL_LATE (n : Nat) : Fld := ⟨SE_ERR.off n, 12, 12⟩
abbrev SE_ERR.CALL_FAULT (n : Nat) : Fld := ⟨SE_ERR.off n, 11, 11⟩
abbrev SE_ERR.PRIME_FAIL (n : Nat) : Fld := ⟨SE_ERR.off n, 10, 10⟩
abbrev SE_ERR.WAIT_TO (n : Nat) : Fld := ⟨SE_ERR.off n, 9, 9⟩
abbrev SE_ERR.SEGSTATE (n : Nat) : Fld := ⟨SE_ERR.off n, 8, 8⟩
abbrev SE_ERR.WPROT (n : Nat) : Fld := ⟨SE_ERR.off n, 7, 7⟩
abbrev SE_ERR.SYNC_LATE (n : Nat) : Fld := ⟨SE_ERR.off n, 6, 6⟩
abbrev SE_ERR.STROBE_LATE (n : Nat) : Fld := ⟨SE_ERR.off n, 5, 5⟩
abbrev SE_ERR.CMD_LATE (n : Nat) : Fld := ⟨SE_ERR.off n, 4, 4⟩
abbrev SE_ERR.OVERRUN (n : Nat) : Fld := ⟨SE_ERR.off n, 3, 3⟩
abbrev SE_ERR.BADTONE (n : Nat) : Fld := ⟨SE_ERR.off n, 2, 2⟩
abbrev SE_ERR.BADOP (n : Nat) : Fld := ⟨SE_ERR.off n, 1, 1⟩
abbrev SE_ERR.STARVE (n : Nat) : Fld := ⟨SE_ERR.off n, 0, 0⟩
/-- SE_ERRSEG — offset 0x080C, 32 bits, class E (spec/03_step_engines.md). -/
abbrev SE_ERRSEG.off (n : Nat) : Nat := 0x10080c + 0x10000 * n
abbrev SE_ERRSEG.STEP (n : Nat) : Fld := ⟨SE_ERRSEG.off n, 20, 8⟩
abbrev SE_ERRSEG.SEG (n : Nat) : Fld := ⟨SE_ERRSEG.off n, 7, 0⟩
/-- SE_CNT0 — offset 0x0810, 32 bits, class E (spec/03_step_engines.md). -/
abbrev SE_CNT0.off (n : Nat) : Nat := 0x100810 + 0x10000 * n
abbrev SE_CNT0.MISSED_COND (n : Nat) : Fld := ⟨SE_CNT0.off n, 31, 16⟩
abbrev SE_CNT0.NO_COND (n : Nat) : Fld := ⟨SE_CNT0.off n, 15, 0⟩
/-- SE_CNT1 — offset 0x0814, 32 bits, class E (spec/03_step_engines.md). -/
abbrev SE_CNT1.off (n : Nat) : Nat := 0x100814 + 0x10000 * n
abbrev SE_CNT1.STARVES (n : Nat) : Fld := ⟨SE_CNT1.off n, 31, 16⟩
abbrev SE_CNT1.WAIT_TIMEOUTS (n : Nat) : Fld := ⟨SE_CNT1.off n, 15, 8⟩
abbrev SE_CNT1.OVERWRITES (n : Nat) : Fld := ⟨SE_CNT1.off n, 7, 0⟩
/-- SE_CICFG — offset 0x0818, 32 bits, class D (spec/03_step_engines.md). -/
abbrev SE_CICFG.off (n : Nat) : Nat := 0x100818 + 0x10000 * n
abbrev SE_CICFG.PULSE (n : Nat) : Fld := ⟨SE_CICFG.off n, 15, 0⟩
/-- SE_CIVAL — offset 0x081C, 32 bits, class E (spec/03_step_engines.md). -/
abbrev SE_CIVAL.off (n : Nat) : Nat := 0x10081c + 0x10000 * n
abbrev SE_CIVAL.FRESH (n : Nat) : Fld := ⟨SE_CIVAL.off n, 31, 16⟩
abbrev SE_CIVAL.VALUE (n : Nat) : Fld := ⟨SE_CIVAL.off n, 15, 0⟩
/-- SE_FRAME — offset 0x0820, 32 bits, class E (spec/03_step_engines.md). -/
abbrev SE_FRAME.off (n : Nat) : Nat := 0x100820 + 0x10000 * n
abbrev SE_FRAME.FRAME (n : Nat) : Fld := ⟨SE_FRAME.off n, 31, 0⟩
/-- SE_LOOPk — offset 0x0824 + 4 × k, k = 0 to 3, 32 bits, class E (spec/03_step_engines.md). -/
abbrev SE_LOOP.off (n : Nat) (k : Nat) : Nat := 0x100824 + 0x10000 * n + 0x4 * k
abbrev SE_LOOP.BUSY (n : Nat) (k : Nat) : Fld := ⟨SE_LOOP.off n k, 31, 31⟩
abbrev SE_LOOP.REMAIN (n : Nat) (k : Nat) : Fld := ⟨SE_LOOP.off n k, 15, 0⟩
/-- SE_REFILL — offset 0x0834, 32 bits, class E (spec/03_step_engines.md). -/
abbrev SE_REFILL.off (n : Nat) : Nat := 0x100834 + 0x10000 * n
abbrev SE_REFILL.OLDEST (n : Nat) : Fld := ⟨SE_REFILL.off n, 31, 24⟩
abbrev SE_REFILL.PENDING (n : Nat) : Fld := ⟨SE_REFILL.off n, 8, 0⟩
/-- SE_LASTSTARVE — offset 0x0838, 32 bits, class E (spec/03_step_engines.md). -/
abbrev SE_LASTSTARVE.off (n : Nat) : Nat := 0x100838 + 0x10000 * n
abbrev SE_LASTSTARVE.SEG (n : Nat) : Fld := ⟨SE_LASTSTARVE.off n, 31, 24⟩
abbrev SE_LASTSTARVE.SHOT (n : Nat) : Fld := ⟨SE_LASTSTARVE.off n, 23, 0⟩
/-- SE_UREGk_LO — offset 0x0900 + 8 × (k − 8), k = 8 to 15, 32 bits, class E (spec/03_step_engines.md). -/
abbrev SE_UREG_LO.off (n : Nat) (k : Nat) : Nat := 0x100900 + 0x10000 * n + 0x8 * k
abbrev SE_UREG_LO.ULO (n : Nat) (k : Nat) : Fld := ⟨SE_UREG_LO.off n k, 31, 0⟩
/-- SE_UREGk_HI — offset 0x0904 + 8 × (k − 8), k = 8 to 15, 32 bits, class E (spec/03_step_engines.md). -/
abbrev SE_UREG_HI.off (n : Nat) (k : Nat) : Nat := 0x100904 + 0x10000 * n + 0x8 * k
abbrev SE_UREG_HI.UHI (n : Nat) (k : Nat) : Fld := ⟨SE_UREG_HI.off n k, 31, 0⟩
/-- SE_SEGs_LO — offset 0x1000 + 8 × s, s = 0 to 255, 32 bits, class D (spec/03_step_engines.md). -/
abbrev SE_SEG_LO.off (n : Nat) (s : Nat) : Nat := 0x101000 + 0x10000 * n + 0x8 * s
abbrev SE_SEG_LO.SHOTB (n : Nat) (s : Nat) : Fld := ⟨SE_SEG_LO.off n s, 31, 31⟩
abbrev SE_SEG_LO.RETAIN (n : Nat) (s : Nat) : Fld := ⟨SE_SEG_LO.off n s, 30, 30⟩
abbrev SE_SEG_LO.FALLBACK (n : Nat) (s : Nat) : Fld := ⟨SE_SEG_LO.off n s, 29, 29⟩
abbrev SE_SEG_LO.STATE (n : Nat) (s : Nat) : Fld := ⟨SE_SEG_LO.off n s, 28, 26⟩
abbrev SE_SEG_LO.LENM1 (n : Nat) (s : Nat) : Fld := ⟨SE_SEG_LO.off n s, 25, 13⟩
abbrev SE_SEG_LO.START (n : Nat) (s : Nat) : Fld := ⟨SE_SEG_LO.off n s, 12, 0⟩
/-- SE_SEGs_HI — offset 0x1004 + 8 × s, 32 bits, class D (spec/03_step_engines.md). -/
abbrev SE_SEG_HI.off (n : Nat) (s : Nat) : Nat := 0x101004 + 0x10000 * n + 0x8 * s
abbrev SE_SEG_HI.NEXT (n : Nat) (s : Nat) : Fld := ⟨SE_SEG_HI.off n s, 31, 24⟩
abbrev SE_SEG_HI.DUR (n : Nat) (s : Nat) : Fld := ⟨SE_SEG_HI.off n s, 23, 0⟩
/-- TS_CFG — offset 0x0400, 32 bits, class D (spec/04_tone_synthesis.md). -/
abbrev TS_CFG.off (n : Nat) : Nat := 0x100400 + 0x10000 * n
abbrev TS_CFG.CLIP_TAINT (n : Nat) : Fld := ⟨TS_CFG.off n, 31, 31⟩
abbrev TS_CFG.SCALE (n : Nat) : Fld := ⟨TS_CFG.off n, 15, 0⟩
/-- TS_CARRIER_LO — offset 0x0404, 32 bits, class D (spec/04_tone_synthesis.md). -/
abbrev TS_CARRIER_LO.off (n : Nat) : Nat := 0x100404 + 0x10000 * n
abbrev TS_CARRIER_LO.CAR_LO (n : Nat) : Fld := ⟨TS_CARRIER_LO.off n, 31, 0⟩
/-- TS_CARRIER_HI — offset 0x0408, 32 bits, class D (spec/04_tone_synthesis.md). -/
abbrev TS_CARRIER_HI.off (n : Nat) : Nat := 0x100408 + 0x10000 * n
abbrev TS_CARRIER_HI.CAR_HI (n : Nat) : Fld := ⟨TS_CARRIER_HI.off n, 15, 0⟩
/-- TS_CPHASE — offset 0x040C, 32 bits, class D (spec/04_tone_synthesis.md). -/
abbrev TS_CPHASE.off (n : Nat) : Nat := 0x10040c + 0x10000 * n
abbrev TS_CPHASE.CPHASE (n : Nat) : Fld := ⟨TS_CPHASE.off n, 31, 0⟩
/-- TS_STAT — offset 0x0410, 32 bits, class E (spec/04_tone_synthesis.md). -/
abbrev TS_STAT.off (n : Nat) : Nat := 0x100410 + 0x10000 * n
abbrev TS_STAT.PENDING (n : Nat) : Fld := ⟨TS_STAT.off n, 4, 4⟩
abbrev TS_STAT.DACCLIP (n : Nat) : Fld := ⟨TS_STAT.off n, 3, 3⟩
abbrev TS_STAT.EQCLIP (n : Nat) : Fld := ⟨TS_STAT.off n, 2, 2⟩
abbrev TS_STAT.IPCLIP (n : Nat) : Fld := ⟨TS_STAT.off n, 1, 1⟩
abbrev TS_STAT.SUMCLIP (n : Nat) : Fld := ⟨TS_STAT.off n, 0, 0⟩
/-- TS_CLIPCNT — offset 0x0414, 32 bits, class E (spec/04_tone_synthesis.md). -/
abbrev TS_CLIPCNT.off (n : Nat) : Nat := 0x100414 + 0x10000 * n
abbrev TS_CLIPCNT.SUM (n : Nat) : Fld := ⟨TS_CLIPCNT.off n, 31, 16⟩
abbrev TS_CLIPCNT.DAC (n : Nat) : Fld := ⟨TS_CLIPCNT.off n, 15, 0⟩
/-- TS_EQk — offset 0x0440 + 4 × k, k = 0 to 31, 32 bits, class D (spec/04_tone_synthesis.md). -/
abbrev TS_EQ.off (n : Nat) (k : Nat) : Nat := 0x100440 + 0x10000 * n + 0x4 * k
abbrev TS_EQ.COEF (n : Nat) (k : Nat) : Fld := ⟨TS_EQ.off n k, 17, 0⟩
/-- OC_CFG — offset 0x0000, 32 bits, class D (spec/05_output_channels.md). -/
abbrev OC_CFG.off (n : Nat) : Nat := 0x100000 + 0x10000 * n
abbrev OC_CFG.SRST (n : Nat) : Fld := ⟨OC_CFG.off n, 31, 31⟩
abbrev OC_CFG.GROUP (n : Nat) : Fld := ⟨OC_CFG.off n, 11, 8⟩
abbrev OC_CFG.SC_MUTE (n : Nat) : Fld := ⟨OC_CFG.off n, 7, 7⟩
abbrev OC_CFG.GAIN (n : Nat) : Fld := ⟨OC_CFG.off n, 5, 5⟩
abbrev OC_CFG.REFSEL (n : Nat) : Fld := ⟨OC_CFG.off n, 4, 4⟩
abbrev OC_CFG.ROLE (n : Nat) : Fld := ⟨OC_CFG.off n, 1, 0⟩
/-- OC_LOAD — offset 0x0004, 32 bits, class D (spec/05_output_channels.md). -/
abbrev OC_LOAD.off (n : Nat) : Nat := 0x100004 + 0x10000 * n
abbrev OC_LOAD.MUTE (n : Nat) : Fld := ⟨OC_LOAD.off n, 31, 31⟩
abbrev OC_LOAD.TRIM_TK (n : Nat) : Fld := ⟨OC_LOAD.off n, 15, 12⟩
abbrev OC_LOAD.TRIM_S (n : Nat) : Fld := ⟨OC_LOAD.off n, 11, 7⟩
abbrev OC_LOAD.TRIM_F (n : Nat) : Fld := ⟨OC_LOAD.off n, 6, 1⟩
/-- OC_INFORCE — offset 0x0008, 32 bits, class D (spec/05_output_channels.md). -/
abbrev OC_INFORCE.off (n : Nat) : Nat := 0x100008 + 0x10000 * n
abbrev OC_INFORCE.MUTE (n : Nat) : Fld := ⟨OC_INFORCE.off n, 31, 31⟩
abbrev OC_INFORCE.TRIM_TK (n : Nat) : Fld := ⟨OC_INFORCE.off n, 15, 12⟩
abbrev OC_INFORCE.TRIM_S (n : Nat) : Fld := ⟨OC_INFORCE.off n, 11, 7⟩
abbrev OC_INFORCE.TRIM_F (n : Nat) : Fld := ⟨OC_INFORCE.off n, 6, 1⟩
/-- OC_STATUS — offset 0x000C, 32 bits, class D (spec/05_output_channels.md). -/
abbrev OC_STATUS.off (n : Nat) : Nat := 0x10000c + 0x10000 * n
abbrev OC_STATUS.REHYDRATED (n : Nat) : Fld := ⟨OC_STATUS.off n, 31, 31⟩
abbrev OC_STATUS.LOAD_PEND (n : Nat) : Fld := ⟨OC_STATUS.off n, 8, 8⟩
abbrev OC_STATUS.GAIN (n : Nat) : Fld := ⟨OC_STATUS.off n, 7, 7⟩
abbrev OC_STATUS.MUTED (n : Nat) : Fld := ⟨OC_STATUS.off n, 6, 6⟩
abbrev OC_STATUS.M_SHORT (n : Nat) : Fld := ⟨OC_STATUS.off n, 5, 5⟩
abbrev OC_STATUS.M_MODE (n : Nat) : Fld := ⟨OC_STATUS.off n, 4, 4⟩
abbrev OC_STATUS.M_SETTLE (n : Nat) : Fld := ⟨OC_STATUS.off n, 3, 3⟩
abbrev OC_STATUS.M_LOAD (n : Nat) : Fld := ⟨OC_STATUS.off n, 2, 2⟩
abbrev OC_STATUS.M_NOLOAD (n : Nat) : Fld := ⟨OC_STATUS.off n, 1, 1⟩
abbrev OC_STATUS.QACTIVE (n : Nat) : Fld := ⟨OC_STATUS.off n, 0, 0⟩
/-- OC_ERR — offset 0x0010, 32 bits, class E (spec/05_output_channels.md). -/
abbrev OC_ERR.off (n : Nat) : Nat := 0x100010 + 0x10000 * n
abbrev OC_ERR.QDROP (n : Nat) : Fld := ⟨OC_ERR.off n, 6, 6⟩
abbrev OC_ERR.QOVER (n : Nat) : Fld := ⟨OC_ERR.off n, 5, 5⟩
abbrev OC_ERR.QREFUSE (n : Nat) : Fld := ⟨OC_ERR.off n, 4, 4⟩
abbrev OC_ERR.QLIMIT (n : Nat) : Fld := ⟨OC_ERR.off n, 3, 3⟩
abbrev OC_ERR.QUNDER (n : Nat) : Fld := ⟨OC_ERR.off n, 2, 2⟩
abbrev OC_ERR.SHORT (n : Nat) : Fld := ⟨OC_ERR.off n, 1, 1⟩
abbrev OC_ERR.RANGE_BUSY (n : Nat) : Fld := ⟨OC_ERR.off n, 0, 0⟩
/-- OC_CNT — offset 0x0014, 32 bits, class E (spec/05_output_channels.md). -/
abbrev OC_CNT.off (n : Nat) : Nat := 0x100014 + 0x10000 * n
abbrev OC_CNT.SHORT_TK (n : Nat) : Fld := ⟨OC_CNT.off n, 31, 16⟩
abbrev OC_CNT.QUNDER_TK (n : Nat) : Fld := ⟨OC_CNT.off n, 15, 0⟩
/-- OC_IDLE — offset 0x0018, 32 bits, class D (spec/05_output_channels.md). -/
abbrev OC_IDLE.off (n : Nat) : Nat := 0x100018 + 0x10000 * n
abbrev OC_IDLE.CODE (n : Nat) : Fld := ⟨OC_IDLE.off n, 15, 0⟩
/-- OC_QCTL — offset 0x0100, 32 bits, class D (spec/05_output_channels.md). -/
abbrev OC_QCTL.off (n : Nat) : Nat := 0x100100 + 0x10000 * n
abbrev OC_QCTL.EN (n : Nat) : Fld := ⟨OC_QCTL.off n, 31, 31⟩
abbrev OC_QCTL.START (n : Nat) : Fld := ⟨OC_QCTL.off n, 30, 30⟩
abbrev OC_QCTL.STOP (n : Nat) : Fld := ⟨OC_QCTL.off n, 29, 29⟩
abbrev OC_QCTL.RUN (n : Nat) : Fld := ⟨OC_QCTL.off n, 0, 0⟩
/-- OC_QPTR — offset 0x0104, 32 bits, class E (spec/05_output_channels.md). -/
abbrev OC_QPTR.off (n : Nat) : Nat := 0x100104 + 0x10000 * n
abbrev OC_QPTR.RD (n : Nat) : Fld := ⟨OC_QPTR.off n, 31, 16⟩
abbrev OC_QPTR.WR (n : Nat) : Fld := ⟨OC_QPTR.off n, 15, 0⟩
/-- GS_CTL — offset 0x0300, windows of OC0 to OC15, 32 bits, class C (spec/05_output_channels.md). -/
abbrev GS_CTL.off (g : Nat) : Nat := 0x100300 + 0x10000 * g
abbrev GS_CTL.ARM (g : Nat) : Fld := ⟨GS_CTL.off g, 31, 31⟩
abbrev GS_CTL.NOW (g : Nat) : Fld := ⟨GS_CTL.off g, 30, 30⟩
abbrev GS_CTL.SHOT (g : Nat) : Fld := ⟨GS_CTL.off g, 29, 29⟩
abbrev GS_CTL.MKI_EN (g : Nat) : Fld := ⟨GS_CTL.off g, 28, 28⟩
abbrev GS_CTL.MKI (g : Nat) : Fld := ⟨GS_CTL.off g, 27, 24⟩
abbrev GS_CTL.LATE (g : Nat) : Fld := ⟨GS_CTL.off g, 23, 23⟩
abbrev GS_CTL.COUNT (g : Nat) : Fld := ⟨GS_CTL.off g, 7, 0⟩
/-- GS_AT_LO — offset 0x0304, windows of OC0 to OC15, 32 bits, class C (spec/05_output_channels.md). -/
abbrev GS_AT_LO.off (g : Nat) : Nat := 0x100304 + 0x10000 * g
abbrev GS_AT_LO.AT_LO (g : Nat) : Fld := ⟨GS_AT_LO.off g, 31, 0⟩
/-- GS_AT_HI — offset 0x0308, windows of OC0 to OC15, 32 bits, class C (spec/05_output_channels.md). -/
abbrev GS_AT_HI.off (g : Nat) : Nat := 0x100308 + 0x10000 * g
abbrev GS_AT_HI.AT_HI (g : Nat) : Fld := ⟨GS_AT_HI.off g, 31, 0⟩
/-- GS_PER — offset 0x030C, windows of OC0 to OC15, 32 bits, class C (spec/05_output_channels.md). -/
abbrev GS_PER.off (g : Nat) : Nat := 0x10030c + 0x10000 * g
abbrev GS_PER.PER (g : Nat) : Fld := ⟨GS_PER.off g, 23, 0⟩
/-- IC_CFG — offset 0x0000, 32 bits, class D (spec/06_readout_chains.md). -/
abbrev IC_CFG.off (n : Nat) : Nat := 0xe00000 + 0x10000 * n
abbrev IC_CFG.SRST (n : Nat) : Fld := ⟨IC_CFG.off n, 31, 31⟩
abbrev IC_CFG.SAT_CONF (n : Nat) : Fld := ⟨IC_CFG.off n, 0, 0⟩
/-- IC_TRIM — offset 0x0004, 32 bits, class D (spec/06_readout_chains.md). -/
abbrev IC_TRIM.off (n : Nat) : Nat := 0xe00004 + 0x10000 * n
abbrev IC_TRIM.TRIM_TK (n : Nat) : Fld := ⟨IC_TRIM.off n, 8, 5⟩
abbrev IC_TRIM.TRIM_S (n : Nat) : Fld := ⟨IC_TRIM.off n, 4, 0⟩
/-- IC_STATUS — offset 0x0008, 32 bits, class D (spec/06_readout_chains.md). -/
abbrev IC_STATUS.off (n : Nat) : Nat := 0xe00008 + 0x10000 * n
abbrev IC_STATUS.REHYDRATED (n : Nat) : Fld := ⟨IC_STATUS.off n, 31, 31⟩
abbrev IC_STATUS.PENDING (n : Nat) : Fld := ⟨IC_STATUS.off n, 1, 1⟩
abbrev IC_STATUS.RB_REQ (n : Nat) : Fld := ⟨IC_STATUS.off n, 0, 0⟩
/-- IC_ERR — offset 0x000C, 32 bits, class E (spec/06_readout_chains.md). -/
abbrev IC_ERR.off (n : Nat) : Nat := 0xe0000c + 0x10000 * n
abbrev IC_ERR.RB_PTR (n : Nat) : Fld := ⟨IC_ERR.off n, 9, 9⟩
abbrev IC_ERR.RB_FULL (n : Nat) : Fld := ⟨IC_ERR.off n, 8, 8⟩
abbrev IC_ERR.ZCLIP (n : Nat) : Fld := ⟨IC_ERR.off n, 7, 7⟩
abbrev IC_ERR.WOVERLAP (n : Nat) : Fld := ⟨IC_ERR.off n, 6, 6⟩
abbrev IC_ERR.WLATE (n : Nat) : Fld := ⟨IC_ERR.off n, 5, 5⟩
abbrev IC_ERR.BADDT (n : Nat) : Fld := ⟨IC_ERR.off n, 4, 4⟩
abbrev IC_ERR.BADWORD (n : Nat) : Fld := ⟨IC_ERR.off n, 3, 3⟩
abbrev IC_ERR.ADC_OVR (n : Nat) : Fld := ⟨IC_ERR.off n, 2, 2⟩
abbrev IC_ERR.PRIME_FAIL (n : Nat) : Fld := ⟨IC_ERR.off n, 1, 1⟩
/-- IC_CNT0 — offset 0x0010, 32 bits, class E (spec/06_readout_chains.md). -/
abbrev IC_CNT0.off (n : Nat) : Nat := 0xe00010 + 0x10000 * n
abbrev IC_CNT0.SAT_TK (n : Nat) : Fld := ⟨IC_CNT0.off n, 31, 16⟩
abbrev IC_CNT0.COAL (n : Nat) : Fld := ⟨IC_CNT0.off n, 15, 0⟩
/-- IC_CNT1 — offset 0x0014, 32 bits, class E (spec/06_readout_chains.md). -/
abbrev IC_CNT1.off (n : Nat) : Nat := 0xe00014 + 0x10000 * n
abbrev IC_CNT1.RB_DROP (n : Nat) : Fld := ⟨IC_CNT1.off n, 31, 16⟩
abbrev IC_CNT1.LATE_WIN (n : Nat) : Fld := ⟨IC_CNT1.off n, 15, 0⟩
/-- IC_RBLOST — offset 0x0018, 32 bits, class E (spec/06_readout_chains.md). -/
abbrev IC_RBLOST.off (n : Nat) : Nat := 0xe00018 + 0x10000 * n
abbrev IC_RBLOST.VALID (n : Nat) : Fld := ⟨IC_RBLOST.off n, 31, 31⟩
abbrev IC_RBLOST.SHOT (n : Nat) : Fld := ⟨IC_RBLOST.off n, 23, 0⟩
/-- IC_RB_CFG — offset 0x0020, 32 bits, class D (spec/06_readout_chains.md). -/
abbrev IC_RB_CFG.off (n : Nat) : Nat := 0xe00020 + 0x10000 * n
abbrev IC_RB_CFG.AUTORD (n : Nat) : Fld := ⟨IC_RB_CFG.off n, 31, 31⟩
abbrev IC_RB_CFG.THRESH (n : Nat) : Fld := ⟨IC_RB_CFG.off n, 9, 0⟩
/-- IC_RB_WR — offset 0x0024, 32 bits, class E (spec/06_readout_chains.md). -/
abbrev IC_RB_WR.off (n : Nat) : Nat := 0xe00024 + 0x10000 * n
abbrev IC_RB_WR.WR (n : Nat) : Fld := ⟨IC_RB_WR.off n, 16, 0⟩
/-- IC_RB_RD — offset 0x0028, 32 bits, class E (spec/06_readout_chains.md). -/
abbrev IC_RB_RD.off (n : Nat) : Nat := 0xe00028 + 0x10000 * n
abbrev IC_RB_RD.RD (n : Nat) : Fld := ⟨IC_RB_RD.off n, 16, 0⟩
/-- CE_CTRL — offset 0x0100, 32 bits, class D (spec/06_readout_chains.md). -/
abbrev CE_CTRL.off (n : Nat) : Nat := 0xe00100 + 0x10000 * n
abbrev CE_CTRL.PRIME (n : Nat) : Fld := ⟨CE_CTRL.off n, 31, 31⟩
abbrev CE_CTRL.HALT (n : Nat) : Fld := ⟨CE_CTRL.off n, 30, 30⟩
abbrev CE_CTRL.GROUP (n : Nat) : Fld := ⟨CE_CTRL.off n, 23, 20⟩
abbrev CE_CTRL.ENTRY (n : Nat) : Fld := ⟨CE_CTRL.off n, 9, 0⟩
/-- CE_STATUS — offset 0x0104, 32 bits, class E (spec/06_readout_chains.md). -/
abbrev CE_STATUS.off (n : Nat) : Nat := 0xe00104 + 0x10000 * n
abbrev CE_STATUS.AHEAD (n : Nat) : Fld := ⟨CE_STATUS.off n, 23, 14⟩
abbrev CE_STATUS.STATE (n : Nat) : Fld := ⟨CE_STATUS.off n, 2, 0⟩
/-- CE_LOOPk — offset 0x0108 + 4 × k, k = 0 to 1, 32 bits, class E (spec/06_readout_chains.md). -/
abbrev CE_LOOP.off (n : Nat) (k : Nat) : Nat := 0xe00108 + 0x10000 * n + 0x4 * k
abbrev CE_LOOP.BUSY (n : Nat) (k : Nat) : Fld := ⟨CE_LOOP.off n k, 31, 31⟩
abbrev CE_LOOP.REMAIN (n : Nat) (k : Nat) : Fld := ⟨CE_LOOP.off n k, 15, 0⟩
/-- DT_FREQ_LO — offset 0x0200 + 0x40 × k, k = 0 to 15, 32 bits, class D (spec/06_readout_chains.md). -/
abbrev DT_FREQ_LO.off (n : Nat) (k : Nat) : Nat := 0xe00200 + 0x10000 * n + 0x40 * k
abbrev DT_FREQ_LO.DF_LO (n : Nat) (k : Nat) : Fld := ⟨DT_FREQ_LO.off n k, 31, 0⟩
/-- DT_FREQ_HI — offset 0x0204 + 0x40 × k, 32 bits, class D (spec/06_readout_chains.md). -/
abbrev DT_FREQ_HI.off (n : Nat) (k : Nat) : Nat := 0xe00204 + 0x10000 * n + 0x40 * k
abbrev DT_FREQ_HI.DF_HI (n : Nat) (k : Nat) : Fld := ⟨DT_FREQ_HI.off n k, 15, 0⟩
/-- DT_PHASE — offset 0x0208 + 0x40 × k, 32 bits, class D (spec/06_readout_chains.md). -/
abbrev DT_PHASE.off (n : Nat) (k : Nat) : Nat := 0xe00208 + 0x10000 * n + 0x40 * k
abbrev DT_PHASE.DPHASE (n : Nat) (k : Nat) : Fld := ⟨DT_PHASE.off n k, 31, 0⟩
/-- DT_CFG — offset 0x020C + 0x40 × k, 32 bits, class D (spec/06_readout_chains.md). -/
abbrev DT_CFG.off (n : Nat) (k : Nat) : Nat := 0xe0020c + 0x10000 * n + 0x40 * k
abbrev DT_CFG.LEAK_EN (n : Nat) (k : Nat) : Fld := ⟨DT_CFG.off n k, 31, 31⟩
abbrev DT_CFG.CSHIFT (n : Nat) (k : Nat) : Fld := ⟨DT_CFG.off n k, 21, 16⟩
abbrev DT_CFG.SHIFT (n : Nat) (k : Nat) : Fld := ⟨DT_CFG.off n k, 3, 0⟩
/-- DT_CsI — offset 0x0210 + 0x40 × k + 8 × s, s = 0 to 2, 32 bits, class D (spec/06_readout_chains.md). -/
abbrev DT_CI.off (n : Nat) (k : Nat) (s : Nat) : Nat := 0xe00210 + 0x10000 * n + 0x40 * k + 0x8 * s
abbrev DT_CI.CI (n : Nat) (k : Nat) (s : Nat) : Fld := ⟨DT_CI.off n k s, 23, 0⟩
/-- DT_CsQ — offset 0x0214 + 0x40 × k + 8 × s, s = 0 to 2, 32 bits, class D (spec/06_readout_chains.md). -/
abbrev DT_CQ.off (n : Nat) (k : Nat) (s : Nat) : Nat := 0xe00214 + 0x10000 * n + 0x40 * k + 0x8 * s
abbrev DT_CQ.CQ (n : Nat) (k : Nat) (s : Nat) : Fld := ⟨DT_CQ.off n k s, 23, 0⟩
/-- SLU_ERR — offset 0x0000, 32 bits, class C (spec/07_sluice_and_feedback.md). -/
abbrev SLU_ERR.off : Nat := 0xe0000
abbrev SLU_ERR.KIND_BAD : Fld := ⟨SLU_ERR.off, 4, 4⟩
abbrev SLU_ERR.FRAME_OFF : Fld := ⟨SLU_ERR.off, 3, 3⟩
abbrev SLU_ERR.LDOWN : Fld := ⟨SLU_ERR.off, 2, 2⟩
abbrev SLU_ERR.LOVER : Fld := ⟨SLU_ERR.off, 1, 1⟩
abbrev SLU_ERR.ROUTE_BAD : Fld := ⟨SLU_ERR.off, 0, 0⟩
/-- SLU_CNT0 — offset 0x0004, 32 bits, class C (spec/07_sluice_and_feedback.md). -/
abbrev SLU_CNT0.off : Nat := 0xe0004
abbrev SLU_CNT0.DOUBT_DROP : Fld := ⟨SLU_CNT0.off, 31, 16⟩
abbrev SLU_CNT0.KIND_DROP : Fld := ⟨SLU_CNT0.off, 15, 0⟩
/-- SLU_CNT1 — offset 0x0008, 32 bits, class C (spec/07_sluice_and_feedback.md). -/
abbrev SLU_CNT1.off : Nat := 0xe0008
abbrev SLU_CNT1.LDROP : Fld := ⟨SLU_CNT1.off, 31, 16⟩
abbrev SLU_CNT1.FRAME_OFF : Fld := ⟨SLU_CNT1.off, 15, 0⟩
/-- SLU_WAIT — offset 0x000C, 32 bits, class C (spec/07_sluice_and_feedback.md). -/
abbrev SLU_WAIT.off : Nat := 0xe000c
abbrev SLU_WAIT.MAXK : Fld := ⟨SLU_WAIT.off, 2, 0⟩
/-- SLU_SVSELj — offset 0x0100 + 4 × j, j = 0 to 63, 32 bits, class C (spec/07_sluice_and_feedback.md). -/
abbrev SLU_SVSEL.off (j : Nat) : Nat := 0xe0100 + 0x4 * j
abbrev SLU_SVSEL.SEL (j : Nat) : Fld := ⟨SLU_SVSEL.off j, 31, 0⟩
/-- SLU_LFWDr — offset 0x0400 + 4 × r, r = 0 to 255, 32 bits, class C (spec/07_sluice_and_feedback.md). -/
abbrev SLU_LFWD.off (r : Nat) : Nat := 0xe0400 + 0x4 * r
abbrev SLU_LFWD.EN (r : Nat) : Fld := ⟨SLU_LFWD.off r, 31, 31⟩
abbrev SLU_LFWD.PORTS (r : Nat) : Fld := ⟨SLU_LFWD.off r, 30, 25⟩
abbrev SLU_LFWD.SRC (r : Nat) : Fld := ⟨SLU_LFWD.off r, 20, 10⟩
abbrev SLU_LFWD.TAG (r : Nat) : Fld := ⟨SLU_LFWD.off r, 9, 0⟩
/-- SLU_CISELc — offset 0x4000 + 4 × c, c = 16 × n + k, n = 0 to 191, k = 0 to 15, 32 bits, class C (spec/07_sluice_and_feedback.md). -/
abbrev SLU_CISEL.off (c : Nat) : Nat := 0xe4000 + 0x4 * c
abbrev SLU_CISEL.DOUBT (c : Nat) : Fld := ⟨SLU_CISEL.off c, 31, 30⟩
abbrev SLU_CISEL.EN (c : Nat) : Fld := ⟨SLU_CISEL.off c, 29, 29⟩
abbrev SLU_CISEL.SMASK (c : Nat) : Fld := ⟨SLU_CISEL.off c, 28, 26⟩
abbrev SLU_CISEL.CMIN (c : Nat) : Fld := ⟨SLU_CISEL.off c, 25, 20⟩
abbrev SLU_CISEL.FMASK (c : Nat) : Fld := ⟨SLU_CISEL.off c, 19, 14⟩
abbrev SLU_CISEL.SRC (c : Nat) : Fld := ⟨SLU_CISEL.off c, 10, 0⟩
/-- SV_CTRL — offset 0x0000, 32 bits, class C (spec/08_sieve_decoder.md). -/
abbrev SV_CTRL.off : Nat := 0xd0000
abbrev SV_CTRL.ROT_EN : Fld := ⟨SV_CTRL.off, 31, 31⟩
abbrev SV_CTRL.ROT_EXP : Fld := ⟨SV_CTRL.off, 30, 26⟩
/-- SV_CFG — offset 0x0004, 32 bits, class C (spec/08_sieve_decoder.md). -/
abbrev SV_CFG.off : Nat := 0xd0004
abbrev SV_CFG.DEADLINE : Fld := ⟨SV_CFG.off, 31, 22⟩
abbrev SV_CFG.LOWCONF : Fld := ⟨SV_CFG.off, 21, 16⟩
abbrev SV_CFG.LOWW : Fld := ⟨SV_CFG.off, 15, 8⟩
abbrev SV_CFG.CLOSE_LAG : Fld := ⟨SV_CFG.off, 7, 0⟩
/-- SV_RSCHED0 — offset 0x0008, 32 bits, class C (spec/08_sieve_decoder.md). -/
abbrev SV_RSCHED0.off : Nat := 0xd0008
abbrev SV_RSCHED0.FIRST : Fld := ⟨SV_RSCHED0.off, 31, 16⟩
abbrev SV_RSCHED0.PERIOD : Fld := ⟨SV_RSCHED0.off, 15, 0⟩
/-- SV_RSCHED1 — offset 0x000C, 32 bits, class C (spec/08_sieve_decoder.md). -/
abbrev SV_RSCHED1.off : Nat := 0xd000c
abbrev SV_RSCHED1.COUNT : Fld := ⟨SV_RSCHED1.off, 15, 0⟩
/-- SV_STATUS — offset 0x0010, 32 bits, class C (spec/08_sieve_decoder.md). -/
abbrev SV_STATUS.off : Nat := 0xd0010
abbrev SV_STATUS.ACTIVE : Fld := ⟨SV_STATUS.off, 31, 31⟩
abbrev SV_STATUS.ROTATING : Fld := ⟨SV_STATUS.off, 30, 30⟩
abbrev SV_STATUS.ROTG : Fld := ⟨SV_STATUS.off, 29, 26⟩
abbrev SV_STATUS.SPARE : Fld := ⟨SV_STATUS.off, 25, 21⟩
abbrev SV_STATUS.FAILED : Fld := ⟨SV_STATUS.off, 16, 0⟩
/-- SV_ERR — offset 0x0014, 32 bits, class C (spec/08_sieve_decoder.md). -/
abbrev SV_ERR.off : Nat := 0xd0014
abbrev SV_ERR.GWPROT : Fld := ⟨SV_ERR.off, 11, 11⟩
abbrev SV_ERR.UNMAPPED : Fld := ⟨SV_ERR.off, 10, 10⟩
abbrev SV_ERR.RSCHED : Fld := ⟨SV_ERR.off, 9, 9⟩
abbrev SV_ERR.GRAPH_LOST : Fld := ⟨SV_ERR.off, 8, 8⟩
abbrev SV_ERR.TILE_FAIL : Fld := ⟨SV_ERR.off, 7, 7⟩
abbrev SV_ERR.GRAPH_BAD : Fld := ⟨SV_ERR.off, 6, 6⟩
abbrev SV_ERR.HLINK : Fld := ⟨SV_ERR.off, 5, 5⟩
abbrev SV_ERR.HMAP : Fld := ⟨SV_ERR.off, 4, 4⟩
abbrev SV_ERR.LATE_DEC : Fld := ⟨SV_ERR.off, 3, 3⟩
abbrev SV_ERR.OVERLOAD : Fld := ⟨SV_ERR.off, 2, 2⟩
abbrev SV_ERR.MISSING : Fld := ⟨SV_ERR.off, 1, 1⟩
/-- SV_CNT0 — offset 0x0018, 32 bits, class C (spec/08_sieve_decoder.md). -/
abbrev SV_CNT0.off : Nat := 0xd0018
abbrev SV_CNT0.MISSING : Fld := ⟨SV_CNT0.off, 31, 16⟩
abbrev SV_CNT0.REJECT : Fld := ⟨SV_CNT0.off, 15, 8⟩
abbrev SV_CNT0.STALE : Fld := ⟨SV_CNT0.off, 7, 0⟩
/-- SV_CNT1 — offset 0x001C, 32 bits, class C (spec/08_sieve_decoder.md). -/
abbrev SV_CNT1.off : Nat := 0xd001c
abbrev SV_CNT1.OVERLOAD : Fld := ⟨SV_CNT1.off, 31, 24⟩
abbrev SV_CNT1.LATE_DEC : Fld := ⟨SV_CNT1.off, 23, 16⟩
abbrev SV_CNT1.UNMAPPED : Fld := ⟨SV_CNT1.off, 15, 0⟩
/-- SV_GADDR — offset 0x0020, 32 bits, class C (spec/08_sieve_decoder.md). -/
abbrev SV_GADDR.off : Nat := 0xd0020
abbrev SV_GADDR.GRAPH : Fld := ⟨SV_GADDR.off, 23, 20⟩
abbrev SV_GADDR.ADDR : Fld := ⟨SV_GADDR.off, 19, 0⟩
/-- SV_GDATA — offset 0x0024, 32 bits, class C (spec/08_sieve_decoder.md). -/
abbrev SV_GDATA.off : Nat := 0xd0024
abbrev SV_GDATA.DATA : Fld := ⟨SV_GDATA.off, 31, 0⟩
/-- SV_GERR — offset 0x0028, 32 bits, class C (spec/08_sieve_decoder.md). -/
abbrev SV_GERR.off : Nat := 0xd0028
abbrev SV_GERR.VALID : Fld := ⟨SV_GERR.off, 31, 31⟩
abbrev SV_GERR.CAUSE : Fld := ⟨SV_GERR.off, 30, 28⟩
abbrev SV_GERR.GRAPH : Fld := ⟨SV_GERR.off, 27, 24⟩
abbrev SV_GERR.INDEX : Fld := ⟨SV_GERR.off, 14, 0⟩
/-- SV_Gg_CTL — offset 0x0100 + 8 × g, g = 0 to 15, 32 bits, class C (spec/08_sieve_decoder.md). -/
abbrev SV_G_CTL.off (g : Nat) : Nat := 0xd0100 + 0x8 * g
abbrev SV_G_CTL.EN (g : Nat) : Fld := ⟨SV_G_CTL.off g, 31, 31⟩
abbrev SV_G_CTL.TILE (g : Nat) : Fld := ⟨SV_G_CTL.off g, 30, 26⟩
abbrev SV_G_CTL.CHILDREN (g : Nat) : Fld := ⟨SV_G_CTL.off g, 25, 20⟩
abbrev SV_G_CTL.EXPECT (g : Nat) : Fld := ⟨SV_G_CTL.off g, 13, 0⟩
/-- SV_Gg_STAT — offset 0x0104 + 8 × g, 32 bits, class C (spec/08_sieve_decoder.md). -/
abbrev SV_G_STAT.off (g : Nat) : Nat := 0xd0104 + 0x8 * g
abbrev SV_G_STAT.WEIGHT (g : Nat) : Fld := ⟨SV_G_STAT.off g, 31, 16⟩
abbrev SV_G_STAT.BUSY (g : Nat) : Fld := ⟨SV_G_STAT.off g, 15, 15⟩
abbrev SV_G_STAT.QUEUE (g : Nat) : Fld := ⟨SV_G_STAT.off g, 14, 10⟩
abbrev SV_G_STAT.MAXDEC (g : Nat) : Fld := ⟨SV_G_STAT.off g, 9, 0⟩
/-- SV_HMAPpq — offset 0x0400 + 4 × (16 × p + q), p = 0 to 5, q = 0 to 15, 32 bits, class C (spec/08_sieve_decoder.md). -/
abbrev SV_HMAP.off (p : Nat) (q : Nat) : Nat := 0xd0400 + 0x40 * p + 0x4 * q
abbrev SV_HMAP.EN (p : Nat) (q : Nat) : Fld := ⟨SV_HMAP.off p q, 31, 31⟩
abbrev SV_HMAP.GRAPH (p : Nat) (q : Nat) : Fld := ⟨SV_HMAP.off p q, 30, 27⟩
abbrev SV_HMAP.OFFSET (p : Nat) (q : Nat) : Fld := ⟨SV_HMAP.off p q, 12, 0⟩
/-- SV_OUTk — offset 0x0600 + 4 × k, k = 0 to 63, 32 bits, class C (spec/08_sieve_decoder.md). -/
abbrev SV_OUT.off (k : Nat) : Nat := 0xd0600 + 0x4 * k
abbrev SV_OUT.EN (k : Nat) : Fld := ⟨SV_OUT.off k, 31, 31⟩
abbrev SV_OUT.GRAPH (k : Nat) : Fld := ⟨SV_OUT.off k, 30, 27⟩
abbrev SV_OUT.OBS (k : Nat) : Fld := ⟨SV_OUT.off k, 2, 0⟩
/-- SV_MAPs — offset 0x8000 + 4 × s, s = 0 to 2,047, 32 bits, class C (spec/08_sieve_decoder.md). -/
abbrev SV_MAP.off (s : Nat) : Nat := 0xd8000 + 0x4 * s
abbrev SV_MAP.EN (s : Nat) : Fld := ⟨SV_MAP.off s, 31, 31⟩
abbrev SV_MAP.GRAPH (s : Nat) : Fld := ⟨SV_MAP.off s, 30, 27⟩
abbrev SV_MAP.DIFF (s : Nat) : Fld := ⟨SV_MAP.off s, 26, 26⟩
abbrev SV_MAP.DET (s : Nat) : Fld := ⟨SV_MAP.off s, 12, 0⟩
/-- ACQ_CTL — offset 0x0000, 32 bits, class C (spec/09_witness_pool_and_triggers.md). -/
abbrev ACQ_CTL.off : Nat := 0x1000000
abbrev ACQ_CTL.RUN : Fld := ⟨ACQ_CTL.off, 31, 31⟩
abbrev ACQ_CTL.STREAM : Fld := ⟨ACQ_CTL.off, 30, 30⟩
abbrev ACQ_CTL.TDELAY : Fld := ⟨ACQ_CTL.off, 23, 16⟩
/-- ACQ_ICMASK — offset 0x0004, 32 bits, class C (spec/09_witness_pool_and_triggers.md). -/
abbrev ACQ_ICMASK.off : Nat := 0x1000004
abbrev ACQ_ICMASK.MASK : Fld := ⟨ACQ_ICMASK.off, 31, 0⟩
/-- ACQ_STATUS — offset 0x0008, 32 bits, class C (spec/09_witness_pool_and_triggers.md). -/
abbrev ACQ_STATUS.off : Nat := 0x1000008
abbrev ACQ_STATUS.SPILLING : Fld := ⟨ACQ_STATUS.off, 31, 31⟩
abbrev ACQ_STATUS.WR : Fld := ⟨ACQ_STATUS.off, 19, 0⟩
/-- ACQ_PRD — offset 0x000C, 32 bits, class C (spec/09_witness_pool_and_triggers.md). -/
abbrev ACQ_PRD.off : Nat := 0x100000c
abbrev ACQ_PRD.PRD : Fld := ⟨ACQ_PRD.off, 19, 0⟩
/-- ACQ_ERR — offset 0x0010, 32 bits, class C (spec/09_witness_pool_and_triggers.md). -/
abbrev ACQ_ERR.off : Nat := 0x1000010
abbrev ACQ_ERR.PRD_BAD : Fld := ⟨ACQ_ERR.off, 5, 5⟩
abbrev ACQ_ERR.LEV_BAD : Fld := ⟨ACQ_ERR.off, 4, 4⟩
abbrev ACQ_ERR.REC_FULL : Fld := ⟨ACQ_ERR.off, 3, 3⟩
abbrev ACQ_ERR.SPILL : Fld := ⟨ACQ_ERR.off, 2, 2⟩
abbrev ACQ_ERR.MASK_BAD : Fld := ⟨ACQ_ERR.off, 1, 1⟩
abbrev ACQ_ERR.MODE_BAD : Fld := ⟨ACQ_ERR.off, 0, 0⟩
/-- ACQ_CNT — offset 0x0014, 32 bits, class C (spec/09_witness_pool_and_triggers.md). -/
abbrev ACQ_CNT.off : Nat := 0x1000014
abbrev ACQ_CNT.SPILL_P : Fld := ⟨ACQ_CNT.off, 31, 16⟩
abbrev ACQ_CNT.REC_FULL : Fld := ⟨ACQ_CNT.off, 15, 0⟩
/-- ACQ_REC_WR — offset 0x0018, 32 bits, class C (spec/09_witness_pool_and_triggers.md). -/
abbrev ACQ_REC_WR.off : Nat := 0x1000018
abbrev ACQ_REC_WR.WR : Fld := ⟨ACQ_REC_WR.off, 8, 0⟩
/-- ACQ_REC_RD — offset 0x001C, 32 bits, class C (spec/09_witness_pool_and_triggers.md). -/
abbrev ACQ_REC_RD.off : Nat := 0x100001c
abbrev ACQ_REC_RD.RD : Fld := ⟨ACQ_REC_RD.off, 8, 0⟩
/-- TUn_CTL — offset 0x0100 + 0x20 × n, n = 0 to 7, 32 bits, class C (spec/09_witness_pool_and_triggers.md). -/
abbrev TU_CTL.off (n : Nat) : Nat := 0x1000100 + 0x20 * n
abbrev TU_CTL.ARM (n : Nat) : Fld := ⟨TU_CTL.off n, 31, 31⟩
abbrev TU_CTL.MODE (n : Nat) : Fld := ⟨TU_CTL.off n, 30, 30⟩
abbrev TU_CTL.STOPM (n : Nat) : Fld := ⟨TU_CTL.off n, 29, 29⟩
abbrev TU_CTL.STOPU (n : Nat) : Fld := ⟨TU_CTL.off n, 28, 26⟩
abbrev TU_CTL.ENABLE (n : Nat) : Fld := ⟨TU_CTL.off n, 25, 20⟩
abbrev TU_CTL.POL (n : Nat) : Fld := ⟨TU_CTL.off n, 19, 19⟩
abbrev TU_CTL.IC (n : Nat) : Fld := ⟨TU_CTL.off n, 18, 14⟩
abbrev TU_CTL.MKI (n : Nat) : Fld := ⟨TU_CTL.off n, 13, 10⟩
abbrev TU_CTL.MKE (n : Nat) : Fld := ⟨TU_CTL.off n, 9, 9⟩
abbrev TU_CTL.LTAG (n : Nat) : Fld := ⟨TU_CTL.off n, 8, 5⟩
abbrev TU_CTL.PIN (n : Nat) : Fld := ⟨TU_CTL.off n, 4, 4⟩
/-- TUn_LEV — offset 0x0104 + 0x20 × n, 32 bits, class C (spec/09_witness_pool_and_triggers.md). -/
abbrev TU_LEV.off (n : Nat) : Nat := 0x1000104 + 0x20 * n
abbrev TU_LEV.HI (n : Nat) : Fld := ⟨TU_LEV.off n, 27, 16⟩
abbrev TU_LEV.LO (n : Nat) : Fld := ⟨TU_LEV.off n, 11, 0⟩
/-- TUn_WID — offset 0x0108 + 0x20 × n, 32 bits, class C (spec/09_witness_pool_and_triggers.md). -/
abbrev TU_WID.off (n : Nat) : Nat := 0x1000108 + 0x20 * n
abbrev TU_WID.WMAX (n : Nat) : Fld := ⟨TU_WID.off n, 31, 16⟩
abbrev TU_WID.WMIN (n : Nat) : Fld := ⟨TU_WID.off n, 15, 0⟩
/-- TUn_SLW — offset 0x010C + 0x20 × n, 32 bits, class C (spec/09_witness_pool_and_triggers.md). -/
abbrev TU_SLW.off (n : Nat) : Nat := 0x100010c + 0x20 * n
abbrev TU_SLW.SMAX (n : Nat) : Fld := ⟨TU_SLW.off n, 31, 16⟩
abbrev TU_SLW.SMIN (n : Nat) : Fld := ⟨TU_SLW.off n, 15, 0⟩
/-- TUn_TOUT — offset 0x0110 + 0x20 × n, 32 bits, class C (spec/09_witness_pool_and_triggers.md). -/
abbrev TU_TOUT.off (n : Nat) : Nat := 0x1000110 + 0x20 * n
abbrev TU_TOUT.TOUT (n : Nat) : Fld := ⟨TU_TOUT.off n, 23, 0⟩
/-- TUn_WIN — offset 0x0114 + 0x20 × n, 32 bits, class C (spec/09_witness_pool_and_triggers.md). -/
abbrev TU_WIN.off (n : Nat) : Nat := 0x1000114 + 0x20 * n
abbrev TU_WIN.PRE (n : Nat) : Fld := ⟨TU_WIN.off n, 31, 20⟩
abbrev TU_WIN.POST (n : Nat) : Fld := ⟨TU_WIN.off n, 19, 0⟩
/-- TUn_LIM — offset 0x0118 + 0x20 × n, 32 bits, class C (spec/09_witness_pool_and_triggers.md). -/
abbrev TU_LIM.off (n : Nat) : Nat := 0x1000118 + 0x20 * n
abbrev TU_LIM.LIMIT (n : Nat) : Fld := ⟨TU_LIM.off n, 31, 16⟩
abbrev TU_LIM.FTAG (n : Nat) : Fld := ⟨TU_LIM.off n, 15, 12⟩
abbrev TU_LIM.FWD (n : Nat) : Fld := ⟨TU_LIM.off n, 11, 6⟩
abbrev TU_LIM.REARM (n : Nat) : Fld := ⟨TU_LIM.off n, 5, 0⟩
/-- TUn_CNT — offset 0x011C + 0x20 × n, 32 bits, class C (spec/09_witness_pool_and_triggers.md). -/
abbrev TU_CNT.off (n : Nat) : Nat := 0x100011c + 0x20 * n
abbrev TU_CNT.BUSY (n : Nat) : Fld := ⟨TU_CNT.off n, 31, 16⟩
abbrev TU_CNT.STRAY_STOP (n : Nat) : Fld := ⟨TU_CNT.off n, 15, 0⟩
/-- LNK_NODE — offset 0x0000, 32 bits, class B (spec/10_link_ports.md). -/
abbrev LNK_NODE.off : Nat := 0xa0000
abbrev LNK_NODE.NODE : Fld := ⟨LNK_NODE.off, 15, 0⟩
/-- LNK_GERR — offset 0x0004, 32 bits, class C (spec/10_link_ports.md). -/
abbrev LNK_GERR.off : Nat := 0xa0004
abbrev LNK_GERR.BADTYPE : Fld := ⟨LNK_GERR.off, 1, 1⟩
abbrev LNK_GERR.ROUTE_BAD : Fld := ⟨LNK_GERR.off, 0, 0⟩
/-- LNK_Pp_CTL — offset 0x0100 + 0x100 × p, p = 0 to 5, 32 bits, class B (spec/10_link_ports.md). -/
abbrev LNK_P_CTL.off (p : Nat) : Nat := 0xa0100 + 0x100 * p
abbrev LNK_P_CTL.EN (p : Nat) : Fld := ⟨LNK_P_CTL.off p, 31, 31⟩
abbrev LNK_P_CTL.PROT (p : Nat) : Fld := ⟨LNK_P_CTL.off p, 30, 30⟩
abbrev LNK_P_CTL.SRST (p : Nat) : Fld := ⟨LNK_P_CTL.off p, 29, 29⟩
abbrev LNK_P_CTL.TXPRE (p : Nat) : Fld := ⟨LNK_P_CTL.off p, 3, 0⟩
/-- LNK_Pp_STAT — offset 0x0104 + 0x100 × p, 32 bits, class E (spec/10_link_ports.md). -/
abbrev LNK_P_STAT.off (p : Nat) : Nat := 0xa0104 + 0x100 * p
abbrev LNK_P_STAT.STATE (p : Nat) : Fld := ⟨LNK_P_STAT.off p, 31, 29⟩
abbrev LNK_P_STAT.MODE (p : Nat) : Fld := ⟨LNK_P_STAT.off p, 28, 28⟩
abbrev LNK_P_STAT.WLANES (p : Nat) : Fld := ⟨LNK_P_STAT.off p, 27, 24⟩
abbrev LNK_P_STAT.DESKEW (p : Nat) : Fld := ⟨LNK_P_STAT.off p, 23, 19⟩
abbrev LNK_P_STAT.PEER_PORT (p : Nat) : Fld := ⟨LNK_P_STAT.off p, 18, 16⟩
abbrev LNK_P_STAT.PEER_NODE (p : Nat) : Fld := ⟨LNK_P_STAT.off p, 15, 0⟩
/-- LNK_Pp_ERR — offset 0x0108 + 0x100 × p, 32 bits, class E (spec/10_link_ports.md). -/
abbrev LNK_P_ERR.off (p : Nat) : Nat := 0xa0108 + 0x100 * p
abbrev LNK_P_ERR.TRAIN_TO (p : Nat) : Fld := ⟨LNK_P_ERR.off p, 8, 8⟩
abbrev LNK_P_ERR.PEER_SELF (p : Nat) : Fld := ⟨LNK_P_ERR.off p, 7, 7⟩
abbrev LNK_P_ERR.DOWN (p : Nat) : Fld := ⟨LNK_P_ERR.off p, 6, 6⟩
abbrev LNK_P_ERR.LANE_LOST (p : Nat) : Fld := ⟨LNK_P_ERR.off p, 5, 5⟩
abbrev LNK_P_ERR.DUP_LOST (p : Nat) : Fld := ⟨LNK_P_ERR.off p, 4, 4⟩
abbrev LNK_P_ERR.REPLAY (p : Nat) : Fld := ⟨LNK_P_ERR.off p, 3, 3⟩
abbrev LNK_P_ERR.FEC_UNCORR (p : Nat) : Fld := ⟨LNK_P_ERR.off p, 2, 2⟩
abbrev LNK_P_ERR.SKEW_BIG (p : Nat) : Fld := ⟨LNK_P_ERR.off p, 1, 1⟩
abbrev LNK_P_ERR.PAT_BUSY (p : Nat) : Fld := ⟨LNK_P_ERR.off p, 0, 0⟩
/-- LNK_Pp_CNT0 — offset 0x010C + 0x100 × p, 32 bits, class E (spec/10_link_ports.md). -/
abbrev LNK_P_CNT0.off (p : Nat) : Nat := 0xa010c + 0x100 * p
abbrev LNK_P_CNT0.REPLAYS (p : Nat) : Fld := ⟨LNK_P_CNT0.off p, 31, 16⟩
abbrev LNK_P_CNT0.DUP_LOST (p : Nat) : Fld := ⟨LNK_P_CNT0.off p, 15, 0⟩
/-- LNK_Pp_CNT1 — offset 0x0110 + 0x100 × p, 32 bits, class E (spec/10_link_ports.md). -/
abbrev LNK_P_CNT1.off (p : Nat) : Nat := 0xa0110 + 0x100 * p
abbrev LNK_P_CNT1.FEC_CORR (p : Nat) : Fld := ⟨LNK_P_CNT1.off p, 31, 16⟩
abbrev LNK_P_CNT1.FEC_UNCORR (p : Nat) : Fld := ⟨LNK_P_CNT1.off p, 15, 8⟩
abbrev LNK_P_CNT1.LANE_LOSSES (p : Nat) : Fld := ⟨LNK_P_CNT1.off p, 7, 4⟩
abbrev LNK_P_CNT1.RETRAINS (p : Nat) : Fld := ⟨LNK_P_CNT1.off p, 3, 0⟩
/-- LNK_Pp_INJ — offset 0x0114 + 0x100 × p, 32 bits, class E (spec/10_link_ports.md). -/
abbrev LNK_P_INJ.off (p : Nat) : Nat := 0xa0114 + 0x100 * p
abbrev LNK_P_INJ.FLIT (p : Nat) : Fld := ⟨LNK_P_INJ.off p, 31, 31⟩
abbrev LNK_P_INJ.DROP (p : Nat) : Fld := ⟨LNK_P_INJ.off p, 30, 30⟩
abbrev LNK_P_INJ.LANE (p : Nat) : Fld := ⟨LNK_P_INJ.off p, 29, 28⟩
abbrev LNK_P_INJ.EVERY (p : Nat) : Fld := ⟨LNK_P_INJ.off p, 15, 0⟩
/-- LNK_Pp_MAP — offset 0x0118 + 0x100 × p, 32 bits, class B (spec/10_link_ports.md). -/
abbrev LNK_P_MAP.off (p : Nat) : Nat := 0xa0118 + 0x100 * p
abbrev LNK_P_MAP.MAP (p : Nat) : Fld := ⟨LNK_P_MAP.off p, 15, 0⟩
/-- LNK_PpLq_STAT — offset 0x0140 + 0x100 × p + 0x10 × q, q = 0 to 3, 32 bits, class E (spec/10_link_ports.md). -/
abbrev LNK_PL_STAT.off (p : Nat) (q : Nat) : Nat := 0xa0140 + 0x100 * p + 0x10 * q
abbrev LNK_PL_STAT.LOCK (p : Nat) (q : Nat) : Fld := ⟨LNK_PL_STAT.off p q, 31, 31⟩
abbrev LNK_PL_STAT.ALIGNED (p : Nat) (q : Nat) : Fld := ⟨LNK_PL_STAT.off p q, 30, 30⟩
abbrev LNK_PL_STAT.CHK_LOCK (p : Nat) (q : Nat) : Fld := ⟨LNK_PL_STAT.off p q, 29, 29⟩
abbrev LNK_PL_STAT.SLIP (p : Nat) (q : Nat) : Fld := ⟨LNK_PL_STAT.off p q, 28, 23⟩
abbrev LNK_PL_STAT.HDR_ERR (p : Nat) (q : Nat) : Fld := ⟨LNK_PL_STAT.off p q, 22, 16⟩
abbrev LNK_PL_STAT.SKEW (p : Nat) (q : Nat) : Fld := ⟨LNK_PL_STAT.off p q, 15, 0⟩
/-- LNK_PpLq_PAT — offset 0x0144 + 0x100 × p + 0x10 × q, 32 bits, class E (spec/10_link_ports.md). -/
abbrev LNK_PL_PAT.off (p : Nat) (q : Nat) : Nat := 0xa0144 + 0x100 * p + 0x10 * q
abbrev LNK_PL_PAT.GEN (p : Nat) (q : Nat) : Fld := ⟨LNK_PL_PAT.off p q, 31, 29⟩
abbrev LNK_PL_PAT.CHK (p : Nat) (q : Nat) : Fld := ⟨LNK_PL_PAT.off p q, 28, 26⟩
abbrev LNK_PL_PAT.PRECODE (p : Nat) (q : Nat) : Fld := ⟨LNK_PL_PAT.off p q, 25, 25⟩
abbrev LNK_PL_PAT.INJ1 (p : Nat) (q : Nat) : Fld := ⟨LNK_PL_PAT.off p q, 24, 24⟩
/-- LNK_PpLq_PERR — offset 0x0148 + 0x100 × p + 0x10 × q, 32 bits, class E (spec/10_link_ports.md). -/
abbrev LNK_PL_PERR.off (p : Nat) (q : Nat) : Nat := 0xa0148 + 0x100 * p + 0x10 * q
abbrev LNK_PL_PERR.ERRS (p : Nat) (q : Nat) : Fld := ⟨LNK_PL_PERR.off p q, 31, 0⟩
/-- PCI_STAT — PCI offset 0x0000, 32 bits, class C (spec/11_host_port_and_dma.md). -/
abbrev PCI_STAT.off : Nat := 0xb0000
abbrev PCI_STAT.DL_UP : Fld := ⟨PCI_STAT.off, 31, 31⟩
abbrev PCI_STAT.SPEED : Fld := ⟨PCI_STAT.off, 30, 28⟩
abbrev PCI_STAT.WIDTH : Fld := ⟨PCI_STAT.off, 27, 24⟩
abbrev PCI_STAT.MPS : Fld := ⟨PCI_STAT.off, 23, 21⟩
abbrev PCI_STAT.MRRS : Fld := ⟨PCI_STAT.off, 20, 18⟩
abbrev PCI_STAT.TAG10 : Fld := ⟨PCI_STAT.off, 17, 17⟩
/-- PCI_RLY_CFG — PCI offset 0x0010, 32 bits, class C (spec/11_host_port_and_dma.md). -/
abbrev PCI_RLY_CFG.off : Nat := 0xb0010
abbrev PCI_RLY_CFG.TMO : Fld := ⟨PCI_RLY_CFG.off, 31, 16⟩
abbrev PCI_RLY_CFG.LATE : Fld := ⟨PCI_RLY_CFG.off, 15, 0⟩
/-- PCI_RLYs_ROUTE0 — PCI offset 0x0100 + 0x20 × s, s = 0 to 15, 32 bits, class C (spec/11_host_port_and_dma.md). -/
abbrev PCI_RLY_ROUTE0.off (s : Nat) : Nat := 0xb0100 + 0x20 * s
abbrev PCI_RLY_ROUTE0.E0_9 (s : Nat) : Fld := ⟨PCI_RLY_ROUTE0.off s, 29, 0⟩
/-- PCI_RLYs_ROUTE1 — PCI offset 0x0104 + 0x20 × s, 32 bits, class C (spec/11_host_port_and_dma.md). -/
abbrev PCI_RLY_ROUTE1.off (s : Nat) : Nat := 0xb0104 + 0x20 * s
abbrev PCI_RLY_ROUTE1.RLEN (s : Nat) : Fld := ⟨PCI_RLY_ROUTE1.off s, 31, 28⟩
abbrev PCI_RLY_ROUTE1.E10_13 (s : Nat) : Fld := ⟨PCI_RLY_ROUTE1.off s, 11, 0⟩
/-- PCI_RLYs_ADDR — PCI offset 0x0108 + 0x20 × s, 32 bits, class C (spec/11_host_port_and_dma.md). -/
abbrev PCI_RLY_ADDR.off (s : Nat) : Nat := 0xb0108 + 0x20 * s
abbrev PCI_RLY_ADDR.SPACE (s : Nat) : Fld := ⟨PCI_RLY_ADDR.off s, 31, 30⟩
abbrev PCI_RLY_ADDR.OFFSET (s : Nat) : Fld := ⟨PCI_RLY_ADDR.off s, 29, 0⟩
/-- PCI_RLYs_DATA — PCI offset 0x010C + 0x20 × s, 32 bits, class C (spec/11_host_port_and_dma.md). -/
abbrev PCI_RLY_DATA.off (s : Nat) : Nat := 0xb010c + 0x20 * s
abbrev PCI_RLY_DATA.DATA (s : Nat) : Fld := ⟨PCI_RLY_DATA.off s, 31, 0⟩
/-- PCI_RLYs_CTL — PCI offset 0x0110 + 0x20 × s, 32 bits, class C (spec/11_host_port_and_dma.md). -/
abbrev PCI_RLY_CTL.off (s : Nat) : Nat := 0xb0110 + 0x20 * s
abbrev PCI_RLY_CTL.GO (s : Nat) : Fld := ⟨PCI_RLY_CTL.off s, 31, 31⟩
abbrev PCI_RLY_CTL.OP (s : Nat) : Fld := ⟨PCI_RLY_CTL.off s, 30, 30⟩
abbrev PCI_RLY_CTL.BE (s : Nat) : Fld := ⟨PCI_RLY_CTL.off s, 29, 26⟩
abbrev PCI_RLY_CTL.STATE (s : Nat) : Fld := ⟨PCI_RLY_CTL.off s, 25, 24⟩
abbrev PCI_RLY_CTL.STATUS (s : Nat) : Fld := ⟨PCI_RLY_CTL.off s, 23, 16⟩
abbrev PCI_RLY_CTL.SEQ (s : Nat) : Fld := ⟨PCI_RLY_CTL.off s, 15, 10⟩
/-- DMA_LATECPL — DMA offset 0x0004, 32 bits, class C (spec/11_host_port_and_dma.md). -/
abbrev DMA_LATECPL.off : Nat := 0x50004
abbrev DMA_LATECPL.LATE : Fld := ⟨DMA_LATECPL.off, 15, 0⟩
/-- DMA_Cc_CFG — DMA offset 0x0100 + 0x40 × c, c = 0 to 31, 32 bits, class C (spec/11_host_port_and_dma.md). -/
abbrev DMA_C_CFG.off (c : Nat) : Nat := 0x50100 + 0x40 * c
abbrev DMA_C_CFG.PRI (c : Nat) : Fld := ⟨DMA_C_CFG.off c, 31, 31⟩
abbrev DMA_C_CFG.NSP0 (c : Nat) : Fld := ⟨DMA_C_CFG.off c, 30, 30⟩
abbrev DMA_C_CFG.REQ (c : Nat) : Fld := ⟨DMA_C_CFG.off c, 7, 0⟩
/-- DMA_Cc_CTL — DMA offset 0x0104 + 0x40 × c, 32 bits, class C (spec/11_host_port_and_dma.md). -/
abbrev DMA_C_CTL.off (c : Nat) : Nat := 0x50104 + 0x40 * c
abbrev DMA_C_CTL.START (c : Nat) : Fld := ⟨DMA_C_CTL.off c, 31, 31⟩
abbrev DMA_C_CTL.STOP (c : Nat) : Fld := ⟨DMA_C_CTL.off c, 30, 30⟩
abbrev DMA_C_CTL.ABORT (c : Nat) : Fld := ⟨DMA_C_CTL.off c, 29, 29⟩
/-- DMA_Cc_STAT — DMA offset 0x0108 + 0x40 × c, 32 bits, class C (spec/11_host_port_and_dma.md). -/
abbrev DMA_C_STAT.off (c : Nat) : Nat := 0x50108 + 0x40 * c
abbrev DMA_C_STAT.STATE (c : Nat) : Fld := ⟨DMA_C_STAT.off c, 31, 29⟩
abbrev DMA_C_STAT.CAUSE (c : Nat) : Fld := ⟨DMA_C_STAT.off c, 28, 26⟩
/-- DMA_Cc_DESC_LO — DMA offset 0x010C + 0x40 × c, 32 bits, class C (spec/11_host_port_and_dma.md). -/
abbrev DMA_C_DESC_LO.off (c : Nat) : Nat := 0x5010c + 0x40 * c
abbrev DMA_C_DESC_LO.DESC_LO (c : Nat) : Fld := ⟨DMA_C_DESC_LO.off c, 31, 0⟩
/-- DMA_Cc_DESC_HI — DMA offset 0x0110 + 0x40 × c, 32 bits, class C (spec/11_host_port_and_dma.md). -/
abbrev DMA_C_DESC_HI.off (c : Nat) : Nat := 0x50110 + 0x40 * c
abbrev DMA_C_DESC_HI.DESC_HI (c : Nat) : Fld := ⟨DMA_C_DESC_HI.off c, 31, 0⟩
/-- DMA_Cc_HOPLIM — DMA offset 0x0114 + 0x40 × c, 32 bits, class C (spec/11_host_port_and_dma.md). -/
abbrev DMA_C_HOPLIM.off (c : Nat) : Nat := 0x50114 + 0x40 * c
abbrev DMA_C_HOPLIM.LIMIT (c : Nat) : Fld := ⟨DMA_C_HOPLIM.off c, 15, 0⟩
/-- DMA_Cc_HOPS — DMA offset 0x0118 + 0x40 × c, 32 bits, class C (spec/11_host_port_and_dma.md). -/
abbrev DMA_C_HOPS.off (c : Nat) : Nat := 0x50118 + 0x40 * c
abbrev DMA_C_HOPS.HOPS (c : Nat) : Fld := ⟨DMA_C_HOPS.off c, 31, 0⟩
/-- DMA_Cc_FADDR_LO — DMA offset 0x011C + 0x40 × c, 32 bits, class C (spec/11_host_port_and_dma.md). -/
abbrev DMA_C_FADDR_LO.off (c : Nat) : Nat := 0x5011c + 0x40 * c
abbrev DMA_C_FADDR_LO.FADDR_LO (c : Nat) : Fld := ⟨DMA_C_FADDR_LO.off c, 31, 0⟩
/-- DMA_Cc_FADDR_HI — DMA offset 0x0120 + 0x40 × c, 32 bits, class C (spec/11_host_port_and_dma.md). -/
abbrev DMA_C_FADDR_HI.off (c : Nat) : Nat := 0x50120 + 0x40 * c
abbrev DMA_C_FADDR_HI.FADDR_HI (c : Nat) : Fld := ⟨DMA_C_FADDR_HI.off c, 31, 0⟩
/-- DMA_Cc_FCNT — DMA offset 0x0124 + 0x40 × c, 32 bits, class C (spec/11_host_port_and_dma.md). -/
abbrev DMA_C_FCNT.off (c : Nat) : Nat := 0x50124 + 0x40 * c
abbrev DMA_C_FCNT.FCNT (c : Nat) : Fld := ⟨DMA_C_FCNT.off c, 31, 0⟩
/-- DMA_ROUTEr_LO — DMA offset 0x0A00 + 8 × r, r = 0 to 15, 32 bits, class C (spec/11_host_port_and_dma.md). -/
abbrev DMA_ROUTE_LO.off (r : Nat) : Nat := 0x50a00 + 0x8 * r
abbrev DMA_ROUTE_LO.E0_9 (r : Nat) : Fld := ⟨DMA_ROUTE_LO.off r, 29, 0⟩
/-- DMA_ROUTEr_HI — DMA offset 0x0A04 + 8 × r, 32 bits, class C (spec/11_host_port_and_dma.md). -/
abbrev DMA_ROUTE_HI.off (r : Nat) : Nat := 0x50a04 + 0x8 * r
abbrev DMA_ROUTE_HI.EN (r : Nat) : Fld := ⟨DMA_ROUTE_HI.off r, 31, 31⟩
abbrev DMA_ROUTE_HI.RLEN (r : Nat) : Fld := ⟨DMA_ROUTE_HI.off r, 27, 24⟩
abbrev DMA_ROUTE_HI.E10_13 (r : Nat) : Fld := ⟨DMA_ROUTE_HI.off r, 11, 0⟩
/-- RIL_ERR — offset 0x0000, 32 bits, class A (spec/12_rill_event_network.md). -/
abbrev RIL_ERR.off : Nat := 0x40000
abbrev RIL_ERR.OWN_BAD : Fld := ⟨RIL_ERR.off, 2, 2⟩
abbrev RIL_ERR.LOOP_GUARD : Fld := ⟨RIL_ERR.off, 1, 1⟩
abbrev RIL_ERR.ROUTE_CYCLE : Fld := ⟨RIL_ERR.off, 0, 0⟩
/-- RIL_ERRINFO — offset 0x0004, 32 bits, class A (spec/12_rill_event_network.md). -/
abbrev RIL_ERRINFO.off : Nat := 0x40004
abbrev RIL_ERRINFO.VALID : Fld := ⟨RIL_ERRINFO.off, 31, 31⟩
abbrev RIL_ERRINFO.CAUSE : Fld := ⟨RIL_ERRINFO.off, 30, 30⟩
abbrev RIL_ERRINFO.REG : Fld := ⟨RIL_ERRINFO.off, 29, 28⟩
abbrev RIL_ERRINFO.INDEX : Fld := ⟨RIL_ERRINFO.off, 9, 0⟩
/-- RIL_GUARD — offset 0x0008, 32 bits, class A (spec/12_rill_event_network.md). -/
abbrev RIL_GUARD.off : Nat := 0x40008
abbrev RIL_GUARD.VALID : Fld := ⟨RIL_GUARD.off, 31, 31⟩
abbrev RIL_GUARD.SRC : Fld := ⟨RIL_GUARD.off, 9, 0⟩
/-- RIL_SWRAISE0 — offset 0x0010, 32 bits, class A (spec/12_rill_event_network.md). -/
abbrev RIL_SWRAISE0.off : Nat := 0x40010
abbrev RIL_SWRAISE0.RAISE : Fld := ⟨RIL_SWRAISE0.off, 31, 0⟩
/-- RIL_SWRAISE1 — offset 0x0014, 32 bits, class A (spec/12_rill_event_network.md). -/
abbrev RIL_SWRAISE1.off : Nat := 0x40014
abbrev RIL_SWRAISE1.RAISE : Fld := ⟨RIL_SWRAISE1.off, 31, 0⟩
/-- RIL_RLr — offset 0x0100 + 4 × r, r = 0 to 255, 32 bits, class A (spec/12_rill_event_network.md). -/
abbrev RIL_RL.off (r : Nat) : Nat := 0x40100 + 0x4 * r
abbrev RIL_RL.OWNER (r : Nat) : Fld := ⟨RIL_RL.off r, 31, 30⟩
abbrev RIL_RL.SEC (r : Nat) : Fld := ⟨RIL_RL.off r, 29, 29⟩
abbrev RIL_RL.HIT (r : Nat) : Fld := ⟨RIL_RL.off r, 28, 28⟩
abbrev RIL_RL.MSI_EN (r : Nat) : Fld := ⟨RIL_RL.off r, 27, 27⟩
abbrev RIL_RL.VEC (r : Nat) : Fld := ⟨RIL_RL.off r, 7, 0⟩
/-- RIL_SRCs — offset 0x1000 + 4 × s, s = 0 to 1,023, 32 bits, class A (spec/12_rill_event_network.md). -/
abbrev RIL_SRC.off (s : Nat) : Nat := 0x41000 + 0x4 * s
abbrev RIL_SRC.EN (s : Nat) : Fld := ⟨RIL_SRC.off s, 31, 31⟩
abbrev RIL_SRC.GUARDED (s : Nat) : Fld := ⟨RIL_SRC.off s, 30, 30⟩
abbrev RIL_SRC.RILL (s : Nat) : Fld := ⟨RIL_SRC.off s, 7, 0⟩
/-- RIL_TASKi — offset 0x2000 + 4 × i, i = 0 to 511, 32 bits, class A (spec/12_rill_event_network.md). -/
abbrev RIL_TASK.off (i : Nat) : Nat := 0x42000 + 0x4 * i
abbrev RIL_TASK.EN (i : Nat) : Fld := ⟨RIL_TASK.off i, 31, 31⟩
abbrev RIL_TASK.COAL (i : Nat) : Fld := ⟨RIL_TASK.off i, 15, 8⟩
abbrev RIL_TASK.RILL (i : Nat) : Fld := ⟨RIL_TASK.off i, 7, 0⟩
/-- TDC_CTL — offset 0x0000, 32 bits, class C (spec/13_markers_stamps_cycle_lock.md). -/
abbrev TDC_CTL.off : Nat := 0x30000
abbrev TDC_CTL.TB : Fld := ⟨TDC_CTL.off, 6, 6⟩
abbrev TDC_CTL.SYNC : Fld := ⟨TDC_CTL.off, 5, 0⟩
/-- TDC_STAT — offset 0x0004, 32 bits, class C (spec/13_markers_stamps_cycle_lock.md). -/
abbrev TDC_STAT.off : Nat := 0x30004
abbrev TDC_STAT.DROP : Fld := ⟨TDC_STAT.off, 31, 31⟩
abbrev TDC_STAT.WR : Fld := ⟨TDC_STAT.off, 10, 0⟩
/-- TDC_RD — offset 0x0008, 32 bits, class C (spec/13_markers_stamps_cycle_lock.md). -/
abbrev TDC_RD.off : Nat := 0x30008
abbrev TDC_RD.RD : Fld := ⟨TDC_RD.off, 10, 0⟩
/-- TDC_CNT — offset 0x000C, 32 bits, class C (spec/13_markers_stamps_cycle_lock.md). -/
abbrev TDC_CNT.off : Nat := 0x3000c
abbrev TDC_CNT.DROP : Fld := ⟨TDC_CNT.off, 15, 0⟩
/-- MK_INn_CFG — offset 0x0100 + 8 × n, n = 0 to 15, 32 bits, class C (spec/13_markers_stamps_cycle_lock.md). -/
abbrev MK_IN_CFG.off (n : Nat) : Nat := 0x30100 + 0x8 * n
abbrev MK_IN_CFG.EDGE (n : Nat) : Fld := ⟨MK_IN_CFG.off n, 31, 30⟩
abbrev MK_IN_CFG.RING (n : Nat) : Fld := ⟨MK_IN_CFG.off n, 29, 29⟩
abbrev MK_IN_CFG.HOLDOFF (n : Nat) : Fld := ⟨MK_IN_CFG.off n, 11, 0⟩
/-- MK_INn_CNT — offset 0x0104 + 8 × n, 32 bits, class C (spec/13_markers_stamps_cycle_lock.md). -/
abbrev MK_IN_CNT.off (n : Nat) : Nat := 0x30104 + 0x8 * n
abbrev MK_IN_CNT.LOST (n : Nat) : Fld := ⟨MK_IN_CNT.off n, 31, 16⟩
abbrev MK_IN_CNT.HELD (n : Nat) : Fld := ⟨MK_IN_CNT.off n, 15, 0⟩
/-- MK_OUTk_CFG — offset 0x0200 + 4 × k, k = 0 to 15, 32 bits, class C (spec/13_markers_stamps_cycle_lock.md). -/
abbrev MK_OUT_CFG.off (k : Nat) : Nat := 0x30200 + 0x4 * k
abbrev MK_OUT_CFG.SEL (k : Nat) : Fld := ⟨MK_OUT_CFG.off k, 31, 29⟩
abbrev MK_OUT_CFG.INV (k : Nat) : Fld := ⟨MK_OUT_CFG.off k, 28, 28⟩
abbrev MK_OUT_CFG.DLY (k : Nat) : Fld := ⟨MK_OUT_CFG.off k, 27, 22⟩
abbrev MK_OUT_CFG.ARG (k : Nat) : Fld := ⟨MK_OUT_CFG.off k, 7, 0⟩
/-- MK_OUT_LVL — offset 0x0280, 32 bits, class C (spec/13_markers_stamps_cycle_lock.md). -/
abbrev MK_OUT_LVL.off : Nat := 0x30280
abbrev MK_OUT_LVL.LVL : Fld := ⟨MK_OUT_LVL.off, 15, 0⟩
/-- CL_CFG — offset 0x0400, 32 bits, class C (spec/13_markers_stamps_cycle_lock.md). -/
abbrev CL_CFG.off : Nat := 0x30400
abbrev CL_CFG.EN : Fld := ⟨CL_CFG.off, 31, 31⟩
abbrev CL_CFG.HOLD : Fld := ⟨CL_CFG.off, 30, 30⟩
abbrev CL_CFG.MKI : Fld := ⟨CL_CFG.off, 29, 26⟩
abbrev CL_CFG.EDGE : Fld := ⟨CL_CFG.off, 25, 25⟩
abbrev CL_CFG.AVG : Fld := ⟨CL_CFG.off, 24, 22⟩
abbrev CL_CFG.TOL : Fld := ⟨CL_CFG.off, 21, 14⟩
/-- CL_STAT — offset 0x0404, 32 bits, class C (spec/13_markers_stamps_cycle_lock.md). -/
abbrev CL_STAT.off : Nat := 0x30404
abbrev CL_STAT.VALID : Fld := ⟨CL_STAT.off, 31, 31⟩
abbrev CL_STAT.PEND : Fld := ⟨CL_STAT.off, 30, 30⟩
abbrev CL_STAT.NACC : Fld := ⟨CL_STAT.off, 4, 0⟩
/-- CL_ERR — offset 0x0408, 32 bits, class C (spec/13_markers_stamps_cycle_lock.md). -/
abbrev CL_ERR.off : Nat := 0x30408
abbrev CL_ERR.DRIFT : Fld := ⟨CL_ERR.off, 3, 3⟩
abbrev CL_ERR.REJECT : Fld := ⟨CL_ERR.off, 2, 2⟩
abbrev CL_ERR.MISSING : Fld := ⟨CL_ERR.off, 1, 1⟩
abbrev CL_ERR.HOLD_BAD : Fld := ⟨CL_ERR.off, 0, 0⟩
/-- CL_REF_LO — offset 0x040C, 32 bits, class C (spec/13_markers_stamps_cycle_lock.md). -/
abbrev CL_REF_LO.off : Nat := 0x3040c
abbrev CL_REF_LO.REF_LO : Fld := ⟨CL_REF_LO.off, 31, 0⟩
/-- CL_REF_HI — offset 0x0410, 32 bits, class C (spec/13_markers_stamps_cycle_lock.md). -/
abbrev CL_REF_HI.off : Nat := 0x30410
abbrev CL_REF_HI.REF_HI : Fld := ⟨CL_REF_HI.off, 31, 0⟩
/-- CL_PER_LO — offset 0x0414, 32 bits, class C (spec/13_markers_stamps_cycle_lock.md). -/
abbrev CL_PER_LO.off : Nat := 0x30414
abbrev CL_PER_LO.PER_LO : Fld := ⟨CL_PER_LO.off, 31, 0⟩
/-- CL_PER_HI — offset 0x0418, 32 bits, class C (spec/13_markers_stamps_cycle_lock.md). -/
abbrev CL_PER_HI.off : Nat := 0x30418
abbrev CL_PER_HI.REF_FRAC : Fld := ⟨CL_PER_HI.off, 31, 22⟩
abbrev CL_PER_HI.PER_HI : Fld := ⟨CL_PER_HI.off, 15, 0⟩
/-- CL_COMMIT — offset 0x041C, 32 bits, class C (spec/13_markers_stamps_cycle_lock.md). -/
abbrev CL_COMMIT.off : Nat := 0x3041c
abbrev CL_COMMIT.COMMIT : Fld := ⟨CL_COMMIT.off, 31, 31⟩
/-- CL_MEAS — offset 0x0420, 32 bits, class C (spec/13_markers_stamps_cycle_lock.md). -/
abbrev CL_MEAS.off : Nat := 0x30420
abbrev CL_MEAS.PER : Fld := ⟨CL_MEAS.off, 31, 0⟩
/-- CL_WINw — offset 0x0440 + 4 × w, w = 0 to 3, 32 bits, class C (spec/13_markers_stamps_cycle_lock.md). -/
abbrev CL_WIN.off (w : Nat) : Nat := 0x30440 + 0x4 * w
abbrev CL_WIN.START (w : Nat) : Fld := ⟨CL_WIN.off w, 31, 16⟩
abbrev CL_WIN.LEN (w : Nat) : Fld := ⟨CL_WIN.off w, 15, 0⟩
/-- CFG_STAT — offset 0x0000, 32 bits, class B (spec/14_configuration_image_and_boot.md). -/
abbrev CFG_STAT.off : Nat := 0x10000
abbrev CFG_STAT.STATE : Fld := ⟨CFG_STAT.off, 31, 30⟩
abbrev CFG_STAT.SLOT : Fld := ⟨CFG_STAT.off, 29, 29⟩
abbrev CFG_STAT.FELLBACK : Fld := ⟨CFG_STAT.off, 28, 28⟩
abbrev CFG_STAT.SLOWFL : Fld := ⟨CFG_STAT.off, 27, 27⟩
/-- CFG_BOOT — offset 0x0004, 32 bits, class A (spec/14_configuration_image_and_boot.md). -/
abbrev CFG_BOOT.off : Nat := 0x10004
abbrev CFG_BOOT.FAILA : Fld := ⟨CFG_BOOT.off, 31, 31⟩
abbrev CFG_BOOT.FAILB : Fld := ⟨CFG_BOOT.off, 30, 30⟩
abbrev CFG_BOOT.CAUSEA : Fld := ⟨CFG_BOOT.off, 7, 4⟩
abbrev CFG_BOOT.CAUSEB : Fld := ⟨CFG_BOOT.off, 3, 0⟩
/-- CFG_ERR — offset 0x0008, 32 bits, class B (spec/14_configuration_image_and_boot.md). -/
abbrev CFG_ERR.off : Nat := 0x10008
abbrev CFG_ERR.FL_ERR : Fld := ⟨CFG_ERR.off, 3, 3⟩
abbrev CFG_ERR.FL_PROT : Fld := ⟨CFG_ERR.off, 2, 2⟩
abbrev CFG_ERR.REHY_BUSY : Fld := ⟨CFG_ERR.off, 1, 1⟩
abbrev CFG_ERR.REHY_FAIL : Fld := ⟨CFG_ERR.off, 0, 0⟩
/-- CFG_CTL — offset 0x000C, 32 bits, class B (spec/14_configuration_image_and_boot.md). -/
abbrev CFG_CTL.off : Nat := 0x1000c
abbrev CFG_CTL.REBOOT : Fld := ⟨CFG_CTL.off, 31, 31⟩
/-- CFG_SEQ — offset 0x0010, 32 bits, class B (spec/14_configuration_image_and_boot.md). -/
abbrev CFG_SEQ.off : Nat := 0x10010
abbrev CFG_SEQ.SEQ : Fld := ⟨CFG_SEQ.off, 31, 0⟩
/-- CFG_REHY — offset 0x0014, 32 bits, class B (spec/14_configuration_image_and_boot.md). -/
abbrev CFG_REHY.off : Nat := 0x10014
abbrev CFG_REHY.ACTIVE : Fld := ⟨CFG_REHY.off, 31, 31⟩
abbrev CFG_REHY.DOMAIN : Fld := ⟨CFG_REHY.off, 23, 16⟩
abbrev CFG_REHY.FVALID : Fld := ⟨CFG_REHY.off, 15, 15⟩
abbrev CFG_REHY.FDOM : Fld := ⟨CFG_REHY.off, 7, 0⟩
/-- CFG_FLCMD — offset 0x0020, 32 bits, class C (spec/14_configuration_image_and_boot.md). -/
abbrev CFG_FLCMD.off : Nat := 0x10020
abbrev CFG_FLCMD.GO : Fld := ⟨CFG_FLCMD.off, 31, 31⟩
abbrev CFG_FLCMD.BUSY : Fld := ⟨CFG_FLCMD.off, 30, 30⟩
abbrev CFG_FLCMD.DONE : Fld := ⟨CFG_FLCMD.off, 29, 29⟩
abbrev CFG_FLCMD.ERR : Fld := ⟨CFG_FLCMD.off, 28, 28⟩
abbrev CFG_FLCMD.OP : Fld := ⟨CFG_FLCMD.off, 25, 24⟩
/-- CFG_FLADDR — offset 0x0024, 32 bits, class C (spec/14_configuration_image_and_boot.md). -/
abbrev CFG_FLADDR.off : Nat := 0x10024
abbrev CFG_FLADDR.ADDR : Fld := ⟨CFG_FLADDR.off, 31, 0⟩
/-- CFG_NVADDR — offset 0x0030, 32 bits, class C (spec/14_configuration_image_and_boot.md). -/
abbrev CFG_NVADDR.off : Nat := 0x10030
abbrev CFG_NVADDR.ADDR : Fld := ⟨CFG_NVADDR.off, 20, 0⟩
/-- CFG_NVDATA — offset 0x0034, 32 bits, class C (spec/14_configuration_image_and_boot.md). -/
abbrev CFG_NVDATA.off : Nat := 0x10034
abbrev CFG_NVDATA.DATA : Fld := ⟨CFG_NVDATA.off, 31, 0⟩
/-- SEC_CTL — offset 0x4000, 32 bits, class B (spec/14_configuration_image_and_boot.md). -/
abbrev SEC_CTL.off : Nat := 0x14000
abbrev SEC_CTL.ATTEST : Fld := ⟨SEC_CTL.off, 31, 31⟩
/-- SEC_STAT — offset 0x4004, 32 bits, class B (spec/14_configuration_image_and_boot.md). -/
abbrev SEC_STAT.off : Nat := 0x14004
abbrev SEC_STAT.BUSY : Fld := ⟨SEC_STAT.off, 31, 31⟩
abbrev SEC_STAT.READY : Fld := ⟨SEC_STAT.off, 30, 30⟩
abbrev SEC_STAT.LIFE : Fld := ⟨SEC_STAT.off, 29, 29⟩
abbrev SEC_STAT.NOKEY : Fld := ⟨SEC_STAT.off, 28, 28⟩
abbrev SEC_STAT.SVN : Fld := ⟨SEC_STAT.off, 5, 0⟩
/-- SEC_ERR — offset 0x4008, 32 bits, class B (spec/14_configuration_image_and_boot.md). -/
abbrev SEC_ERR.off : Nat := 0x14008
abbrev SEC_ERR.FUSE : Fld := ⟨SEC_ERR.off, 2, 2⟩
abbrev SEC_ERR.NOKEY : Fld := ⟨SEC_ERR.off, 1, 1⟩
abbrev SEC_ERR.BUSY : Fld := ⟨SEC_ERR.off, 0, 0⟩
/-- SEC_NONCEi — offset 0x4020 + 4 × i, i = 0 to 7, 32 bits, class B (spec/14_configuration_image_and_boot.md). -/
abbrev SEC_NONCE.off (i : Nat) : Nat := 0x14020 + 0x4 * i
abbrev SEC_NONCE.NONCE (i : Nat) : Fld := ⟨SEC_NONCE.off i, 31, 0⟩
/-- MCS_VER — offset 0x0000, 32 bits, class B (spec/15_microcode_store.md). -/
abbrev MCS_VER.off : Nat := 0xc0000
abbrev MCS_VER.BASE : Fld := ⟨MCS_VER.off, 31, 24⟩
abbrev MCS_VER.PATCH : Fld := ⟨MCS_VER.off, 23, 16⟩
abbrev MCS_VER.USRC : Fld := ⟨MCS_VER.off, 15, 15⟩
abbrev MCS_VER.NROUT : Fld := ⟨MCS_VER.off, 14, 8⟩
abbrev MCS_VER.UGEN : Fld := ⟨MCS_VER.off, 7, 0⟩
/-- MCS_UCTL — offset 0x0004, 32 bits, class C (spec/15_microcode_store.md). -/
abbrev MCS_UCTL.off : Nat := 0xc0004
abbrev MCS_UCTL.COMMIT : Fld := ⟨MCS_UCTL.off, 31, 31⟩
abbrev MCS_UCTL.BUSY : Fld := ⟨MCS_UCTL.off, 30, 30⟩
/-- MCS_UADDR — offset 0x0008, 32 bits, class C (spec/15_microcode_store.md). -/
abbrev MCS_UADDR.off : Nat := 0xc0008
abbrev MCS_UADDR.ADDR : Fld := ⟨MCS_UADDR.off, 14, 0⟩
/-- MCS_UDATA — offset 0x000C, 32 bits, class C (spec/15_microcode_store.md). -/
abbrev MCS_UDATA.off : Nat := 0xc000c
abbrev MCS_UDATA.DATA : Fld := ⟨MCS_UDATA.off, 31, 0⟩
/-- MCS_ERR — offset 0x0010, 32 bits, class C (spec/15_microcode_store.md). -/
abbrev MCS_ERR.off : Nat := 0xc0010
abbrev MCS_ERR.UNREPAIRED : Fld := ⟨MCS_ERR.off, 2, 2⟩
abbrev MCS_ERR.UMODE : Fld := ⟨MCS_ERR.off, 1, 1⟩
abbrev MCS_ERR.UBAD : Fld := ⟨MCS_ERR.off, 0, 0⟩
/-- MCS_UERR — offset 0x0014, 32 bits, class C (spec/15_microcode_store.md). -/
abbrev MCS_UERR.off : Nat := 0xc0014
abbrev MCS_UERR.VALID : Fld := ⟨MCS_UERR.off, 31, 31⟩
abbrev MCS_UERR.CAUSE : Fld := ⟨MCS_UERR.off, 30, 28⟩
abbrev MCS_UERR.INDEX : Fld := ⟨MCS_UERR.off, 13, 0⟩
/-- MCS_FAULT_LO — offset 0x0020, 32 bits, class C (spec/15_microcode_store.md). -/
abbrev MCS_FAULT_LO.off : Nat := 0xc0020
abbrev MCS_FAULT_LO.VALID : Fld := ⟨MCS_FAULT_LO.off, 31, 31⟩
abbrev MCS_FAULT_LO.MORE : Fld := ⟨MCS_FAULT_LO.off, 30, 30⟩
abbrev MCS_FAULT_LO.CODE : Fld := ⟨MCS_FAULT_LO.off, 29, 27⟩
abbrev MCS_FAULT_LO.OC : Fld := ⟨MCS_FAULT_LO.off, 26, 19⟩
abbrev MCS_FAULT_LO.UADDR : Fld := ⟨MCS_FAULT_LO.off, 13, 0⟩
/-- MCS_FAULT_HI — offset 0x0024, 32 bits, class C (spec/15_microcode_store.md). -/
abbrev MCS_FAULT_HI.off : Nat := 0xc0024
abbrev MCS_FAULT_HI.SHOT : Fld := ⟨MCS_FAULT_HI.off, 23, 0⟩
/-- MCS_CNT — offset 0x0028, 32 bits, class C (spec/15_microcode_store.md). -/
abbrev MCS_CNT.off : Nat := 0xc0028
abbrev MCS_CNT.FAULTS : Fld := ⟨MCS_CNT.off, 31, 16⟩
abbrev MCS_CNT.REPAIRS : Fld := ⟨MCS_CNT.off, 15, 0⟩
/-- MCS_URTr — offset 0x0100 + 4 × r, r = 0 to 63, 32 bits, class B (spec/15_microcode_store.md). -/
abbrev MCS_URT.off (r : Nat) : Nat := 0xc0100 + 0x4 * r
abbrev MCS_URT.VALID (r : Nat) : Fld := ⟨MCS_URT.off r, 31, 31⟩
abbrev MCS_URT.LEN (r : Nat) : Fld := ⟨MCS_URT.off r, 22, 16⟩
abbrev MCS_URT.START (r : Nat) : Fld := ⟨MCS_URT.off r, 13, 0⟩
/-- THM_CTL — offset 0x0000, 32 bits, class A (spec/16_heat_supply_and_cryostat_ledger.md). -/
abbrev THM_CTL.off : Nat := 0x60000
abbrev THM_CTL.AUTORESTART : Fld := ⟨THM_CTL.off, 31, 31⟩
/-- THM_LIM — offset 0x0004, 32 bits, class A (spec/16_heat_supply_and_cryostat_ledger.md). -/
abbrev THM_LIM.off : Nat := 0x60004
abbrev THM_LIM.WARN : Fld := ⟨THM_LIM.off, 31, 24⟩
abbrev THM_LIM.THR : Fld := ⟨THM_LIM.off, 23, 16⟩
abbrev THM_LIM.SD : Fld := ⟨THM_LIM.off, 15, 8⟩
abbrev THM_LIM.HYS : Fld := ⟨THM_LIM.off, 3, 0⟩
/-- THM_STAT — offset 0x0008, 32 bits, class B (spec/16_heat_supply_and_cryostat_ledger.md). -/
abbrev THM_STAT.off : Nat := 0x60008
abbrev THM_STAT.LEVEL : Fld := ⟨THM_STAT.off, 31, 29⟩
abbrev THM_STAT.WARNING : Fld := ⟨THM_STAT.off, 28, 28⟩
abbrev THM_STAT.RATE : Fld := ⟨THM_STAT.off, 27, 26⟩
abbrev THM_STAT.REGFAIL : Fld := ⟨THM_STAT.off, 25, 25⟩
abbrev THM_STAT.HOTSNS : Fld := ⟨THM_STAT.off, 24, 18⟩
abbrev THM_STAT.SDLATCH : Fld := ⟨THM_STAT.off, 17, 17⟩
abbrev THM_STAT.HOTT : Fld := ⟨THM_STAT.off, 15, 0⟩
/-- THM_ERR — offset 0x000C, 32 bits, class B (spec/16_heat_supply_and_cryostat_ledger.md). -/
abbrev THM_ERR.off : Nat := 0x6000c
abbrev THM_ERR.RAIL : Fld := ⟨THM_ERR.off, 6, 6⟩
abbrev THM_ERR.DROOP_TIMED : Fld := ⟨THM_ERR.off, 5, 5⟩
abbrev THM_ERR.NOSLOT : Fld := ⟨THM_ERR.off, 4, 4⟩
abbrev THM_ERR.LIM_BAD : Fld := ⟨THM_ERR.off, 3, 3⟩
abbrev THM_ERR.DIEBLIND : Fld := ⟨THM_ERR.off, 2, 2⟩
abbrev THM_ERR.SENSOR_FAIL : Fld := ⟨THM_ERR.off, 0, 0⟩
/-- THM_FAILEDj — offset 0x0010 + 4 × j, j = 0 to 2, 32 bits, class B (spec/16_heat_supply_and_cryostat_ledger.md). -/
abbrev THM_FAILED.off (j : Nat) : Nat := 0x60010 + 0x4 * j
abbrev THM_FAILED.FAILED (j : Nat) : Fld := ⟨THM_FAILED.off j, 31, 0⟩
/-- THM_DROOP — offset 0x0020, 32 bits, class C (spec/16_heat_supply_and_cryostat_ledger.md). -/
abbrev THM_DROOP.off : Nat := 0x60020
abbrev THM_DROOP.HOLD : Fld := ⟨THM_DROOP.off, 31, 26⟩
abbrev THM_DROOP.UNT_MV : Fld := ⟨THM_DROOP.off, 25, 16⟩
abbrev THM_DROOP.TIM_MV : Fld := ⟨THM_DROOP.off, 9, 0⟩
/-- THM_DROOPCNT — offset 0x0024, 32 bits, class C (spec/16_heat_supply_and_cryostat_ledger.md). -/
abbrev THM_DROOPCNT.off : Nat := 0x60024
abbrev THM_DROOPCNT.STRETCHES : Fld := ⟨THM_DROOPCNT.off, 31, 16⟩
abbrev THM_DROOPCNT.TIMED : Fld := ⟨THM_DROOPCNT.off, 15, 0⟩
/-- THM_SNSi — offset 0x0100 + 4 × i, i = 0 to 95, 32 bits, class C (spec/16_heat_supply_and_cryostat_ledger.md). -/
abbrev THM_SNS.off (i : Nat) : Nat := 0x60100 + 0x4 * i
abbrev THM_SNS.FAILED (i : Nat) : Fld := ⟨THM_SNS.off i, 31, 31⟩
abbrev THM_SNS.SUBST (i : Nat) : Fld := ⟨THM_SNS.off i, 30, 30⟩
abbrev THM_SNS.T (i : Nat) : Fld := ⟨THM_SNS.off i, 15, 0⟩
/-- THM_PWRr — offset 0x0300 + 4 × r, r = 0 to 4, 32 bits, class C (spec/16_heat_supply_and_cryostat_ledger.md). -/
abbrev THM_PWR.off (r : Nat) : Nat := 0x60300 + 0x4 * r
abbrev THM_PWR.P (r : Nat) : Fld := ⟨THM_PWR.off r, 31, 0⟩
/-- HL_CTL — offset 0x1000, 32 bits, class B (spec/16_heat_supply_and_cryostat_ledger.md). -/
abbrev HL_CTL.off : Nat := 0x61000
abbrev HL_CTL.EN : Fld := ⟨HL_CTL.off, 31, 31⟩
abbrev HL_CTL.INITFULL : Fld := ⟨HL_CTL.off, 30, 30⟩
abbrev HL_CTL.HOLD : Fld := ⟨HL_CTL.off, 15, 8⟩
abbrev HL_CTL.RESUME : Fld := ⟨HL_CTL.off, 7, 0⟩
/-- HL_STAT — offset 0x1004, 32 bits, class B (spec/16_heat_supply_and_cryostat_ledger.md). -/
abbrev HL_STAT.off : Nat := 0x61004
abbrev HL_STAT.OVER : Fld := ⟨HL_STAT.off, 15, 8⟩
abbrev HL_STAT.HOLDING : Fld := ⟨HL_STAT.off, 7, 0⟩
/-- HL_ERR — offset 0x1008, 32 bits, class B (spec/16_heat_supply_and_cryostat_ledger.md). -/
abbrev HL_ERR.off : Nat := 0x61008
abbrev HL_ERR.TAU_BAD : Fld := ⟨HL_ERR.off, 1, 1⟩
abbrev HL_ERR.OVER : Fld := ⟨HL_ERR.off, 0, 0⟩
/-- HL_CNT — offset 0x100C, 32 bits, class B (spec/16_heat_supply_and_cryostat_ledger.md). -/
abbrev HL_CNT.off : Nat := 0x6100c
abbrev HL_CNT.HELD : Fld := ⟨HL_CNT.off, 31, 0⟩
/-- HL_STs_CFG — offset 0x1100 + 16 × s, s = 0 to 7, 32 bits, class B (spec/16_heat_supply_and_cryostat_ledger.md). -/
abbrev HL_ST_CFG.off (s : Nat) : Nat := 0x61100 + 0x10 * s
abbrev HL_ST_CFG.EN (s : Nat) : Fld := ⟨HL_ST_CFG.off s, 31, 31⟩
abbrev HL_ST_CFG.TAU (s : Nat) : Fld := ⟨HL_ST_CFG.off s, 16, 0⟩
/-- HL_STs_BUD — offset 0x1104 + 16 × s, 32 bits, class B (spec/16_heat_supply_and_cryostat_ledger.md). -/
abbrev HL_ST_BUD.off (s : Nat) : Nat := 0x61104 + 0x10 * s
abbrev HL_ST_BUD.BUD (s : Nat) : Fld := ⟨HL_ST_BUD.off s, 23, 0⟩
/-- HL_STs_H — offset 0x1108 + 16 × s, 32 bits, class B (spec/16_heat_supply_and_cryostat_ledger.md). -/
abbrev HL_ST_H.off (s : Nat) : Nat := 0x61108 + 0x10 * s
abbrev HL_ST_H.H (s : Nat) : Fld := ⟨HL_ST_H.off s, 31, 0⟩
/-- HL_STs_P — offset 0x110C + 16 × s, 32 bits, class B (spec/16_heat_supply_and_cryostat_ledger.md). -/
abbrev HL_ST_P.off (s : Nat) : Nat := 0x6110c + 0x10 * s
abbrev HL_ST_P.P (s : Nat) : Fld := ⟨HL_ST_P.off s, 31, 0⟩
/-- HL_OCn_ATTw — offset 0x2000 + 16 × n + 4 × w, n = 0 to 191, w = 0 to 2, 32 bits, class B (spec/16_heat_supply_and_cryostat_ledger.md). -/
abbrev HL_OC_ATT.off (n : Nat) (w : Nat) : Nat := 0x62000 + 0x10 * n + 0x4 * w
abbrev HL_OC_ATT.F0 (n : Nat) (w : Nat) : Fld := ⟨HL_OC_ATT.off n w, 29, 20⟩
abbrev HL_OC_ATT.F1 (n : Nat) (w : Nat) : Fld := ⟨HL_OC_ATT.off n w, 19, 10⟩
abbrev HL_OC_ATT.F2 (n : Nat) (w : Nat) : Fld := ⟨HL_OC_ATT.off n w, 9, 0⟩
/-- HL_OCn_P0 — offset 0x200C + 16 × n, 32 bits, class B (spec/16_heat_supply_and_cryostat_ledger.md). -/
abbrev HL_OC_P0.off (n : Nat) : Nat := 0x6200c + 0x10 * n
abbrev HL_OC_P0.P0 (n : Nat) : Fld := ⟨HL_OC_P0.off n, 19, 0⟩
/-- CAL_CTL — offset 0x0000, 32 bits, class C (spec/17_calibration_selftest_repair.md). -/
abbrev CAL_CTL.off : Nat := 0x70000
abbrev CAL_CTL.RUN : Fld := ⟨CAL_CTL.off, 31, 31⟩
abbrev CAL_CTL.STORE : Fld := ⟨CAL_CTL.off, 30, 30⟩
abbrev CAL_CTL.BG : Fld := ⟨CAL_CTL.off, 29, 29⟩
abbrev CAL_CTL.SET : Fld := ⟨CAL_CTL.off, 10, 8⟩
abbrev CAL_CTL.GROUP : Fld := ⟨CAL_CTL.off, 7, 0⟩
/-- CAL_STAT — offset 0x0004, 32 bits, class B (spec/17_calibration_selftest_repair.md). -/
abbrev CAL_STAT.off : Nat := 0x70004
abbrev CAL_STAT.BUSY : Fld := ⟨CAL_STAT.off, 31, 31⟩
abbrev CAL_STAT.FULL : Fld := ⟨CAL_STAT.off, 30, 30⟩
abbrev CAL_STAT.FACTORY : Fld := ⟨CAL_STAT.off, 9, 5⟩
abbrev CAL_STAT.PRESENT : Fld := ⟨CAL_STAT.off, 4, 0⟩
/-- CAL_ERR — offset 0x0008, 32 bits, class B (spec/17_calibration_selftest_repair.md). -/
abbrev CAL_ERR.off : Nat := 0x70008
abbrev CAL_ERR.DEADLINE : Fld := ⟨CAL_ERR.off, 31, 31⟩
abbrev CAL_ERR.RANGE : Fld := ⟨CAL_ERR.off, 30, 30⟩
abbrev CAL_ERR.STORE_BAD : Fld := ⟨CAL_ERR.off, 29, 29⟩
abbrev CAL_ERR.NOSET : Fld := ⟨CAL_ERR.off, 28, 28⟩
abbrev CAL_ERR.MODE_BAD : Fld := ⟨CAL_ERR.off, 27, 27⟩
abbrev CAL_ERR.STEP : Fld := ⟨CAL_ERR.off, 15, 8⟩
abbrev CAL_ERR.FGROUP : Fld := ⟨CAL_ERR.off, 7, 0⟩
/-- CAL_QTq — offset 0x0010 + 4 × q, q = 0 to 3, 32 bits, class C (spec/17_calibration_selftest_repair.md). -/
abbrev CAL_QT.off (q : Nat) : Nat := 0x70010 + 0x4 * q
abbrev CAL_QT.SETI (q : Nat) : Fld := ⟨CAL_QT.off q, 31, 29⟩
abbrev CAL_QT.SETJ (q : Nat) : Fld := ⟨CAL_QT.off q, 28, 26⟩
abbrev CAL_QT.W (q : Nat) : Fld := ⟨CAL_QT.off q, 25, 16⟩
abbrev CAL_QT.T (q : Nat) : Fld := ⟨CAL_QT.off q, 15, 0⟩
/-- CAL_GRPg_CNT — offset 0x1000 + 16 × g, g = 0 to 235, 32 bits, class A (spec/17_calibration_selftest_repair.md). -/
abbrev CAL_GRP_CNT.off (g : Nat) : Nat := 0x71000 + 0x10 * g
abbrev CAL_GRP_CNT.CNT (g : Nat) : Fld := ⟨CAL_GRP_CNT.off g, 31, 0⟩
/-- CAL_GRPg_SEC — offset 0x1004 + 16 × g, 32 bits, class A (spec/17_calibration_selftest_repair.md). -/
abbrev CAL_GRP_SEC.off (g : Nat) : Nat := 0x71004 + 0x10 * g
abbrev CAL_GRP_SEC.SEC (g : Nat) : Fld := ⟨CAL_GRP_SEC.off g, 31, 0⟩
/-- CAL_GRPg_NS — offset 0x1008 + 16 × g, 32 bits, class A (spec/17_calibration_selftest_repair.md). -/
abbrev CAL_GRP_NS.off (g : Nat) : Nat := 0x71008 + 0x10 * g
abbrev CAL_GRP_NS.NS (g : Nat) : Fld := ⟨CAL_GRP_NS.off g, 29, 0⟩
/-- BST_CTL — offset 0x0000, 32 bits, class C (spec/17_calibration_selftest_repair.md). -/
abbrev BST_CTL.off : Nat := 0x80000
abbrev BST_CTL.EN : Fld := ⟨BST_CTL.off, 31, 31⟩
abbrev BST_CTL.CH : Fld := ⟨BST_CTL.off, 30, 30⟩
abbrev BST_CTL.LANE : Fld := ⟨BST_CTL.off, 29, 29⟩
/-- BST_ERR — offset 0x0004, 32 bits, class B (spec/17_calibration_selftest_repair.md). -/
abbrev BST_ERR.off : Nat := 0x80004
abbrev BST_ERR.NOSPARE : Fld := ⟨BST_ERR.off, 2, 2⟩
abbrev BST_ERR.GAPVIOL : Fld := ⟨BST_ERR.off, 1, 1⟩
abbrev BST_ERR.FAULT : Fld := ⟨BST_ERR.off, 0, 0⟩
/-- BST_CNT — offset 0x0008, 32 bits, class C (spec/17_calibration_selftest_repair.md). -/
abbrev BST_CNT.off : Nat := 0x80008
abbrev BST_CNT.ABANDONS : Fld := ⟨BST_CNT.off, 31, 16⟩
abbrev BST_CNT.SHORTGAP : Fld := ⟨BST_CNT.off, 15, 0⟩
/-- BST_FREC_LO — offset 0x0010, 32 bits, class B (spec/17_calibration_selftest_repair.md). -/
abbrev BST_FREC_LO.off : Nat := 0x80010
abbrev BST_FREC_LO.VALID : Fld := ⟨BST_FREC_LO.off, 31, 31⟩
abbrev BST_FREC_LO.UNIT : Fld := ⟨BST_FREC_LO.off, 30, 27⟩
abbrev BST_FREC_LO.SHOT : Fld := ⟨BST_FREC_LO.off, 23, 0⟩
/-- BST_FREC_HI — offset 0x0014, 32 bits, class B (spec/17_calibration_selftest_repair.md). -/
abbrev BST_FREC_HI.off : Nat := 0x80014
abbrev BST_FREC_HI.ELEM : Fld := ⟨BST_FREC_HI.off, 31, 0⟩
/-- BST_SIGSEL — offset 0x0018, 32 bits, class C (spec/17_calibration_selftest_repair.md). -/
abbrev BST_SIGSEL.off : Nat := 0x80018
abbrev BST_SIGSEL.PART : Fld := ⟨BST_SIGSEL.off, 9, 0⟩
/-- BST_SIG_LO — offset 0x001C, 32 bits, class C (spec/17_calibration_selftest_repair.md). -/
abbrev BST_SIG_LO.off : Nat := 0x8001c
abbrev BST_SIG_LO.SIG_LO : Fld := ⟨BST_SIG_LO.off, 31, 0⟩
/-- BST_SIG_HI — offset 0x0020, 32 bits, class C (spec/17_calibration_selftest_repair.md). -/
abbrev BST_SIG_HI.off : Nat := 0x80020
abbrev BST_SIG_HI.SIG_HI : Fld := ⟨BST_SIG_HI.off, 31, 0⟩
/-- BST_FUSE — offset 0x0024, 32 bits, class B (spec/17_calibration_selftest_repair.md). -/
abbrev BST_FUSE.off : Nat := 0x80024
abbrev BST_FUSE.GO : Fld := ⟨BST_FUSE.off, 31, 31⟩
abbrev BST_FUSE.REFUSED : Fld := ⟨BST_FUSE.off, 30, 30⟩
abbrev BST_FUSE.FREE : Fld := ⟨BST_FUSE.off, 16, 8⟩
abbrev BST_FUSE.ENTRY : Fld := ⟨BST_FUSE.off, 7, 0⟩
/-- BST_PLLq — offset 0x0040 + 4 × q, q = 0 to 3, 32 bits, class B (spec/17_calibration_selftest_repair.md). -/
abbrev BST_PLL.off (q : Nat) : Nat := 0x80040 + 0x4 * q
abbrev BST_PLL.SERVING (q : Nat) : Fld := ⟨BST_PLL.off q, 31, 31⟩
abbrev BST_PLL.SBY_FAIL (q : Nat) : Fld := ⟨BST_PLL.off q, 30, 30⟩
abbrev BST_PLL.SWITCHES (q : Nat) : Fld := ⟨BST_PLL.off q, 15, 0⟩
/-- BST_GWk_AT_LO — offset 0x0100 + 0x20 × k, k = 0 to 7, 32 bits, class C (spec/17_calibration_selftest_repair.md). -/
abbrev BST_GW_AT_LO.off (k : Nat) : Nat := 0x80100 + 0x20 * k
abbrev BST_GW_AT_LO.AT_LO (k : Nat) : Fld := ⟨BST_GW_AT_LO.off k, 31, 0⟩
/-- BST_GWk_AT_HI — offset 0x0104 + 0x20 × k, 32 bits, class C (spec/17_calibration_selftest_repair.md). -/
abbrev BST_GW_AT_HI.off (k : Nat) : Nat := 0x80104 + 0x20 * k
abbrev BST_GW_AT_HI.AT_HI (k : Nat) : Fld := ⟨BST_GW_AT_HI.off k, 31, 0⟩
/-- BST_GWk_PER — offset 0x0108 + 0x20 × k, 32 bits, class C (spec/17_calibration_selftest_repair.md). -/
abbrev BST_GW_PER.off (k : Nat) : Nat := 0x80108 + 0x20 * k
abbrev BST_GW_PER.GMASK (k : Nat) : Fld := ⟨BST_GW_PER.off k, 31, 16⟩
abbrev BST_GW_PER.LEN (k : Nat) : Fld := ⟨BST_GW_PER.off k, 15, 0⟩
/-- BST_GWk_REP — offset 0x010C + 0x20 × k, 32 bits, class C (spec/17_calibration_selftest_repair.md). -/
abbrev BST_GW_REP.off (k : Nat) : Nat := 0x8010c + 0x20 * k
abbrev BST_GW_REP.PER (k : Nat) : Fld := ⟨BST_GW_REP.off k, 31, 0⟩
/-- BST_GWk_ICM — offset 0x0110 + 0x20 × k, 32 bits, class C (spec/17_calibration_selftest_repair.md). -/
abbrev BST_GW_ICM.off (k : Nat) : Nat := 0x80110 + 0x20 * k
abbrev BST_GW_ICM.ICMASK (k : Nat) : Fld := ⟨BST_GW_ICM.off k, 31, 0⟩
/-- BST_SRPe — offset 0x0400 + 4 × e, e = 0 to 255, 32 bits, class B (spec/17_calibration_selftest_repair.md). -/
abbrev BST_SRP.off (e : Nat) : Nat := 0x80400 + 0x4 * e
abbrev BST_SRP.VALID (e : Nat) : Fld := ⟨BST_SRP.off e, 31, 31⟩
abbrev BST_SRP.FUSED (e : Nat) : Fld := ⟨BST_SRP.off e, 30, 30⟩
abbrev BST_SRP.UNIT (e : Nat) : Fld := ⟨BST_SRP.off e, 29, 26⟩
abbrev BST_SRP.ELEM (e : Nat) : Fld := ⟨BST_SRP.off e, 25, 0⟩
/-- GLB_MODE — offset 0x0040, 32 bits, class B (spec/18_modes_resets_retention.md). -/
abbrev GLB_MODE.off : Nat := 0x40
abbrev GLB_MODE.GO : Fld := ⟨GLB_MODE.off, 31, 31⟩
abbrev GLB_MODE.ATSHOT : Fld := ⟨GLB_MODE.off, 30, 30⟩
abbrev GLB_MODE.BUSY : Fld := ⟨GLB_MODE.off, 29, 29⟩
abbrev GLB_MODE.REQ : Fld := ⟨GLB_MODE.off, 27, 24⟩
abbrev GLB_MODE.PREV : Fld := ⟨GLB_MODE.off, 19, 16⟩
abbrev GLB_MODE.CUR : Fld := ⟨GLB_MODE.off, 3, 0⟩
/-- GLB_QMODE — offset 0x0044, 32 bits, class B (spec/18_modes_resets_retention.md). -/
abbrev GLB_QMODE.off : Nat := 0x44
abbrev GLB_QMODE.Q3 : Fld := ⟨GLB_QMODE.off, 15, 12⟩
abbrev GLB_QMODE.Q2 : Fld := ⟨GLB_QMODE.off, 11, 8⟩
abbrev GLB_QMODE.Q1 : Fld := ⟨GLB_QMODE.off, 7, 4⟩
abbrev GLB_QMODE.Q0 : Fld := ⟨GLB_QMODE.off, 3, 0⟩
/-- GLB_MERR — offset 0x0048, 32 bits, class B (spec/18_modes_resets_retention.md). -/
abbrev GLB_MERR.off : Nat := 0x48
abbrev GLB_MERR.VALID : Fld := ⟨GLB_MERR.off, 31, 31⟩
abbrev GLB_MERR.CAUSE : Fld := ⟨GLB_MERR.off, 30, 27⟩
abbrev GLB_MERR.REQ : Fld := ⟨GLB_MERR.off, 19, 16⟩
/-- GLB_RST — offset 0x004C, 32 bits, class B (spec/18_modes_resets_retention.md). -/
abbrev GLB_RST.off : Nat := 0x4c
abbrev GLB_RST.WARM : Fld := ⟨GLB_RST.off, 31, 31⟩
/-- GLB_RSTCAUSE — offset 0x0050, 32 bits, class A (spec/18_modes_resets_retention.md). -/
abbrev GLB_RSTCAUSE.off : Nat := 0x50
abbrev GLB_RSTCAUSE.CAUSE : Fld := ⟨GLB_RSTCAUSE.off, 3, 0⟩
/-- GLB_PWROCj — offset 0x0060 + 4 × j, j = 0 to 5, 32 bits, class B (spec/18_modes_resets_retention.md). -/
abbrev GLB_PWROC.off (j : Nat) : Nat := 0x60 + 0x4 * j
abbrev GLB_PWROC.ON (j : Nat) : Fld := ⟨GLB_PWROC.off j, 31, 0⟩
/-- GLB_PWRIC — offset 0x0078, 32 bits, class B (spec/18_modes_resets_retention.md). -/
abbrev GLB_PWRIC.off : Nat := 0x78
abbrev GLB_PWRIC.ON : Fld := ⟨GLB_PWRIC.off, 31, 0⟩
/-- GLB_PWRERR — offset 0x007C, 32 bits, class B (spec/18_modes_resets_retention.md). -/
abbrev GLB_PWRERR.off : Nat := 0x7c
abbrev GLB_PWRERR.VALID : Fld := ⟨GLB_PWRERR.off, 31, 31⟩
abbrev GLB_PWRERR.KIND : Fld := ⟨GLB_PWRERR.off, 30, 30⟩
abbrev GLB_PWRERR.INDEX : Fld := ⟨GLB_PWRERR.off, 7, 0⟩
/-- BBX_CTL — offset 0x0000, 32 bits, class A (spec/19_sediment_record_and_faults.md). -/
abbrev BBX_CTL.off : Nat := 0x90000
abbrev BBX_CTL.FREEZE : Fld := ⟨BBX_CTL.off, 31, 31⟩
abbrev BBX_CTL.FRZSAFE : Fld := ⟨BBX_CTL.off, 30, 30⟩
/-- BBX_STAT — offset 0x0004, 32 bits, class A (spec/19_sediment_record_and_faults.md). -/
abbrev BBX_STAT.off : Nat := 0x90004
abbrev BBX_STAT.BUSY : Fld := ⟨BBX_STAT.off, 31, 31⟩
abbrev BBX_STAT.HEAD : Fld := ⟨BBX_STAT.off, 25, 16⟩
abbrev BBX_STAT.DROPPED : Fld := ⟨BBX_STAT.off, 15, 0⟩
/-- BBX_SEQ — offset 0x0008, 32 bits, class A (spec/19_sediment_record_and_faults.md). -/
abbrev BBX_SEQ.off : Nat := 0x90008
abbrev BBX_SEQ.SEQ : Fld := ⟨BBX_SEQ.off, 31, 0⟩
/-- BBX_NOTE — offset 0x000C, 32 bits, class A (spec/19_sediment_record_and_faults.md). -/
abbrev BBX_NOTE.off : Nat := 0x9000c
abbrev BBX_NOTE.NOTE : Fld := ⟨BBX_NOTE.off, 15, 0⟩
/-- BBX_MARKARG — offset 0x0010, 32 bits, class A (spec/19_sediment_record_and_faults.md). -/
abbrev BBX_MARKARG.off : Nat := 0x90010
abbrev BBX_MARKARG.ARG : Fld := ⟨BBX_MARKARG.off, 15, 0⟩
/-- BBX_FRAME — offset 0x0014, 32 bits, class A (spec/19_sediment_record_and_faults.md). -/
abbrev BBX_FRAME.off : Nat := 0x90014
abbrev BBX_FRAME.DONE : Fld := ⟨BBX_FRAME.off, 31, 31⟩
abbrev BBX_FRAME.FAIL : Fld := ⟨BBX_FRAME.off, 30, 30⟩
abbrev BBX_FRAME.CAUSE : Fld := ⟨BBX_FRAME.off, 11, 8⟩
abbrev BBX_FRAME.FRAME : Fld := ⟨BBX_FRAME.off, 3, 0⟩
/-- BBX_SAFE — offset 0x0018, 32 bits, class A (spec/19_sediment_record_and_faults.md). -/
abbrev BBX_SAFE.off : Nat := 0x90018
abbrev BBX_SAFE.ACK : Fld := ⟨BBX_SAFE.off, 31, 31⟩
abbrev BBX_SAFE.PRESENT : Fld := ⟨BBX_SAFE.off, 4, 0⟩
/-- BBX_SRCMASKj — offset 0x0100 + 4 × j, j = 0 to 31, 32 bits, class A (spec/19_sediment_record_and_faults.md). -/
abbrev BBX_SRCMASK.off (j : Nat) : Nat := 0x90100 + 0x4 * j
abbrev BBX_SRCMASK.MASK (j : Nat) : Fld := ⟨BBX_SRCMASK.off j, 31, 0⟩

/-- The register rows of chapter 01. -/
def regRows01_0 : List RegRow := [
  ⟨0x10, [], .c, 0x0, 0xffffffff, 0x0, 0x0, 0x0⟩,
  ⟨0x14, [], .c, 0x0, 0xffff, 0x0, 0x0, 0x0⟩,
  ⟨0x18, [], .c, 0x0, 0x0, 0x0, 0x0, 0x0⟩,
  ⟨0x0, [], .a, 0xa1, 0x0, 0x0, 0x0, 0x0⟩,
  ⟨0x4, [], .a, 0x41920000, 0x0, 0x0, 0x0, 0x0⟩,
  ⟨0x20, [], .c, 0x0, 0x0, 0x0, 0x80000000, 0x0⟩]

/-- The register rows of chapter 02. -/
def regRows02_0 : List RegRow := [
  ⟨0x20000, [], .b, 0x107e00, 0xffffc0, 0x30, 0x0, 0x60000000⟩,
  ⟨0x20004, [], .c, 0xe8, 0x0, 0x0, 0x0, 0x0⟩,
  ⟨0x20008, [], .c, 0x0, 0x0, 0x0, 0x0, 0x0⟩,
  ⟨0x2000c, [], .c, 0x0, 0x0, 0x0, 0x0, 0x0⟩,
  ⟨0x20010, [], .c, 0x0, 0xffffffff, 0x0, 0x0, 0x0⟩,
  ⟨0x20014, [], .c, 0x0, 0xffffffff, 0x0, 0x0, 0x0⟩,
  ⟨0x20018, [], .c, 0x0, 0x0, 0x0, 0x3ff, 0x0⟩,
  ⟨0x2001c, [], .c, 0x0, 0x0, 0x0, 0x0, 0x0⟩,
  ⟨0x20040, [(6, 0x4)], .b, 0x0, 0x803fffff, 0x0, 0x0, 0x0⟩,
  ⟨0x20060, [(6, 0x4)], .c, 0x0, 0x0, 0x0, 0x0, 0x0⟩,
  ⟨0x20100, [(16, 0x10)], .c, 0x0, 0xffffffff, 0x0, 0x0, 0x0⟩,
  ⟨0x20104, [(16, 0x10)], .c, 0x0, 0xffffffff, 0x0, 0x0, 0x0⟩,
  ⟨0x20108, [(16, 0x10)], .c, 0x0, 0xc0000fff, 0x0, 0x18000000, 0x20000000⟩,
  ⟨0x2010c, [(16, 0x10)], .c, 0x0, 0x0, 0x0, 0x0, 0x0⟩,
  ⟨0x20400, [], .a, 0x0, 0xffffffff, 0x0, 0x0, 0x0⟩,
  ⟨0x20404, [], .a, 0x0, 0xffffffff, 0x0, 0x0, 0x0⟩,
  ⟨0x20408, [], .a, 0x0, 0x3fffffff, 0x0, 0x0, 0x0⟩,
  ⟨0x2040c, [], .a, 0x0, 0x0, 0x0, 0x0, 0x0⟩,
  ⟨0x20410, [], .a, 0x9999999a, 0xffffffff, 0x0, 0x0, 0x0⟩,
  ⟨0x20414, [], .a, 0x1, 0xff, 0x0, 0x0, 0x0⟩,
  ⟨0x20418, [], .c, 0x0, 0x0, 0x0, 0x0, 0x0⟩,
  ⟨0x20500, [(4, 0x10)], .c, 0x0, 0xffffffff, 0x0, 0x0, 0x0⟩,
  ⟨0x20504, [(4, 0x10)], .c, 0x0, 0x3fffffff, 0x0, 0x0, 0x0⟩,
  ⟨0x20508, [(4, 0x10)], .c, 0x0, 0xffffffff, 0x0, 0x0, 0x0⟩,
  ⟨0x2050c, [(4, 0x10)], .c, 0x100, 0x8000ff00, 0x0, 0x40000000, 0x0⟩]

/-- The register rows of chapter 03. -/
def regRows03_0 : List RegRow := [
  ⟨0x100800, [(192, 0x10000)], .d, 0x8, 0x20fff07f, 0x0, 0x0, 0xc0000000⟩,
  ⟨0x100804, [(192, 0x10000)], .e, 0x400, 0x0, 0x0, 0x0, 0x0⟩,
  ⟨0x100808, [(192, 0x10000)], .e, 0x0, 0x0, 0x0, 0x1fff, 0x0⟩,
  ⟨0x10080c, [(192, 0x10000)], .e, 0x0, 0x0, 0x0, 0x0, 0x0⟩,
  ⟨0x100810, [(192, 0x10000)], .e, 0x0, 0xffffffff, 0x0, 0x0, 0x0⟩,
  ⟨0x100814, [(192, 0x10000)], .e, 0x0, 0xffffffff, 0x0, 0x0, 0x0⟩,
  ⟨0x100818, [(192, 0x10000)], .d, 0x0, 0xffff, 0x0, 0x0, 0x0⟩,
  ⟨0x10081c, [(192, 0x10000)], .e, 0x0, 0x0, 0x0, 0x0, 0x0⟩,
  ⟨0x100820, [(192, 0x10000)], .e, 0x0, 0xffffffff, 0x0, 0x0, 0x0⟩,
  ⟨0x100824, [(192, 0x10000), (4, 0x4)], .e, 0x0, 0x0, 0x0, 0x0, 0x0⟩,
  ⟨0x100834, [(192, 0x10000)], .e, 0x0, 0x0, 0x0, 0x0, 0x0⟩,
  ⟨0x100838, [(192, 0x10000)], .e, 0x0, 0x0, 0x0, 0x0, 0x0⟩,
  ⟨0x100900, [(192, 0x10000), (8, 0x8)], .e, 0x0, 0xffffffff, 0x0, 0x0, 0x0⟩,
  ⟨0x100904, [(192, 0x10000), (8, 0x8)], .e, 0x0, 0xffffffff, 0x0, 0x0, 0x0⟩,
  ⟨0x101000, [(192, 0x10000), (256, 0x8)], .d, 0x0, 0xdfffffff, 0x0, 0x0, 0x0⟩,
  ⟨0x101004, [(192, 0x10000), (256, 0x8)], .d, 0x0, 0xffffffff, 0x0, 0x0, 0x0⟩]

/-- The register rows of chapter 04. -/
def regRows04_0 : List RegRow := [
  ⟨0x100400, [(192, 0x10000)], .d, 0x8000, 0x8000ffff, 0x0, 0x0, 0x0⟩,
  ⟨0x100404, [(192, 0x10000)], .d, 0x0, 0xffffffff, 0x0, 0x0, 0x0⟩,
  ⟨0x100408, [(192, 0x10000)], .d, 0x0, 0xffff, 0x0, 0x0, 0x0⟩,
  ⟨0x10040c, [(192, 0x10000)], .d, 0x0, 0xffffffff, 0x0, 0x0, 0x0⟩,
  ⟨0x100410, [(192, 0x10000)], .e, 0x0, 0x0, 0x0, 0xf, 0x0⟩,
  ⟨0x100414, [(192, 0x10000)], .e, 0x0, 0xffffffff, 0x0, 0x0, 0x0⟩,
  ⟨0x100460, [(192, 0x10000)], .d, 0x10000, 0x3ffff, 0x0, 0x0, 0x0⟩,
  ⟨0x100440, [(192, 0x10000), (32, 0x4)], .d, 0x0, 0x3ffff, 0x0, 0x0, 0x0⟩]

/-- The register rows of chapter 05. -/
def regRows05_0 : List RegRow := [
  ⟨0x100000, [(192, 0x10000)], .d, 0x80, 0xfa0, 0x13, 0x0, 0x80000000⟩,
  ⟨0x100004, [(192, 0x10000)], .d, 0x80000000, 0x8000fffe, 0x0, 0x0, 0x0⟩,
  ⟨0x100008, [(192, 0x10000)], .d, 0x80000000, 0x0, 0x0, 0x0, 0x0⟩,
  ⟨0x10000c, [(192, 0x10000)], .d, 0x56, 0x0, 0x0, 0x80000000, 0x0⟩,
  ⟨0x100010, [(192, 0x10000)], .e, 0x0, 0x0, 0x0, 0x7f, 0x0⟩,
  ⟨0x100014, [(192, 0x10000)], .e, 0x0, 0xffffffff, 0x0, 0x0, 0x0⟩,
  ⟨0x100018, [(192, 0x10000)], .d, 0x0, 0xffff, 0x0, 0x0, 0x0⟩,
  ⟨0x100100, [(192, 0x10000)], .d, 0x0, 0x80000000, 0x0, 0x0, 0x60000000⟩,
  ⟨0x100104, [(192, 0x10000)], .e, 0x0, 0xffff, 0x0, 0x0, 0x0⟩,
  ⟨0x100300, [(16, 0x10000)], .c, 0x0, 0xbf000000, 0x0, 0x800000, 0x40000000⟩,
  ⟨0x100304, [(16, 0x10000)], .c, 0x0, 0xffffffff, 0x0, 0x0, 0x0⟩,
  ⟨0x100308, [(16, 0x10000)], .c, 0x0, 0xffffffff, 0x0, 0x0, 0x0⟩,
  ⟨0x10030c, [(16, 0x10000)], .c, 0x0, 0xffffff, 0x0, 0x0, 0x0⟩]

/-- The register rows of chapter 06. -/
def regRows06_0 : List RegRow := [
  ⟨0xe00000, [(32, 0x10000)], .d, 0x1, 0x1, 0x0, 0x0, 0x80000000⟩,
  ⟨0xe00004, [(32, 0x10000)], .d, 0x0, 0x1ff, 0x0, 0x0, 0x0⟩,
  ⟨0xe00008, [(32, 0x10000)], .d, 0x0, 0x0, 0x0, 0x80000000, 0x0⟩,
  ⟨0xe0000c, [(32, 0x10000)], .e, 0x0, 0x0, 0x0, 0x3fe, 0x0⟩,
  ⟨0xe00010, [(32, 0x10000)], .e, 0x0, 0xffffffff, 0x0, 0x0, 0x0⟩,
  ⟨0xe00014, [(32, 0x10000)], .e, 0x0, 0xffffffff, 0x0, 0x0, 0x0⟩,
  ⟨0xe00018, [(32, 0x10000)], .e, 0x0, 0x0, 0x0, 0x80000000, 0x0⟩,
  ⟨0xe00020, [(32, 0x10000)], .d, 0x80000200, 0x800003ff, 0x0, 0x0, 0x0⟩,
  ⟨0xe00024, [(32, 0x10000)], .e, 0x0, 0x0, 0x0, 0x0, 0x0⟩,
  ⟨0xe00028, [(32, 0x10000)], .e, 0x0, 0x1ffff, 0x0, 0x0, 0x0⟩,
  ⟨0xe00100, [(32, 0x10000)], .d, 0x0, 0xf003ff, 0x0, 0x0, 0xc0000000⟩,
  ⟨0xe00104, [(32, 0x10000)], .e, 0x0, 0x0, 0x0, 0x0, 0x0⟩,
  ⟨0xe00108, [(32, 0x10000), (2, 0x4)], .e, 0x0, 0x0, 0x0, 0x0, 0x0⟩,
  ⟨0xe00200, [(32, 0x10000), (16, 0x40)], .d, 0x0, 0xffffffff, 0x0, 0x0, 0x0⟩,
  ⟨0xe00204, [(32, 0x10000), (16, 0x40)], .d, 0x0, 0xffff, 0x0, 0x0, 0x0⟩,
  ⟨0xe00208, [(32, 0x10000), (16, 0x40)], .d, 0x0, 0xffffffff, 0x0, 0x0, 0x0⟩,
  ⟨0xe0020c, [(32, 0x10000), (16, 0x40)], .d, 0x200000, 0x803f000f, 0x0, 0x0, 0x0⟩,
  ⟨0xe00210, [(32, 0x10000), (16, 0x40), (3, 0x8)], .d, 0x0, 0xffffff, 0x0, 0x0, 0x0⟩,
  ⟨0xe00214, [(32, 0x10000), (16, 0x40), (3, 0x8)], .d, 0x0, 0xffffff, 0x0, 0x0, 0x0⟩]

/-- The register rows of chapter 07. -/
def regRows07_0 : List RegRow := [
  ⟨0xe0000, [], .c, 0x0, 0x0, 0x0, 0x1f, 0x0⟩,
  ⟨0xe0004, [], .c, 0x0, 0xffffffff, 0x0, 0x0, 0x0⟩,
  ⟨0xe0008, [], .c, 0x0, 0xffffffff, 0x0, 0x0, 0x0⟩,
  ⟨0xe000c, [], .c, 0x0, 0x7, 0x0, 0x0, 0x0⟩,
  ⟨0xe0100, [(64, 0x4)], .c, 0x0, 0xffffffff, 0x0, 0x0, 0x0⟩,
  ⟨0xe0400, [(256, 0x4)], .c, 0x0, 0xfe1fffff, 0x0, 0x0, 0x0⟩,
  ⟨0xe4000, [(3072, 0x4)], .c, 0x0, 0xffffc7ff, 0x0, 0x0, 0x0⟩]

/-- The register rows of chapter 08. -/
def regRows08_0 : List RegRow := [
  ⟨0xd0000, [], .c, 0xc0000000, 0xfc000000, 0x0, 0x0, 0x0⟩,
  ⟨0xd0004, [], .c, 0x20000180, 0xffffffff, 0x0, 0x0, 0x0⟩,
  ⟨0xd0008, [], .c, 0x0, 0xffffffff, 0x0, 0x0, 0x0⟩,
  ⟨0xd000c, [], .c, 0x0, 0xffff, 0x0, 0x0, 0x0⟩,
  ⟨0xd0010, [], .c, 0x2000000, 0x0, 0x0, 0x0, 0x0⟩,
  ⟨0xd0014, [], .c, 0x0, 0x0, 0x0, 0xffe, 0x0⟩,
  ⟨0xd0018, [], .c, 0x0, 0xffffffff, 0x0, 0x0, 0x0⟩,
  ⟨0xd001c, [], .c, 0x0, 0xffffffff, 0x0, 0x0, 0x0⟩,
  ⟨0xd0020, [], .c, 0x0, 0xffffff, 0x0, 0x0, 0x0⟩,
  ⟨0xd0024, [], .c, 0x0, 0xffffffff, 0x0, 0x0, 0x0⟩,
  ⟨0xd0028, [], .c, 0x0, 0x0, 0x0, 0x80000000, 0x0⟩,
  ⟨0xd0100, [(16, 0x8)], .c, 0x7c000000, 0x83f03fff, 0x0, 0x0, 0x0⟩,
  ⟨0xd0104, [(16, 0x8)], .c, 0x0, 0x3ff, 0x0, 0x0, 0x0⟩,
  ⟨0xd0400, [(6, 0x40), (16, 0x4)], .c, 0x0, 0xf8001fff, 0x0, 0x0, 0x0⟩,
  ⟨0xd0600, [(64, 0x4)], .c, 0x0, 0xf8000007, 0x0, 0x0, 0x0⟩,
  ⟨0xd8000, [(2048, 0x4)], .c, 0x0, 0xfc001fff, 0x0, 0x0, 0x0⟩]

/-- The register rows of chapter 09. -/
def regRows09_0 : List RegRow := [
  ⟨0x1000000, [], .c, 0x200000, 0xc0ff0000, 0x0, 0x0, 0x0⟩,
  ⟨0x1000004, [], .c, 0x0, 0xffffffff, 0x0, 0x0, 0x0⟩,
  ⟨0x1000008, [], .c, 0x0, 0x0, 0x0, 0x0, 0x0⟩,
  ⟨0x100000c, [], .c, 0x0, 0xfffff, 0x0, 0x0, 0x0⟩,
  ⟨0x1000010, [], .c, 0x0, 0x0, 0x0, 0x3f, 0x0⟩,
  ⟨0x1000014, [], .c, 0x0, 0xffffffff, 0x0, 0x0, 0x0⟩,
  ⟨0x1000018, [], .c, 0x0, 0x0, 0x0, 0x0, 0x0⟩,
  ⟨0x100001c, [], .c, 0x0, 0x1ff, 0x0, 0x0, 0x0⟩,
  ⟨0x1000100, [(8, 0x20)], .c, 0x0, 0xfffffff0, 0x0, 0x0, 0x0⟩,
  ⟨0x1000104, [(8, 0x20)], .c, 0x0, 0xfff0fff, 0x0, 0x0, 0x0⟩,
  ⟨0x1000108, [(8, 0x20)], .c, 0x0, 0xffffffff, 0x0, 0x0, 0x0⟩,
  ⟨0x100010c, [(8, 0x20)], .c, 0x0, 0xffffffff, 0x0, 0x0, 0x0⟩,
  ⟨0x1000110, [(8, 0x20)], .c, 0x0, 0xffffff, 0x0, 0x0, 0x0⟩,
  ⟨0x1000114, [(8, 0x20)], .c, 0xc80, 0xffffffff, 0x0, 0x0, 0x0⟩,
  ⟨0x1000118, [(8, 0x20)], .c, 0x10000000, 0xffffffff, 0x0, 0x0, 0x0⟩,
  ⟨0x100011c, [(8, 0x20)], .c, 0x0, 0xffffffff, 0x0, 0x0, 0x0⟩]

/-- The register rows of chapter 10. -/
def regRows10_0 : List RegRow := [
  ⟨0xa0000, [], .b, 0x0, 0x0, 0xffff, 0x0, 0x0⟩,
  ⟨0xa0004, [], .c, 0x0, 0x0, 0x0, 0x3, 0x0⟩,
  ⟨0xa0100, [(6, 0x100)], .b, 0x5, 0xc0000000, 0xf, 0x0, 0x20000000⟩,
  ⟨0xa0104, [(6, 0x100)], .e, 0x0, 0x0, 0x0, 0x0, 0x0⟩,
  ⟨0xa0108, [(6, 0x100)], .e, 0x0, 0x0, 0x0, 0x1ff, 0x0⟩,
  ⟨0xa010c, [(6, 0x100)], .e, 0x0, 0xffffffff, 0x0, 0x0, 0x0⟩,
  ⟨0xa0110, [(6, 0x100)], .e, 0x0, 0xffffffff, 0x0, 0x0, 0x0⟩,
  ⟨0xa0114, [(6, 0x100)], .e, 0x0, 0x3000ffff, 0x0, 0x0, 0xc0000000⟩,
  ⟨0xa0118, [(6, 0x100)], .b, 0x0, 0x0, 0x0, 0x0, 0x0⟩,
  ⟨0xa0140, [(6, 0x100), (4, 0x10)], .e, 0x0, 0x7f0000, 0x0, 0x0, 0x0⟩,
  ⟨0xa0144, [(6, 0x100), (4, 0x10)], .e, 0x2000000, 0xfe000000, 0x0, 0x0, 0x1000000⟩,
  ⟨0xa0148, [(6, 0x100), (4, 0x10)], .e, 0x0, 0xffffffff, 0x0, 0x0, 0x0⟩]

/-- The register rows of chapter 11. -/
def regRows11_0 : List RegRow := [
  ⟨0xb0000, [], .c, 0x80000, 0x0, 0x0, 0x0, 0x0⟩,
  ⟨0xb0010, [], .c, 0xffff0000, 0xffffffff, 0x0, 0x0, 0x0⟩,
  ⟨0xb0100, [(16, 0x20)], .c, 0x0, 0x3fffffff, 0x0, 0x0, 0x0⟩,
  ⟨0xb0104, [(16, 0x20)], .c, 0x0, 0xf0000fff, 0x0, 0x0, 0x0⟩,
  ⟨0xb0108, [(16, 0x20)], .c, 0x0, 0xffffffff, 0x0, 0x0, 0x0⟩,
  ⟨0xb010c, [(16, 0x20)], .c, 0x0, 0xffffffff, 0x0, 0x0, 0x0⟩,
  ⟨0xb0110, [(16, 0x20)], .c, 0x3c000000, 0x7c000000, 0x0, 0x0, 0x80000000⟩,
  ⟨0x50004, [], .c, 0x0, 0xffff, 0x0, 0x0, 0x0⟩,
  ⟨0x50100, [(32, 0x40)], .c, 0x0, 0xc00000ff, 0x0, 0x0, 0x0⟩,
  ⟨0x50104, [(32, 0x40)], .c, 0x0, 0x0, 0x0, 0x0, 0xe0000000⟩,
  ⟨0x50108, [(32, 0x40)], .c, 0x0, 0x0, 0x0, 0x0, 0x0⟩,
  ⟨0x5010c, [(32, 0x40)], .c, 0x0, 0xffffffff, 0x0, 0x0, 0x0⟩,
  ⟨0x50110, [(32, 0x40)], .c, 0x0, 0xffffffff, 0x0, 0x0, 0x0⟩,
  ⟨0x50114, [(32, 0x40)], .c, 0xffff, 0xffff, 0x0, 0x0, 0x0⟩,
  ⟨0x50118, [(32, 0x40)], .c, 0x0, 0x0, 0x0, 0x0, 0x0⟩,
  ⟨0x5011c, [(32, 0x40)], .c, 0x0, 0x0, 0x0, 0x0, 0x0⟩,
  ⟨0x50120, [(32, 0x40)], .c, 0x0, 0x0, 0x0, 0x0, 0x0⟩,
  ⟨0x50124, [(32, 0x40)], .c, 0x0, 0x0, 0x0, 0x0, 0x0⟩,
  ⟨0x50a00, [(16, 0x8)], .c, 0x0, 0x3fffffff, 0x0, 0x0, 0x0⟩,
  ⟨0x50a04, [(16, 0x8)], .c, 0x0, 0x8f000fff, 0x0, 0x0, 0x0⟩]

/-- The register rows of chapter 12. -/
def regRows12_0 : List RegRow := [
  ⟨0x40000, [], .a, 0x0, 0x0, 0x0, 0x7, 0x0⟩,
  ⟨0x40004, [], .a, 0x0, 0x0, 0x0, 0x80000000, 0x0⟩,
  ⟨0x40008, [], .a, 0x0, 0x0, 0x0, 0x80000000, 0x0⟩,
  ⟨0x40010, [], .a, 0x0, 0x0, 0x0, 0x0, 0xffffffff⟩,
  ⟨0x40014, [], .a, 0x0, 0x0, 0x0, 0x0, 0xffffffff⟩,
  ⟨0x40100, [(256, 0x4)], .a, 0xc0000000, 0xc80000ff, 0x20000000, 0x10000000, 0x0⟩,
  ⟨0x41000, [(1024, 0x4)], .a, 0x0, 0x800000ff, 0x0, 0x0, 0x0⟩,
  ⟨0x42000, [(512, 0x4)], .a, 0x0, 0x8000ffff, 0x0, 0x0, 0x0⟩]

/-- The register rows of chapter 13. -/
def regRows13_0 : List RegRow := [
  ⟨0x30000, [], .c, 0x0, 0x7f, 0x0, 0x0, 0x0⟩,
  ⟨0x30004, [], .c, 0x0, 0x0, 0x0, 0x80000000, 0x0⟩,
  ⟨0x30008, [], .c, 0x0, 0x7ff, 0x0, 0x0, 0x0⟩,
  ⟨0x3000c, [], .c, 0x0, 0xffff, 0x0, 0x0, 0x0⟩,
  ⟨0x30100, [(16, 0x8)], .c, 0x5, 0xe0000fff, 0x0, 0x0, 0x0⟩,
  ⟨0x30104, [(16, 0x8)], .c, 0x0, 0xffffffff, 0x0, 0x0, 0x0⟩,
  ⟨0x30200, [(16, 0x4)], .c, 0x0, 0xffc000ff, 0x0, 0x0, 0x0⟩,
  ⟨0x30280, [], .c, 0x0, 0xffff, 0x0, 0x0, 0x0⟩,
  ⟨0x30400, [], .c, 0x850000, 0xffffc000, 0x0, 0x0, 0x0⟩,
  ⟨0x30404, [], .c, 0x0, 0x0, 0x0, 0x0, 0x0⟩,
  ⟨0x30408, [], .c, 0x0, 0x0, 0x0, 0xf, 0x0⟩,
  ⟨0x3040c, [], .c, 0x0, 0xffffffff, 0x0, 0x0, 0x0⟩,
  ⟨0x30410, [], .c, 0x0, 0xffffffff, 0x0, 0x0, 0x0⟩,
  ⟨0x30414, [], .c, 0x0, 0xffffffff, 0x0, 0x0, 0x0⟩,
  ⟨0x30418, [], .c, 0x0, 0xffc0ffff, 0x0, 0x0, 0x0⟩,
  ⟨0x3041c, [], .c, 0x0, 0x0, 0x0, 0x0, 0x80000000⟩,
  ⟨0x30420, [], .c, 0x0, 0x0, 0x0, 0x0, 0x0⟩,
  ⟨0x30440, [(4, 0x4)], .c, 0x0, 0xffffffff, 0x0, 0x0, 0x0⟩]

/-- The register rows of chapter 14. -/
def regRows14_0 : List RegRow := [
  ⟨0x10000, [], .b, 0x0, 0x0, 0x0, 0x0, 0x0⟩,
  ⟨0x10004, [], .a, 0x0, 0x0, 0x0, 0xc0000000, 0x0⟩,
  ⟨0x10008, [], .b, 0x0, 0x0, 0x0, 0xf, 0x0⟩,
  ⟨0x1000c, [], .b, 0x0, 0x0, 0x0, 0x0, 0x80000000⟩,
  ⟨0x10010, [], .b, 0x0, 0x0, 0x0, 0x0, 0x0⟩,
  ⟨0x10014, [], .b, 0x0, 0x0, 0x0, 0x8000, 0x0⟩,
  ⟨0x10020, [], .c, 0x0, 0x3000000, 0x0, 0x30000000, 0x80000000⟩,
  ⟨0x10024, [], .c, 0x0, 0xffffffff, 0x0, 0x0, 0x0⟩,
  ⟨0x10030, [], .c, 0x0, 0x1fffff, 0x0, 0x0, 0x0⟩,
  ⟨0x10034, [], .c, 0x0, 0x0, 0x0, 0x0, 0x0⟩,
  ⟨0x14000, [], .b, 0x0, 0x0, 0x0, 0x0, 0x80000000⟩,
  ⟨0x14004, [], .b, 0x0, 0x0, 0x0, 0x40000000, 0x0⟩,
  ⟨0x14008, [], .b, 0x0, 0x0, 0x0, 0x7, 0x0⟩,
  ⟨0x14020, [(8, 0x4)], .b, 0x0, 0xffffffff, 0x0, 0x0, 0x0⟩]

/-- The register rows of chapter 15. -/
def regRows15_0 : List RegRow := [
  ⟨0xc0000, [], .b, 0x1000000, 0x0, 0x0, 0x0, 0x0⟩,
  ⟨0xc0004, [], .c, 0x0, 0x0, 0x0, 0x0, 0x80000000⟩,
  ⟨0xc0008, [], .c, 0x0, 0x7fff, 0x0, 0x0, 0x0⟩,
  ⟨0xc000c, [], .c, 0x0, 0xffffffff, 0x0, 0x0, 0x0⟩,
  ⟨0xc0010, [], .c, 0x0, 0x0, 0x0, 0x7, 0x0⟩,
  ⟨0xc0014, [], .c, 0x0, 0x0, 0x0, 0x80000000, 0x0⟩,
  ⟨0xc0020, [], .c, 0x0, 0x0, 0x0, 0x80000000, 0x0⟩,
  ⟨0xc0024, [], .c, 0x0, 0x0, 0x0, 0x0, 0x0⟩,
  ⟨0xc0028, [], .c, 0x0, 0xffffffff, 0x0, 0x0, 0x0⟩,
  ⟨0xc0100, [(64, 0x4)], .b, 0x0, 0x807f3fff, 0x0, 0x0, 0x0⟩]

/-- The register rows of chapter 16. -/
def regRows16_0 : List RegRow := [
  ⟨0x60000, [], .a, 0x0, 0x80000000, 0x0, 0x0, 0x0⟩,
  ⟨0x60004, [], .a, 0x5f697604, 0xffffff0f, 0x0, 0x0, 0x0⟩,
  ⟨0x60008, [], .b, 0x0, 0x0, 0x0, 0x0, 0x0⟩,
  ⟨0x6000c, [], .b, 0x0, 0x0, 0x0, 0x7d, 0x0⟩,
  ⟨0x60010, [(3, 0x4)], .b, 0x0, 0x0, 0x0, 0x0, 0x0⟩,
  ⟨0x60020, [], .c, 0x42d002b2, 0xffff03ff, 0x0, 0x0, 0x0⟩,
  ⟨0x60024, [], .c, 0x0, 0xffffffff, 0x0, 0x0, 0x0⟩,
  ⟨0x60100, [(96, 0x4)], .c, 0x0, 0x0, 0x0, 0x0, 0x0⟩,
  ⟨0x60300, [(5, 0x4)], .c, 0x0, 0x0, 0x0, 0x0, 0x0⟩,
  ⟨0x61000, [], .b, 0x4000f0e0, 0xc000ffff, 0x0, 0x0, 0x0⟩,
  ⟨0x61004, [], .b, 0x0, 0x0, 0x0, 0x0, 0x0⟩,
  ⟨0x61008, [], .b, 0x0, 0x0, 0x0, 0x3, 0x0⟩,
  ⟨0x6100c, [], .b, 0x0, 0xffffffff, 0x0, 0x0, 0x0⟩,
  ⟨0x61100, [(8, 0x10)], .b, 0x3e8, 0x8001ffff, 0x0, 0x0, 0x0⟩,
  ⟨0x61104, [(8, 0x10)], .b, 0x0, 0xffffff, 0x0, 0x0, 0x0⟩,
  ⟨0x61108, [(8, 0x10)], .b, 0x0, 0x0, 0x0, 0x0, 0x0⟩,
  ⟨0x6110c, [(8, 0x10)], .b, 0x0, 0x0, 0x0, 0x0, 0x0⟩,
  ⟨0x62000, [(192, 0x10), (3, 0x4)], .b, 0x0, 0x3fffffff, 0x0, 0x0, 0x0⟩,
  ⟨0x6200c, [(192, 0x10)], .b, 0x1394, 0xfffff, 0x0, 0x0, 0x0⟩]

/-- The register rows of chapter 17. -/
def regRows17_0 : List RegRow := [
  ⟨0x70000, [], .c, 0x200000ff, 0x200007ff, 0x0, 0x0, 0xc0000000⟩,
  ⟨0x70004, [], .b, 0x0, 0x0, 0x0, 0x0, 0x0⟩,
  ⟨0x70008, [], .b, 0x0, 0x0, 0x0, 0xf8000000, 0x0⟩,
  ⟨0x70010, [(4, 0x4)], .c, 0x0, 0x0, 0x0, 0x0, 0x0⟩,
  ⟨0x71000, [(236, 0x10)], .a, 0x0, 0x0, 0x0, 0x0, 0x0⟩,
  ⟨0x71004, [(236, 0x10)], .a, 0x0, 0x0, 0x0, 0x0, 0x0⟩,
  ⟨0x71008, [(236, 0x10)], .a, 0x0, 0x0, 0x0, 0x0, 0x0⟩,
  ⟨0x80000, [], .c, 0x80000000, 0xe0000000, 0x0, 0x0, 0x0⟩,
  ⟨0x80004, [], .b, 0x0, 0x0, 0x0, 0x7, 0x0⟩,
  ⟨0x80008, [], .c, 0x0, 0xffffffff, 0x0, 0x0, 0x0⟩,
  ⟨0x80010, [], .b, 0x0, 0x0, 0x0, 0x80000000, 0x0⟩,
  ⟨0x80014, [], .b, 0x0, 0x0, 0x0, 0x0, 0x0⟩,
  ⟨0x80018, [], .c, 0x0, 0x3ff, 0x0, 0x0, 0x0⟩,
  ⟨0x8001c, [], .c, 0x0, 0x0, 0x0, 0x0, 0x0⟩,
  ⟨0x80020, [], .c, 0x0, 0x0, 0x0, 0x0, 0x0⟩,
  ⟨0x80024, [], .b, 0x0, 0xff, 0x0, 0x40000000, 0x80000000⟩,
  ⟨0x80040, [(4, 0x4)], .b, 0x0, 0xffff, 0x0, 0x0, 0x0⟩,
  ⟨0x80100, [(8, 0x20)], .c, 0x0, 0xffffffff, 0x0, 0x0, 0x0⟩,
  ⟨0x80104, [(8, 0x20)], .c, 0x0, 0xffffffff, 0x0, 0x0, 0x0⟩,
  ⟨0x80108, [(8, 0x20)], .c, 0x0, 0xffffffff, 0x0, 0x0, 0x0⟩,
  ⟨0x8010c, [(8, 0x20)], .c, 0x0, 0xffffffff, 0x0, 0x0, 0x0⟩,
  ⟨0x80110, [(8, 0x20)], .c, 0x0, 0xffffffff, 0x0, 0x0, 0x0⟩,
  ⟨0x80400, [(256, 0x4)], .b, 0x0, 0x0, 0x0, 0x0, 0x0⟩]

/-- The register rows of chapter 18. -/
def regRows18_0 : List RegRow := [
  ⟨0x40, [], .b, 0x41000000, 0x4f000000, 0x0, 0x0, 0x80000000⟩,
  ⟨0x44, [], .b, 0x3333, 0xffff, 0x0, 0x0, 0x0⟩,
  ⟨0x48, [], .b, 0x0, 0x0, 0x0, 0x80000000, 0x0⟩,
  ⟨0x4c, [], .b, 0x0, 0x0, 0x0, 0x0, 0x80000000⟩,
  ⟨0x50, [], .a, 0x0, 0x0, 0x0, 0x0, 0x0⟩,
  ⟨0x60, [(6, 0x4)], .b, 0xffffffff, 0xffffffff, 0x0, 0x0, 0x0⟩,
  ⟨0x78, [], .b, 0xffffffff, 0xffffffff, 0x0, 0x0, 0x0⟩,
  ⟨0x7c, [], .b, 0x0, 0x0, 0x0, 0x80000000, 0x0⟩]

/-- The register rows of chapter 19, part 1. -/
def regRows19_0 : List RegRow := [
  ⟨0x90000, [], .a, 0x40000000, 0x40000000, 0x0, 0x0, 0x80000000⟩,
  ⟨0x90004, [], .a, 0x0, 0xffff, 0x0, 0x0, 0x0⟩,
  ⟨0x90008, [], .a, 0x0, 0x0, 0x0, 0x0, 0x0⟩,
  ⟨0x9000c, [], .a, 0x0, 0xffff, 0x0, 0x0, 0xffff⟩,
  ⟨0x90010, [], .a, 0x0, 0xffff, 0x0, 0x0, 0x0⟩,
  ⟨0x90014, [], .a, 0x0, 0x0, 0x0, 0xc0000000, 0x0⟩,
  ⟨0x90018, [], .a, 0x0, 0x0, 0x0, 0x0, 0x80000000⟩,
  ⟨0x90100, [], .a, 0xaaaaaaaa, 0xffffffff, 0x0, 0x0, 0x0⟩,
  ⟨0x90104, [], .a, 0xaaaaaaaa, 0xffffffff, 0x0, 0x0, 0x0⟩,
  ⟨0x90108, [], .a, 0xaaaaaaaa, 0xffffffff, 0x0, 0x0, 0x0⟩,
  ⟨0x9010c, [], .a, 0xaaaaaaaa, 0xffffffff, 0x0, 0x0, 0x0⟩,
  ⟨0x90110, [], .a, 0xaaaaaaaa, 0xffffffff, 0x0, 0x0, 0x0⟩,
  ⟨0x90114, [], .a, 0xaaaaaaaa, 0xffffffff, 0x0, 0x0, 0x0⟩,
  ⟨0x90118, [], .a, 0xaaaaaaaa, 0xffffffff, 0x0, 0x0, 0x0⟩,
  ⟨0x9011c, [], .a, 0xaaaaaaaa, 0xffffffff, 0x0, 0x0, 0x0⟩,
  ⟨0x90120, [], .a, 0xaaaaaaaa, 0xffffffff, 0x0, 0x0, 0x0⟩,
  ⟨0x90124, [], .a, 0xaaaaaaaa, 0xffffffff, 0x0, 0x0, 0x0⟩,
  ⟨0x90128, [], .a, 0xaaaaaaaa, 0xffffffff, 0x0, 0x0, 0x0⟩,
  ⟨0x9012c, [], .a, 0xaaaaaaaa, 0xffffffff, 0x0, 0x0, 0x0⟩,
  ⟨0x90130, [], .a, 0xaaaaaaaa, 0xffffffff, 0x0, 0x0, 0x0⟩,
  ⟨0x90134, [], .a, 0xaaaaaaaa, 0xffffffff, 0x0, 0x0, 0x0⟩,
  ⟨0x90138, [], .a, 0xf, 0xffffffff, 0x0, 0x0, 0x0⟩,
  ⟨0x90140, [], .a, 0x1f1f1f1f, 0xffffffff, 0x0, 0x0, 0x0⟩,
  ⟨0x90144, [], .a, 0x11f1f, 0xffffffff, 0x0, 0x0, 0x0⟩,
  ⟨0x90148, [], .a, 0xaaaaaaaa, 0xffffffff, 0x0, 0x0, 0x0⟩,
  ⟨0x9014c, [], .a, 0xaaaaaaaa, 0xffffffff, 0x0, 0x0, 0x0⟩,
  ⟨0x90150, [], .a, 0x7ff, 0xffffffff, 0x0, 0x0, 0x0⟩,
  ⟨0x90154, [], .a, 0xe0000, 0xffffffff, 0x0, 0x0, 0x0⟩,
  ⟨0x90158, [], .a, 0x1ffffff, 0xffffffff, 0x0, 0x0, 0x0⟩,
  ⟨0x90160, [], .a, 0xfb, 0xffffffff, 0x0, 0x0, 0x0⟩]

/-- The register rows of chapter 19, part 2. -/
def regRows19_1 : List RegRow := [
  ⟨0x90168, [], .a, 0x1ff, 0xffffffff, 0x0, 0x0, 0x0⟩,
  ⟨0x9016c, [], .a, 0x80000000, 0xffffffff, 0x0, 0x0, 0x0⟩,
  ⟨0x90170, [], .a, 0x6, 0xffffffff, 0x0, 0x0, 0x0⟩,
  ⟨0x90100, [(32, 0x4)], .a, 0x0, 0xffffffff, 0x0, 0x0, 0x0⟩]

/-- Every register of the spec.
[DESIGN CHOICE, assumption 3] -/
def regTable : List RegRow :=
  regRows01_0 ++
  regRows02_0 ++
  regRows03_0 ++
  regRows04_0 ++
  regRows05_0 ++
  regRows06_0 ++
  regRows07_0 ++
  regRows08_0 ++
  regRows09_0 ++
  regRows10_0 ++
  regRows11_0 ++
  regRows12_0 ++
  regRows13_0 ++
  regRows14_0 ++
  regRows15_0 ++
  regRows16_0 ++
  regRows17_0 ++
  regRows18_0 ++
  regRows19_0 ++
  regRows19_1

/-- Whether `rem` is reached from 0 by one index per listed (count, stride), strides falling. -/
def dimsHit : Nat → List (Nat × Nat) → Bool
  | rem, [] => rem == 0
  | rem, (c, st) :: ds => let i := rem / st; decide (i < c) && dimsHit (rem - i * st) ds

/-- Whether a row holds the register at a BAR0 offset. -/
def RegRow.hit (r : RegRow) (off : Nat) : Bool := decide (r.base ≤ off) && dimsHit (off - r.base) r.dims

/-- The row of the register at a (word-aligned) BAR0 offset; none in a reserved range (R40). -/
def regRow? (off : Nat) : Option RegRow := regTable.find? (fun r => r.hit off)

/-- The reset value of a register's word (R15).
[DESIGN CHOICE, assumption 3] -/
def regReset (off : Nat) : W32 :=
  match regRow? off with
  | some r => BitVec.ofNat 32 r.reset
  | none => 0

end Sys2Proof.Machine
end

