-- ==== Sys2Proof/Machine/Tbl.lean ====
section
/-! DEFINITION. Sparse tables: a list of (key, value) pairs in one canonical form, keys strictly rising and no entry equal to
what an unlisted key reads as. Registers, memories and arrays of units are held so; equal contents are then equal data. -/
namespace Sys2Proof.Machine

/-- A sparse table from keys to values. -/
abbrev Tbl (α : Type) := List (Nat × α)

/-- The value at key `k`; `d` is what an unlisted key reads as. -/
def tget {α : Type} (d : α) : Tbl α → Nat → α
  | [], _ => d
  | (a, b) :: t, k => if a = k then b else tget d t k

/-- Insert or replace the entry at `k`, keeping the keys rising. -/
def tput {α : Type} : Tbl α → Nat → α → Tbl α
  | [], k, v => [(k, v)]
  | (a, b) :: t, k, v => if k < a then (k, v) :: (a, b) :: t else if k = a then (k, v) :: t else (a, b) :: tput t k v

/-- Remove the entry at `k`. -/
def tdel {α : Type} (t : Tbl α) (k : Nat) : Tbl α := t.filter (fun e => e.1 != k)

/-- Write `v` at `k`; writing what an unlisted key reads as removes the entry. -/
def tset {α : Type} [DecidableEq α] (d : α) (t : Tbl α) (k : Nat) (v : α) : Tbl α :=
  if v = d then tdel t k else tput t k v

/-- Whether keys are strictly rising, all above `lo` (an exclusive bound, or none). -/
def trising {α : Type} : Option Nat → Tbl α → Bool
  | _, [] => true
  | lo, (a, _) :: t => (match lo with | none => true | some l => decide (l < a)) && trising (some a) t

/-- The canonical form: keys strictly rising, and no entry equal to what an unlisted key reads as. -/
def twf {α : Type} [DecidableEq α] (dflt : Nat → α) (t : Tbl α) : Bool :=
  trising none t && t.all (fun e => decide (e.2 ≠ dflt e.1))

end Sys2Proof.Machine
end

