-- ==== Sys2Proof/Machine/State.lean ====
section
/-! DEFINITION. The state of the XK4192: everything its manual gives it, as plain data, and the queue of waiting commands.
Registers stand in one sparse table by BAR0 offset, memories in one sparse table of bytes (a region each, `Machine/Ops.lean`);
what software never sees as a word is held here in its own shape. -/
namespace Sys2Proof.Machine

/-- The twelve modes of Table 01-7, in the coding of GLB_MODE.CUR (R42). -/
inductive Mode where
  | load | park | calibrate | full | dense | precise | swift | mixed | witness | relay | sleep | safe
  deriving DecidableEq, Repr

/-- Why the machine stops. No command of this block stops it: every command of the spec has an effect or none, so no
meaning raises a fault. -/
inductive Fault where
  /-- Raised by nothing; it makes the type inhabited. Safe. -/
  | none
  deriving DecidableEq, Repr

/-- Why a command is turned away by the model. -/
inductive Refusal where
  /-- An arm of `exec` that has no meaning yet; safe, because nothing can be proved of the command. -/
  | notModelled (mnemonic : String)
  deriving DecidableEq, Repr

/-- What the die was given in manufacture and provisioning, in the OTP: it outlives every reset (R408, R432).
[DESIGN CHOICE, assumption 3] -/
structure Otp where
  /-- GLB_ID.RANGE: 1 is the LX part (R8). -/
  rangeLX : Bool := false
  /-- SEC_STAT.LIFE: the part is provisioned. -/
  provisioned : Bool := false
  /-- The SHA-256 hash of the image signer's key, once fused. -/
  keyHash : List Byte := []
  /-- The fused SVN count. -/
  svn : Nat := 0
  /-- Repair fuse slots left, BST_FUSE.FREE (R500). -/
  fuseFree : Nat := 256
  /-- The fused soft repairs, oldest first (R500). -/
  repairs : List W32 := []
  /-- The SMBus address strap sampled at power-on (R563). -/
  strap : BitVec 3 := 0
  deriving DecidableEq, Repr

/-! ### The timeline and network time -/

/-- The states of the timeline block, Table 02-1, coded as TML_STATUS.STATE. -/
inductive TState where
  | free | acquire | locked | holdover
  deriving DecidableEq, Repr

/-- Network time: 64-bit seconds, nanoseconds below 10⁹ and 32 fraction bits (R76). -/
structure NetTime where
  sec : BitVec 64 := 0
  ns : Nat := 0
  frac : BitVec 32 := 0
  deriving DecidableEq, Repr

/-- What a SYNC exchange leaves for the next TIMEBEAT edge (R56, R66, R79). Instants are in 1/1,024 tk. -/
structure Acq where
  /-- E = V_SEND + D_IN, the received timeline value at the arrival (R56). -/
  e : Nat
  /-- The arrival instant on the tick count, which no alignment moves. -/
  a : Nat
  /-- NT_SEND, and D_IN for its conversion (R79). -/
  ntSend : BitVec 110
  dIn : Nat
  epoch : BitVec 8
  hops : BitVec 4
  deriving DecidableEq, Repr

/-- What a port knows of its sync and delay-request exchanges (R55, R60, R61, R67, R320). -/
structure PortSync where
  /-- The SYNC whose FOLLOW is awaited: its exchange number, arrival instant (1/1,024 tk of the tick count) and own network
  time then, in 2⁻³² ns. -/
  wait : Option (BitVec 8 × Nat × Nat) := none
  /-- Tick count of the last SYNC received, of any kind that keeps the port alive (R61). -/
  lastSync : Option Nat := none
  /-- Tick count of the last SYNC with HOPS below 15 (R61: usable, leaving VALID aside). -/
  lastGood : Option Nat := none
  /-- Tick count of the last usable SYNC and whether it carried SUSPECT (R572). -/
  lastUsable : Option (Nat × Bool) := none
  /-- Tick count of the first usable SYNC after the last gap (R67). -/
  runStart : Option Nat := none
  /-- Departure stamp t1 of the last whole exchange on the sender's count, its arrival t2 and the departure t3 of the last
  DREQ sent, both on the tick count (R60). -/
  t1 : Nat := 0
  t2 : Nat := 0
  t3 : Nat := 0
  /-- Exchange number of the last whole exchange received, and whether a DREQ for it is still to be sent (R320). -/
  rxXid : BitVec 8 := 0
  dreqDue : Bool := false
  /-- The DREQ whose DRESP is awaited (R60). -/
  dreqXid : Option (BitVec 8) := none
  /-- The SYNC that has left and whose FOLLOW is still to be sent: exchange number, V_SEND and NT_SEND, and the tick count of its
  departure (R318, R320). -/
  sent : Option (BitVec 8 × BitVec 74 × BitVec 110) := none
  leftAt : Nat := 0
  /-- Tick count on which the last SYNC was put in its queue, and the exchange number of the next. -/
  sentAt : Option Nat := none
  txXid : BitVec 8 := 0
  /-- How far into its tick, in 1/1,024 tk, the first symbol of the SYNC queued last leaves the balls, and that of the DREQ (R318). -/
  syncFrac : BitVec 10 := 0
  dreqFrac : BitVec 10 := 0
  /-- The last FOLLOW and DRESP sent (R320). -/
  follow : Option FollowFlit := none
  resp : Option (BitVec 8 × BitVec 74) := none
  deriving DecidableEq, Repr

/-- The timeline block's count and state, and network time. -/
structure Clock where
  /-- The timeline value (R44). -/
  now : BitVec 64 := 0
  /-- Whether the tick runs: not in LOAD before the PLLs lock, and not in SLEEP (R44). -/
  counting : Bool := false
  tstate : TState := .free
  /-- TML_STATUS.HOPS, ACTIVE and SUSPECT_RX. -/
  hops : BitVec 4 := 0
  active : BitVec 3 := 7
  suspectRx : Bool := false
  /-- A START waits for a TIMEBEAT edge (R51). -/
  startPend : Bool := false
  /-- The count starts from 0 on the next tick (R44). -/
  starting : Bool := false
  /-- A REALIGN accepted on this tick count waits for a usable SYNC (R66). -/
  realignPend : Option Nat := none
  /-- The count is set at the next TIMEBEAT edge from this exchange; the flag tells a realignment (R56, R66). -/
  acq : Option (Acq × Bool) := none
  /-- In ACQUIRE: the count has been set and the next SYNC verifies (R56, R57). -/
  acqSet : Bool := false
  /-- Network time is copied from this exchange at the next TIMEBEAT edge (R79). -/
  ntCopy : Option Acq := none
  /-- Tick count of the switch to UP_ALT (R67). -/
  altSince : Nat := 0
  ports : Tbl PortSync := []
  /-- Tick count since the beat grid last saw a TIMEBEAT edge, for a missing edge (R48). -/
  lastBeat : Option Nat := none
  nt : NetTime := {}
  epoch : BitVec 8 := 0
  /-- The increment in force, 8.32 nanoseconds (R76); `incNext` takes its place from the next tick (R74). -/
  inc : BitVec 40 := 0x019999999A#40
  incNext : Option (BitVec 40) := none
  /-- Staged parts of network time and of the increment (R77, R78). -/
  stSecLo : Option (BitVec 32) := none
  stSecHi : Option (BitVec 32) := none
  stNs : Option Nat := none
  stIncLo : Option (BitVec 32) := none
  stIncHi : Option (BitVec 8) := none
  deriving DecidableEq, Repr

/-- A pulse generator beyond its registers (R82): its next occurrence in nanoseconds of the whole network time, 64-bit seconds
included, and the tick count at which the present pulse ends. -/
structure PgSt where
  next : Option Nat := none
  fallAt : Option Nat := none
  deriving DecidableEq, Repr

/-- Read shadows of the timeline and network-time registers (R45, R78). -/
structure TmlShadow where
  nowHi : W32 := 0
  secHi : W32 := 0
  ns : Nat := 0
  frac : BitVec 16 := 0
  epoch : BitVec 8 := 0
  deriving DecidableEq, Repr

/-! ### Step engines, tone generators and output channels -/

/-- The states of a step engine, in the coding of SE_STATUS.STATE. -/
inductive EngMode where
  | idle | primed | running | waiting | ended | starving
  deriving DecidableEq, Repr

/-- A tone command: the fields a PLAY or SETF step or an ISSUE carries (Table 03-1, R439). -/
structure CmdFields where
  tone : Nat := 0
  frameApply : Bool := false
  interp : Bool := false
  dur : Nat := 0
  offs : Nat := 0
  freq : BitVec 48 := 0
  phase : BitVec 32 := 0
  amp0 : BitVec 18 := 0
  amp1 : BitVec 18 := 0
  shape : Nat := 0
  drag : BitVec 18 := 0
  pmode : Nat := 0
  deriving DecidableEq, Repr

/-- A command in a tone's queue: its step tick, whether it is a PLAY, whether it waits for a strobe (R128), and the frame
bits read on the step tick minus BRANCH_LEAD (R124). -/
structure Cmd where
  step : Nat
  play : Bool
  strobe : Bool
  fields : CmdFields
  frame : Option Nat := none
  deriving DecidableEq, Repr

/-- A command that has fired: its start position P₀, whether its envelope governs (R139, R141), and whether its F, A and O
updates are still to come. -/
structure Fired where
  p0 : Nat
  envelope : Bool
  cmd : Cmd
  upd : Bool := true
  deriving DecidableEq, Repr

/-- An envelope in play (R140): start position and the fields of its PLAY. -/
structure Env where
  p0 : Nat
  fields : CmdFields
  deriving DecidableEq, Repr

/-- A tone generator: F, A and O (R138), its envelope, its queue in program order and the commands fired and not yet
governing. -/
structure ToneSt where
  f : BitVec 48 := 0
  a : BitVec 48 := 0
  o : BitVec 32 := 0
  env : Option Env := none
  queue : List Cmd := []
  fired : List Fired := []
  deriving DecidableEq, Repr

/-- The condition of a segment's end boundary set by a BRANCH (R112), and the segment it selected once decided (R113). -/
structure BranchSt where
  cond : Nat
  target : Nat
  chosen : Option Nat := none
  deriving DecidableEq, Repr

/-- One pass through a segment: from its start tick to its end tick, held time included (R98). The first plan of an engine
is the segment in play, the last the one being read. -/
structure Plan where
  seg : Nat
  start : Nat
  stop : Nat
  /-- The engine plays idle output in its place (R109). -/
  starved : Bool := false
  /-- The TARGET of a jumping segment-level LOOP (R122). -/
  jump : Option Nat := none
  branch : Option BranchSt := none
  /-- An END was read (R131). -/
  ended : Bool := false
  /-- No further step of it is read (R98). -/
  readDone : Bool := false
  /-- Candidates fixed as absent on the check tick (R107). -/
  checked : Bool := false
  absent : List Nat := []
  /-- Candidates armed for it (R107). -/
  armed : List Nat := []
  /-- A BRANCH was read in it, so that a later WAIT or SYNC is a BADOP (R115). -/
  branched : Bool := false
  deriving DecidableEq, Repr

/-- A condition input: latched value, FRESH, the tick of the last event (R116), and the events of the last 64 tk that nothing
has consumed, newest first, for a WAIT that is read after them (R120). -/
structure CiSt where
  value : Bool := false
  fresh : Bool := false
  at_ : Nat := 0
  evs : List (Nat × Bool) := []
  deriving DecidableEq, Repr

/-- A WAIT that holds (R120), and the tick of the true event that ends it, once it has come. -/
structure WaitSt where
  c : Nat
  dur : Nat
  cond : Nat
  taint : Bool
  adv : Nat
  segEnd : Bool
  hit : Option Nat := none
  deriving DecidableEq, Repr

/-- A kind-2 SYNC that waits for the decision on slot `slot` (R133, R460). -/
structure SlotSt where
  slot : Nat
  dur : Nat
  deriving DecidableEq, Repr

/-- A user micro-routine in progress (R441 to R446). -/
structure CallSt where
  /-- Next micro-address, and the routine's last. -/
  pc : Nat
  last : Nat
  /-- The next word is skipped. -/
  skip : Bool := false
  /-- The CALL's step tick, its segment's end tick, and whether STROBE was set. -/
  c : Nat
  stop : Nat
  strobe : Bool
  adv : Nat
  segEnd : Bool
  /-- GET sources as they stood when the CALL was read (R440), by SEL. -/
  src : List Nat
  /-- The first fault (code, micro-address) and the number of faults (R446). -/
  fault : Option (Nat × Nat) := none
  faults : Nat := 0
  deriving DecidableEq, Repr

/-- A FRAME operation that acts on its step tick (R125): operation, tone, bits. -/
structure FrameOp where
  step : Nat
  op : Nat
  tone : Nat
  val : Nat
  deriving DecidableEq, Repr

/-- A step engine's run-time state (class E). -/
structure Engine where
  mode : EngMode := .idle
  cursor : Nat := 0
  /-- Index of the next step word. -/
  pos : Nat := 0
  plans : List Plan := []
  /-- Reads made in this tick (R93). -/
  reads : Nat := 0
  wait : Option WaitSt := none
  slot : Option SlotSt := none
  call : Option CallSt := none
  /-- REMAIN of the loop counters; a busy counter's is above 0 (R123). -/
  lc : Tbl Nat := []
  ci : Tbl CiSt := []
  /-- RETIRED segments awaiting refill, oldest first, and a rebuild due on the next tick (R106). -/
  refill : List Nat := []
  rebuild : Option Nat := none
  /-- Intervals of the marker source line (R91), first tick and the tick after the last. -/
  marks : List (Nat × Nat) := []
  /-- Step ticks that are shot boundaries (R127). -/
  shots : List Nat := []
  frameOps : List FrameOp := []
  /-- What this tick's sluice updates have XORed into the frames: a FRAME step of the tick applies before them (R126). -/
  frXor : Nat := 0
  /-- HALT, a PRIME written with it (R129) and soft reset held to the boundary after a routine, and the tick count of RET
  (R444). -/
  haltHeld : Bool := false
  primeHeld : Bool := false
  srstHeld : Bool := false
  heldFrom : Option Nat := none
  /-- The segment armed by PRIME (R129), and the start group released (R130). -/
  entry : Nat := 0
  group : Nat := 0
  /-- Scratch registers U0 to U15 and the command-build register (R439), and the shadows of SE_UREGk_HI by k. -/
  u : Tbl (BitVec 64) := []
  build : CmdFields := {}
  ureadHi : Tbl W32 := []
  deriving DecidableEq, Repr

/-- What a channel's path keeps of one firing tick: the scaled sums of its tone samples (R153), whether it is idle under
R161 with its idle code, and whether a load mutes it (R168). -/
structure YTick where
  y : List (Int × Int) := []
  idle : Option Int := none
  lmute : Bool := true
  deriving DecidableEq, Repr

/-- An output channel beyond its registers. -/
structure OcSt where
  eng : Engine := {}
  tones : Tbl ToneSt := []
  /-- Firing ticks still in the pipeline, newest first (R137). -/
  ys : List YTick := []
  /-- Error feedback of the flux quantiser (R183). -/
  e1 : Int := 0
  e2 : Int := 0
  /-- The 32 codes at the DAC input on the last tick, first sample first (R157), and those of the ticks before it, newest first, as far
back as a delay trim reaches (R176). -/
  codes : List Int := []
  past : List (List Int) := []
  /-- What the load mutes asked of the output switch when samples last began to flow (R168). -/
  swMute : Bool := true
  /-- Sum of the squares of the DAC codes since the last ledger step (R470). -/
  sumSq : Nat := 0
  /-- First tick count on which M_SETTLE is clear again (R171). -/
  settle : Option Nat := none
  /-- The tick count on which MUTED last changed, and its value on the tick before (R176). -/
  muteTk : Option (Nat × Bool) := none
  /-- Tick count of an OC_LOAD write not yet committed (R174). -/
  loadAt : Option Nat := none
  /-- START of the queue waits for a strobe (R179). -/
  queueArm : Option Nat := none
  /-- Tick count on which the leg current limit last acted (R186). -/
  shortTk : Option Nat := none
  /-- Past intervals in which the engine starved, newest first: first tick and the tick after the last (R109, R214). -/
  starved : List (Nat × Nat) := []
  /-- Recent changes of SE_FRAME, newest first: the tick of a change, and the value the tick before ended with (R124). -/
  frHist : List (Nat × Nat) := []
  deriving DecidableEq, Repr

/-- A staged value of a channel (R158, R197): the register it will stand in force for, its word, its tick count, and, from the tick
after it, whether the engine let it move into force on that tick. -/
structure Staged where
  unit : Nat
  off : Nat
  val : W32
  at_ : Nat
  go : Option Bool := none
  deriving DecidableEq, Repr

/-- The labels of a result from a tick on (R34, R214): the timeline value of the tick, and GLB_SHOT, GLB_ROUND, the taint and
TSUS as it left them. -/
structure Label where
  from_ : Nat
  shot : Nat
  round : Nat
  taint : Bool
  tsus : Bool
  deriving DecidableEq, Repr

/-- The in-force channel settings a sample of a given firing tick uses (R158): first firing tick, and the values by
register offset. -/
structure ForceEra where
  from_ : Nat
  force : Tbl W32
  deriving DecidableEq, Repr

/-! ### Read-out chains and the sluice -/

/-- The states of a capture engine, in the coding of CE_STATUS.STATE; `ending` has read END and waits for its windows to
complete (R204), and reads as RUNNING.
[DEDUCED, assumption 52] -/
inductive CeMode where
  | idle | primed | running | shotwait | ended | ending
  deriving DecidableEq, Repr

/-- A window of a demodulator (R205): start tick, length in ticks, first weight word, probe channel, the tick on which it
entered its queue, and what it has integrated. -/
structure Window where
  ts : Nat
  len : Nat
  wbase : Nat
  probe : Option Nat
  enter : Nat
  accI : Int := 0
  accQ : Int := 0
  sat : Bool := false
  deriving DecidableEq, Repr

/-- A result record on its way to its emission tick (R215). -/
structure ResultWait where
  emit : Nat
  word : BitVec 64
  deriving DecidableEq, Repr

/-- A demodulator's windows: queued in order (R201), open, the end tick of the last one queued (R207), and its results not
yet emitted, oldest first. -/
structure DtSt where
  queue : List Window := []
  open_ : List Window := []
  lastEnd : Nat := 0
  results : List ResultWait := []
  deriving DecidableEq, Repr

/-- An input channel beyond its registers: its capture engine (R200 to R204) and its demodulators. -/
structure IcSt where
  mode : CeMode := .idle
  cursor : Nat := 0
  pos : Nat := 0
  /-- A release has come and the engine reads ahead of its start tick; the start group released (R200, R130). -/
  startAt : Option Nat := none
  group : Nat := 0
  /-- Words read in this tick (R201). -/
  reads : Nat := 0
  /-- ADV of the SHOTWAIT that holds the engine (R202). -/
  waitAdv : Nat := 0
  lc : Tbl Nat := []
  dts : Tbl DtSt := []
  deriving DecidableEq, Repr

/-- A record that waits for the collector (R225): emission tick, input channel, demodulator, record. -/
structure ColWait where
  emit : Nat
  ic : Nat
  dt : Nat
  word : BitVec 64
  deriving DecidableEq, Repr

/-- An event in transit to a sink (R223), with the routing of its intake tick (R231) and the tick count on which it
reaches the sink. -/
inductive SluSink where
  /-- Condition input `k` of engine `n`, with the SLU_CISELc word that selected it. -/
  | ci (n k : Nat) (sel : W32)
  | sieve (src : Nat)
  /-- The VC1 decision queue of a port, with the message (Table 07-4). -/
  | link (p : Nat) (msg : BitVec 96)
  /-- A Pauli-frame register: the frame update (Table 08-2). -/
  | frame (upd : BitVec 64)
  deriving DecidableEq, Repr

/-- An event in transit; `ord` is its place in the sluice order (R228). -/
structure Transit where
  due : Nat
  ord : Nat
  sink : SluSink
  word : BitVec 64
  deriving DecidableEq, Repr


/-! ### The sieve -/

/-- A round a graph has not closed yet (R256): detectors that have received a record, those whose value is 1, those of low
confidence (R254), the DONE counts and the OPEN messages received, by 16 × port + the sender's graph (R271), and whether a map fault
touched it. -/
structure SvOpen where
  rho : Nat
  seen : List Nat := []
  vals : List Nat := []
  low : List Nat := []
  sat : Bool := false
  dones : Tbl Nat := []
  opens : Tbl Nat := []
  fault : Bool := false
  deriving DecidableEq, Repr

/-- A closed round (R256): the low 24 bits of its shot, its defects, low-confidence detectors, SAT, and whether a value was
missing or a map fault touched it (R268). -/
structure SvRound where
  rho : Nat
  shot : Nat
  defs : List Nat
  low : List Nat
  sat : Bool
  bad : Bool
  deriving DecidableEq, Repr

/-- A closed round in the queue: its close tick, and whether its decode is final (R257, R258). -/
structure SvQueued where
  round : SvRound
  closeTk : Nat
  final : Bool
  deriving DecidableEq, Repr

/-- A decode in progress (R258 to R264): its last round, close tick, whether it is final, whether it has overrun DEADLINE, and
whether it has committed and waits for its last output. -/
structure SvDec where
  hi : Nat
  shot : Nat
  closeTk : Nat
  final : Bool
  late : Bool := false
  committed : Bool := false
  deriving DecidableEq, Repr

/-- A graph beyond its registers and its store. -/
structure GraphSt where
  /-- An enable check in progress (R251). -/
  check : Bool := false
  /-- Tick count on which a disabled graph's tile is freed (R252). -/
  freeAt : Option Nat := none
  /-- The last round closed in the shot in flight, and the rounds that have received something. -/
  closed : Nat := 0
  open_ : List SvOpen := []
  queue : List SvQueued := []
  /-- The rounds of the window, oldest first, and toggles (detector, round, shot) carried to rounds not yet in it (R261). -/
  window : List SvRound := []
  toggles : List (Nat × Nat × Nat) := []
  /-- Rounds that R263 cleared, as (shot, round), for CONF of the commits behind them (R268). -/
  cleared : List (Nat × Nat) := []
  /-- Raw bits of the shot in flight, as (round, detector, bit) (R253). -/
  raws : List (Nat × Nat × Bool) := []
  /-- The observable register, for each shot that still has rounds to decode (R262). -/
  obs : Tbl Nat := []
  dec : Option SvDec := none
  /-- The serving tile has failed and the spare does not serve yet (R274). -/
  down : Bool := false
  /-- The store was lost and the firmware has not re-read it yet (R274, R426). -/
  lost : Bool := false
  deriving DecidableEq, Repr

/-- An output of a commit (R266): its graph, committed round and shot. -/
inductive SvOutKind where
  | local_ (oc tone xz : Nat)
  | link (port oc tone tag xz : Nat)
  | flip (port graph label : Nat)
  deriving DecidableEq, Repr

/-- An output waiting to be issued (R266); a received FLIP's bears graph 16, that of no decode (R272). -/
structure SvOut where
  graph : Nat
  kind : SvOutKind
  shot : Nat
  rho : Nat
  deriving DecidableEq, Repr

/-- A condition output waiting to be issued (R268): its index, graph, record without TAINT, TSUS and LATE, and how many frame
updates of its commit are still to be issued before the tick `ready` is known. -/
structure SvoWait where
  k : Nat
  graph : Nat
  word : BitVec 64
  late : Bool
  ready : Option Nat
  deriving DecidableEq, Repr

/-- A DONE to send (R269): graph, round, shot, and the OPEN messages sent for the round on each port. -/
structure DoneWait where
  graph : Nat
  rho : Nat
  shot : Nat
  ports : List (Nat × Nat)
  deriving DecidableEq, Repr

/-- The sieve beyond its registers, graph stores and maps. -/
structure Sieve where
  graphs : Tbl GraphSt := []
  outq : List SvOut := []
  /-- Tick count of the last issue of frame updates and messages (R266). -/
  outTk : Option Nat := none
  svo : List SvoWait := []
  dones : List DoneWait := []
  /-- The round schedule in force (R246, R247): tick count of its shot boundary, FIRST, PERIOD and COUNT; and the last raw
  triple that was refused. -/
  base : Nat := 0
  first : Nat := 1
  period : Nat := 0
  count : Nat := 0
  refused : Option (Nat × Nat × Nat) := none
  /-- Rotation (R273): shot boundaries since the last one, the tile rotated last, a copy in progress and whether it is done;
  and a failed tile's graph being copied (R274). -/
  rotCnt : Nat := 0
  rotLast : Nat := 0
  rot : Option (Nat × Bool) := none
  rescue : Option (Nat × Bool) := none
  deriving DecidableEq, Repr



/-! ### The witness pool and its triggers -/

/-- The block period being sampled, or one complete and not yet written (R277): its number, TSUS on its first tick, the ICs it
records with their samples, oldest last, and the tick count from which it is due. -/
structure WitPeriod where
  k : Nat
  tsus : Bool
  ics : Tbl (List (BitVec 12))
  dueTk : Nat := 0
  deriving DecidableEq, Repr

/-- Where a period stands in the ring: its first line, its lines, and whether it was dropped (R279, R293). -/
structure WitPlace where
  k : Nat
  line : Nat
  lines : Nat
  dropped : Bool
  deriving DecidableEq, Repr

/-- Evidence of a met condition (R281): sample, COND bit, point in 1/64 sample, and whether it came after its decision tick. -/
structure TuEvidence where
  n : Nat
  bit : Nat
  p : Nat
  late : Bool := false
  deriving DecidableEq, Repr

/-- A window whose record is not written yet (R286 to R291). -/
structure TuWindow where
  n : Nat
  p : Nat
  cond : Nat
  srck : Nat
  pre : Nat
  pin : Bool
  late : Bool
  tsus : Bool
  shot : Nat
  round : Nat
  start : Nat
  s1 : Option Nat := none
  short : Bool := false
  trunc : Bool := false
  /-- First timeline tick on which it is closed, once known. -/
  closeAt : Option Nat := none
  deriving DecidableEq, Repr

/-- A trigger unit beyond its registers: the sample before the next one, the last up-crossings of HI (sample) and LO (sample,
point), whether a sample has been at or above HI since, the samples counted for TIMEOUT and whether it has been met (R280 to
R282); its evidence, its windows, oldest first, and the tick from which it is re-armed (R289). -/
structure TuSt where
  live : Bool := false
  upHi : Option Nat := none
  upLo : Option (Nat × Nat) := none
  reached : Bool := false
  count : Nat := 0
  expired : Bool := false
  evidence : List TuEvidence := []
  windows : List TuWindow := []
  freeAt : Nat := 0
  deriving DecidableEq, Repr

/-- The witness beyond its registers: the period in progress, periods not yet written, the places of past ones, newest first;
periods dropped since reset, and their number at each IC's last block (R278); records written since reset (R291); the last
code of each IC; and the trigger units. -/
structure Wit where
  cur : Option WitPeriod := none
  ready : List WitPeriod := []
  places : List WitPlace := []
  dropped : Nat := 0
  seen : Tbl Nat := []
  seq : BitVec 16 := 0
  lastCode : Tbl (BitVec 12) := []
  units : Tbl TuSt := []
  deriving DecidableEq, Repr

/-! ### Link ports -/

/-- The control block of Table 10-2 that a port has still to send, and in how many slots. -/
structure CtlBlock where
  payload : BitVec 64
  left : Nat
  deriving DecidableEq, Repr

/-- A duplicated flit on its way on a pair of lanes, and the next quarter to send (R308). -/
structure DupOut where
  flit : BitVec 256
  next : Nat
  deriving DecidableEq, Repr

/-- A physical receive lane (R297, R298, R301, R322, R327). -/
structure RxLane where
  /-- The last symbol received and the Gray values of the slot before: together they give a block at any bit slip. -/
  prev : Nat := 0
  hold : List Nat := []
  /-- The bit-slip search: offset, blocks checked at it, an invalid header among them, and the offset kept. -/
  slip : Nat := 0
  checked : Nat := 0
  bad : Bool := false
  framed : Bool := false
  /-- What an ALIGN block said: logical lane, and inverted polarity; the number of the next slot received. -/
  found : Option (Nat × Bool) := none
  slot : Nat := 0
  /-- Invalid headers of the last 64 slots, newest first; a loss seen and not yet declared; blocks with valid headers in a row; and
  whether the last received slot 16j + 15 carried a parity header (R306). -/
  hist : List Bool := []
  lost : Bool := false
  clean : Nat := 0
  parity : Bool := false
  /-- Instant of the last ALIGN block, in 1/1,024 tk against the port's own alignment period (R303, R319). -/
  at_ : Option Int := none
  /-- The pattern checker: the state its next slot should continue, and whether the last slot agreed. -/
  chk : Nat := 0
  agree : Bool := false
  deriving DecidableEq, Repr

/-- A VC0 flit waiting, and the slots it has waited (R309). -/
structure Vc0Wait where
  flit : BitVec 256
  age : Nat := 0
  deriving DecidableEq, Repr

/-- A link port beyond its registers. Lane masks are by logical lane.
[DESIGN CHOICE, assumption 60] -/
structure LinkSt where
  /-- Tick count on which TRAIN was entered; what the peer's last TRAIN block said (R304 to R306). -/
  trainTk : Nat := 0
  peerOk : Nat := 0
  peerProt : Bool := false
  peerSelf : Bool := false
  /-- Working transmit lanes; transmit lanes whose loss is forced (R329); receive lanes declared lost whose SWITCH has not come,
  and the tick count of the last DROP (R322); the receive lanes, by physical lane. -/
  txLanes : Nat := 0
  txForced : Nat := 0
  lost : Nat := 0
  dropTk : Nat := 0
  rx : Tbl RxLane := []
  /-- The permission for PROTECTED this end last announced, its unanswered MODE_REQ, the mode of the next slot 0, and the modes in which
  this end transmits and receives (R306). -/
  told : Bool := false
  reqTk : Option Nat := none
  setMode : Option Bool := none
  txMode : Bool := false
  rxMode : Bool := false
  /-- The port is up and still sends TRAIN, until its next slot 1 (R304). -/
  upWait : Bool := false
  /-- Control blocks to send; the next slot; the ALIGN marker count (R299). -/
  ctl : List CtlBlock := []
  slot : Nat := 0
  marker : BitVec 16 := 0
  /-- Scrambler state, last precoded symbol and pattern generator by physical or logical lane (R297, R299, R327), and the blocks
  of the FEC group in progress, newest first, by lane (R314). -/
  scr : Tbl Nat := []
  pre : Tbl Nat := []
  gen : Tbl Nat := []
  group : Tbl (List (BitVec 68)) := []
  /-- VC0 flits, VC2 and VC3 flits waiting; SEQ, ACK, credits and CRC are filled in when a flit starts (R307, R309). -/
  vc0q : List Vc0Wait := []
  vc2q : List (BitVec 256) := []
  vc3q : List (BitVec 256) := []
  /-- Striped VC2 flits sent since the last VC3 one (R309). -/
  vc2Run : Nat := 0
  /-- Flits in transmission: on pairs A and B (one pair in UP3) and the quarters left of a striped flit (R308). -/
  dupA : Option DupOut := none
  dupB : Option DupOut := none
  strip : List (BitVec 64) := []
  /-- Next duplicated and striped SEQ, unacknowledged striped flits, oldest first, how many of them have been sent since the
  last replay, the tick count on which ACK last advanced, and credits (R312, R313). -/
  dupSeq : BitVec 10 := 0
  stSeq : BitVec 10 := 0
  unacked : List (BitVec 256) := []
  resend : Nat := 0
  ackTk : Nat := 0
  cred2 : Nat := 0
  cred3 : Nat := 0
  /-- Receiver: next striped SEQ, next duplicated SEQ, credits to return, an ACK to return, a NAK to send, and discarding since
  the tick count of the last NAK (R311 to R313). -/
  rxSeq : BitVec 10 := 0
  rxDup : Option (BitVec 10) := none
  owe2 : Nat := 0
  owe3 : Nat := 0
  ackDue : Bool := false
  nakDue : Bool := false
  naking : Option Nat := none
  /-- The last duplicated flit taken, and the last FEC codeword as corrected. -/
  rxFlit : Option (BitVec 256) := none
  rxCode : List Byte := []
  /-- Injected errors waiting (R329): the CRC of the next flit, blocks of LANE since the last corrupted one. -/
  injFlit : Bool := false
  everyCnt : Nat := 0
  /-- Lanes whose next generated pattern symbol takes a bit error (INJ1). -/
  inj1 : List Nat := []
  /-- Duplicated flits whose first block left in the last slot (R318), and what that slot sent: the block and its 34 levels, by logical
  lane (R297, R298). -/
  left : List (BitVec 256) := []
  txBlocks : Tbl (BitVec 68) := []
  txLevels : Tbl (List Int) := []
  deriving DecidableEq, Repr


/-! ### Host port and DMA -/

/-- A DMA descriptor by its four words (Table 11-5). -/
structure Desc where
  src : Nat := 0
  dst : Nat := 0
  next : Nat := 0
  ctl : Nat := 0
  deriving DecidableEq, Repr

/-- What a DMA channel does between two descriptor boundaries (R341, R351 to R356): it fetches, waits for its request line, moves bytes,
awaits the BACK of a remote write, awaits the read-back of a host write, or has its descriptor complete. -/
inductive DmaPhase where
  | idle | fetch | waitreq | read | sent | back | wrote
  deriving DecidableEq, Repr

/-- A request of the DMA engine to host memory (R351): a read, or a write with its bytes; of a read, what has not come yet and the tick
count on which it was issued (R360). -/
structure HostReq where
  addr : Nat
  len : Nat
  bytes : Option (List Byte) := none
  issued : Nat := 0
  deriving DecidableEq, Repr

/-- A DMA channel beyond its registers: phase, the address and space of the descriptor fetched or in progress, the descriptor,
the source bytes moved, those gathered for or from a remote device so far, whether the status of a remote read has come, host requests
to issue (R354) and host reads outstanding, whether its request line was active as the last tick ended (R353), the tick counts on which a remote read without its status and the remote writes without
their BACK were issued (R360), and a STOP to obey (R355). -/
structure DmaCh where
  phase : DmaPhase := .idle
  addr : Nat := 0
  local_ : Bool := false
  desc : Desc := {}
  moved : Nat := 0
  got : List Byte := []
  status : Bool := false
  todo : List HostReq := []
  out : List HostReq := []
  lineWas : Bool := false
  remTk : Option Nat := none
  backs : List Nat := []
  stop : Bool := false
  deriving DecidableEq, Repr

/-- The endpoint's configuration space beyond PCI_STAT (R331, R334): base addresses, completion timeout code, D3hot, ASPM L1, and the
errors reported (Table 11-2). -/
structure PciSt where
  bar0 : BitVec 64 := 0
  bar2 : BitVec 64 := 0
  bar4 : BitVec 64 := 0
  cplTo : BitVec 4 := 0
  d3hot : Bool := false
  aspmL1 : Bool := false
  aer : List AerErr := []
  deriving DecidableEq, Repr

/-- A remote burst arriving at its target (R358): the address word, its bytes, and those received. -/
structure RemIn where
  addr : Nat
  len : Nat
  bytes : List Byte := []
  deriving DecidableEq, Repr


/-! ### The rill network -/

/-- A task input beyond its register: the arrivals of events since it last fired, oldest first, as tick counts (crystal counts at inputs
345 to 347), whether its re-arm time runs, and the tick count of its last firing (R366 to R368). -/
structure TaskSt where
  arr : List Nat := []
  rearming : Bool := false
  firedAt : Nat := 0
  deriving DecidableEq, Repr

/-! ### Markers, stamper and cycle lock -/

/-- A marker input: instant of its last registered edge in 1/1,024 tk of the tick count, the polarity the SEL 4 line holds,
and edges lost since its last record (R382, R383, R387, R392). -/
structure MkIn where
  last : Option Nat := none
  pol : Bool := false
  lost : Nat := 0
  deriving DecidableEq, Repr

/-- An edge stamped and not yet registered: its input, polarity, stamp (1/1,024 tk) and the tick count of its
registration (R384). -/
structure EdgePend where
  k : Nat
  rising : Bool
  stamp : Nat
  due : Nat
  deriving DecidableEq, Repr

/-- A stamp record due on this tick (R387): its SRC, stamp and POL. -/
structure StampDue where
  src : Nat
  stamp : Nat
  pol : Bool
  deriving DecidableEq, Repr

/-- The cycle lock (R396 to R401). Stamps and periods are in 1/1,024 tk. -/
structure CycleSt where
  /-- Stamps of the accepted reference edges, newest first, at most 17; the head is S. -/
  hist : List Nat := []
  /-- The measured estimate P̂, and whether it is valid. -/
  pHat : Nat := 0
  measValid : Bool := false
  /-- The held prediction in force, S and P̂, while HOLD is 1. -/
  held : Option (Nat × Nat) := none
  /-- Host-staged held values, and a commit waiting for R158. -/
  stRef : BitVec 74 := 0
  stPer : BitVec 48 := 0
  pend : Option (Nat × Nat) := none
  pendAt : Nat := 0
  pendGo : Option Bool := none
  /-- Shadows of CL_REF_HI, CL_PER_LO and CL_PER_HI. -/
  shRefHi : W32 := 0
  shPerLo : W32 := 0
  shPerHi : W32 := 0
  /-- The prediction of the last tick, and the end ticks of windows that a prediction since replaced had begun, by window (R399). -/
  lastPred : Option (Nat × Nat) := none
  carry : Tbl Nat := []
  deriving DecidableEq, Repr

/-! ### Boot -/

/-- Where a boot stands (Table 14-4): a reset has ended; the chosen slot is read, checked and applied; its attempt fails with a
cause; stages 5 and 6; PARK reached; no slot is a candidate; the loader is stopped (R463, R503). -/
inductive BootPhase where
  | waiting | loaded | failing (cause : Nat) | calibrating | done | noImage | stopped
  deriving DecidableEq, Repr

/-- The loader: phase, slot, the flash port's FLCLK and DUMMY in 8D-8D-8D, none in the fallback (R405), the manifest it keeps
(R421), the registers and memory ranges the attempt has written (R415), whether this boot follows an attempt that a watchdog reset
failed (R415), and which of the firmware's tasks after PARK are done (R413, R431, R533). -/
structure BootSt where
  phase : BootPhase := .waiting
  slot : Nat := 0
  flash8d : Option (Nat × Nat) := none
  manifest : List Byte := []
  fellBack : Bool := false
  wroteRegs : List Nat := []
  wroteMem : List (Nat × Nat) := []
  provDone : Bool := false
  logDone : Bool := false
  eraseDone : Bool := false
  deriving DecidableEq, Repr

/-- A host flash command waiting or running (R419): OP, address, and the tick count on which it was issued. -/
structure FlashCmd where
  op : Nat
  addr : Nat
  tk : Nat
  deriving DecidableEq, Repr


/-! ### Heat and supply -/

/-- A sensor's last count, once sampled, and how many samples in a row it has stood (R452). -/
structure SensorSt where
  count : Option Nat := none
  same : Nat := 0
  deriving DecidableEq, Repr

/-- A shutdown in progress (Table 16-4) with what its record holds (Table 16-5), and whether the record is programmed. -/
structure Shutdown where
  cause : Nat
  flags : Nat
  hotsns : Nat
  level : Nat
  hott : Nat
  time : Nat
  ntSec : Nat
  ntNs : Nat
  shot : Nat
  failed : Nat
  recorded : Bool := false
  deriving DecidableEq, Repr

/-- The thermal and supply monitors beyond their registers: sensors; tick count of the last rise of LEVEL, its region, and the
tick count since which the hottest estimate has stayed below THR − HYS (R457); the stretch of the untimed clocks in eighths, the
lowest voltage of the droop and its last tick count (R466); a shutdown in progress; a pin reset that waits (R465, R559); the hottest of sensors 0 to 3 (R465), in 1/16 °C; and the tick counts of the last
sample (R454) and ledger step (R470). -/
structure Heat where
  sensors : Tbl SensorSt := []
  riseTk : Option Nat := none
  region : Option Nat := none
  coolTk : Option Nat := none
  stretch : Nat := 0
  lowMv : Nat := 0
  droopTk : Nat := 0
  shutdown : Option Shutdown := none
  pinWait : Bool := false
  hot4 : Int := 0
  sampleTk : Option Nat := none
  ledgerTk : Option Nat := none
  deriving DecidableEq, Repr


/-! ### Calibration and self-test -/

/-- A group's staged values (R484): the tick count of their staging, T, the set pair and the weight. -/
structure CalStage where
  at_ : Nat
  t : Nat
  i : Nat
  j : Nat
  w : Nat
  /-- The set a choice among redundant elements comes from (R483); none without sets. -/
  choice : Option Nat := none
  /-- From the tick after the staging: whether the engines let the values move into force on that tick (R484). -/
  go : Option Bool := none
  deriving DecidableEq, Repr

/-- The ADC sub-converters of an IC (R488): those that serve, oldest calibration first, the calibrated spares, the shot boundaries
counted and the tick count of the last exchange. -/
structure ConvSt where
  serving : List Nat := List.range 64
  spare : List Nat := [64, 65, 66, 67]
  boundaries : Nat := 0
  last : Nat := 0
  deriving DecidableEq, Repr

/-- A self-test slice in progress (R489): its unit, and the tick count of its start. -/
structure SliceSt where
  unit : Nat
  start : Nat
  deriving DecidableEq, Repr


/-! ### Modes and resets -/

/-- A mode request pending (R509, R510): its target, whether the device has still to leave a running mode or RELAY, whether it
waits for a shot boundary, and the tick count of the request. -/
structure ModeReq where
  dest : Mode
  leaving : Bool
  atShot : Bool
  tk : Nat
  deriving DecidableEq, Repr


/-! ### The sediment record -/

/-- The kinds of Table 19-2 in the order of R527. -/
inductive BbxKind where
  | reset | mode | safe | event | mark | note | freeze
  deriving DecidableEq, Repr

/-- A sediment entry waiting for the end of its tick (R527). -/
structure BbxEntry where
  kind : BbxKind
  src : Nat := 0
  arg : Nat := 0
  deriving DecidableEq, Repr

/-- The ring as it stands at the end of a freeze tick, with the fields of its directory page (R529, R532). -/
structure Snap where
  ring : List Byte
  head : Nat
  seq : Nat
  dropped : Bool
  time : Nat
  ntSec : Nat
  ntNs : Nat
  deriving DecidableEq, Repr

/-- A freeze in progress: cause code, frame, the tick count of its start, FLAGS bit 0, and the ring once its tick has ended. -/
structure Freeze where
  cause : Nat
  frame : Nat
  start : Nat
  overtook : Bool
  snap : Option Snap := none
  deriving DecidableEq, Repr


/-! ### SMBus and TAP -/

/-- The SMBus target's page and the values it has refreshed (R564): LINEAR11 words by page and command, and the MFR_MODE byte. -/
structure Smb where
  page : Byte := 0
  vin : Tbl (BitVec 16) := []
  iin : Tbl (BitVec 16) := []
  pin : Tbl (BitVec 16) := []
  temp1 : BitVec 16 := 0
  temp2 : BitVec 16 := 0
  mode : Byte := 0
  deriving DecidableEq, Repr

/-- The instruction in the TAP's instruction register (Table 20-11). -/
inductive TapIr where
  | idcode | bypass | extest | samplePreload | clamp | highz | extestPulse | extestTrain | intscan
  deriving DecidableEq, Repr


/-- The device apart from its clock: every register, memory, queue, counter and pin. -/
structure Dev where
  /-- Registers by BAR0 offset; an unlisted one holds its reset value (R15). -/
  regs : Tbl W32 := []
  /-- Memories by region address; an unlisted byte reads as `memDefault` says. -/
  mem : Tbl Byte := []
  otp : Otp := {}
  /-- The bytes the last read command returned, lowest address first. -/
  rdata : List Byte := []
  /-- Ticks since power-on: the model's own count for delays that a moved timeline does not move. -/
  tk : Nat := 0
  /-- Cycles of the always-on crystal since power-on (R371). -/
  xtal : Nat := 0
  /-- The model's own: how many free values have been drawn. -/
  free : Nat := 0
  /-- Sources that have raised an event in this tick (R363). -/
  raised : List Nat := []
  /-- W1C bits the device set in this tick (R20). -/
  w1cNow : Tbl W32 := []
  /-- The 48-bit shot counter and the taint of the shot in flight (R31, R111). -/
  shot : BitVec 48 := 0
  round : BitVec 32 := 0
  taint : Bool := false
  /-- GLB_SHOT_LO as staged, and the read shadow of GLB_SHOT_HI (R36). -/
  shotLo : Option W32 := none
  shotHiShadow : BitVec 16 := 0
  /-- Action entries armed with ASAP in this tick, and those whose firing tick is now (R72). -/
  asapNew : List Nat := []
  asapDue : List Nat := []
  pgs : Tbl PgSt := []
  tmlSh : TmlShadow := {}
  /-- Output channels, and the decisions made on shot slots: whether each is held (R133, R460). -/
  ocs : Tbl OcSt := []
  slots : Tbl (Option Bool) := []
  /-- Tick count on which a shot boundary last fell, and on which the shot was last tainted (R31, R111). -/
  shotTk : Option Nat := none
  taintTk : Option Nat := none
  /-- Staged values waiting, oldest first, and the values in force that differ from reset, by register (R158). -/
  staged : List Staged := []
  force : Tbl W32 := []
  /-- The values that were in force on earlier firing ticks, newest first; and the labels of earlier ticks, newest first, for
  results that keep an earlier end tick (R206). -/
  eras : List ForceEra := []
  labels : List Label := []
  /-- Strobe groups: those to strobe on the next tick (R174), the next timeline strobe of each (R175), and those that have
  strobed in this tick. -/
  gsSoon : List Nat := []
  gsNext : Tbl (Option Nat) := []
  gsDone : List Nat := []
  /-- Writes that act on the tick after they arrive: fields (R158, R161, R171, R173) and memory bytes (R149, R208). -/
  lateRegs : List (Fld × Nat) := []
  lateMem : List (Nat × Byte) := []
  /-- The committed routine table (R441), micro-words whose error no copy could mend, by quarter and micro-address (R447),
  and a commit in progress (R448). -/
  urt : Tbl W32 := []
  mcBad : List (Nat × Nat) := []
  ucommit : Option Nat := none
  /-- Host writes of SE_FRAME in this tick, by channel: they act after its other updates (SE_FRAME). -/
  frameWr : Tbl W32 := []
  /-- Input channels; records waiting for the collector, in its order, and the tick count of its last take (R225); the sluice's
  events in transit, by due tick and then in sluice order (R228). -/
  ics : Tbl IcSt := []
  colWait : List ColWait := []
  colTaken : Option Nat := none
  transit : List Transit := []
  /-- Low-half registers written since their pair was last committed (R159, R197). -/
  loWrites : List Nat := []
  sieve : Sieve := {}
  /-- Each port's VC1 decision queue (R238) and sieve-message queue (R270). -/
  decq : Tbl (List (BitVec 96)) := []
  sieveq : Tbl (List (BitVec 64)) := []
  /-- Registered marker edges that enter the sluice on this tick count: input, polarity (R222). -/
  mkIntake : List (Nat × Nat × Bool) := []
  /-- The witness pool, and each port's VC1 trigger queue (R285). -/
  wit : Wit := {}
  trigq : Tbl (List (BitVec 64)) := []
  /-- Link ports, and VC2 and VC3 flits delivered to this device and not yet performed, with the port each came on (R315,
  R316). -/
  links : Tbl LinkSt := []
  inbox : List (Nat × BitVec 256) := []
  /-- DMA channels, and the one served last (R354); bytes that DMA wrote into device memories on this tick (R340); remote bursts
  arriving, by 32 × port + channel; the last write issued to host memory, by address; the issue ticks of host reads given up whose tags
  are held (R361); the configuration space (R331); tick count of each relay slot's GO (R345); PERST_N asserted (R560); and the
  last MSI-X message sent: vector, address, data (R375). -/
  dmas : Tbl DmaCh := []
  dmaLast : Nat := 31
  dmaTick : List (Nat × Byte) := []
  remotes : Tbl RemIn := []
  hostWr : List (Nat × List Byte) := []
  lateReads : List Nat := []
  pci : PciSt := {}
  rlyTk : Tbl Nat := []
  perstLow : Bool := false
  msixSent : Option (Nat × Nat × Nat) := none
  /-- Domains ramping after a GLB_PWR write, with its tick count (R524), and domains waiting for rehydration, in order; the
  first is rehydrating while CFG_REHY.ACTIVE is 1 (R422). -/
  ramp : Tbl Nat := []
  rehyQ : List Nat := []
  /-- The loader; the host's flash command; the microcode chain M_MC and the number of reports of Table 14-6; whether a report is
  being built (R433); and the next entry of the shutdown log (R431). -/
  boot : BootSt := {}
  flash : Option FlashCmd := none
  mcChain : List Byte := List.replicate 32 0
  reports : Nat := 0
  attesting : Bool := false
  logNext : Nat := 0
  /-- Thermal and supply monitors, and the tick count on which an engine last asked about a shot slot (R462). -/
  heat : Heat := {}
  askedTk : Nat := 0
  /-- Calibration: values staged by group (R484), the temperature of the values last applied (R484) and the set their choice among
  redundant elements came from (R483), and the tick count on which the run in progress began (R477). -/
  calStaged : Tbl CalStage := []
  calApplied : Tbl Nat := []
  calChoice : Tbl (Option Nat) := []
  calTk : Nat := 0
  /-- A converter group has fewer good elements than it uses: every shot is tainted until a reset of class B (R499). -/
  nospareTaint : Bool := false
  /-- Groups a RUN or a boot still has to calibrate (R486, R487), groups completed since the last reset of class B with the
  temperature of their calibration (R485), groups whose repair or set asks for a recomputation (R484), and a commit in progress:
  set, slot and the tick count of its start (R429). -/
  calQ : List Nat := []
  calTemp : Tbl (Option Int) := []
  calAsk : List Nat := []
  calStore : Option (Nat × Nat × Nat) := none
  /-- Sub-converters by IC, and the stamper's capacitors: by source, and the spares; sources by the age of their capacitor. -/
  convs : Tbl ConvSt := []
  caps : Tbl Nat := []
  capSpare : List Nat := [23, 24, 25]
  capAge : List Nat := List.range 23
  /-- Self-test: slices in progress and the next unit, by row; slices since a partition was abandoned (R493); channels whose next
  gap is a slice (R495); the spare bits of BST_SIG_HI's shadow; quarters whose serving PLL is out of lock (R498, R534). -/
  slices : Tbl SliceSt := []
  /-- Channel domains a slice has left and the tick on which its restore is complete (R489, R496). -/
  restores : Tbl Nat := []
  nextUnit : Tbl Nat := []
  retry : Tbl Nat := []
  gapTurn : List Nat := []
  sigHi : W32 := 0
  pllOut : List Nat := []
  /-- The firmware's log of soft repairs in the eNVM, oldest first, as entries of BST_SRPe (R500). -/
  srpLog : List W32 := []
  /-- The mode request pending; the domains power on to leave RELAY (R513); SAFE causes that have arisen and not entered (R534);
  freeze causes that have arisen and not started (R530); a watchdog reset that waits for its freeze; a warm reset whose
  re-application runs; and the management controller's failed restarts while it restarts (R536). -/
  modeAsk : Option ModeReq := none
  relayUp : Bool := false
  safeDue : List Nat := []
  frzDue : List Nat := []
  dogWait : Bool := false
  warm : Bool := false
  ctlRestart : Option Nat := none
  /-- The SMBus target, the TAP's instruction (R565), protected OTP blocked after INTSCAN, and VAUX lost (R503, R548). -/
  smb : Smb := {}
  tap : TapIr := .idcode
  otpBlocked : Bool := false
  vauxLost : Bool := false
  /-- Rill: events of each source in this guard window (R371), and the task inputs. -/
  guardCnt : Tbl Nat := []
  tasks : Tbl TaskSt := []
  /-- The guard window the counts belong to (R371); firmware interrupts FIk and secure inputs SIk that have fired and that the
  firmware has not taken (Table 12-2). -/
  guardWin : Nat := 0
  fwIrq : List Nat := []
  secIn : List Nat := []
  /-- Pending bits of the MSI-X vectors, the PBA of R337, by vector; and the last message sent (R375). -/
  pba : List Nat := []
  /-- Markers: inputs, edges on their way to registration, rill marker lines high in this tick, level lines that actions
  have set in this tick (R394), and the last 68 values of
  each output line, newest first, for the delay of R393. -/
  mkIn : Tbl MkIn := []
  edges : List EdgePend := []
  rillLines : List Nat := []
  lvlNow : List (Nat × Bool) := []
  mkoHist : Tbl (List Bool) := []
  /-- Stamp records due on this tick, in ascending SRC (R388); the next one carries SPILL (R389); records written since reset
  (SEQ). -/
  stamps : List StampDue := []
  stampSpill : Bool := false
  stampSeq : BitVec 16 := 0
  cycle : CycleSt := {}
  /-- Sediment entries of this tick, in the order of R527; the freeze in progress. -/
  bbx : List BbxEntry := []
  freeze : Option Freeze := none
  deriving DecidableEq, Repr

/-- The machine: its clock, the rest of the device, and the commands waiting, first in, first out. -/
structure State where
  clk : Clock := {}
  dev : Dev := {}
  pending : List Instr := []
  deriving DecidableEq, Repr

/-- The machine right after power-on, before its first boot step: every register at the value of its table (R15), memories
at what an unlisted byte reads as, mode LOAD (GLB_MODE.CUR 0), the timeline not yet counting (R44), and no command waiting.
The RESET entry of power-on waits to be written (R526). Values the spec does not give are in the assumption log (entries 2
to 4). -/
def State.reset : State := { dev := { bbx := [⟨.reset, 0, 0⟩] } }

end Sys2Proof.Machine
end

