-- ==== Sys2Proof/Machine/Ops.lean ====
section
/-! DEFINITION. The operations every block shares: registers and their fields (R15 to R20), memories (R38), free values, the
taint of a shot (R111), the sediment record (R525 to R527) and the raising of a rill event (R363 to R371). -/
namespace Sys2Proof.Machine

/-! ### Registers -/

/-- The word a register holds. -/
def Dev.reg (d : Dev) (off : Nat) : W32 := tget (regReset off) d.regs off

/-- The device with a register's word replaced. -/
def Dev.setReg (d : Dev) (off : Nat) (v : W32) : Dev := { d with regs := tset (regReset off) d.regs off v }

/-- The bits of a field, as a mask of its register. -/
def Fld.mask (f : Fld) : W32 := BitVec.ofNat 32 ((2 ^ (f.hi + 1 - f.lo) - 1) * 2 ^ f.lo)

/-- A field of a word. -/
def Fld.of (f : Fld) (w : W32) : Nat := w.toNat / 2 ^ f.lo % 2 ^ (f.hi + 1 - f.lo)

/-- A word with a field replaced; what does not fit the field is cut off. -/
def Fld.put (f : Fld) (w : W32) (v : Nat) : W32 := (w &&& ~~~f.mask) ||| (BitVec.ofNat 32 (v * 2 ^ f.lo) &&& f.mask)

/-- The largest value of a field. -/
def Fld.max (f : Fld) : Nat := 2 ^ (f.hi + 1 - f.lo) - 1

/-- The value a field holds. -/
def Dev.fget (d : Dev) (f : Fld) : Nat := f.of (d.reg f.off)

/-- Whether a field holds a value other than 0. -/
def Dev.bit (d : Dev) (f : Fld) : Bool := d.fget f != 0

/-- The device with a field replaced. -/
def Dev.fset (d : Dev) (f : Fld) (v : Nat) : Dev := d.setReg f.off (f.put (d.reg f.off) v)

/-- The device with a one-bit field set from a Bool. -/
def Dev.fsetB (d : Dev) (f : Fld) (b : Bool) : Dev := d.fset f b.toNat

/-- A saturating counter advanced by `k` (R13). -/
def Dev.satAdd (d : Dev) (f : Fld) (k : Nat) : Dev := d.fset f (min f.max (d.fget f + k))

/-- A wrapping counter advanced by 1 (R13). -/
def Dev.wrapInc (d : Dev) (f : Fld) : Dev := d.fset f (d.fget f + 1)

/-- A W1C bit set by the device: it reads 1 after a clear of the same tick (R20). -/
def Dev.flag (d : Dev) (f : Fld) : Dev :=
  let d' := d.fset f f.max
  { d' with w1cNow := tset 0 d'.w1cNow f.off (tget 0 d'.w1cNow f.off ||| f.mask) }

/-- The mode GLB_MODE.CUR codes (R42). Codes 12 to 15 are not used; they read as LOAD. -/
def Mode.ofCode : Nat → Mode
  | 0 => .load | 1 => .park | 2 => .calibrate | 3 => .full | 4 => .dense | 5 => .precise | 6 => .swift | 7 => .mixed
  | 8 => .witness | 9 => .relay | 10 => .sleep | 11 => .safe | _ => .load

/-- The code of a mode in GLB_MODE.CUR. -/
def Mode.code : Mode → Nat
  | .load => 0 | .park => 1 | .calibrate => 2 | .full => 3 | .dense => 4 | .precise => 5 | .swift => 6 | .mixed => 7
  | .witness => 8 | .relay => 9 | .sleep => 10 | .safe => 11

/-- The mode the device is in. -/
def Dev.mode (d : Dev) : Mode := .ofCode (d.fget GLB_MODE.CUR)

/-- The modes in which the schedule runs (R504, R42). -/
def Mode.running : Mode → Bool
  | .full | .dense | .precise | .swift | .mixed | .witness => true
  | _ => false

/-- Whether an access code lets a writer change the bits of a register now: RWL bits only in LOAD, by the loader or the
host (R17); `open_` is set while the loader may write the register outside LOAD (R421, R422, R515). -/
def Dev.writeMask (d : Dev) (r : RegRow) (open_ : Bool) : W32 :=
  let rw := BitVec.ofNat 32 r.rw
  if d.mode = .load || open_ then rw ||| BitVec.ofNat 32 r.rwl else rw

/-- A write of a register under its access codes alone (Table 00-4): RW, WO and, when open, RWL bits take the value; a 1
clears a W1C bit the device has not set in this tick (R20); RO and reserved bits keep theirs (R18). -/
def Dev.writeCodes (d : Dev) (off : Nat) (v : W32) (open_ : Bool := false) : Dev :=
  match regRow? off with
  | none => d
  | some r =>
    let w := d.reg off
    let m := d.writeMask r open_
    let clr := v &&& BitVec.ofNat 32 r.w1c &&& ~~~(tget 0 d.w1cNow off)
    d.setReg off (((w &&& ~~~m) ||| (v &&& m)) &&& ~~~clr)

/-- What a register's stored word reads as: W1P and WO bits read 0 (Table 00-4). -/
def Dev.readCodes (d : Dev) (off : Nat) : W32 :=
  match regRow? off with
  | none => 0
  | some r => d.reg off &&& ~~~(BitVec.ofNat 32 r.w1p)

/-! ### Memories -/

/-- Where each memory stands in the model's one byte space. A BAR0 memory window stands at its BAR0 offset. -/
def bar2Base : Nat := 0x100000000
def bar4Base : Nat := 0x200000000
/-- The sieve's tile stores, 1 MiB each (R248). -/
def tileBase : Nat := 0x300000000
/-- The 2 MiB eNVM (R427). -/
def nvBase : Nat := 0x400000000
/-- The 8 MiB memory of the management controller (Table 01-2). -/
def mgmtBase : Nat := 0x500000000
/-- The microcode store, 16 bytes a word: the device writes its four copies together, so they are one (R434). -/
def mcBase : Nat := 0x600000000
/-- The user staging area (R448). -/
def stagingBase : Nat := 0x700000000
/-- The 256-byte flash command buffer of the host port (R419). -/
def flBufBase : Nat := 0x11000
/-- The xSPI flash (R404). -/
def flashBase : Nat := 0x1000000000

/-- The MSI-X table in BAR0 (R337).
[PRESUMED, assumption 16] -/
def msixBase : Nat := 0xB8000

/-- What a byte that nothing has written reads as: eNVM and flash are erased to 0xFF, the mask bit of an MSI-X vector is set as
PCI Express has it, the pool's contents are free, every other byte reads 0 (assumption 2).
[PRESUMED, assumptions 2, 16] -/
def memDefault (a : Nat) : Byte :=
  if (nvBase ≤ a ∧ a < mgmtBase) ∨ flashBase ≤ a then 0xFF
  else if msixBase ≤ a ∧ a < msixBase + 0x1000 ∧ a % 16 = 12 then 1
  else if bar4Base ≤ a ∧ a < tileBase then Config.poolByte (a - bar4Base)
  else 0

/-- The canonical form of the byte space: addresses strictly rising, no entry equal to what an unlisted address reads as. -/
def Memory.wf (m : List Host.Cell) : Bool := twf memDefault m

/-- The same form of the register table. -/
def Registers.wf (t : Tbl W32) : Bool := twf regReset t

/-- One byte of memory. -/
def Dev.rd8 (d : Dev) (a : Nat) : Byte := tget (memDefault a) d.mem a

/-- The device with one byte written. -/
def Dev.wr8 (d : Dev) (a : Nat) (b : Byte) : Dev := { d with mem := tset (memDefault a) d.mem a b }

/-- `n` bytes from an address, the lowest address first. -/
def Dev.rdBytes (d : Dev) : Nat → Nat → List Byte
  | _, 0 => []
  | a, n + 1 => d.rd8 a :: d.rdBytes (a + 1) n

/-- Bytes written from an address on. -/
def Dev.wrBytes (d : Dev) : Nat → List Byte → Dev
  | _, [] => d
  | a, b :: bs => (d.wr8 a b).wrBytes (a + 1) bs

/-- A little-endian number from its bytes. -/
def leNat : List Byte → Nat
  | [] => 0
  | b :: bs => b.toNat + 256 * leNat bs

/-- The `n` little-endian bytes of a number. -/
def leBytes : Nat → Nat → List Byte
  | 0, _ => []
  | n + 1, v => BitVec.ofNat 8 v :: leBytes n (v / 256)

/-- A little-endian number of `n` bytes in memory. -/
def Dev.rdLe (d : Dev) (a n : Nat) : Nat := leNat (d.rdBytes a n)

/-- A little-endian number of `n` bytes written to memory. -/
def Dev.wrLe (d : Dev) (a n v : Nat) : Dev := d.wrBytes a (leBytes n v)

/-- The device with the bytes of a range at what an unwritten byte reads as. -/
def Dev.clearMem (d : Dev) (a n : Nat) : Dev := { d with mem := d.mem.filter (fun e => !(decide (a ≤ e.1) && decide (e.1 < a + n))) }

/-! ### Bits -/

/-- Bits `hi` down to `lo` of a number. -/
def bits (v hi lo : Nat) : Nat := v / 2 ^ lo % 2 ^ (hi + 1 - lo)

/-- Bit `i` of a number. -/
def bitAt (v i : Nat) : Bool := v / 2 ^ i % 2 == 1

/-- An `n`-bit field as a two's-complement number. -/
def sext (n v : Nat) : Int := if v % 2 ^ n < 2 ^ (n - 1) then (v % 2 ^ n : Nat) else (v % 2 ^ n : Nat) - (2 ^ n : Nat)

/-- The two's-complement field of `n` bits that holds a number, saturating. -/
def satInt (n : Nat) (x : Int) : Nat :=
  let hi : Int := 2 ^ (n - 1) - 1
  let lo : Int := -(2 ^ (n - 1))
  ((if x > hi then hi else if x < lo then lo else x) % (2 ^ n : Int)).toNat

/-- round(a / b) for b > 0, round(x) being floor(x + 1/2). -/
def roundDiv (a : Int) (b : Nat) : Int := (2 * a + (b : Int)) / (2 * (b : Int))

/-- A number clipped to ±m. -/
def clipInt (m x : Int) : Int := if m < x then m else if x < -m then -m else x

/-- Insert into a list of numbers in rising order, once. -/
def insNat (k : Nat) : List Nat → List Nat
  | [] => [k]
  | a :: t => if k < a then k :: a :: t else if k = a then a :: t else a :: insNat k t

/-! ### Free values, taint, sediment record -/

/-- Draw a free value: a value the manual leaves undefined (assumption 5).
[DESIGN CHOICE, assumption 5] -/
def Dev.draw (d : Dev) : BitVec 64 × Dev := (Config.free d.free, { d with free := d.free + 1 })

/-- Taint the shot in flight (R111). -/
def Dev.setTaint (d : Dev) : Dev := { d with taint := true, taintTk := some d.tk }

/-- Place of an entry among those of one tick (R527).
[DESIGN CHOICE, assumption 93] -/
def BbxKind.rank : BbxKind → Nat
  | .reset => 0 | .mode => 1 | .safe => 2 | .event => 3 | .mark => 4 | .note => 5 | .freeze => 6

/-- The KIND code of Table 19-1. -/
def BbxKind.code : BbxKind → Nat
  | .event => 1 | .mode => 2 | .reset => 3 | .mark => 4 | .note => 5 | .safe => 6 | .freeze => 7

/-- The order of R527: kinds by rank, events by source. -/
def BbxEntry.before (x y : BbxEntry) : Bool :=
  decide (x.kind.rank < y.kind.rank) || (x.kind.rank == y.kind.rank && x.kind == .event && decide (x.src < y.src))

/-- Place an entry among the waiting ones, after its equals. -/
def bbxInsert (e : BbxEntry) : List BbxEntry → List BbxEntry
  | [] => [e]
  | x :: xs => if e.before x then e :: x :: xs else x :: bbxInsert e xs

/-- An entry for the sediment record, written at the end of its tick (R527). -/
def Dev.bbxAdd (d : Dev) (k : BbxKind) (src arg : Nat) : Dev := { d with bbx := bbxInsert ⟨k, src, arg⟩ d.bbx }

/-! ### Modes of quarters and channels -/

/-- The mode a quarter runs: its own in MIXED, the device's otherwise (R26, R505). -/
def Dev.quarterMode (d : Dev) (q : Nat) : Mode :=
  match d.mode with
  | .mixed => .ofCode (match q with
      | 0 => d.fget GLB_QMODE.Q0 | 1 => d.fget GLB_QMODE.Q1 | 2 => d.fget GLB_QMODE.Q2 | _ => d.fget GLB_QMODE.Q3)
  | m => m

/-- The mode an output channel obeys (R24, R26). -/
def Dev.ocMode (d : Dev) (n : Nat) : Mode := d.quarterMode (n / 48)

/-- The mode an input channel obeys (R24, R26). -/
def Dev.icMode (d : Dev) (i : Nat) : Mode := d.quarterMode (i / 8)

/-- The tones of an output channel, Table 18-1 (R504). -/
def Dev.toneCount (d : Dev) (n : Nat) : Nat :=
  match d.ocMode n with
  | .full | .witness => 8
  | .dense => 16
  | .precise => if d.fget (OC_CFG.ROLE n) = 2 then 8 else 4
  | .swift => 4
  | _ => 0

/-- BRANCH_LEAD in force (R114, Table 03-5). -/
def Dev.lead (d : Dev) (n : Nat) : Nat :=
  let lo := match d.ocMode n with
    | .full | .witness | .precise => 6
    | .dense => 8
    | _ => 4
  min 64 (max lo (d.fget (SE_CTRL.BRANCH_LEAD n)))

/-! ### Channels -/

/-- An output channel. -/
def Dev.oc (d : Dev) (n : Nat) : OcSt := tget {} d.ocs n
/-- The device with an output channel replaced. -/
def Dev.setOc (d : Dev) (n : Nat) (x : OcSt) : Dev := { d with ocs := tset {} d.ocs n x }
/-- A step engine. -/
def Dev.eng (d : Dev) (n : Nat) : Engine := (d.oc n).eng
/-- The device with a step engine replaced. -/
def Dev.setEng (d : Dev) (n : Nat) (e : Engine) : Dev := d.setOc n { d.oc n with eng := e }
/-- A tone generator. -/
def Dev.tone (d : Dev) (n t : Nat) : ToneSt := tget {} (d.oc n).tones t
/-- The device with a tone generator replaced. -/
def Dev.setTone (d : Dev) (n t : Nat) (x : ToneSt) : Dev :=
  d.setOc n { d.oc n with tones := tset {} (d.oc n).tones t x }

/-- The step engine is IDLE, PRIMED or ENDED (R158). -/
def Engine.still (e : Engine) : Bool := e.mode == .idle || e.mode == .primed || e.mode == .ended

/-! ### Rill events -/

/-- The reserved sources of Table 12-1 (R377). -/
def srcReserved (s : Nat) : Bool :=
  (decide (468 ≤ s) && decide (s ≤ 511)) || (decide (512 ≤ s) && decide (s < 560) && decide (5 ≤ s % 8)) ||
  (decide (561 ≤ s) && decide (s ≤ 575)) || s == 671 || (decide (696 ≤ s) && decide (s ≤ 703)) ||
  (decide (730 ≤ s) && decide (s ≤ 767)) || (decide (776 ≤ s) && decide (s ≤ 831)) ||
  (decide (841 ≤ s) && decide (s ≤ 894)) || (decide (907 ≤ s) && decide (s ≤ 959)) || decide (1024 ≤ s)

/-- The sources that can fire in SLEEP (R376). -/
def srcInSleep (s : Nat) : Bool :=
  (decide (704 ≤ s) && decide (s ≤ 712)) || s == 775 || s == 895 || (decide (992 ≤ s) && decide (s < 1024))

/-- The reserved task inputs of Table 12-2 (R379). -/
def taskReserved (i : Nat) : Bool :=
  (decide (348 ≤ i) && decide (i ≤ 351)) || (decide (422 ≤ i) && decide (i ≤ 447)) || decide (512 ≤ i)

/-- Whether OC domain `n` or IC domain `n - 192` is powered (R522, Table 18-6); in LOAD, RELAY and SLEEP none is, nor one still
ramping (R524), and all that are enabled power on for the leaving of RELAY (R513).
[DESIGN CHOICE, assumption 65] -/
def Dev.domOn (d : Dev) (n : Nat) : Bool :=
  (d.ramp.all (fun e => e.1 != n)) && (match d.mode with | .load | .sleep => false | .relay => d.relayUp | _ => true) &&
  (if n < 192 then bitAt (d.fget (GLB_PWROC.ON (n / 32))) (n % 32) else bitAt (d.fget GLB_PWRIC.ON) (n - 192))

/-- Whether the block of a task input is powered, so that it samples events (R376, Table 18-6). -/
def Dev.taskPowered (d : Dev) (i : Nat) : Bool :=
  if i < 192 then d.domOn i
  else if i < 224 then d.domOn (192 + (i - 192))
  else if 345 ≤ i ∧ i ≤ 347 then true
  else if 416 ≤ i ∧ i < 422 then d.mode != .sleep && d.fget (LNK_P_STAT.STATE (i - 416)) != 0
  else if 480 ≤ i then true
  else d.mode != .sleep

/-- The task inputs subscribed to a rill (R365): the listed RIL_TASKi registers with EN = 1 that name it. -/
def Dev.subscribers (d : Dev) (rill : Nat) : List Nat :=
  d.regs.filterMap (fun e =>
    if RIL_TASK.off 0 ≤ e.1 ∧ e.1 < RIL_TASK.off 512 then
      let i := (e.1 - RIL_TASK.off 0) / 4
      if (RIL_TASK.EN i).of e.2 = 1 ∧ (RIL_TASK.RILL i).of e.2 = rill ∧ d.taskPowered i then some i else none
    else none)

/-- The task inputs clocked by the always-on crystal (Table 12-2). -/
def taskOnXtal (i : Nat) : Bool := decide (345 ≤ i) && decide (i ≤ 347)

/-- One more event waiting at a task input (R367). -/
def Dev.taskAdd (d : Dev) (i : Nat) : Dev :=
  let t := tget {} d.tasks i
  { d with tasks := tset {} d.tasks i { t with arr := t.arr ++ [if taskOnXtal i then d.xtal else d.tk] } }

/-- An event travels on its rill: HIT, the vector's pending bit and every subscribed task input (R365, R373, R375). -/
def Dev.rillEvent (d : Dev) (r : Nat) : Dev :=
  let d := d.flag (RIL_RL.HIT r)
  let d := if d.bit (RIL_RL.MSI_EN r) && !d.bit (RIL_RL.SEC r) && d.mode != .sleep
    then { d with pba := insNat (d.fget (RIL_RL.VEC r)) d.pba } else d
  (d.subscribers r).foldl Dev.taskAdd d

/-- A source raises an event, apart from the guard: once a tick (R363), into the sediment record when its mask bit is set
(R526), and onto its rill when enabled (R364). -/
def Dev.raiseUnguarded (d : Dev) (s : Nat) : Dev :=
  let d := { d with raised := insNat s d.raised }
  let d := if bitAt (d.fget (BBX_SRCMASK.MASK (s / 32))) (s % 32) then d.bbxAdd .event s 0 else d
  if d.bit (RIL_SRC.EN s) then d.rillEvent (d.fget (RIL_SRC.RILL s)) else d

/-- Whether a source may raise an event now: not reserved (R364), not already raised in this tick (R363), and its block
powered (R376). -/
def Dev.canRaise (d : Dev) (s : Nat) : Bool :=
  !srcReserved s && !d.raised.contains s && (d.mode != .sleep || srcInSleep s)

/-- Source 895: a bit of RIL_ERR was set. It is exempt from the guard (R371). -/
def Dev.raiseRilErr (d : Dev) : Dev := if d.canRaise 895 then d.raiseUnguarded 895 else d

/-- LOOP_GUARD is set, and the source recorded when RIL_GUARD is free (R371). -/
def Dev.guardNote (d : Dev) (s : Nat) : Dev :=
  let d := d.flag RIL_ERR.LOOP_GUARD
  if d.bit RIL_GUARD.VALID then d else (d.flag RIL_GUARD.VALID).fset RIL_GUARD.SRC s

/-- The 1,025th event of a source in one guard window reaches no rill: the source is disabled (R371). -/
def Dev.guardTrip (d : Dev) (s : Nat) : Dev :=
  let d := { d with raised := insNat s d.raised }
  let d := if bitAt (d.fget (BBX_SRCMASK.MASK (s / 32))) (s % 32) then d.bbxAdd .event s 0 else d
  let d := (d.fset (RIL_SRC.EN s) 0).fset (RIL_SRC.GUARDED s) 1
  (d.guardNote s).raiseRilErr

/-- One more event of a source in this guard window (R371). -/
def Dev.guardCount (d : Dev) (s : Nat) : Dev := { d with guardCnt := tset 0 d.guardCnt s (tget 0 d.guardCnt s + 1) }

/-- A source raises an event (R363 to R365). Past the 1,024th event of one guard window the source is disabled instead
(R371). -/
def Dev.raise (d : Dev) (s : Nat) : Dev :=
  if !d.canRaise s then d
  else if s = 895 then d.raiseUnguarded 895
  else
    let d := d.guardCount s
    if 1024 < tget 0 d.guardCnt s ∧ d.bit (RIL_SRC.EN s) then d.guardTrip s else d.raiseUnguarded s

/-- A flag register's bit is set and the source of the register raised (R377). -/
def Dev.flagRaise (d : Dev) (f : Fld) (s : Nat) : Dev := (d.flag f).raise s

/-- The command's effect on the device alone. -/
def State.withDev (s : State) (f : Dev → Dev) : State := { s with dev := f s.dev }

end Sys2Proof.Machine
end

