-- ==== Sys2Proof/Machine/Codes.lean ====
section
/-! DEFINITION. The check codes of the link (spec/10_link_ports.md): the flit CRC (R307), the Reed-Solomon code RS(136,128) of
PROTECTED (R314), the scrambler (R299), and Gray mapping with precoding (R297). -/
namespace Sys2Proof.Machine

/-! ### CRC-16 -/

/-- One step of an MSB-first CRC: `w` bits wide, polynomial `poly`, next bit `b`. -/
def crcStep (w poly crc : Nat) (b : Bool) : Nat :=
  let c := crc * 2 % 2 ^ w
  if bitAt crc (w - 1) != b then c ^^^ poly else c

/-- The CRC of the `n` bits of `v` above bit `lo`, highest first. -/
def crcBits (w poly v lo : Nat) : Nat → Nat → Nat
  | 0, crc => crc
  | n + 1, crc => crcBits w poly v lo n (crcStep w poly crc (bitAt v (lo + n)))

/-- The CRC of a flit: bits [255:16] (R307). -/
def flitCrc (f : BitVec 256) : Nat := crcBits 16 0x1021 f.toNat 16 240 0xFFFF

/-- A flit with its CRC. -/
def withCrc (f : BitVec 256) : BitVec 256 := BitVec.ofNat 256 (f.toNat / 65536 * 65536 + flitCrc f)

/-- Whether a flit passes its check. -/
def crcOk (f : BitVec 256) : Bool := f.toNat % 65536 == flitCrc f

/-! ### GF(2⁸) with x⁸ + x⁴ + x³ + x² + 1 -/

/-- Multiplication by x. -/
def gfX (a : Nat) : Nat := let b := a * 2; if 256 ≤ b then b ^^^ 0x11D else b

/-- Multiplication: `n` low bits of `b` still to take. -/
def gfMulN : Nat → Nat → Nat → Nat
  | 0, _, _ => 0
  | n + 1, a, b => (if b % 2 = 1 then a else 0) ^^^ gfMulN n (gfX a) (b / 2)
def gfMul (a b : Nat) : Nat := gfMulN 8 a b

/-- Powers. -/
def gfPow (a : Nat) : Nat → Nat
  | 0 => 1
  | n + 1 => gfMul a (gfPow a n)

/-- The inverse of a nonzero element, a²⁵⁴. -/
def gfInv (a : Nat) : Nat := gfPow a 254

/-- The value of a polynomial, highest coefficient first. -/
def gfEval (p : List Nat) (x : Nat) : Nat := p.foldl (fun s c => gfMul s x ^^^ c) 0

/-- Sum of two polynomials, lowest coefficient first. -/
def gfAdd : List Nat → List Nat → List Nat
  | [], q => q
  | p, [] => p
  | a :: p, b :: q => (a ^^^ b) :: gfAdd p q

/-- Product of two polynomials, lowest coefficient first. -/
def gfMulPoly : List Nat → List Nat → List Nat
  | [], _ => []
  | a :: p, q => gfAdd (q.map (gfMul a)) (0 :: gfMulPoly p q)

/-! ### RS(136,128) -/

/-- The generator polynomial with roots α⁰ to α⁷, lowest coefficient first. -/
def rsGen : List Nat := (List.range 8).foldl (fun g i => gfMulPoly g [gfPow 2 i, 1]) [1]

/-- The 8 check bytes of 128 message bytes, the first sent first. -/
def rsParity (msg : List Nat) : List Nat :=
  let g := (rsGen.take 8).reverse
  msg.foldl (fun s m => match s with
    | [] => []
    | a :: t => let fb := a ^^^ m; (t ++ [0]).zipWith (fun x c => x ^^^ gfMul fb c) g) (List.replicate 8 0)

/-- The syndromes of a received word, the first byte sent first. -/
def rsSyndromes (w : List Nat) : List Nat := (List.range 8).map (fun j => gfEval w (gfPow 2 j))

/-- The state of the Berlekamp-Massey search: error locator, previous locator, their lengths and discrepancy. -/
structure RsSearch where
  c : List Nat := [1]
  b : List Nat := [1]
  l : Nat := 0
  m : Nat := 1
  disc : Nat := 1
  deriving DecidableEq, Repr

/-- One step of the search on syndrome `n`. -/
def RsSearch.step (s : RsSearch) (syn : List Nat) (n : Nat) : RsSearch :=
  let d := (List.range (s.l + 1)).foldl (fun a i => a ^^^ gfMul (s.c[i]?.getD 0) (syn[n - i]?.getD 0)) 0
  if d = 0 then { s with m := s.m + 1 }
  else
    let c := gfAdd s.c (List.replicate s.m 0 ++ s.b.map (gfMul (gfMul d (gfInv s.disc))))
    if 2 * s.l ≤ n then { c := c, b := s.c, l := n + 1 - s.l, m := 1, disc := d } else { s with c := c, m := s.m + 1 }

/-- A received word of 136 bytes with up to 4 byte errors corrected, and whether any was; none when it cannot be corrected
(R314). -/
def rsDecode (w : List Nat) : Option (List Nat × Bool) :=
  let syn := rsSyndromes w
  if syn.all (· == 0) then some (w, false)
  else
    let s := (List.range 8).foldl (fun (s : RsSearch) n => s.step syn n) {}
    let lam := s.c.take (s.l + 1)
    let om := (gfMulPoly syn lam).take 8
    let der := (lam.zipIdx.map (fun x => if x.2 % 2 = 1 then x.1 else 0)).drop 1
    let at_ (p : List Nat) (x : Nat) : Nat := gfEval p.reverse x
    let errs := (List.range 136).filterMap (fun k =>
      let x := gfPow 2 k
      let xi := gfPow 2 (255 - k)
      if at_ lam xi = 0 then some (135 - k, gfMul x (gfMul (at_ om xi) (gfInv (at_ der xi)))) else none)
    if 4 < s.l ∨ errs.length ≠ s.l then none
    else
      let w' := w.zipIdx.map (fun c => match errs.find? (fun e => e.1 == c.2) with | some e => c.1 ^^^ e.2 | none => c.1)
      if (rsSyndromes w').all (· == 0) then some (w', true) else none

/-! ### Scrambler, symbols and patterns -/

/-- `n` bits of the sequence of x³¹ + x²⁸ + 1 from a 31-bit state: the bits, first one highest, and the state after. -/
def scramble : Nat → Nat → Nat × Nat
  | 0, s => (0, s)
  | n + 1, s =>
    let b := ((s / 2 ^ 30) ^^^ (s / 2 ^ 27)) % 2
    let (r, s') := scramble n ((s * 2 + b) % 2 ^ 31)
    (b * 2 ^ n + r, s')

/-- The Gray value of a bit pair (R297). -/
def grayOf (pair : Nat) : Nat := match pair with | 0 => 0 | 1 => 1 | 3 => 2 | _ => 3

/-- The `n` symbols of the low 2n bits of a block, first bit pair highest: precoded levels −3 to +3 and the last precoded value
(R297). -/
def levelsOf (v : Nat) : Nat → Nat → List Int × Nat
  | 0, p => ([], p)
  | n + 1, p =>
    let q := (grayOf (v / 4 ^ n % 4) + 4 - p) % 4
    let (ls, r) := levelsOf v n q
    ((2 * (q : Int) - 3) :: ls, r)

/-- The bit pair of a Gray value (R297). -/
def pairOf (g : Nat) : Nat := match g with | 0 => 0 | 1 => 1 | 2 => 3 | _ => 2

/-- The receiver's decoding of precoded symbols, g = (p + p') mod 4, from the symbol before them (R297). -/
def grayDecode : Nat → List Nat → List Nat
  | _, [] => []
  | p, q :: qs => (q + p) % 4 :: grayDecode q qs

/-- The bits of Gray values, first pair highest (R297). -/
def pairsNat (gs : List Nat) : Nat := gs.foldl (fun v g => 4 * v + pairOf g) 0

/-- A Gray value when every level is inverted (R301): p becomes 3 − p, so g becomes (6 − g) mod 4. -/
def grayInvert (g : Nat) : Nat := (6 - g) % 4

/-- The levels of bit pairs sent without precoding (R327). -/
def plainLevels (v : Nat) : Nat → List Int
  | 0 => []
  | n + 1 => (2 * (grayOf (v / 4 ^ n % 4) : Int) - 3) :: plainLevels v n

/-- `n` bits of a pseudo-random sequence of degree `deg` with taps, from a state. -/
def prbs (deg : Nat) (taps : List Nat) : Nat → Nat → Nat × Nat
  | 0, s => (0, s)
  | n + 1, s =>
    let b := (taps.foldl (fun a t => a ^^^ (s / 2 ^ (t - 1))) 0) % 2
    let (r, s') := prbs deg taps n ((s * 2 + b) % 2 ^ deg)
    (b * 2 ^ n + r, s')

end Sys2Proof.Machine
end

