-- ==== Sys2Proof/Machine/SieveDecode.lean ====
section
/-! DEFINITION. The decode of one window of the sieve (R258 to R261): edge instances, cluster growth, shortest paths and
matching, and what is committed. It is a function of the graph and the window alone. -/
namespace Sys2Proof.Machine

/-- An edge word by its fields (Table 08-2). -/
structure SvEdge where
  a : Nat
  b : Nat
  dt : Bool
  bnd : Bool
  m : Bool
  w : Nat
  label : Nat
  obs : Nat
  deriving DecidableEq, Repr

/-- The fields of a 64-bit edge word. -/
def SvEdge.ofNat (w : Nat) : SvEdge where
  a := bits w 63 51
  b := bits w 50 38
  dt := bitAt w 37
  bnd := bitAt w 36
  m := bitAt w 35
  w := bits w 34 27
  label := bits w 26 13
  obs := bits w 12 5

/-- A window to decode: its rounds, whether the decode is final, the graph's WIN, its defects and low-confidence measurements
as (detector, round), and the weight LOWW (R254, R258). -/
structure SvWindow where
  lo : Nat
  hi : Nat
  final : Bool
  win : Nat
  defs : List (Nat × Nat)
  low : List (Nat × Nat)
  loww : Nat

/-- Nodes: 0 the boundary, 1 the top, 2 + p the seam toward port p, 16 + key a detector, key = r × 8,192 + d (R260). -/
def nodeOf (d r : Nat) : Nat := 16 + (r * 8192 + d)

/-- An edge instance (R258): round, edge index, ends and weight. -/
structure SvInst where
  r : Nat
  e : Nat
  a : Nat
  b : Nat
  w : Nat
  deriving DecidableEq, Repr

/-- The instance of a template edge in one round, when it exists (R258). -/
def SvWindow.inst (x : SvWindow) (r e : Nat) (g : SvEdge) : Option SvInst :=
  let w := if g.m && x.low.contains (g.a, r) then max 1 x.loww else g.w
  let mk := fun b => some (⟨r, e, nodeOf g.a r, b, w⟩ : SvInst)
  if g.bnd then mk (if g.b % 8 = 0 then 0 else 1 + g.b % 8)
  else if !g.dt then mk (nodeOf g.b r)
  else if r < x.hi then mk (nodeOf g.b (r + 1))
  else if x.final then none else mk 1

/-- Every instance of the window, in ascending (round, edge index). -/
def SvWindow.insts (x : SvWindow) (es : List SvEdge) : List SvInst :=
  (((List.range (x.hi + 1 - x.lo)).map (fun k => es.zipIdx.filterMap (fun g => x.inst (x.lo + k) g.2 g.1)))).flatten

/-- Clusters: the cluster of each node that is in one, and the boundary, top and seam nodes each cluster holds. -/
structure SvClusters where
  of_ : Tbl Nat
  marks : List (Nat × Nat)

/-- The cluster of a node. -/
def SvClusters.find (c : SvClusters) (n : Nat) : Option Nat := (c.of_.find? (fun e => e.1 = n)).map (·.2)

/-- Defects of a cluster, ascending. -/
def SvClusters.defects (c : SvClusters) (defs : List Nat) (k : Nat) : List Nat := defs.filter (fun n => c.find n == some k)

/-- Whether a cluster holds a boundary or the top node; a seam node (R258). -/
def SvClusters.anchored (c : SvClusters) (k : Nat) : Bool := c.marks.any (fun m => m.1 == k && m.2 < 2)
def SvClusters.open_ (c : SvClusters) (k : Nat) : Bool := c.marks.any (fun m => m.1 == k && 2 ≤ m.2)

/-- Odd: an odd number of defects and no boundary or top node (R258). -/
def SvClusters.odd (c : SvClusters) (defs : List Nat) (k : Nat) : Bool :=
  (c.defects defs k).length % 2 == 1 && !c.anchored k

/-- The clusters' names. -/
def SvClusters.names (c : SvClusters) : List Nat := (c.of_.map (·.2)).eraseDups

/-- A fully supported instance joins its ends, or marks the cluster of end a (R258). -/
def SvClusters.join (c : SvClusters) (i : SvInst) : SvClusters :=
  if i.b < 16 then
    match c.find i.a with
    | some k => { c with marks := if c.marks.contains (k, i.b) then c.marks else (k, i.b) :: c.marks }
    | none => c
  else match c.find i.a, c.find i.b with
    | some k, some l =>
      if k = l then c
      else
        let (keep, gone) := if k < l then (k, l) else (l, k)
        { of_ := c.of_.map (fun e => (e.1, if e.2 = gone then keep else e.2)),
          marks := c.marks.map (fun m => (if m.1 = gone then keep else m.1, m.2)) }
    | some k, none => { c with of_ := tput c.of_ i.b k }
    | none, some l => { c with of_ := tput c.of_ i.a l }
    | none, none => c

/-- One growth step (R258): new supports, new clusters, and whether a support changed. -/
def growStep (is : List (SvInst × Nat)) (c : SvClusters) (grow : List Nat) :
    List (SvInst × Nat) × SvClusters × Bool :=
  let inGrow := fun n => match c.find n with | some k => grow.contains k | none => false
  let is' := is.map (fun x =>
    (x.1, min x.1.w (x.2 + (inGrow x.1.a).toNat + (decide (16 ≤ x.1.b) && inGrow x.1.b).toNat)))
  (is', (is'.filter (fun x => x.2 = x.1.w)).foldl (fun c x => c.join x.1) c, is' != is)

/-- Cluster growth until no cluster grows or no support changes (R258); every step but the last raises a support. -/
def growAll (defs : List Nat) : Nat → List (SvInst × Nat) → SvClusters → List (SvInst × Nat) × SvClusters
  | 0, is, c => (is, c)
  | n + 1, is, c =>
    let grow := c.names.filter (fun k => c.odd defs k && !c.open_ k)
    if grow.isEmpty then (is, c)
    else
      let (is', c', changed) := growStep is c grow
      if changed then growAll defs n is' c' else (is', c')

/-! ### Shortest paths and matching (R260) -/

/-- A path from a defect: weight, instances, edge indices in order, and positions of its instances. -/
structure SvPath where
  w : Nat
  hops : Nat
  seq : List Nat
  via : List Nat
  deriving DecidableEq, Repr

/-- Lexicographic order of lists of numbers. -/
def lexLt : List Nat → List Nat → Bool
  | [], [] => false
  | [], _ => true
  | _, [] => false
  | a :: as, b :: bs => decide (a < b) || (a == b && lexLt as bs)

/-- Whether one path is preferred to another: weight, then instances, then edge indices (R260). -/
def SvPath.better (p q : SvPath) : Bool :=
  decide (p.w < q.w) || (p.w == q.w && (decide (p.hops < q.hops) || (p.hops == q.hops && lexLt p.seq q.seq)))

/-- Extend the best paths over one instance, from one end to the other; boundary and top end a path. -/
def relaxEnd (best : Tbl SvPath) (i : SvInst) (ix src dst : Nat) : Tbl SvPath :=
  if src < 16 then best
  else match best.find? (fun e => e.1 = src) with
    | none => best
    | some (_, p) =>
      let q : SvPath := ⟨p.w + i.w, p.hops + 1, p.seq ++ [i.e], p.via ++ [ix]⟩
      match best.find? (fun e => e.1 = dst) with
      | some (_, o) => if q.better o then tput best dst q else best
      | none => tput best dst q

/-- One pass over the grown instances (with their positions). -/
def relaxAll (is : List (SvInst × Nat)) (best : Tbl SvPath) : Tbl SvPath :=
  is.foldl (fun b x => relaxEnd (relaxEnd b x.1 x.2 x.1.a x.1.b) x.1 x.2 x.1.b x.1.a) best

/-- Best paths from a defect over the grown instances: as many passes as there are instances suffice. -/
def bestPaths (is : List (SvInst × Nat)) (src : Nat) : Tbl SvPath :=
  (List.range is.length).foldl (fun b _ => relaxAll is b) [(src, ⟨0, 0, [], []⟩)]

/-- A way to pair a defect: the partner (another defect, or 0 for the boundary, 1 for the top) and the path. -/
abbrev SvOption := Nat × SvPath

/-- The key of a partner in a list of pairs: the boundary and the top after every defect (assumption 31).
[DEDUCED, assumption 31] -/
def partnerKey (n : Nat) : Nat := if n < 16 then 2 ^ 40 + n else n

/-- A matching: its weight, its pairs as (key, partner key), and the positions of its instances. -/
structure SvMatching where
  w : Nat
  pairs : List Nat
  via : List Nat

/-- Whether one matching is preferred to another: weight, then the list of pairs (R260). -/
def SvMatching.better (p q : SvMatching) : Bool := decide (p.w < q.w) || (p.w == q.w && lexLt p.pairs q.pairs)

/-- The preferred of two matchings, when they exist. -/
def bestOf : Option SvMatching → Option SvMatching → Option SvMatching
  | none, q => q
  | p, none => p
  | some p, some q => if q.better p then some q else some p

/-- A minimum-weight matching of the defects, the lowest unmatched one first (R260). -/
def exactMatch (opts : Nat → List SvOption) : Nat → List Nat → Option SvMatching
  | _, [] => some ⟨0, [], []⟩
  | 0, _ => none
  | n + 1, k :: ks =>
    (opts k).foldl (fun acc o =>
      if o.1 < 16 ∨ ks.contains o.1 then
        bestOf acc ((exactMatch opts n (ks.filter (· != o.1))).map (fun m =>
          ⟨o.2.w + m.w, k :: partnerKey o.1 :: m.pairs, o.2.via ++ m.via⟩))
      else acc) none

/-- The closest unpaired defect and partner, the lowest key pair among equals (R260). -/
def closest (opts : Nat → List SvOption) (ks : List Nat) : Option (Nat × SvOption) :=
  ((ks.map (fun k => (opts k).map (fun o => (k, o)))).flatten.filter
    (fun x => (x.2.1 < 16 || ks.contains x.2.1) && (x.2.1 < 16 || decide (x.1 < x.2.1)))).foldl (fun acc x =>
      match acc with
      | none => some x
      | some y => if x.2.2.w < y.2.2.w ∨ (x.2.2.w = y.2.2.w ∧ lexLt [x.1, partnerKey x.2.1] [y.1, partnerKey y.2.1])
        then some x else some y) none

/-- Greedy pairing (R260). -/
def greedyMatch (opts : Nat → List SvOption) : Nat → List Nat → List Nat
  | 0, _ => []
  | n + 1, ks =>
    match closest opts ks with
    | none => []
    | some (k, o) => o.2.via ++ greedyMatch opts n (ks.filter (fun x => x != k && x != o.1))

/-- Positions of the instances on the chosen paths of one cluster (R260): its defects in ascending key. -/
def pairCluster (is : List (SvInst × Nat)) (defs : List Nat) : List Nat :=
  let paths := defs.map (fun k => (k, bestPaths is k))
  let opts := fun k => match paths.find? (fun p => p.1 = k) with
    | none => []
    | some (_, b) => (b.filter (fun e => e.1 != k && (decide (e.1 < 2) || (defs.contains e.1 && decide (k < e.1)))))
  if defs.length ≤ 14 then ((exactMatch opts defs.length defs).map (·.via)).getD []
  else greedyMatch opts defs.length defs

/-! ### The decode -/

/-- What a decode yields: committed instances as (edge index, round), detectors toggled in round lo + 1, defects handed up with
their port, defects of dropped clusters, the number of those clusters, and the committed weight. -/
structure SvResult where
  committed : List (Nat × Nat)
  toggles : List Nat
  opened : List (Nat × Nat)
  lost : List Nat
  dropped : Nat
  weight : Nat

/-- Decode a window (R258 to R262).
[DESIGN CHOICE, assumption 57] -/
def SvWindow.decode (x : SvWindow) (es : List SvEdge) : SvResult :=
  let defs := x.defs.foldl (fun l p => insNat (nodeOf p.1 p.2) l) []
  let is := x.insts es
  let (grown, c) := growAll defs ((is.map (·.w)).foldl (· + ·) 1) (is.map (fun i => (i, 0)))
    ⟨defs.map (fun n => (n, n)), []⟩
  let full := (grown.zipIdx.filter (fun y => y.1.2 == y.1.1.w)).map (fun y => (y.1.1, y.2))
  -- clusters in ascending order of their lowest defect
  let names := (defs.filterMap c.find).eraseDups
  let opened := ((names.filter c.open_).map (fun k =>
    let port := ((c.marks.filter (fun m => m.1 == k && 2 ≤ m.2)).map (fun m => m.2 - 2)).foldl min 7
    (c.defects defs k).map (fun n => (n, port)))).flatten
  let bad := names.filter (fun k => c.odd defs k && !c.open_ k)
  let good := names.filter (fun k => !c.odd defs k && !c.open_ k)
  let used := (good.map (fun k =>
    pairCluster (full.filter (fun y => c.find y.1.a == some k)) (c.defects defs k))).flatten
  let corr := (grown.zipIdx.filter (fun y => (used.filter (· == y.2)).length % 2 == 1)).map (·.1.1)
  let commit := if !x.final && decide (x.hi < x.win) then []
    else if x.final then corr else corr.filter (fun i => i.r == x.lo)
  let tog := if x.final then [] else commit.filterMap (fun i =>
    match es[i.e]? with
    | some g => if g.dt && !g.bnd then some g.b else none
    | none => none)
  { committed := commit.map (fun i => (i.e, i.r)), toggles := tog, opened := opened.map (fun p => (p.1, p.2)),
    lost := (bad.map (c.defects defs)).flatten, dropped := bad.length, weight := (commit.map (·.w)).foldl (· + ·) 0 }

end Sys2Proof.Machine
end

