-- ==== Sys2Proof/Machine/Operands.lean ====
section
/-! DEFINITION. The formats of the words the block reads from its memories and messages: the step word (Table 03-1), the
user micro-word (Table 15-2), and their checks. -/
namespace Sys2Proof.Machine

/-! ### Step words -/

/-- A step word by its fields (Table 03-1). -/
structure StepWord where
  op : Nat
  shot : Bool
  strobe : Bool
  mark : Bool
  segEnd : Bool
  adv : Nat
  /-- VALUE of a SYNC, bits [191:128]. -/
  value : Nat
  target : Nat
  cond : Nat
  aux : Nat
  fields : CmdFields
  deriving DecidableEq, Repr

/-- The fields of a 256-bit step word. -/
def StepWord.ofNat (w : Nat) : StepWord where
  op := bits w 255 250
  shot := bitAt w 245
  strobe := bitAt w 244
  mark := bitAt w 243
  segEnd := bitAt w 241
  adv := bits w 215 200
  value := bits w 191 128
  target := bits w 49 34
  cond := bits w 33 18
  aux := bits w 17 0
  fields := {
    tone := bits w 249 246
    frameApply := bitAt w 242
    interp := bitAt w 240
    dur := bits w 239 216
    offs := bits w 199 195
    freq := BitVec.ofNat 48 (bits w 191 144)
    phase := BitVec.ofNat 32 (bits w 143 112)
    amp0 := BitVec.ofNat 18 (bits w 111 94)
    amp1 := BitVec.ofNat 18 (bits w 93 76)
    shape := bits w 75 68
    drag := BitVec.ofNat 18 (bits w 67 50)
    pmode := bits w 17 0 % 4 }

/-- The opcodes of Table 03-2. -/
def opPlay : Nat := 0x01
def opSetf : Nat := 0x02
def opIdle : Nat := 0x03
def opWait : Nat := 0x08
def opBranch : Nat := 0x09
def opLoop : Nat := 0x0A
def opCall : Nat := 0x0B
def opFrame : Nat := 0x10
def opMark : Nat := 0x11
def opSync : Nat := 0x12
def opEnd : Nat := 0x3F

/-- Whether Table 03-2 defines an opcode (R89). -/
def opDefined (op : Nat) : Bool :=
  [opPlay, opSetf, opIdle, opWait, opBranch, opLoop, opCall, opFrame, opMark, opSync, opEnd].contains op

/-- Byte address of step word `i` of OC `n` (R38, R88). -/
def stepAddr (n i : Nat) : Nat := bar2Base + 0x40000 * n + 32 * i

/-- Step word `i` of OC `n`. -/
def Dev.stepWord (d : Dev) (n i : Nat) : StepWord := .ofNat (d.rdLe (stepAddr n i) 32)

/-! ### Segment entries (Table 03-3) -/

/-- The states of a segment, in the coding of STATE. -/
def segEmpty : Nat := 0
def segLoading : Nat := 1
def segValid : Nat := 2
def segArmed : Nat := 3
def segActive : Nat := 4
def segRetired : Nat := 5

/-- State, START, LENM1, DUR and NEXT of a segment. -/
def Dev.segState (d : Dev) (n s : Nat) : Nat := d.fget (SE_SEG_LO.STATE n s)
def Dev.segStart (d : Dev) (n s : Nat) : Nat := d.fget (SE_SEG_LO.START n s)
def Dev.segLast (d : Dev) (n s : Nat) : Nat := d.fget (SE_SEG_LO.START n s) + d.fget (SE_SEG_LO.LENM1 n s)
def Dev.segDur (d : Dev) (n s : Nat) : Nat := d.fget (SE_SEG_HI.DUR n s)
def Dev.segNext (d : Dev) (n s : Nat) : Nat := d.fget (SE_SEG_HI.NEXT n s)

/-- The segments of OC `n` that are not EMPTY, in ascending number. -/
def Dev.segsInUse (d : Dev) (n : Nat) : List Nat :=
  d.regs.filterMap (fun e =>
    if SE_SEG_LO.off n 0 ≤ e.1 ∧ e.1 < SE_SEG_LO.off n 256 ∧ (e.1 - SE_SEG_LO.off n 0) % 8 = 0 ∧
        (SE_SEG_LO.STATE n 0).of e.2 ≠ segEmpty
    then some ((e.1 - SE_SEG_LO.off n 0) / 8) else none)

/-- Whether step word `i` lies in the region of a segment (R105). -/
def Dev.segHolds (d : Dev) (n s i : Nat) : Bool := decide (d.segStart n s ≤ i) && decide (i ≤ d.segLast n s)

/-! ### User micro-words (Table 15-2) -/

/-- A user micro-word by its fields. -/
structure MicroWord where
  uop : Nat
  d : Nat
  a : Nat
  b : Nat
  dt : Nat
  sel : Nat
  imm : Nat
  /-- Bits [109:106] and [93:80], which must be zero. -/
  zero : Nat
  deriving DecidableEq, Repr

/-- The fields of a 128-bit micro-word. -/
def MicroWord.ofNat (w : Nat) : MicroWord where
  uop := bits w 127 122
  d := bits w 121 118
  a := bits w 117 114
  b := bits w 113 110
  dt := bits w 105 94
  sel := bits w 79 64
  imm := bits w 63 0
  zero := bits w 109 106 + bits w 93 80

/-- First micro-address of the user partition (R434). -/
def userBase : Nat := 14336

/-- Micro-word `a` of the store (R434). -/
def Dev.microWord (d : Dev) (a : Nat) : MicroWord := .ofNat (d.rdLe (mcBase + 16 * a) 16)

/-- The operations of Table 15-3. -/
def uopNop : Nat := 0x00
def uopLdi : Nat := 0x01
def uopAdd : Nat := 0x02
def uopSub : Nat := 0x03
def uopAnd : Nat := 0x04
def uopOr : Nat := 0x05
def uopXor : Nat := 0x06
def uopShl : Nat := 0x07
def uopShr : Nat := 0x08
def uopAddi : Nat := 0x09
def uopMul : Nat := 0x0A
def uopGet : Nat := 0x10
def uopPut : Nat := 0x11
def uopIssue : Nat := 0x12
def uopSkipz : Nat := 0x18
def uopSkipnz : Nat := 0x19
def uopSkiplt : Nat := 0x1A
def uopRet : Nat := 0x3F

/-- The routine, if any, that starts at a micro-address: its last address (R441). -/
def Dev.routineAt (d : Dev) (a : Nat) : Option Nat :=
  (d.urt.find? (fun e => (MCS_URT.VALID 0).of e.2 = 1 ∧ (MCS_URT.START 0).of e.2 = a)).map
    (fun e => a + (MCS_URT.LEN 0).of e.2 - 1)

end Sys2Proof.Machine
end

