-- ==== Sys2Proof/Machine/StepOps.lean ====
section
/-! DEFINITION. What the step-engine commands share: the cycle-lock prediction a SYNC asks for (R399, R400), segment states
and the refill list (R101 to R106), candidates and boundaries (R107 to R109), queues (R94 to R96), the reading of steps
(R92, R93, R98, R99), condition inputs (R116, R117), HALT (R132) and soft reset (R134). `now` is the timeline value. -/
namespace Sys2Proof.Machine

/-! ### Cycle-lock prediction -/

/-- The prediction in force: S and P̂ in 1/1,024 tk (R397, R399, R401). -/
def Dev.prediction (d : Dev) : Option (Nat × Nat) :=
  if d.bit CL_CFG.HOLD then d.cycle.held
  else if d.bit CL_CFG.EN && d.cycle.measValid then (d.cycle.hist.head?).map (fun s => (s, d.cycle.pHat)) else none

/-- Start and end tick of quiet window `w` in cycle `k` of a prediction (R399). -/
def Dev.windowTicks (d : Dev) (w : Nat) (p : Nat × Nat) (k : Nat) : Nat × Nat :=
  let a := p.1 + k * p.2 + d.fget (CL_WIN.START w) * p.2 / 65536
  ((a + 1023) / 1024, (a + d.fget (CL_WIN.LEN w) * p.2 / 65536) / 1024)

/-- Start tick of the next quiet window `w` at or after a cursor; none when the window is disabled or no valid prediction
is held (R133, R400). -/
def Dev.nextWindow (d : Dev) (w cursor : Nat) : Option Nat :=
  if d.fget (CL_WIN.LEN w) = 0 then none
  else match d.prediction with
    | none => none
    | some p =>
      let base := p.1 + d.fget (CL_WIN.START w) * p.2 / 65536
      let need := 1024 * cursor - 1023
      let k := if need ≤ base then 0 else (need - base + p.2 - 1) / p.2
      some (d.windowTicks w p k).1

/-! ### Errors of a step engine -/

/-- A bit of SE_ERR is set; it raises the channel-fault source (R377). -/
def Dev.seErr (d : Dev) (n : Nat) (f : Fld) : Dev := d.flagRaise f (2 * n + 1)

/-- A bit of SE_ERR is set and the shot in flight tainted. -/
def Dev.seErrTaint (d : Dev) (n : Nat) (f : Fld) : Dev := (d.seErr n f).setTaint

/-! ### Segments -/

/-- Move a segment to a state, keeping the refill list: a retirement appends it, leaving RETIRED removes it (R106). -/
def Dev.setSeg (d : Dev) (n s st : Nat) : Dev :=
  let old := d.segState n s
  let d := d.fset (SE_SEG_LO.STATE n s) st
  let e := d.eng n
  if old = segRetired ∧ st ≠ segRetired then d.setEng n { e with refill := e.refill.filter (· != s) }
  else if old ≠ segRetired ∧ st = segRetired then d.setEng n { e with refill := e.refill ++ [s] }
  else d

/-- Every segment of OC `n` in one of the given states moves to VALID (R132, R134). -/
def Dev.segsToValid (d : Dev) (n : Nat) : Dev :=
  (d.segsInUse n).foldl (fun d s =>
    if d.segState n s = segArmed ∨ d.segState n s = segActive then d.setSeg n s segValid else d) d

/-- A refused entry write or commit (R102 to R104). -/
def Dev.segRefuse (d : Dev) (n s : Nat) : Dev := (d.seErr n (SE_ERR.SEGSTATE n)).fset (SE_ERRSEG.SEG n) s

/-- The commit check (R104). -/
def commitOk (start lenm1 dur : Nat) : Bool := decide (start + lenm1 ≤ 8191) && decide (1 ≤ dur)

/-- Whether Table 03-4 lets the host move a segment between two states, or rewrite it in the state it has (R102). -/
def segMoveOk (cur req : Nat) : Bool :=
  (cur == segEmpty && req == segLoading) || (cur == segRetired && req == segLoading) ||
  (cur == segLoading && req == segValid) ||
  ((cur == segLoading || cur == segValid || cur == segRetired) && req == segEmpty) ||
  (cur == req && (cur == segEmpty || cur == segLoading || cur == segRetired))

/-- A state an image record may leave a segment in besides the host's moves: RETIRED (R106).
[DEDUCED, assumption 23] -/
def segImageOk (cur req : Nat) : Bool :=
  (cur == segEmpty || cur == segLoading || cur == segRetired) && req == segRetired

/-- A write of SE_SEGs_LO (R102, R104): accepted whole or refused whole; FALLBACK is the device's. In queue mode only
EMPTY may be requested (R178). -/
def Dev.segLoWrite (d : Dev) (n s : Nat) (v : W32) (loader : Bool := false) : Dev :=
  let cur := d.segState n s
  let req := (SE_SEG_LO.STATE n s).of v
  let checkOk := !(cur == segLoading && req == segValid) ||
    commitOk ((SE_SEG_LO.START n s).of v) ((SE_SEG_LO.LENM1 n s).of v) (d.segDur n s)
  if (segMoveOk cur req || (loader && segImageOk cur req)) && checkOk && (!d.bit (OC_QCTL.EN n) || req == segEmpty) then
    let keep := (SE_SEG_LO.FALLBACK n s).mask ||| (SE_SEG_LO.STATE n s).mask
    let d := d.setReg (SE_SEG_LO.off n s) ((d.reg (SE_SEG_LO.off n s) &&& keep) ||| (v &&& ~~~keep))
    d.setSeg n s req
  else d.segRefuse n s

/-- A write of SE_SEGs_HI (R103). -/
def Dev.segHiWrite (d : Dev) (n s : Nat) (v : W32) : Dev :=
  let cur := d.segState n s
  if cur == segEmpty || cur == segLoading || cur == segRetired then d.setReg (SE_SEG_HI.off n s) v
  else d.segRefuse n s

/-- A commit by AUTOCOMMIT (R104). -/
def Dev.autoCommit (d : Dev) (n s : Nat) : Dev :=
  if commitOk (d.segStart n s) (d.fget (SE_SEG_LO.LENM1 n s)) (d.segDur n s) then d.setSeg n s segValid
  else d.segRefuse n s

/-- Whether a step word is protected: it lies in a segment in VALID, ARMED or ACTIVE (R105); queue mode protects none
(R178). -/
def Dev.wordProtected (d : Dev) (n i : Nat) : Bool :=
  !d.bit (OC_QCTL.EN n) && (d.segsInUse n).any (fun s =>
    d.segHolds n s i && (d.segState n s == segValid || d.segState n s == segArmed || d.segState n s == segActive))

/-- What the writing of step word `i` does to segment states: RETIRED segments that hold it go to LOADING (R105); with
AUTOCOMMIT, LOADING segments whose last step it is commit (R104). -/
def Dev.wordWritten (d : Dev) (n i : Nat) : Dev :=
  let d := (d.segsInUse n).foldl (fun d s =>
    if d.segState n s = segRetired ∧ d.segHolds n s i then d.setSeg n s segLoading else d) d
  if d.bit (SE_CTRL.AUTOCOMMIT n) then
    (d.segsInUse n).foldl (fun d s =>
      if d.segState n s = segLoading ∧ d.segLast n s = i then d.autoCommit n s else d) d
  else d

/-- Write one byte unless its step word is dropped. -/
def Dev.storeByte (d : Dev) (n : Nat) (dropped : List Nat) (off : Nat) (b : Byte) : Dev :=
  if dropped.contains (off / 32) then d else d.wr8 (bar2Base + 0x40000 * n + off) b

/-- The bytes of a step-store write, laid down word by word (R105). -/
def Dev.storeBytes (d : Dev) (n : Nat) (dropped : List Nat) : Nat → List Byte → Dev
  | _, [] => d
  | off, b :: bs => (d.storeByte n dropped off b).storeBytes n dropped (off + 1) bs

/-- A write of bytes into the step store of OC `n` at byte `off`, `en` telling which bytes are enabled (R105). -/
def Dev.stepStore (d : Dev) (n off : Nat) (bytes : List Byte) : Dev :=
  let bytes := bytes.take (0x40000 - off)
  if bytes.isEmpty then d
  else
    let first := off / 32
    let words := (List.range ((off + bytes.length - 1) / 32 + 1 - first)).map (· + first)
    let dropped := words.filter (fun i => d.wordProtected n i)
    let written := words.filter (fun i => !d.wordProtected n i)
    let d := d.storeBytes n dropped off bytes
    let d := written.foldl (fun d i => d.wordWritten n i) d
    match dropped.head? with
    | none => d
    | some i => (d.seErr n (SE_ERR.WPROT n)).fset (SE_ERRSEG.STEP n) i

/-! ### Candidates and boundaries -/

/-- The candidates of a plan's boundary: NEXT, and the TARGET of a BRANCH or jumping LOOP (R107). -/
def Dev.candidates (d : Dev) (n : Nat) (p : Plan) : List Nat :=
  (d.segNext n p.seg :: ((p.jump.map ([·])).getD [] ++ (p.branch.map (fun b => [b.target])).getD [])).eraseDups

/-- The segment a boundary selects, once known (R108, R112, R122). -/
def Dev.selected (d : Dev) (n : Nat) (p : Plan) : Option Nat :=
  match p.branch with
  | some b => b.chosen
  | none => some (p.jump.getD (d.segNext n p.seg))

/-- Whether a candidate is present, short of having been found absent on the check tick: ARMED or VALID, or the segment that
ends there with RETAIN (R107). -/
def Dev.present (d : Dev) (n : Nat) (p : Plan) (s : Nat) : Bool :=
  !p.absent.contains s &&
  (if s = p.seg ∧ !p.starved then d.bit (SE_SEG_LO.RETAIN n s)
   else d.segState n s == segArmed || d.segState n s == segValid)

/-- Arm the candidates that are VALID; those another boundary has armed count as armed for this one too (R107).
[DEDUCED, assumption 23] -/
def Dev.armCandidates (d : Dev) (n : Nat) (p : Plan) : Dev × Plan :=
  (d.candidates n p).foldl (fun (dp : Dev × Plan) s =>
    if dp.2.absent.contains s || dp.2.armed.contains s || (s == p.seg && !p.starved) then dp
    else if dp.1.segState n s == segValid then (dp.1.setSeg n s segArmed, { dp.2 with armed := dp.2.armed ++ [s] })
    else if dp.1.segState n s == segArmed then (dp.1, { dp.2 with armed := dp.2.armed ++ [s] })
    else dp) (d, p)

/-- Run-ahead has reached a plan's boundary: its steps are read and its end tick lies within 512 tk (R93, R107). -/
def Plan.reached (p : Plan) (now : Nat) : Bool := p.readDone && !p.ended && decide (p.stop ≤ now + 512)

/-- Arm the candidates of every boundary that run-ahead has reached (R107).
[DEDUCED, assumption 23] -/
def Dev.armPlans (d : Dev) (n now : Nat) : Dev :=
  let (d, ps) := (d.eng n).plans.foldl (fun (dp : Dev × List Plan) p =>
    if p.reached now then
      let (d, p) := dp.1.armCandidates n p
      (d, dp.2 ++ [p])
    else (dp.1, dp.2 ++ [p])) (d, [])
  d.setEng n { d.eng n with plans := ps }

/-- Replace the last plan. -/
def setLast (ps : List Plan) (p : Plan) : List Plan := ps.dropLast ++ [p]

/-- A new pass through a segment from a boundary on. -/
def Dev.newPlan (d : Dev) (n s start : Nat) : Plan := { seg := s, start := start, stop := start + d.segDur n s }

/-- A pass in which the engine starves on a segment (R109). -/
def Dev.starvePlan (d : Dev) (n s start : Nat) : Plan :=
  { seg := s, start := start, stop := start + max 1 (d.segDur n s), starved := true, readDone := true }

/-- When reading of the last segment is over and run-ahead has reached its boundary, arm the candidates; when the selected
one is armed, or found absent on the check tick, plan it, after a BRANCH once the decision tick has passed (R107, R109, R115).
[DEDUCED, assumptions 23, 28] -/
def Dev.openNext (d : Dev) (n now : Nat) : Dev :=
  let d := d.armPlans n now
  let e := d.eng n
  match e.plans.getLast? with
  | none => d
  | some p =>
    if e.wait.isSome || e.slot.isSome || e.call.isSome || !p.reached now then d
    else
      match d.selected n p with
      | none => d
      | some s =>
        if p.branch.isSome && decide (now + d.lead n ≤ p.stop) then d
        else if d.present n p s then
          d.setEng n { e with plans := e.plans ++ [d.newPlan n s p.stop], cursor := p.stop, pos := d.segStart n s }
        else if p.checked then
          d.setEng n { e with plans := e.plans ++ [d.starvePlan n s p.stop], cursor := p.stop }
        else d

/-- Whether the plan in play has reached its boundary (R98): its end tick has come, no step holds it, and its condition is
decided. -/
def Dev.boundaryDue (d : Dev) (n now : Nat) (p : Plan) (rest : List Plan) : Bool :=
  let e := d.eng n
  decide (p.stop ≤ now) && (e.mode == .running || e.mode == .starving) &&
  !(rest.isEmpty && (e.wait.isSome || e.slot.isSome)) && (p.branch.map (fun b => b.chosen.isSome)).getD true

/-- A boundary or a start that engine `n` has still to make on this tick falls on a segment with SHOTB (R100). -/
def Dev.shotbDue (d : Dev) (n now : Nat) : Bool :=
  let e := d.eng n
  match e.plans with
  | [] => false
  | p :: rest =>
    if e.mode == .primed then decide (p.start ≤ now) && d.bit (SE_SEG_LO.SHOTB n p.seg)
    else d.boundaryDue n now p rest && !p.ended &&
      (match rest with
       | q :: _ => d.bit (SE_SEG_LO.SHOTB n q.seg)
       | [] => d.bit (SE_SEG_LO.SHOTB n ((d.selected n p).getD (d.segNext n p.seg))))

/-- This tick is a shot boundary, or will be once the engines have made their boundaries on it (R30, R100). -/
def Dev.shotTick (d : Dev) (now : Nat) : Bool :=
  d.shotTk == some d.tk || d.ocs.any (fun e => d.shotbDue e.1 now)

/-! ### Queues -/

/-- The 16-entry queue of a tone has room (R94). -/
def Dev.queueRoom (d : Dev) (n t : Nat) : Bool := decide ((d.tone n t).queue.length < 16)

/-- A command enters its queue, or is discarded as late (R95). -/
def Dev.enqueue (d : Dev) (n now : Nat) (c : Cmd) : Dev :=
  if c.step < now + 2 then d.seErrTaint n (SE_ERR.CMD_LATE n)
  else
    let t := d.tone n c.fields.tone
    d.setTone n c.fields.tone { t with queue := t.queue ++ [c] }

/-- A command leaves its queue and fires on tick `now` (R92, R139). An earlier PLAY of the same step tick keeps its F, A and
O updates and loses its envelope to a later one (R141).
[DESIGN CHOICE, assumption 55] -/
def ToneSt.fire (t : ToneSt) (now : Nat) (c : Cmd) (rest : List Cmd) : ToneSt :=
  let old := if c.play then t.fired.map (fun f => if f.p0 / 32 = now then { f with envelope := false } else f) else t.fired
  { t with queue := rest, fired := old ++ [⟨32 * now + c.fields.offs, c.play, c, true⟩] }

/-- Discard waiting strobed commands that a command behind them has overtaken (R128): their number, and what remains. -/
def overtaken (now : Nat) : List Cmd → Nat × List Cmd
  | c :: c' :: rest =>
    if c.strobe && decide (c'.step ≤ now) then let (k, q) := overtaken now (c' :: rest); (k + 1, q)
    else (0, c :: c' :: rest)
  | q => (0, q)

/-- The head of a tone's queue fires when its step tick has come, unless it waits for a strobe (R92, R128). -/
def Dev.fireDue (d : Dev) (n t now : Nat) : Dev :=
  let x := d.tone n t
  let (k, q) := overtaken now x.queue
  let d := if k = 0 then d else (d.setTone n t { x with queue := q }).seErrTaint n (SE_ERR.STROBE_LATE n)
  let x := d.tone n t
  match q with
  | c :: rest => if !c.strobe && decide (c.step ≤ now) then d.setTone n t (x.fire now c rest) else d
  | [] => d

/-- A strobe fires the waiting commands at the head of a tone's queue whose step tick has come (R128, R174). -/
def ToneSt.strobe (now : Nat) : List Cmd → ToneSt → ToneSt
  | c :: rest, t => if c.strobe && decide (c.step ≤ now) then ToneSt.strobe now rest (t.fire now c rest) else t
  | [], t => t

/-- A strobe of a channel's group reaches one tone (R128, R174). -/
def Dev.fireStrobed (d : Dev) (n t now : Nat) : Dev := d.setTone n t (ToneSt.strobe now (d.tone n t).queue (d.tone n t))

/-! ### Reading steps -/

/-- The plan being read, when the engine may read its next step now: not waiting, fewer than 4 reads in this tick, the step
tick within 512 tk and before the end tick (R93, R99, R115). -/
def Dev.readable (d : Dev) (n now : Nat) : Option Plan :=
  let e := d.eng n
  match e.plans.getLast? with
  | none => none
  | some p =>
    if !p.readDone && !p.starved && e.wait.isNone && e.slot.isNone && e.call.isNone && !e.haltHeld && !e.srstHeld &&
        decide (e.reads < 4) && decide (e.cursor ≤ now + 512) && decide (e.cursor < p.stop) && d.domOn n
    then some p else none

/-- A step that would fall at or after its segment's end tick is not read (R99). -/
def Dev.overrunCheck (d : Dev) (n now : Nat) : Dev :=
  let e := d.eng n
  match e.plans.getLast? with
  | none => d
  | some p =>
    if !p.readDone && !p.starved && e.wait.isNone && e.slot.isNone && e.call.isNone && decide (e.cursor ≤ now + 512) &&
        decide (p.stop ≤ e.cursor)
    then (d.setEng n { e with plans := setLast e.plans { p with readDone := true } }).seErrTaint n (SE_ERR.OVERRUN n)
    else d

/-- What follows every step read: the cursor, the next step's index, or the end of reading (R92, R98). -/
def Dev.stepDone (d : Dev) (n now cursor : Nat) (segEnd : Bool) (jump : Option Nat) : Dev :=
  let e := d.eng n
  match e.plans.getLast? with
  | none => d
  | some p =>
    let (pos, fin) := match jump with
      | some t => (t, false)
      | none => (e.pos + 1, segEnd || decide (d.segLast n p.seg ≤ e.pos))
    let d := d.setEng n { e with cursor := cursor, pos := pos,
                                 plans := setLast e.plans { p with readDone := p.readDone || fin } }
    d.overrunCheck n now

/-- SHOT of a step read now, with its step tick (R127). -/
def Dev.stepShot (d : Dev) (n now : Nat) (w : StepWord) : Dev :=
  let e := d.eng n
  if !w.shot then d
  else if now + 2 ≤ e.cursor then d.setEng n { e with shots := insNat e.cursor e.shots }
  else d.seErrTaint n (SE_ERR.CTRL_LATE n)

/-- The marker source line high from the step tick for DUR ticks (R91).
[DESIGN CHOICE, assumption 101] -/
def Dev.stepMark (d : Dev) (n : Nat) (w : StepWord) (on : Bool) : Dev :=
  let e := d.eng n
  if on then d.setEng n { e with marks := e.marks ++ [(e.cursor, e.cursor + max 1 w.fields.dur)] } else d

/-- One more read in this tick (R93). -/
def Dev.countRead (d : Dev) (n : Nat) : Dev := let e := d.eng n; d.setEng n { e with reads := e.reads + 1 }

/-- Read a step that only issues something and advances the cursor: SHOT and MARK, the step's own effect `act`, then ADV
(R89, R92). -/
def Dev.simpleStep (d : Dev) (n now : Nat) (w : StepWord) (act : Dev → Dev) : Dev :=
  let d := ((d.countRead n).stepShot n now w).stepMark n w (w.mark || w.op == opMark)
  let d := act d
  d.stepDone n now ((d.eng n).cursor + w.adv) w.segEnd none

/-- A SYNC of a defined kind (R90, R133). -/
def StepWord.syncOk (w : StepWord) : Bool := w.aux % 4 != 3 && !(w.aux % 4 == 2 && w.fields.dur == 0)

/-- Why a step executes as IDLE when it is read (R90, R112, R115, R122, R125, R133, R441, R447): BADOP is `false`, BADTONE `true`.
[DESIGN CHOICE, assumption 32] -/
def Dev.stepBad (d : Dev) (n : Nat) (p : Plan) (w : StepWord) : Option Bool :=
  let badTone := (w.op == opPlay || w.op == opSetf || w.op == opFrame) && decide (d.toneCount n ≤ w.fields.tone)
  let badOp := !opDefined w.op || d.mcBad.any (fun e => e.1 == n / 48 && decide (e.2 < userBase) && Config.stepRuns w.op e.2) ||
    (w.op == opPlay && decide (64 < w.fields.shape)) ||
    (w.op == opSync && !w.syncOk) ||
    ((w.op == opSync || w.op == opWait) && p.branched) ||
    (w.op == opFrame && w.aux / 4 % 4 == 3) ||
    (w.op == opLoop && !bitAt w.aux 2 && !d.segHolds n p.seg w.target) ||
    (w.op == opCall && (d.routineAt w.target).isNone)
  if badOp then some false else if badTone then some true else none

/-- A BRANCH or segment-level LOOP read after the check tick of its segment's end boundary (R573). -/
def ctrlLate (now : Nat) (p : Plan) : Bool := decide (p.stop < now + 64)

/-- Read the next step of an engine when it may be read, is not one that executes as IDLE, and is the kind wanted;
otherwise the command finds nothing to do. -/
def Dev.readStep (d0 : Dev) (n now : Nat) (want : StepWord → Bool) (f : Dev → Plan → StepWord → Dev) : Dev :=
  let d := d0.openNext n now
  match d.readable n now with
  | none => d0
  | some p =>
    let w := d.stepWord n (d.eng n).pos
    if want w && (d.stepBad n p w).isNone then f d p w else d0

/-- A hold of `h` ticks: the end tick of the segment being read moves later by it (R98, R121, R133); a check tick that moves
into the future is taken anew (R107).
[DESIGN CHOICE, assumption 25] -/
def Dev.holdSeg (d : Dev) (n h now : Nat) : Dev :=
  let e := d.eng n
  match e.plans.getLast? with
  | none => d
  | some p =>
    let p := { p with stop := p.stop + h }
    let p := if 0 < h ∧ now + 64 < p.stop then { p with checked := false, absent := [] } else p
    d.setEng n { e with plans := setLast e.plans p }

/-- The counted jump of R123 on a counter: its new value, and whether the LOOP jumps. -/
def loopCount (remain count : Nat) : Nat × Bool :=
  if remain = 0 then (if count ≤ 1 then (0, false) else (count - 1, true))
  else if remain = 1 then (0, false) else (remain - 1, true)

/-- The frames of a channel change on this tick: what the tick before ended with is kept for as long as a read tick may lie behind
(R124). -/
def Dev.frameSet (d : Dev) (n now fr : Nat) : Dev :=
  let x := d.oc n
  let h := if x.frHist.any (fun e => e.1 == now) then x.frHist
    else (now, d.fget (SE_FRAME.FRAME n)) :: x.frHist.filter (fun e => decide (now ≤ e.1 + 64))
  (d.setOc n { x with frHist := h }).fset (SE_FRAME.FRAME n) fr

/-! ### Condition inputs -/

/-- The step at index `i` closes its segment, whose last index is `last`: END does (R131), and a step with SEG_END, but for a
step-level LOOP that may jump ahead (R98) and a SYNC, which ignores SEG_END (R89) unless it executes as IDLE, as one behind a
BRANCH (`branched`) does (R115). -/
def StepWord.closes (w : StepWord) (i last : Nat) (branched : Bool) : Bool :=
  w.op == opEnd || (w.segEnd && !(w.op == opSync && w.syncOk && !branched) &&
    !(w.op == opLoop && !bitAt w.aux 2 && decide (i < w.target) && decide (w.target ≤ last)))

/-- Whether a segment's steps, read from index `i` on, hold a BRANCH that reads condition input `k` (R98, R117).
[DEDUCED, assumption 28] -/
def Dev.branchReads (d : Dev) (n k : Nat) : Nat → Nat → Bool → Bool
  | _, 0, _ => false
  | i, len + 1, branched =>
    let w := d.stepWord n i
    (w.op == opBranch && w.cond % 16 == k) ||
      (!w.closes i (i + len) branched && d.branchReads n k (i + 1) len (branched || w.op == opBranch))

/-- Whether a PULSE-mode input is inside a window on tick `now` (R117, R120): a WAIT's window closes with the event that resumes it,
or on the tick of its timeout.
[DEDUCED, assumption 28] -/
def Dev.ciWindow (d : Dev) (n k now : Nat) : Bool :=
  let e := d.eng n
  let lead := d.lead n
  e.plans.any (fun p => !p.starved && decide (p.start ≤ now) && decide (now + lead ≤ p.stop) &&
    (p.branch.map (fun b => b.chosen.isNone)).getD true &&
    d.branchReads n k (d.segStart n p.seg) (d.fget (SE_SEG_LO.LENM1 n p.seg) + 1) false) ||
  (match e.wait with
   | some w => w.cond % 16 == k && decide (w.c ≤ now + lead) && decide (now ≤ w.hit.getD (w.c + w.dur))
   | none => false)

/-- Whether a condition holds for a value (R112): COND[4] inverts it; a COND above 31 breaks a must of R112 or R120, and the
outcome is free (R11).
[DESIGN CHOICE, assumptions 5, 26] -/
def Dev.condTrue (d : Dev) (cond : Nat) (val : Bool) : Bool × Dev :=
  if 32 ≤ cond then let (v, d) := d.draw; (bitAt v.toNat 0, d) else (val != bitAt cond 4, d)

/-- An event latched (R116). -/
def CiSt.event (c : CiSt) (now : Nat) (val : Bool) : CiSt :=
  ⟨val, true, now, (now, val) :: c.evs.filter (fun x => decide (now ≤ x.1 + 64))⟩

/-- Clear FRESH of a condition input: a decision has read it (R116). -/
def Engine.consume (e : Engine) (k : Nat) : Engine :=
  let c := tget {} e.ci k
  { e with ci := tset {} e.ci k { c with fresh := false, evs := [] } }

/-- The event of tick `t` is consumed; later events of the input stay latched (R120). -/
def Engine.consumeAt (e : Engine) (k t : Nat) : Engine :=
  let c := tget {} e.ci k
  { e with ci := tset {} e.ci k { c with fresh := c.fresh && decide (t < c.at_), evs := c.evs.filter (fun x => decide (t < x.1)) } }

/-- An event of a WAIT's input on tick `ev.1`: the first that is true in time, from c − BRANCH_LEAD to c + DUR, is to resume it and
is consumed (R120).
[DEDUCED, assumption 28] -/
def Dev.waitEvent (d : Dev) (n : Nat) (ev : Nat × Bool) : Dev :=
  match (d.eng n).wait with
  | none => d
  | some w =>
    if w.hit.isNone && decide (w.c ≤ ev.1 + d.lead n) && decide (ev.1 ≤ w.c + w.dur) then
      let (v, d) := d.condTrue w.cond ev.2
      if v then d.setEng n { (d.eng n).consumeAt (w.cond % 16) ev.1 with wait := some { w with hit := some ev.1 } } else d
    else d

/-- An event reaches a condition input (R116, R117, R120). -/
def Dev.ciEvent (d : Dev) (n k now : Nat) (val : Bool) : Dev :=
  if bitAt (d.fget (SE_CICFG.PULSE n)) k && !d.ciWindow n k now then d.satAdd (SE_CNT0.MISSED_COND n) 1
  else
    let c := tget {} (d.eng n).ci k
    let d := if c.fresh then d.satAdd (SE_CNT1.OVERWRITES n) 1 else d
    let d := d.setEng n { d.eng n with ci := tset {} (d.eng n).ci k (c.event now val) }
    if ((d.eng n).wait.map (fun w => w.cond % 16 == k)).getD false then d.waitEvent n (now, val) else d

/-! ### HALT and soft reset -/

/-- A tone without envelope, now and from commands fired. -/
def ToneSt.bare (t : ToneSt) : ToneSt :=
  { t with env := none, fired := t.fired.map (fun (f : Fired) => { f with envelope := false }) }

/-- Tone generators stop: F, A and O at 0 and no envelope (R138); commands already due within 2 tk still fire (R132). -/
def ToneSt.halt (t : ToneSt) (now : Nat) : ToneSt :=
  { queue := t.queue.filter (fun c => decide (c.step ≤ now + 2)), fired := t.fired }

/-- The tones of a channel after HALT. -/
def haltTones (ts : Tbl ToneSt) (now : Nat) : Tbl ToneSt :=
  (ts.map (fun e => (e.1, e.2.halt now))).filter (fun e => e.2 != {})

/-- HALT takes effect (R132): reading stops, later commands are discarded, segments return to VALID, loop counters and
windows clear and the engine is IDLE. Shot boundaries and FRAME operations of steps read whose tick is later go the way of
commands.
[DESIGN CHOICE, assumption 104] -/
def Dev.haltNow (d : Dev) (n now : Nat) : Dev :=
  let d := d.segsToValid n
  let x := d.oc n
  let e := x.eng
  d.setOc n { x with
    tones := haltTones x.tones now
    starved := (match e.plans.head? with
      | some p => if p.starved ∧ e.mode == .starving then (p.start, now) :: x.starved else x.starved
      | none => x.starved)
    eng := { e with mode := .idle, plans := [], wait := none, slot := none, call := none, lc := [],
                    shots := e.shots.filter (fun t => decide (t ≤ now + 2)),
                    frameOps := e.frameOps.filter (fun f => decide (f.step ≤ now + 2)),
                    haltHeld := false, primeHeld := false, heldFrom := none } }

/-- HALT of a step engine; while a routine runs, and on the tick of its RET, it is held to the tick after RET (R444). -/
def Dev.halt (d : Dev) (n now : Nat) : Dev :=
  let e := d.eng n
  if e.call.isSome || e.heldFrom.isSome then d.setEng n { e with haltHeld := true } else d.haltNow n now

/-- The registers of a range of BAR0 in one of the given classes return to default. -/
def Dev.resetRegs (d : Dev) (lo hi : Nat) (cls : RClass → Bool) : Dev :=
  { d with regs := d.regs.filter (fun e => !(decide (lo ≤ e.1) && decide (e.1 < hi) &&
      ((regRow? e.1).map (fun r => cls r.cls)).getD false)) }

/-- Whether an offset of an OC window is a strobe-group register, outside the channel's domain (R190). -/
def gsOffset (off : Nat) : Bool :=
  decide (GS_CTL.off 0 ≤ off) && decide (off < GS_CTL.off 16) && decide ((off - GS_CTL.off 0) % 0x10000 < 16)

/-- TS_STAT.PENDING or IC_STATUS.PENDING follows the staged values of its unit (R158). -/
def Dev.pendUpdate (d : Dev) (u : Nat) : Dev :=
  let p := d.staged.any (fun s => s.unit == u)
  if u < 192 then d.fsetB (TS_STAT.PENDING u) p
  else if u < 224 then d.fsetB (IC_STATUS.PENDING (u - 192)) p else d

/-- A soft reset takes effect (R134): class E values return to default, segments go as on HALT, M_SHORT clears, and the
refill list is rebuilt on the next tick (R106). -/
def Dev.softResetNow (d : Dev) (n now : Nat) : Dev :=
  let d := d.haltNow n now
  let d := d.resetRegs (OC_CFG.off n) (OC_CFG.off (n + 1)) (· == .e)
  let d := d.fset (OC_STATUS.M_SHORT n) 0
  let x := d.oc n
  (d.setOc n { x with tones := [], eng := { rebuild := some (d.tk + 1) }, e1 := 0, e2 := 0, frHist := [] }).pendUpdate n

/-- MUTED as the tick before this one left it (R176).
[DESIGN CHOICE, assumption 54] -/
def Dev.mutedBefore (d : Dev) (n : Nat) : Bool :=
  match (d.oc n).muteTk with
  | some (k, was) => if k = d.tk then was else d.bit (OC_STATUS.MUTED n)
  | none => d.bit (OC_STATUS.MUTED n)

/-- MUTED follows the mute causes (R165). -/
def Dev.muteUpdate (d : Dev) (n : Nat) : Dev :=
  let m := d.bit (OC_STATUS.M_SHORT n) || d.bit (OC_STATUS.M_MODE n) || d.bit (OC_STATUS.M_SETTLE n) ||
    d.bit (OC_STATUS.M_LOAD n) || d.bit (OC_STATUS.M_NOLOAD n)
  let d := if m = d.bit (OC_STATUS.MUTED n) then d else d.setOc n { d.oc n with muteTk := some (d.tk, d.mutedBefore n) }
  d.fsetB (OC_STATUS.MUTED n) m

/-- A soft reset of an output channel; while a routine runs, and on the tick of its RET, it is held to the tick after RET (R444). -/
def Dev.softReset (d : Dev) (n now : Nat) : Dev :=
  let e := d.eng n
  if e.call.isSome || e.heldFrom.isSome then d.setEng n { e with srstHeld := true } else (d.softResetNow n now).muteUpdate n

/-! ### Start groups -/

/-- A start group is released on timeline value `v`: every engine PRIMED in it is to start 64 tk later on the segment that PRIME
armed (R129, R130).
[DESIGN CHOICE, assumption 104] -/
def Dev.releaseStep (d : Dev) (g v : Nat) : Dev :=
  (d.ocs.map (·.1)).foldl (fun d n =>
    let e := d.eng n
    if e.mode == .primed && d.fget (SE_CTRL.GROUP n) == g && e.plans.isEmpty then
      let s := e.entry
      d.setEng n { e with plans := [d.newPlan n s (v + 64)], cursor := v + 64, pos := d.segStart n s, group := g }
    else d) d

end Sys2Proof.Machine
end

