-- ==== Sys2Proof/Machine/Access.lean ====
section
/-! DEFINITION. What every access shares: GLB_MAPERR (R40, R571), accesses to a channel domain that is off or rehydrating
(R424, R571), read data, staged channel values (R158, R197) and writes that act on the next tick. -/
namespace Sys2Proof.Machine

/-! ### Read data -/

/-- A read returns a register's word (R19). -/
def Dev.ret32 (d : Dev) (v : W32) : Dev := { d with rdata := leBytes 4 v.toNat }

/-- A read returns bytes. -/
def Dev.retBytes (d : Dev) (bs : List Byte) : Dev := { d with rdata := bs }

/-! ### Accesses that reach nothing -/

/-- The first access to a reserved range or a powered-off domain is recorded (R40, R571).
[DEDUCED, assumption 13] -/
def Dev.mapErr (d : Dev) (bar off : Nat) : Dev :=
  if d.bit GLB_MAPERR.VALID then d
  else ((d.flag GLB_MAPERR.VALID).fset GLB_MAPERR.BAR bar).fset GLB_MAPERR.OFFSET off

/-- The domain that rehydrates now (R424). -/
def Dev.rehydrating (d : Dev) (n : Nat) : Bool := d.bit CFG_REHY.ACTIVE && d.fget CFG_REHY.DOMAIN == n

/-- A write that reaches a channel domain: dropped and recorded while the domain is off (R571), dropped with REHY_BUSY while
it rehydrates, unless the loader writes it (R424); the loader's own write of a domain that is off is dropped. `n` is the domain, `bar` and `off` what GLB_MAPERR records.
[DESIGN CHOICE, assumption 15] -/
def Dev.domWrite (d : Dev) (n bar off : Nat) (f : Dev → Dev) (loader : Bool := false) : Dev :=
  if loader then (if d.domOn n then f d else d)
  else if !d.domOn n then d.mapErr bar off
  else if d.rehydrating n then d.flag CFG_ERR.REHY_BUSY
  else f d

/-- A write of a register of OC `n` (R571, R424). -/
def Dev.ocWrite (d : Dev) (n off : Nat) (f : Dev → Dev) (loader : Bool := false) : Dev := d.domWrite n 2 off f loader

/-- A write of a register of IC `i` (R571, R424). -/
def Dev.icWrite (d : Dev) (i off : Nat) (f : Dev → Dev) (loader : Bool := false) : Dev := d.domWrite (192 + i) 2 off f loader

/-- A field that takes its value on the tick after this one. -/
def Dev.lateReg (d : Dev) (f : Fld) (v : Nat) : Dev := { d with lateRegs := d.lateRegs ++ [(f, v)] }

/-- Bytes that reach a memory on the tick after this one (R149, R208). -/
def Dev.lateBytes (d : Dev) (a : Nat) (bs : List Byte) : Dev :=
  { d with lateMem := d.lateMem ++ (List.range bs.length).zipWith (fun i b => (a + i, b)) bs }

/-- An address in a memory whose writes arrive on the next tick: shape libraries and weight lists (R149, R208). -/
def lateAt (a : Nat) : Bool :=
  (decide (bar2Base + 0x4000000 ≤ a) && decide (a < bar2Base + 0x4100000)) ||
    (decide (bar2Base + 0x6000000 ≤ a) && decide (a < bar2Base + 0x6200000))

/-- After a host write of the `n` bytes from `a`: a byte that DMA has written on this tick stands (R340). -/
def Dev.dmaStands (d : Dev) (a n : Nat) : Dev :=
  d.dmaTick.foldl (fun d e =>
    if e.1 < a ∨ a + n ≤ e.1 then d else if lateAt e.1 then d.lateBytes e.1 [e.2] else d.wr8 e.1 e.2) d

/-- A bit of TML_ERR is set and raises its own source (R377). -/
def Dev.tmlErr (d : Dev) (f : Fld) : Dev := d.flagRaise f (640 + f.lo)

/-! ### Staged channel values -/

/-- The value in force of a staged register. -/
def Dev.inForce (d : Dev) (off : Nat) : W32 := tget (regReset off) d.force off

/-- The unit number of an IC among those that stage values; an OC is its own number. -/
def icUnit (i : Nat) : Nat := 192 + i

/-- Stage a value: the register reads it from now on, and it waits to move into force in place of one staged before (R158).
[DESIGN CHOICE, assumption 54] -/
def Dev.stage (d : Dev) (u off : Nat) (v : W32) : Dev :=
  let d : Dev := d.setReg off v
  let d : Dev := { d with staged := d.staged.filter (fun s => s.off != off) ++ [({ unit := u, off := off, val := v, at_ := d.tk } : Staged)] }
  d.pendUpdate u

/-- A write of the low half of a two-register value: staged alone (R159, R197). -/
def Dev.stageLo (d : Dev) (lo : Nat) (v : W32) : Dev := { d.setReg lo v with loWrites := insNat lo d.loWrites }

/-- A write of the high half commits both as one staged value; with no low half written since the last commit, the low half
in force stands (R159, R197). -/
def Dev.stageHi (d : Dev) (u lo hi : Nat) (v : W32) : Dev :=
  let l := if d.loWrites.contains lo then d.reg lo else d.inForce lo
  let d : Dev := { d with loWrites := d.loWrites.filter (· != lo) }
  (d.stage u lo l).stage u hi v

/-- Whether a unit's engine lets staged values move into force on the tick after the write (R158, R197). -/
def Dev.unitStill (d : Dev) (u : Nat) : Bool :=
  if u < 192 then (d.eng u).still
  else
    let e := tget {} d.ics (u - 192)
    e.mode == .idle || e.mode == .primed || e.mode == .ended

/-- On the tick after a write the engine decides whether the staged value moves into force on that tick (R158, R197). -/
def Dev.stagedJudge (d : Dev) : Dev :=
  { d with staged := d.staged.map (fun s =>
      if s.go.isNone && decide (s.at_ < d.tk) then { s with go := some (d.unitStill s.unit) } else s) }

/-- The table in force from this firing tick on (R158). -/
def Dev.pushEra (d : Dev) (f : Tbl W32) : Dev :=
  let old := match d.eras with
    | e :: es => if e.from_ = d.tk then es else e :: es
    | [] => []
  { d with force := f, eras := ⟨d.tk, f⟩ :: old }

/-- Move the staged values chosen into force: those staged on the tick before this one or earlier (R158). -/
def Dev.commitStaged (d : Dev) (who : Staged → Bool) : Dev :=
  let go := d.staged.filter (fun s => who s && decide (s.at_ < d.tk))
  if go.isEmpty then d
  else
    let d := { d with staged := d.staged.filter (fun s => !(who s && decide (s.at_ < d.tk))) }
    let d := d.pushEra (go.foldl (fun f s => tset (regReset s.off) f s.off s.val) d.force)
    go.foldl (fun d s => d.pendUpdate s.unit) d

/-- The values in force on an earlier firing tick. -/
def Dev.forceAt (d : Dev) (t : Nat) : Tbl W32 :=
  ((d.eras.find? (fun e => decide (e.from_ ≤ t))).map (·.force)).getD []

/-- A register's value in force in such a table. -/
def forceVal (f : Tbl W32) (off : Nat) : W32 := tget (regReset off) f off

/-- A field of a register's value in force in such a table. -/
def forceFld (f : Tbl W32) (fl : Fld) : Nat := fl.of (forceVal f fl.off)

end Sys2Proof.Machine
end

