-- ==== Sys2Proof/Machine/Trig.lean ====
section
/-! DEFINITION. The table values round(A × cos) and round(A × sin) that tone generators, mixers and demodulators use (R152,
R155, R196): Taylor series in 96-bit fixed point, exact enough that rounding gives the nearest integer. -/
namespace Sys2Proof.Machine

/-- The fixed-point unit, 2⁹⁶. -/
def trigOne : Nat := 2 ^ 96

/-- 2π in fixed point. -/
def trigTwoPi : Nat := 497805226624462170461043889244

/-- The sum of an alternating series: term `t`, squared argument `x2`, next divisor pair from `k`, fuel. -/
def trigSum : Nat → Nat → Nat → Nat → Int
  | _, _, _, 0 => 0
  | t, x2, k, n + 1 => (t : Int) - trigSum (t * x2 / trigOne / (k * (k + 1))) x2 (k + 2) n

/-- Cosine and sine of a fixed-point angle of at most π/4. -/
def trigCos (x : Nat) : Int := trigSum trigOne (x * x / trigOne) 1 26
def trigSin (x : Nat) : Int := trigSum x (x * x / trigOne) 2 26

/-- cos(2π r / 2²⁰) and sin(2π r / 2²⁰) for r in the first quarter, in fixed point. -/
def quarterCos (r : Nat) : Int :=
  if r ≤ 131072 then trigCos (trigTwoPi * r / 1048576) else trigSin (trigTwoPi * (262144 - r) / 1048576)
def quarterSin (r : Nat) : Int :=
  if r ≤ 131072 then trigSin (trigTwoPi * r / 1048576) else trigCos (trigTwoPi * (262144 - r) / 1048576)

/-- cos(2π k / 2²⁰) in fixed point. -/
def cosFix (k : Nat) : Int :=
  let r := k % 262144
  match k / 262144 % 4 with
  | 0 => quarterCos r
  | 1 => -quarterSin r
  | 2 => -quarterCos r
  | _ => quarterSin r

/-- round(amp × cos(2π k / 2²⁰)). -/
def cosTab (amp k : Nat) : Int := roundDiv ((amp : Int) * cosFix k) trigOne

/-- round(amp × sin(2π k / 2²⁰)). -/
def sinTab (amp k : Nat) : Int := roundDiv ((amp : Int) * cosFix (k + 786432)) trigOne

end Sys2Proof.Machine
end

