-- ==== Sys2Proof/Machine/ReadoutOps.lean ====
section
/-! DEFINITION. What the read-out commands share: capture words (R198 to R203), windows (R205 to R209), the discriminator
(R210 to R212), result records (R213 to R216) and result buffers (R217 to R220). `now` is the timeline value. -/
namespace Sys2Proof.Machine

/-! ### Capture words (Table 06-3) -/

/-- A capture word by its fields. -/
structure CapWord where
  op : Nat
  dt : Nat
  probeEn : Bool
  probe : Nat
  lc : Nat
  adv : Nat
  lenm1 : Nat
  wbase : Nat
  target : Nat
  count : Nat
  deriving DecidableEq, Repr

/-- The fields of a 128-bit capture word. -/
def CapWord.ofNat (w : Nat) : CapWord where
  op := bits w 127 122
  dt := bits w 121 118
  probeEn := bitAt w 117
  probe := bits w 116 109
  lc := bits w 108 108
  adv := bits w 95 80
  lenm1 := bits w 79 68
  wbase := bits w 67 54
  target := bits w 53 44
  count := bits w 43 28

/-- The opcodes of Table 06-4. -/
def capWindow : Nat := 0x01
def capIdle : Nat := 0x03
def capLoop : Nat := 0x0A
def capJump : Nat := 0x0C
def capShotwait : Nat := 0x13
def capEnd : Nat := 0x3F

/-- Whether Table 06-4 defines an opcode (R199). -/
def capDefined (op : Nat) : Bool := [capWindow, capIdle, capLoop, capJump, capShotwait, capEnd].contains op

/-- Byte addresses of an IC's capture program, weight list and result buffer (R38). -/
def capBase (i : Nat) : Nat := bar2Base + 0x5000000 + 0x4000 * i
def weightBase (i : Nat) : Nat := bar2Base + 0x6000000 + 0x10000 * i
def resultBase (i : Nat) : Nat := bar2Base + 0x8000000 + 0x80000 * i

/-- Capture word `k` of IC `i`. -/
def Dev.capWord (d : Dev) (i k : Nat) : CapWord := .ofNat (d.rdLe (capBase i + 16 * k) 16)

/-! ### Input channels -/

/-- An input channel, and the device with one replaced. -/
def Dev.ic (d : Dev) (i : Nat) : IcSt := tget {} d.ics i
def Dev.setIc (d : Dev) (i : Nat) (x : IcSt) : Dev := { d with ics := tset {} d.ics i x }
/-- A demodulator's windows, and the device with them replaced. -/
def Dev.dt (d : Dev) (i k : Nat) : DtSt := tget {} (d.ic i).dts k
def Dev.setDt (d : Dev) (i k : Nat) (x : DtSt) : Dev := d.setIc i { d.ic i with dts := tset {} (d.ic i).dts k x }

/-- A bit of IC_ERR is set; it raises the channel-fault source (R221). -/
def Dev.icErr (d : Dev) (i : Nat) (f : Fld) : Dev := d.flagRaise f (385 + 2 * i)

/-- Demodulators per IC in a mode (Table 06-2). -/
def Mode.demods : Mode → Nat
  | .full | .witness | .dense | .precise => 16
  | .swift => 8
  | _ => 0

/-- The read-out delay D_R (Table 06-2). -/
def Mode.readDelay : Mode → Nat
  | .swift => 8
  | _ => 12

/-! ### Reading capture words -/

/-- Whether the capture engine may read its next word now (R200, R201). -/
def Dev.ceMayRead (d : Dev) (i now : Nat) : Bool :=
  let e := d.ic i
  (e.mode == .running || (e.mode == .primed && e.startAt.isSome)) && decide (e.reads < 4) &&
  decide (e.cursor ≤ now + 512) && d.domOn (192 + i)

/-- Why a word executes as IDLE (R203): BADWORD is `false`, BADDT `true`.
[DESIGN CHOICE, assumption 51] -/
def Dev.capBad (d : Dev) (i : Nat) (w : CapWord) : Option Bool :=
  if !capDefined w.op || (w.op == capWindow && (decide (191 < w.probe) || decide (16383 < w.wbase + w.lenm1))) then some false
  else if w.op == capWindow && decide ((d.icMode i).demods ≤ w.dt) then some true
  else none

/-- The engine goes on to word `pos` with its cursor moved. -/
def Dev.ceGo (d : Dev) (i pos cursor : Nat) : Dev :=
  let e := d.ic i
  d.setIc i { e with pos := pos % 1024, cursor := cursor, reads := e.reads + 1 }

/-- The word after this one, after an advance of the cursor (R201). -/
def Dev.ceNext (d : Dev) (i adv : Nat) : Dev := let e := d.ic i; d.ceGo i (e.pos + 1) (e.cursor + adv)

/-- Read the next capture word when it may be read, is not one that executes as IDLE, and has the wanted opcode. -/
def Dev.ceRead (d : Dev) (i now op : Nat) (f : Dev → CapWord → Dev) : Dev :=
  if !d.ceMayRead i now then d
  else
    let w := d.capWord i (d.ic i).pos
    if w.op = op ∧ (d.capBad i w).isNone then f d w else d

/-- A WINDOW word: a window enters its demodulator's queue, or is discarded as overlapping (R205, R207). A full queue stops
reading (R201). -/
def Dev.ceWindow (d : Dev) (i now : Nat) (w : CapWord) : Dev :=
  let q := d.dt i w.dt
  if 4 ≤ q.queue.length then d
  else
    let ts := (d.ic i).cursor
    let d := if ts < q.lastEnd then (d.icErr i (IC_ERR.WOVERLAP i)).setTaint
      else d.setDt i w.dt { q with
        queue := q.queue ++ [{ ts := ts, len := w.lenm1 + 1, wbase := w.wbase,
                               probe := if w.probeEn then some w.probe else none, enter := now }]
        lastEnd := ts + w.lenm1 + 1 }
    d.ceNext i w.adv

/-- A LOOP word under the counting rule of R123 (R199). -/
def Dev.ceLoop (d : Dev) (i : Nat) (w : CapWord) : Dev :=
  let e := d.ic i
  let (r, jump) := loopCount (tget 0 e.lc w.lc) w.count
  let d := d.setIc i { e with lc := tset 0 e.lc w.lc r }
  d.ceGo i (if jump then w.target else e.pos + 1) e.cursor

/-- Every window of a channel has completed.
[DEDUCED, assumption 52] -/
def IcSt.windowsDone (e : IcSt) : Bool := e.dts.all (fun x => x.2.queue.isEmpty && x.2.open_.isEmpty)

/-- An engine that has read END becomes ENDED once its windows have completed (R204).
[DEDUCED, assumption 52] -/
def Dev.ceFinish (d : Dev) (i : Nat) : Dev :=
  let e := d.ic i
  if e.mode = .ending ∧ e.windowsDone then d.setIc i { e with mode := .ended } else d

/-- HALT of a capture engine: no further word, no unopened window, counters cleared, IDLE (R204).
[DESIGN CHOICE, assumption 51] -/
def Dev.ceHalt (d : Dev) (i : Nat) : Dev :=
  let e := d.ic i
  let stop := fun (q : DtSt) => { q with queue := [], lastEnd := (q.open_.map (fun (w : Window) => w.ts + w.len)).foldl max 0 }
  let dts := (e.dts.map (fun x => (x.1, stop x.2))).filter (fun x => x.2 != {})
  d.setIc i { e with mode := .idle, startAt := none, lc := [], waitAdv := 0, dts := dts }

/-- Every open window is discarded without a result (R204). -/
def Dev.ceDiscard (d : Dev) (i : Nat) : Dev :=
  let e := d.ic i
  let stop := fun (q : DtSt) => { q with queue := [], open_ := [], lastEnd := 0 }
  d.setIc i { e with dts := (e.dts.map (fun x => (x.1, stop x.2))).filter (fun x => x.2 != {}) }

/-- A PRIME of a capture engine (R200, R129). -/
def Dev.cePrime (d : Dev) (i : Nat) : Dev :=
  let e := d.ic i
  if 0 < (d.icMode i).demods ∧ (e.mode = .idle ∨ e.mode = .ended) then
    d.setIc i { e with mode := .primed, startAt := none, waitAdv := 0 }
  else d.icErr i (IC_ERR.PRIME_FAIL i)

/-- A write of CE_CTRL: its fields, then HALT, then PRIME (R129, R200, R204). -/
def Dev.wrCeCtrl (d : Dev) (i : Nat) (v : W32) : Dev :=
  let d := d.writeCodes (CE_CTRL.off i) v
  let d := if (CE_CTRL.HALT i).of v = 1 then d.ceHalt i else d
  if (CE_CTRL.PRIME i).of v = 1 then d.cePrime i else d

/-- A start group is released on timeline value `v`: primed capture engines read from ENTRY with the cursor at V + 64 (R200).
[DEDUCED, assumption 30] -/
def Dev.releaseCe (d : Dev) (g v : Nat) : Dev :=
  (d.ics.map (·.1)).foldl (fun d i =>
    let e := d.ic i
    if e.mode = .primed ∧ d.fget (CE_CTRL.GROUP i) = g ∧ e.startAt.isNone then
      d.setIc i { e with startAt := some (v + 64), group := g, cursor := v + 64, pos := d.fget (CE_CTRL.ENTRY i) }
    else d) d

/-- The start tick of released engines of a group has come (R200).
[DEDUCED, assumption 30] -/
def Dev.ceStart (d : Dev) (g now : Nat) : Dev :=
  (d.ics.map (·.1)).foldl (fun d i =>
    let e := d.ic i
    if e.mode = .primed ∧ e.group = g ∧ (e.startAt.map (fun t => decide (t ≤ now))).getD false then
      d.setIc i { e with mode := .running }
    else d) d

/-! ### Windows -/

/-- The tick on which a window opens (R206). -/
def Window.openAt (w : Window) : Nat := if w.enter + 2 ≤ w.ts then w.ts else w.enter + 2

/-- The window opened late (R206). -/
def Window.late (w : Window) : Bool := !decide (w.enter + 2 ≤ w.ts)

/-- The end tick t_e, and the tick on which the window's result is formed: a window that integrates no tick ends when it
opens (R205, R206). -/
def Window.te (w : Window) : Nat := w.ts + w.len
def Window.doneAt (w : Window) : Nat := if w.late then max w.te (w.enter + 2) else w.te

/-- Weight word `j` of IC `i`: w_i and w_q (R208). -/
def Dev.weight (d : Dev) (i j : Nat) : Int × Int :=
  let w := d.rdLe (weightBase i + 4 * j) 4
  (sext 16 (bits w 15 0), sext 16 (bits w 31 16))

/-- The ADC code of a sample. -/
def adcCode (c : BitVec 12) : Int := sext 12 c.toNat

/-- Whether a sample is saturated (R193). -/
def adcSat (c : BitVec 12) : Bool := c == 0x7FF#12 || c == 0x800#12

/-- Timeline instant at the balls of ADC sample `k` of tick `t` (R192), in 50 ps: the trim in force moves it. The codes that TICK
brings are those of the samples at these instants.
[DESIGN CHOICE, assumption 12] -/
def Dev.sampleInstant (d : Dev) (i t k : Nat) : Nat :=
  let w := d.inForce (IC_TRIM.off i)
  32 * t + k + 32 * (IC_TRIM.TRIM_TK i).of w + (IC_TRIM.TRIM_S i).of w

/-- The demodulated value d[t] of demodulator `k` from the 32 codes of tick `t` (R196).
[DESIGN CHOICE, assumption 51] -/
def Dev.demod (d : Dev) (i k t : Nat) (codes : List (BitVec 12)) : Int × Int :=
  let fr := (DT_FREQ_LO.DF_LO i k).of (d.inForce (DT_FREQ_LO.off i k)) +
    2 ^ 32 * (DT_FREQ_HI.DF_HI i k).of (d.inForce (DT_FREQ_HI.off i k))
  let ph := (DT_PHASE.DPHASE i k).of (d.inForce (DT_PHASE.off i k))
  let step := fun (n : Nat) => ((fr * n % 2 ^ 48 / 65536) + ph) % 2 ^ 32 / 4096
  let x := codes.zipIdx.map (fun c => (adcCode c.1, step (32 * t + c.2)))
  (roundDiv ((x.map (fun p => p.1 * cosTab 32767 p.2)).foldl (· + ·) 0) 32768,
   roundDiv ((x.map (fun p => -p.1 * sinTab 32767 p.2)).foldl (· + ·) 0) 32768)

/-- A window takes the demodulated value of tick `t` when it integrates that tick (R205, R206, R209, R212). -/
def Dev.integrate (d : Dev) (i t : Nat) (dv : Int × Int) (sat : Bool) (w : Window) : Window :=
  if w.openAt ≤ t ∧ t < w.te then
    let (wi, wq) := d.weight i (w.wbase + (t - w.ts))
    { w with accI := w.accI + dv.1 * wi - dv.2 * wq, accQ := w.accQ + dv.1 * wq + dv.2 * wi, sat := w.sat || sat }
  else w

/-- The tick's samples of an IC: saturation (R193), and every window of its demodulators that integrates the tick. -/
def Dev.adcTick (d : Dev) (i now : Nat) (codes : List (BitVec 12)) : Dev :=
  let sat := codes.any adcSat
  let d := if sat then
      let was := d.bit (IC_ERR.ADC_OVR i)
      let d := (d.satAdd (IC_CNT0.SAT_TK i) 1).flag (IC_ERR.ADC_OVR i)
      if was then d else d.raise (385 + 2 * i)
    else d
  ((d.ic i).dts.map (·.1)).foldl (fun d k =>
    let q := d.dt i k
    if (q.queue ++ q.open_).any (fun w => decide (w.openAt ≤ now) && decide (now < w.te)) then
      let dv := d.demod i k now codes
      d.setDt i k { q with queue := q.queue.map (d.integrate i now dv sat), open_ := q.open_.map (d.integrate i now dv sat) }
    else d) d

/-- A queued window opens on its tick, late or in time (R201, R206). -/
def Dev.windowOpen (d : Dev) (i k now : Nat) : Dev :=
  let q := d.dt i k
  match q.queue with
  | w :: ws =>
    if w.openAt ≤ now then
      let d := d.setDt i k { q with queue := ws, open_ := q.open_ ++ [w] }
      if w.late then (d.satAdd (IC_CNT1.LATE_WIN i) 1).icErr i (IC_ERR.WLATE i) else d
    else d
  | [] => d

/-- The engine of channel `n` was starving on some tick from `a` up to before `b` (R214). -/
def Dev.starvedIn (d : Dev) (n a b : Nat) : Bool :=
  (d.oc n).starved.any (fun x => decide (x.1 < b) && decide (a < x.2)) ||
  ((d.eng n).mode == .starving && ((d.eng n).plans.head?.map (fun p => decide (p.start < b))).getD false)

/-! ### Discriminator and records -/

/-- The integrated value before its clip (R209). -/
def zValue (acc : Int) (shift : Nat) : Int := roundDiv acc (2 ^ (15 + shift))

/-- State and confidence from the squared distances of the candidates (R210, R211). -/
def discriminate (ds : List Int) (cshift : Nat) : Nat × Nat :=
  let best := ds.foldl min (ds.headD 0)
  let st := ds.findIdx (· == best)
  let others := ds.eraseIdx st
  let second := others.foldl min (others.headD 0)
  (st, min 63 ((second - best).toNat / 2 ^ cshift))

/-- The 64-bit result record (Table 06-5). -/
def mkRecord (shot round ic tone state conf flags : Nat) : BitVec 64 :=
  BitVec.ofNat 64 ((shot % 2 ^ 24) * 2 ^ 40 + (round % 2 ^ 16) * 2 ^ 24 + (ic % 32) * 2 ^ 19 + (tone % 16) * 2 ^ 15 +
    (state % 4) * 2 ^ 13 + (conf % 64) * 2 ^ 7 + flags % 128)

/-- The flag bits of a record (Table 06-5). -/
def flagBits (taint tsus sat late starve coal : Bool) : Nat :=
  64 * taint.toNat + 32 * tsus.toNat + 16 * sat.toNat + 8 * late.toNat + 4 * starve.toNat + 2 * coal.toNat + 1

/-- Fields of a result record. -/
def recShot (r : BitVec 64) : Nat := bits r.toNat 63 40
def recRound (r : BitVec 64) : Nat := bits r.toNat 39 24
def recState (r : BitVec 64) : Nat := bits r.toNat 14 13
def recConf (r : BitVec 64) : Nat := bits r.toNat 12 7
def recFlag (r : BitVec 64) (b : Nat) : Bool := bitAt r.toNat b

/-- Centre `s` of demodulator `k` in a table of values in force (R210). -/
def centre (f : Tbl W32) (i k s : Nat) : Int × Int :=
  (sext 24 (forceFld f (DT_CI.CI i k s)), sext 24 (forceFld f (DT_CQ.CQ i k s)))

/-- The labels of the tick in progress (R34, R214). -/
def Dev.label (d : Dev) (now : Nat) : Label := ⟨now, d.shot.toNat, d.round.toNat, d.taint, d.bit TML_STATUS.TSUS⟩

/-- The labels of tick `t`: this one's as they stand, an earlier one's as it left them. -/
def Dev.labelAt (d : Dev) (now t : Nat) : Label :=
  if now ≤ t then d.label now else (d.labels.find? (fun l => decide (l.from_ ≤ t))).getD (d.label now)

/-- The labels of a tick that ends are kept when they differ from those of the tick before. -/
def Dev.labelKeep (d : Dev) (now : Nat) : Dev :=
  let l := d.label now
  match d.labels with
  | x :: _ => if { x with from_ := now } = l then d else { d with labels := l :: d.labels }
  | [] => { d with labels := [l] }

/-- The result of a window, with the labels and the settings of its end tick, which a late window keeps (R34, R206, R209 to R214): its
record, and whether z clipped.
[DESIGN CHOICE, assumption 51] -/
def Dev.windowResult (d : Dev) (i k now : Nat) (w : Window) : BitVec 64 × Bool :=
  let f := if now ≤ w.te then d.force else d.forceAt (d.tk - (now - w.te))
  let l := d.labelAt now w.te
  let cfg := forceVal f (DT_CFG.off i k)
  let sh := (DT_CFG.SHIFT i k).of cfg
  let z := (zValue w.accI sh, zValue w.accQ sh)
  let zc := (clipInt 8388607 z.1, clipInt 8388607 z.2)
  let cand := if (DT_CFG.LEAK_EN i k).of cfg = 1 then 3 else 2
  let ds := (List.range cand).map (fun s => let c := centre f i k s; (zc.1 - c.1) ^ 2 + (zc.2 - c.2) ^ 2)
  let (st, conf) := discriminate ds ((DT_CFG.CSHIFT i k).of cfg)
  let empty := decide (w.te ≤ w.openAt)
  let conf := if empty || (w.sat && d.bit (IC_CFG.SAT_CONF i)) then 0 else conf
  let starve := (w.probe.map (fun n => d.starvedIn n w.ts w.te)).getD false
  (mkRecord l.shot l.round i k st conf (flagBits l.taint l.tsus w.sat w.late starve false), z != zc)

/-- A window has reached its end tick: its value is discriminated and its record waits for D_R (R205, R215). -/
def Dev.windowEnd (d : Dev) (i k now : Nat) : Dev :=
  let q := d.dt i k
  match q.open_ with
  | w :: ws =>
    if w.doneAt ≤ now then
      let (r, clip) := d.windowResult i k now w
      let d := (d.setDt i k { q with open_ := ws, results := q.results ++ [⟨w.doneAt + (d.icMode i).readDelay, r⟩] }).ceFinish i
      if clip then d.icErr i (IC_ERR.ZCLIP i) else d
    else d
  | [] => d

/-! ### Result buffers -/

/-- Unread records (R217). -/
def Dev.rbUnread (d : Dev) (i : Nat) : Nat := (d.fget (IC_RB_WR.WR i) + 131072 - d.fget (IC_RB_RD.RD i)) % 131072

/-- The request threshold in force (R218).
[DEDUCED, assumption 53] -/
def rbThresh (v : Nat) : Nat := if v = 0 ∨ 512 < v then 512 else (v + 7) / 8 * 8

/-- The request line follows the unread count; its rise raises the buffer-request source (R218, R377).
[DEDUCED, assumption 53] -/
def Dev.rbUpdate (d : Dev) (i : Nat) : Dev :=
  let on := decide (rbThresh (d.fget (IC_RB_CFG.THRESH i)) ≤ d.rbUnread i)
  let was := d.bit (IC_STATUS.RB_REQ i)
  let d := d.fsetB (IC_STATUS.RB_REQ i) on
  if on && !was then d.raise (384 + 2 * i) else d

/-- A record's copy for the result buffer (R217, R220). -/
def Dev.rbWrite (d : Dev) (i : Nat) (r : BitVec 64) : Dev :=
  if 65536 ≤ d.rbUnread i then
    let d := (d.satAdd (IC_CNT1.RB_DROP i) 1).icErr i (IC_ERR.RB_FULL i)
    if d.bit (IC_RBLOST.VALID i) then d else (d.flag (IC_RBLOST.VALID i)).fset (IC_RBLOST.SHOT i) (recShot r)
  else
    let wr := d.fget (IC_RB_WR.WR i)
    let d := d.wrLe (resultBase i + 8 * (wr % 65536)) 8 r.toNat
    (d.fset (IC_RB_WR.WR i) ((wr + 1) % 131072)).rbUpdate i

/-- A read of the result buffer from byte `off`: with AUTORD, one that starts at RD advances it (R218). -/
def Dev.rbRead (d : Dev) (i off len : Nat) : List Byte × Dev :=
  let len := min len (0x80000 - off)
  let bs := d.rdBytes (resultBase i + off) len
  let rd := d.fget (IC_RB_RD.RD i)
  if d.bit (IC_RB_CFG.AUTORD i) ∧ off = 8 * (rd % 65536) then
    (bs, (d.fset (IC_RB_RD.RD i) ((rd + min (len / 8) (d.rbUnread i)) % 131072)).rbUpdate i)
  else (bs, d)

/-- A host write of RD (R219). -/
def Dev.wrRbRd (d : Dev) (i : Nat) (v : W32) : Dev :=
  let new := (IC_RB_RD.RD i).of v
  if (d.fget (IC_RB_WR.WR i) + 131072 - new) % 131072 ≤ 65536 then (d.fset (IC_RB_RD.RD i) new).rbUpdate i
  else d.icErr i (IC_ERR.RB_PTR i)

/-- Order of the collector (R225). -/
def ColWait.before (x y : ColWait) : Bool :=
  decide (x.emit < y.emit) || (x.emit == y.emit && (decide (x.ic < y.ic) || (x.ic == y.ic && decide (x.dt < y.dt))))

/-- A record takes its place among those waiting. -/
def colInsert (c : ColWait) : List ColWait → List ColWait
  | [] => [c]
  | x :: xs => if c.before x then c :: x :: xs else x :: colInsert c xs

/-- The discriminator emits a record: its collector copy displaces one that still waits (R216), and its buffer copy follows
(R215). Records of one tick enter the buffer in ascending demodulator. -/
def Dev.resultEmit (d : Dev) (i k now : Nat) : Dev :=
  let due := fun (q : DtSt) => (q.results.head?.map (fun r => decide (r.emit ≤ now))).getD false
  let q := d.dt i k
  if (d.ic i).dts.any (fun x => decide (x.1 < k) && due x.2) then d
  else match q.results with
  | r :: rs =>
    if r.emit ≤ now then
      let d := d.setDt i k { q with results := rs }
      let (word, d) :=
        match d.colWait.find? (fun c => c.ic == i && c.dt == k) with
        | some c =>
          let word := r.word ||| 2#64
          let put := fun (x : ColWait) => if x.ic == i && x.dt == k then { c with word := word } else x
          (word, ({ d with colWait := d.colWait.map put } : Dev).satAdd (IC_CNT0.COAL i) 1)
        | none => (r.word, { d with colWait := colInsert ⟨d.tk, i, k, r.word⟩ d.colWait })
      d.rbWrite i word
    else d
  | [] => d

/-! ### Staged demodulation settings (R197) -/

/-- The BAR0 offset of a staged read-out register. -/
def dtOff (i : Nat) : DtReg → Nat
  | .trim => IC_TRIM.off i
  | .freqLo k => DT_FREQ_LO.off i k.val
  | .freqHi k => DT_FREQ_HI.off i k.val
  | .phase k => DT_PHASE.off i k.val
  | .cfg k => DT_CFG.off i k.val
  | .cI k s => DT_CI.off i k.val s.val
  | .cQ k s => DT_CQ.off i k.val s.val

/-- A write of a staged read-out register (R197). -/
def Dev.wrDt (d : Dev) (i : Nat) (r : DtReg) (v : W32) : Dev :=
  let u := icUnit i
  match r with
  | .freqLo k => d.stageLo (DT_FREQ_LO.off i k.val) v
  | .freqHi k => d.stageHi u (DT_FREQ_LO.off i k.val) (DT_FREQ_HI.off i k.val) (v &&& 0xFFFF#32)
  | .trim => d.stage u (IC_TRIM.off i) (v &&& 0x1FF#32)
  | .phase k => d.stage u (DT_PHASE.off i k.val) v
  | .cfg k => d.stage u (DT_CFG.off i k.val) (v &&& 0x803F000F#32)
  | .cI k s => d.stage u (DT_CI.off i k.val s.val) (v &&& 0xFFFFFF#32)
  | .cQ k s => d.stage u (DT_CQ.off i k.val s.val) (v &&& 0xFFFFFF#32)

/-- A soft reset of the IC: queued and open windows go without result, counters clear, the engine is IDLE and class E values
return to default (R204). Results already formed are still emitted.
[DESIGN CHOICE, assumption 51] -/
def Dev.icSoftReset (d : Dev) (i : Nat) : Dev :=
  let lo := IC_CFG.off i
  let keep := fun (q : DtSt) => ({ results := q.results } : DtSt)
  let d := d.setIc i { dts := ((d.ic i).dts.map (fun x => (x.1, keep x.2))).filter (fun x => x.2 != {}) }
  ((d.resetRegs lo (lo + 0x10000) (· == .e)).rbUpdate i).pendUpdate (icUnit i)

/-- A write of IC_CFG (R204, R212). -/
def Dev.wrIcCfg (d : Dev) (i : Nat) (v : W32) : Dev :=
  let d := d.writeCodes (IC_CFG.off i) v
  if (IC_CFG.SRST i).of v = 1 then d.icSoftReset i else d

end Sys2Proof.Machine
end

