-- ==== Sys2Proof/Machine/SluiceOps.lean ====
section
/-! DEFINITION. What the sluice commands share: intake and fan-out (R222 to R228), the doubt rules (R229, R230), routing writes
(R231, R233), frame updates (R234, R265) and decision messages (R235 to R239). -/
namespace Sys2Proof.Machine

/-- A bit of SLU_ERR is set; it raises the sluice's source (R377). -/
def Dev.sluErr (d : Dev) (f : Fld) : Dev := d.flagRaise f 448

/-- Whether the sluice routes in the present mode (R239). -/
def Dev.sluOn (d : Dev) : Bool := d.mode != .load && d.mode != .sleep

/-! ### Decision messages (Table 07-4) and link queues -/

/-- A decision message of KIND 0 or 1. -/
def decisionMsg (tag kind : Nat) (body : BitVec 64) : BitVec 96 :=
  BitVec.ofNat 96 ((tag % 1024) * 2 ^ 86 + (kind % 4) * 2 ^ 84 + body.toNat)

/-- A port is trained: UP4 or UP3. -/
def Dev.portUp (d : Dev) (p : Nat) : Bool := d.fget (LNK_P_STAT.STATE p) == 3 || d.fget (LNK_P_STAT.STATE p) == 4

/-- A decision message enters a port's VC1 queue, or is dropped because the port is not trained or the queue full (R238). -/
def Dev.decisionPush (d : Dev) (p : Nat) (m : BitVec 96) : Dev :=
  let q := tget [] d.decq p
  if !d.portUp p then (d.satAdd SLU_CNT1.LDROP 1).sluErr SLU_ERR.LDOWN
  else if 128 ≤ q.length then (d.satAdd SLU_CNT1.LDROP 1).sluErr SLU_ERR.LOVER
  else { d with decq := tset [] d.decq p (q ++ [m]) }

/-! ### Intake -/

/-- Place an event among those in transit, by due tick and then by sluice order.
[DESIGN CHOICE, assumption 59] -/
def transitInsert (t : Transit) : List Transit → List Transit
  | [] => [t]
  | x :: xs => if t.due < x.due ∨ (t.due = x.due ∧ t.ord < x.ord) then t :: x :: xs else x :: transitInsert t xs

/-- An event starts its transit to a sink. -/
def Dev.transitAdd (d : Dev) (due ord : Nat) (sink : SluSink) (word : BitVec 64) : Dev :=
  { d with transit := transitInsert ⟨due, ord, sink, word⟩ d.transit }

/-- The condition inputs that select a source: index c and SLU_CISELc word (R229). -/
def Dev.ciSelected (d : Dev) (src : Nat) : List (Nat × W32) :=
  d.regs.filterMap (fun e =>
    if SLU_CISEL.off 0 ≤ e.1 ∧ e.1 < SLU_CISEL.off 3072 ∧ (SLU_CISEL.EN 0).of e.2 = 1 ∧ (SLU_CISEL.SRC 0).of e.2 = src
    then some ((e.1 - SLU_CISEL.off 0) / 4, e.2) else none)

/-- The forwarding entries of a source: SLU_LFWDr words (R235). -/
def Dev.lfwdSelected (d : Dev) (src : Nat) : List W32 :=
  d.regs.filterMap (fun e =>
    if SLU_LFWD.off 0 ≤ e.1 ∧ e.1 < SLU_LFWD.off 256 ∧ (SLU_LFWD.EN 0).of e.2 = 1 ∧ (SLU_LFWD.SRC 0).of e.2 = src
    then some e.2 else none)

/-- An event of source `src` enters the intake on this tick and starts towards every sink that selects it (R223, R229, R233,
R235), with the routing of this tick (R231). -/
def Dev.intake (d : Dev) (src ord : Nat) (word : BitVec 64) : Dev :=
  if !d.sluOn then d
  else
    let cis := d.ciSelected src
    let fwd := d.lfwdSelected src
    let sv := bitAt (d.fget (SLU_SVSEL.SEL (src / 32))) (src % 32)
    let d := cis.foldl (fun d c => d.transitAdd (d.tk + 11) ord (.ci (c.1 / 16) (c.1 % 16) c.2) word) d
    let d := if sv then d.transitAdd (d.tk + 4) ord (.sieve src) word else d
    fwd.foldl (fun d w =>
      (List.range 6).foldl (fun d p =>
        if bitAt ((SLU_LFWD.PORTS 0).of w) p
        then d.transitAdd (d.tk + 3) ord (.link p (decisionMsg ((SLU_LFWD.TAG 0).of w) 0 word)) word else d) d) d

/-- The record a marker edge carries into the sluice (Table 07-1). -/
def Dev.markerRecord (d : Dev) (k : Nat) (rising : Bool) : BitVec 64 :=
  mkRecord d.shot.toNat d.round.toNat 0 k rising.toNat 63 1

/-- Take up to 64 waiting records into the intake, once a tick (R225 to R227). -/
def Dev.collectorTake (d : Dev) : Dev :=
  if d.colTaken = some d.tk then d
  else
    let go := d.colWait.take 64
    let d : Dev := { d with colTaken := some d.tk, colWait := d.colWait.drop 64 }
    go.foldl (fun d c =>
      let d := d.fset SLU_WAIT.MAXK (max (d.fget SLU_WAIT.MAXK) (min 7 (d.tk - c.emit)))
      d.intake (16 * c.ic + c.dt) 0 c.word) d

/-! ### Delivery -/

/-- The first event in transit that has reached a sink, and the rest.
[DESIGN CHOICE, assumption 59] -/
def Dev.arrived (d : Dev) (is : SluSink → Bool) : Option (Transit × Dev) :=
  match d.transit.find? (fun t => decide (t.due ≤ d.tk) && is t.sink) with
  | none => none
  | some t => some (t, { d with transit := d.transit.erase t })

/-- Whether an event is doubtful (R230). -/
def doubtful (sel : W32) (r : BitVec 64) : Bool :=
  decide (recConf r < (SLU_CISEL.CMIN 0).of sel) ||
  ((List.range 6).any (fun j => bitAt ((SLU_CISEL.FMASK 0).of sel) j && recFlag r (j + 1)))

/-- The value an event delivers to a condition input, or none when it is dropped (R230). -/
def ciValue (sel : W32) (r : BitVec 64) : Option Bool :=
  let v := bitAt ((SLU_CISEL.SMASK 0).of sel) (recState r)
  if doubtful sel r then
    match (SLU_CISEL.DOUBT 0).of sel with
    | 0 => some v
    | 1 => some false
    | 2 => some true
    | _ => none
  else some v

/-- An event reaches condition input `k` of engine `n` (R229, R230, R232). -/
def Dev.ciDeliver (d : Dev) (n k now : Nat) (sel : W32) (r : BitVec 64) : Dev :=
  if !d.domOn n then d
  else match ciValue sel r with
    | none => d.satAdd SLU_CNT0.DOUBT_DROP 1
    | some v => d.ciEvent n k now v

/-- A frame update reaches its tone's Pauli-frame register, or is discarded (R234, R126). -/
def Dev.frameApply (d : Dev) (now : Nat) (u : BitVec 64) : Dev :=
  let n := bits u.toNat 63 56
  let t := bits u.toNat 55 52
  if 191 < n ∨ !d.domOn n ∨ d.toneCount n ≤ t then (d.satAdd SLU_CNT1.FRAME_OFF 1).sluErr SLU_ERR.FRAME_OFF
  else
    let x := (2 * (bitAt u.toNat 51).toNat + (bitAt u.toNat 50).toNat) * 2 ^ (2 * t)
    let d := d.setEng n { d.eng n with frXor := Nat.xor (d.eng n).frXor x }
    d.frameSet n now (Nat.xor (d.fget (SE_FRAME.FRAME n)) x)

/-- A frame update issued by the sieve or delivered by a port starts its transit (R234). -/
def Dev.frameIssue (d : Dev) (u : BitVec 64) : Dev := d.transitAdd (d.tk + 6) 8192 (.frame u) u

/-- A port delivers a decision message (R237, R239, R266). -/
def Dev.decisionDeliver (d : Dev) (p : Nat) (m : BitVec 96) : Dev :=
  if !d.sluOn then d
  else
    let body := BitVec.ofNat 64 m.toNat
    match bits m.toNat 85 84 with
    | 0 => d.intake (1024 + bits m.toNat 95 86) (12288 + p) body
    | 1 => if 191 < bits body.toNat 63 56 then (d.satAdd SLU_CNT1.FRAME_OFF 1).sluErr SLU_ERR.FRAME_OFF
           else d.frameIssue body
    | _ => (d.satAdd SLU_CNT0.KIND_DROP 1).sluErr SLU_ERR.KIND_BAD

/-! ### Routing writes -/

/-- A reserved source index (Table 07-1). -/
def sluReserved (src : Nat) : Bool := decide (592 ≤ src) && decide (src ≤ 1023)

/-- The bits of SLU_SVSELj that exist (R233). -/
def svselMask (j : Nat) : W32 :=
  if j = 18 then 0x0000FFFF#32 else if 19 ≤ j ∧ j ≤ 31 then 0 else 0xFFFFFFFF#32

/-- A write of a routing register acts on the next intake tick, or is refused (R231, R233). -/
def Dev.wrRoute (d : Dev) (r : RouteReg) (v : W32) : Dev :=
  match r with
  | .cisel c =>
    if sluReserved ((SLU_CISEL.SRC c.val).of v) then d.sluErr SLU_ERR.ROUTE_BAD
    else d.lateReg ⟨SLU_CISEL.off c.val, 31, 0⟩ (v &&& 0xFFFFC7FF#32).toNat
  | .svsel j => d.lateReg ⟨SLU_SVSEL.off j.val, 31, 0⟩ (v &&& svselMask j.val).toNat
  | .lfwd r =>
    if sluReserved ((SLU_LFWD.SRC r.val).of v) then d.sluErr SLU_ERR.ROUTE_BAD
    else d.lateReg ⟨SLU_LFWD.off r.val, 31, 0⟩ (v &&& 0xFE1FFFFF#32).toNat

end Sys2Proof.Machine
end

