-- ==== Sys2Proof/Machine/SieveOps.lean ====
section
/-! DEFINITION. What the sieve commands share: graph stores (R248 to R252), intake and closing of rounds (R253 to R257), commit
and outputs (R261 to R268), hand-off messages (R269 to R272), tiles (R244, R273, R274) and the round schedule (R246, R247). -/
namespace Sys2Proof.Machine

/-- A bit of SV_ERR is set; it raises the sieve's source (R377). -/
def Dev.svErr (d : Dev) (f : Fld) : Dev := d.flagRaise f 449

/-- Whether the sieve decodes in the present mode (R245). -/
def Dev.svOn (d : Dev) : Bool := d.mode.running || d.mode == .relay

/-- A graph, and the device with one replaced. -/
def Dev.graph (d : Dev) (g : Nat) : GraphSt := tget {} d.sieve.graphs g
def Dev.setGraph (d : Dev) (g : Nat) (x : GraphSt) : Dev := { d with sieve := { d.sieve with graphs := tset {} d.sieve.graphs g x } }

/-- The low 24 bits of the shot counter (R34). -/
def Dev.shot24 (d : Dev) : Nat := d.shot.toNat % 2 ^ 24

/-! ### Graph stores (Table 08-1) -/

/-- Byte address of a graph store. -/
def graphBase (g : Nat) : Nat := tileBase + 0x100000 * g

/-- Whether Table 08-1 lists a byte offset. -/
def graphListed (off : Nat) : Bool :=
  decide (off < 0x40) || (decide (0x1000 ≤ off) && decide (off < 0x51000))

/-- A 32-bit word of a graph store. -/
def Dev.graphWord (d : Dev) (g off : Nat) : Nat := d.rdLe (graphBase g + off) 4

/-- Header words DETS, EDGES, LABELS and WIN. -/
def Dev.gDets (d : Dev) (g : Nat) : Nat := d.graphWord g 0
def Dev.gEdges (d : Dev) (g : Nat) : Nat := d.graphWord g 4
def Dev.gLabels (d : Dev) (g : Nat) : Nat := d.graphWord g 8
def Dev.gWin (d : Dev) (g : Nat) : Nat := d.graphWord g 12

/-- Edge word `i` and frame-table entry `j`. -/
def Dev.gEdge (d : Dev) (g i : Nat) : SvEdge := .ofNat (d.rdLe (graphBase g + 0x1000 + 8 * i) 8)
def Dev.gEntry (d : Dev) (g j : Nat) : Nat := d.graphWord g (0x41000 + 4 * j)

/-- The edges of a graph. -/
def Dev.gEdgeList (d : Dev) (g : Nat) : List SvEdge := (List.range (d.gEdges g)).map (d.gEdge g)

/-- The first failing item of one edge, as a CAUSE (R251, SV_GERR).
[DESIGN CHOICE, assumption 56] -/
def edgeFault (dets labels : Nat) (e : SvEdge) : Option Nat :=
  if dets ≤ e.a ∨ (!e.bnd ∧ dets ≤ e.b) then some 1
  else if e.w = 0 then some 2
  else if e.label ≠ 0x3FFF ∧ labels ≤ e.label then some 3
  else if e.bnd ∧ (e.dt ∨ 6 < e.b % 8) then some 4
  else none

/-- Whether a frame-table entry names an OC above 191 or a port above 5 (R251, Table 08-3). -/
def entryBad (w : Nat) : Bool :=
  match bits w 31 30 with
  | 1 => decide (191 < bits w 29 22)
  | 2 => decide (5 < bits w 29 27) || decide (191 < bits w 26 19)
  | 3 => decide (5 < bits w 29 27)
  | _ => false

/-- The first failing item of an enable, as CAUSE and INDEX (R251). -/
def Dev.graphFault (d : Dev) (g : Nat) : Option (Nat × Nat) :=
  let dets := d.gDets g
  let edges := d.gEdges g
  let labels := d.gLabels g
  let win := d.gWin g
  if dets = 0 ∨ 8192 < dets ∨ edges = 0 ∨ 32768 < edges ∨ 16383 < labels ∨ win = 0 ∨ 16 < win ∨
      (d.rdBytes (graphBase g + 0x10) 48).any (· != 0) then some (0, 0)
  else match (List.range edges).findSome? (fun i => (edgeFault dets labels (d.gEdge g i)).map (fun c => (c, i))) with
    | some x => some x
    | none => ((List.range labels).find? (fun j => entryBad (d.gEntry g j))).map (fun j => (5, j))

/-- The lowest tile that neither serves, nor waits to be freed, nor is spare, nor has failed (R244). -/
def Dev.freeTile (d : Dev) : Option Nat :=
  (List.range 17).find? (fun t =>
    !(List.range 16).any (fun g => d.fget (SV_G_CTL.TILE g) == t) && d.fget SV_STATUS.SPARE != t &&
    !bitAt (d.fget SV_STATUS.FAILED) t)

/-! ### Discarding -/

/-- Outputs of a graph that are still to be issued are withdrawn (R252, R263). -/
def Dev.svWithdraw (d : Dev) (g : Nat) : Dev :=
  { d with sieve := { d.sieve with outq := d.sieve.outq.filter (fun o => o.graph != g), svo := d.sieve.svo.filter (fun o => o.graph != g),
                                   dones := d.sieve.dones.filter (fun o => o.graph != g) } }

/-- SV_Gg_STAT.QUEUE follows the queue. -/
def Dev.queueShow (d : Dev) (g : Nat) : Dev := d.fset (SV_G_STAT.QUEUE g) (d.graph g).queue.length

/-- A graph's window, rounds and decode are discarded; the shot in flight is tainted when one of its rounds is (R252). -/
def Dev.graphDiscard (d : Dev) (g : Nat) : Dev :=
  let x := d.graph g
  let cur := d.shot24
  let hit := x.open_.any (fun o => !o.seen.isEmpty || !o.vals.isEmpty) || x.queue.any (fun q => q.round.shot == cur) ||
    x.window.any (fun r => r.shot == cur) || (x.dec.map (fun e => !e.committed && e.shot == cur)).getD false
  let d := d.setGraph g { x with closed := x.closed, open_ := [], queue := [], window := [], toggles := [], cleared := [], dec := none, obs := [] }
  let d := (d.svWithdraw g).queueShow g
  if hit then d.setTaint else d

/-- The sieve is off in this mode: windows and queues clear, outputs to come are withdrawn (R245). -/
def Dev.svClear (d : Dev) : Dev :=
  let d := (d.sieve.graphs.map (·.1)).foldl (fun d g =>
    (d.setGraph g { d.graph g with open_ := [], queue := [], window := [], toggles := [], cleared := [], dec := none, raws := [], obs := [] }).queueShow g) d
  { d with sieve := { d.sieve with outq := [], svo := [], dones := [] } }

/-- A graph is disabled (R252). -/
def Dev.graphDisable (d : Dev) (g : Nat) : Dev :=
  let d := d.graphDiscard g
  let v := d.sieve
  let rot := if (v.rot.map (·.1)) = some g then none else v.rot
  let rescue := if (v.rescue.map (·.1)) = some g then none else v.rescue
  let d : Dev := { d with sieve := { v with rot := rot, rescue := rescue } }
  let d := if v.rot.isSome && rot.isNone then d.fset SV_STATUS.ROTATING 0 else d
  let d := (d.fset (SV_G_CTL.EN g) 0).fset (SV_G_STAT.BUSY g) 1
  d.setGraph g { d.graph g with freeAt := some (d.tk + 4), down := false, closed := 0, raws := [] }

/-- A write of SV_Gg_CTL (R251, R252). -/
def Dev.wrGraphCtl (d : Dev) (g : Nat) (v : W32) : Dev :=
  let x := d.graph g
  if d.bit (SV_G_CTL.EN g) then (if (SV_G_CTL.EN g).of v = 0 then d.graphDisable g else d)
  else if d.bit (SV_G_STAT.BUSY g) then
    if x.check ∧ (SV_G_CTL.EN g).of v = 0 then (d.setGraph g { x with check := false }).fset (SV_G_STAT.BUSY g) 0 else d
  else
    let d := (d.fset (SV_G_CTL.CHILDREN g) ((SV_G_CTL.CHILDREN g).of v)).fset (SV_G_CTL.EXPECT g) ((SV_G_CTL.EXPECT g).of v)
    if (SV_G_CTL.EN g).of v = 1 then (d.setGraph g { x with check := true }).fset (SV_G_STAT.BUSY g) 1 else d

/-- The enable check ends (R244, R251). -/
def Dev.graphCheckDone (d : Dev) (g : Nat) : Dev :=
  let x := d.graph g
  if !x.check then d
  else
    let d := (d.setGraph g { x with check := false }).fset (SV_G_STAT.BUSY g) 0
    let fail := match d.graphFault g with
      | some f => some f
      | none => if d.freeTile.isNone then some (6, 0) else none
    match fail with
    | some (c, i) =>
      let d := d.svErr SV_ERR.GRAPH_BAD
      if d.bit SV_GERR.VALID then d
      else (((d.flag SV_GERR.VALID).fset SV_GERR.CAUSE c).fset SV_GERR.GRAPH g).fset SV_GERR.INDEX i
    | none => (d.fset (SV_G_CTL.EN g) 1).fset (SV_G_CTL.TILE g) (d.freeTile.getD 31)

/-- 4 tk after a disable the tile is free (R252). -/
def Dev.tileRelease (d : Dev) (g : Nat) : Dev :=
  let x := d.graph g
  match x.freeAt with
  | some t => if t ≤ d.tk then ((d.setGraph g { x with freeAt := none }).fset (SV_G_CTL.TILE g) 31).fset (SV_G_STAT.BUSY g) 0 else d
  | none => d

/-- SV_GADDR.ADDR advances after an access of SV_GDATA (R248). -/
def Dev.gaddrNext (d : Dev) : Dev := d.fset SV_GADDR.ADDR ((d.fget SV_GADDR.ADDR + 4) % 0x100000)

/-- A write of SV_GDATA (R248). -/
def Dev.wrGdata (d : Dev) (v : W32) : Dev :=
  let g := d.fget SV_GADDR.GRAPH
  let a := d.fget SV_GADDR.ADDR
  let d := if d.bit (SV_G_CTL.EN g) || d.bit (SV_G_STAT.BUSY g) then d.svErr SV_ERR.GWPROT
    else if graphListed a then d.wrLe (graphBase g + a) 4 v.toNat else d
  d.gaddrNext

/-- A read of SV_GDATA (R248). -/
def Dev.rdGdata (d : Dev) : W32 × Dev :=
  let g := d.fget SV_GADDR.GRAPH
  let a := d.fget SV_GADDR.ADDR
  (if graphListed a then BitVec.ofNat 32 (d.graphWord g a) else 0, d.gaddrNext)

/-! ### Outputs -/

/-- A sieve message (Table 08-6). -/
def sieveMsg (ty graph round shot arg : Nat) : BitVec 64 :=
  BitVec.ofNat 64 ((ty % 4) * 2 ^ 62 + (graph % 16) * 2 ^ 58 + (round % 2 ^ 16) * 2 ^ 42 + (shot % 2 ^ 24) * 2 ^ 18 + arg % 2 ^ 18)

/-- A frame update (Table 08-5); `xz` is X in bit 1 and Z in bit 0. -/
def frameUpdate (oc tone xz shot round : Nat) : BitVec 64 :=
  BitVec.ofNat 64 ((oc % 256) * 2 ^ 56 + (tone % 16) * 2 ^ 52 + (xz % 4) * 2 ^ 50 + (shot % 2 ^ 24) * 2 ^ 26 + (round % 2 ^ 16) * 2 ^ 10)

/-- A sieve message enters a port's queue, or is dropped with HLINK and a taint (R270). -/
def Dev.sieveSend (d : Dev) (p : Nat) (m : BitVec 64) : Dev :=
  let q := tget [] d.sieveq p
  if !d.portUp p || decide (256 ≤ q.length) then (d.svErr SV_ERR.HLINK).setTaint
  else { d with sieveq := tset [] d.sieveq p (q ++ [m]) }

/-- An accumulator entry as sorted keys: class (0 LOCAL, 1 LINK, 2 REMOTE), key and value (R262, R266). -/
abbrev SvAcc := List ((Nat × Nat) × (SvOutKind × Nat))

/-- The accumulator a frame-table entry touches: its class and sort key, its output and value (Table 08-3). -/
def entryAcc (w : Nat) : Option ((Nat × Nat) × (SvOutKind × Nat)) :=
  match bits w 31 30 with
  | 1 => some ((0, bits w 29 18), (.local_ (bits w 29 22) (bits w 21 18) 0, bits w 17 16))
  | 2 => some ((1, bits w 29 15 * 1024 + bits w 12 3),
      (.link (bits w 29 27) (bits w 26 19) (bits w 18 15) (bits w 12 3) 0, bits w 14 13))
  | 3 => some ((2, bits w 29 23 * 16384 + bits w 13 0), (.flip (bits w 29 27) (bits w 26 23) (bits w 13 0), 1))
  | _ => none

/-- XOR one entry into the accumulators, kept in the order of R266. -/
def accXor (x : (Nat × Nat) × (SvOutKind × Nat)) : SvAcc → SvAcc
  | [] => [x]
  | y :: ys =>
    if x.1 = y.1 then (y.1, (y.2.1, Nat.xor y.2.2 x.2.2)) :: ys
    else if x.1.1 < y.1.1 ∨ (x.1.1 = y.1.1 ∧ x.1.2 < y.1.2) then x :: y :: ys
    else y :: accXor x ys

/-- The outputs of the accumulators that are not zero (R266). -/
def accOutputs (g shot rho : Nat) (a : SvAcc) : List SvOut :=
  (a.filter (fun x => x.2.2 != 0)).map (fun x => ⟨g, (match x.2.1 with
    | .local_ o t _ => .local_ o t x.2.2
    | .link p o t tag _ => .link p o t tag x.2.2
    | k => k), shot, rho⟩)

/-- Whether an output is a frame update rather than a FLIP. -/
def SvOutKind.frame : SvOutKind → Bool
  | .flip _ _ _ => false
  | _ => true

/-- Condition outputs of a graph wait for their issue (R268): observables, CONF, shot, round and SAT of the commit. -/
def Dev.svoQueue (d : Dev) (g obs conf shot rho : Nat) (sat late : Bool) (ready : Option Nat) : Dev :=
  let ks := (List.range 64).filter (fun k => d.bit (SV_OUT.EN k) && d.fget (SV_OUT.GRAPH k) == g)
  let new := ks.map (fun k => (⟨k, g, mkRecord shot rho (k / 16) (k % 16) (bitAt obs (d.fget (SV_OUT.OBS k))).toNat conf
    (flagBits false false sat false false false), late, ready⟩ : SvoWait))
  { d with sieve := { d.sieve with svo := d.sieve.svo ++ new } }

/-- A decode that overruns DEADLINE is flagged once (R264).
[DESIGN CHOICE, assumption 57] -/
def Dev.decLate (d : Dev) (g : Nat) : Dev :=
  match (d.graph g).dec with
  | some e =>
    if !e.late && decide (d.fget SV_CFG.DEADLINE < d.tk - e.closeTk) then
      let d := d.setGraph g { d.graph g with dec := some { e with late := true } }
      let d : Dev := { d with sieve := { d.sieve with svo := d.sieve.svo.map (fun o => if o.graph == g then { o with late := true } else o) } }
      (d.satAdd SV_CNT1.LATE_DEC 1).svErr SV_ERR.LATE_DEC
    else d
  | none => d

/-- A decode that has committed ends with its last output, the DONE of its round among them: MAXDEC, and LATE_DEC when it came too
late (R264).
[DESIGN CHOICE, assumption 57] -/
def Dev.decFinish (d : Dev) (g : Nat) : Dev :=
  let d := d.decLate g
  match (d.graph g).dec with
  | some e =>
    if e.committed && d.sieve.outq.all (fun o => o.graph != g) && d.sieve.svo.all (fun o => o.graph != g) &&
        d.sieve.dones.all (fun o => !(o.graph == g && o.rho == e.hi && o.shot == e.shot)) then
      let d := d.fset (SV_G_STAT.MAXDEC g) (max (d.fget (SV_G_STAT.MAXDEC g)) (min 1023 (d.tk - e.closeTk)))
      d.setGraph g { d.graph g with dec := none }
    else d
  | none => d

/-- Issue one output, or withhold it as stale (R266, R267). -/
def Dev.outIssue (d : Dev) (o : SvOut) : Dev :=
  if o.shot != d.shot24 then d.satAdd SV_CNT0.STALE 1
  else match o.kind with
    | .local_ oc tone xz => d.frameIssue (frameUpdate oc tone xz o.shot o.rho)
    | .link p oc tone tag xz => d.decisionPush p (decisionMsg tag 1 (frameUpdate oc tone xz o.shot o.rho))
    | .flip p g l => d.sieveSend p (sieveMsg 2 g o.rho o.shot l)

/-- Issue up to 8 outputs, once a tick; a commit whose last frame update has gone may issue its condition outputs on the next
tick (R266, R268).
[DESIGN CHOICE, assumption 57] -/
def Dev.outputIssue (d : Dev) : Dev :=
  if d.sieve.outTk = some d.tk ∨ d.sieve.outq.isEmpty then d
  else
    let go := d.sieve.outq.take 8
    let d : Dev := { d with sieve := { d.sieve with outq := d.sieve.outq.drop 8, outTk := some d.tk } }
    let d := go.foldl Dev.outIssue d
    let left := d.sieve.outq
    let ready := fun (o : SvoWait) =>
      if o.ready.isNone && left.all (fun x => x.graph != o.graph || !x.kind.frame) then { o with ready := some (d.tk + 1) } else o
    let d : Dev := { d with sieve := { d.sieve with svo := d.sieve.svo.map ready } }
    ((go.map (·.graph)).eraseDups).foldl (fun d g => d.decFinish g) d

/-- The oldest record of condition output SVOk that may be issued now (R268). -/
def Dev.svoHead (d : Dev) (k : Nat) : Option SvoWait :=
  d.sieve.svo.find? (fun o => o.k == k && (o.ready.map (fun t => decide (t ≤ d.tk))).getD false)

/-- Condition output SVOk issues its oldest record (R268), with LATE as the decode stands on this tick (R264). -/
def Dev.conditionIssue (d : Dev) (k : Nat) : Dev :=
  let d := match d.svoHead k with | some o => d.decLate o.graph | none => d
  match d.svoHead k with
  | none => d
  | some o =>
    let d : Dev := { d with sieve := { d.sieve with svo := d.sieve.svo.erase o } }
    let w := o.word ||| BitVec.ofNat 64 (64 * d.taint.toNat + 32 * (d.bit TML_STATUS.TSUS).toNat + 8 * o.late.toNat)
    (d.intake (528 + k) (8192 + k) w).decFinish o.graph

/-! ### Rounds -/

/-- The rounds that have begun in the shot in flight (R246). -/
def Dev.roundsBegun (d : Dev) : Nat := d.round.toNat

/-- An open round of a graph, empty when it has received nothing. -/
def GraphSt.openRound (x : GraphSt) (r : Nat) : SvOpen := (x.open_.find? (fun o => o.rho == r)).getD { rho := r }
/-- The graph with an open round replaced. -/
def GraphSt.putRound (x : GraphSt) (o : SvOpen) : GraphSt := { x with open_ := o :: x.open_.filter (fun p => p.rho != o.rho) }

/-- Ports the graph waits for (R256). -/
def Dev.children (d : Dev) (g : Nat) : List Nat := (List.range 6).filter (fun p => bitAt (d.fget (SV_G_CTL.CHILDREN g)) p)

/-- Values that had not arrived when round `r` closes on a timeout, and OPEN messages that differ from the DONE counts (R257,
R271). -/
def Dev.missingOf (d : Dev) (g : Nat) (o : SvOpen) (timeout : Bool) : Nat :=
  let kids := d.children g
  (if timeout then (d.fget (SV_G_CTL.EXPECT g) - o.seen.length) + (kids.filter (fun p => o.dones.all (fun e => e.1 / 16 != p))).length
   else 0) +
  (o.dones.map (fun e => let n := tget 0 o.opens e.1; (n - e.2) + (e.2 - n))).foldl (· + ·) 0

/-- The ports any seam node of a graph names (R269). -/
def Dev.seamPorts (d : Dev) (g : Nat) : List Nat :=
  let ps := (d.gEdgeList g).filterMap (fun e => if e.bnd && decide (0 < e.b % 8) then some (e.b % 8 - 1) else none)
  (List.range 6).filter ps.contains

/-- The DONE of a closed round waits to be sent (R269).
[DESIGN CHOICE, assumption 58] -/
def Dev.doneQueue (d : Dev) (g rho shot : Nat) (counts : List Nat) : Dev :=
  let ports := d.seamPorts g
  if ports.isEmpty then d
  else { d with sieve := { d.sieve with dones := d.sieve.dones ++
    [⟨g, rho, shot, ports.map (fun p => (p, (counts.filter (· == p)).length))⟩] } }

/-- The observable register of a shot, and the graph with it replaced (R262). -/
def GraphSt.obsOf (x : GraphSt) (shot : Nat) : Nat := tget 0 x.obs shot

/-- DONEs of closed rounds that no decode will send one for (R269).
[DESIGN CHOICE, assumption 58] -/
def Dev.doneQueues (d : Dev) (g : Nat) (rs : List (Nat × Nat)) : Dev := rs.foldl (fun d r => d.doneQueue g r.2 r.1 []) d

/-- A window that is not decoded (R263): the rounds of the queue go with it, and the DONE of each closed round is sent all the same.
[DESIGN CHOICE, assumptions 57, 58] -/
def Dev.svOverload (d : Dev) (g rho shot : Nat) (sat : Bool) : Dev :=
  let x := d.graph g
  let gone := (shot, rho) :: x.queue.map (fun q => (q.round.shot, q.round.rho))
  let d := (d.setGraph g { x with window := [], queue := [], toggles := [],
                                  cleared := gone ++ x.window.map (fun w => (w.shot, w.rho)) ++ x.cleared }).queueShow g
  let d := ((d.satAdd SV_CNT1.OVERLOAD 1).svErr SV_ERR.OVERLOAD).setTaint
  let d := d.svoQueue g (x.obsOf shot) 0 shot rho sat false (some (d.tk + 1))
  d.doneQueues g (x.queue.map (fun q => (q.round.shot, q.round.rho)) ++ [(shot, rho)])

/-- Round `r` of a graph closes (R256, R257): it joins the queue of closed rounds, or overloads it (R263). -/
def Dev.roundClose (d : Dev) (g r shot : Nat) (timeout final : Bool) : Dev :=
  let x := d.graph g
  let o := x.openRound r
  let miss := d.missingOf g o timeout
  let d := d.setGraph g { x with closed := r, open_ := x.open_.filter (fun p => p.rho != r) }
  let d := if 0 < miss then ((d.satAdd SV_CNT0.MISSING miss).svErr SV_ERR.MISSING).setTaint else d
  let x := d.graph g
  let rd : SvRound := ⟨r, shot, o.vals, o.low, o.sat, decide (0 < miss) || o.fault⟩
  if x.down then d.doneQueue g r shot []
  else if 16 ≤ x.queue.length then d.svOverload g r shot o.sat
  else (d.setGraph g { x with queue := x.queue ++ [⟨rd, d.tk, final⟩] }).queueShow g

/-- Whether the next round of a graph is complete (R256). A round with nothing to wait for closes once it has begun.
[DESIGN CHOICE, assumption 56] -/
def Dev.roundComplete (d : Dev) (g r : Nat) : Bool :=
  let o := (d.graph g).openRound r
  let kids := d.children g
  let expect := d.fget (SV_G_CTL.EXPECT g)
  decide (expect ≤ o.seen.length) && kids.all (fun p => o.dones.any (fun e => e.1 / 16 == p)) &&
  (decide (r ≤ d.roundsBegun) || decide (0 < expect) || !kids.isEmpty)

/-- Close every round that is complete, in order (R256); one record completes at most as many rounds as wait. -/
def Dev.closeComplete (d : Dev) (g : Nat) : Nat → Dev
  | 0 => d
  | n + 1 =>
    let r := (d.graph g).closed + 1
    if d.bit (SV_G_CTL.EN g) && d.roundComplete g r && decide (r ≤ max d.sieve.count ((d.graph g).open_.map (·.rho) |>.foldl max 0)) then
      (d.roundClose g r d.shot24 false (r == d.sieve.count)).closeComplete g n
    else d

/-- Rounds a completion may close at most. -/
def Dev.closeFuel (d : Dev) (g : Nat) : Nat := max d.sieve.count (d.graph g).open_.length + 1

/-- The timeout tick of a round, by tick count (R246, R256).
[DESIGN CHOICE, assumption 56] -/
def Dev.roundTimeout (d : Dev) (r : Nat) : Nat := d.sieve.base + d.sieve.first + r * d.sieve.period + max 1 (d.fget SV_CFG.CLOSE_LAG)

/-- The next open round of a graph closes on its timeout (R256, R257). -/
def Dev.closeTimeout (d : Dev) (g : Nat) : Dev :=
  let r := (d.graph g).closed + 1
  if d.svOn && d.bit (SV_G_CTL.EN g) && decide (r ≤ d.roundsBegun) && decide (r ≤ d.sieve.count) && decide (d.roundTimeout r ≤ d.tk) then
    let d := d.roundClose g r d.shot24 true (r == d.sieve.count)
    d.closeComplete g (d.closeFuel g)
  else d

/-- A record that reached the sieve intake (R245, R253 to R256).
[DESIGN CHOICE, assumptions 56, 57] -/
def Dev.sieveIntake (d : Dev) (src : Nat) (w : BitVec 64) : Dev :=
  if !d.svOn then d
  else if !d.bit (SV_MAP.EN src) then (d.satAdd SV_CNT1.UNMAPPED 1).svErr SV_ERR.UNMAPPED
  else
    let g := d.fget (SV_MAP.GRAPH src)
    let det := d.fget (SV_MAP.DET src)
    let x := d.graph g
    let r := recRound w
    let o := x.openRound r
    if !d.bit (SV_G_CTL.EN g) then d
    else if r = 0 ∨ d.sieve.count < r ∨ recShot w ≠ d.shot24 ∨ r ≤ x.closed ∨ o.seen.contains det then d.satAdd SV_CNT0.REJECT 1
    else
      let m := recState w == 1 || recState w == 2
      let prev := x.raws.find? (fun t => t.1 == r - 1 && t.2.1 == det)
      -- the raw bit of round r - 1 when none was received is a value the manual leaves open
      let (pb, d) := if d.bit (SV_MAP.DIFF src) && decide (1 < r) then
          (match prev with
           | some t => (t.2.2, d)
           | none => let (f, d) := d.draw; (f.getLsbD 0, d))
        else (false, d)
      let v := if d.bit (SV_MAP.DIFF src) then m != pb else m
      let low := decide (recConf w < d.fget SV_CFG.LOWCONF) || recState w == 2
      let o' := { o with seen := insNat det o.seen, vals := if v then insNat det o.vals else o.vals,
                         low := if low then insNat det o.low else o.low, sat := o.sat || recFlag w 4 }
      let d := d.setGraph g ({ x with raws := (r, det, m) :: x.raws }.putRound o')
      d.closeComplete g (d.closeFuel g)

/-! ### Decoding -/

/-- The tile takes the next closed round into its window (R257, R258, R263). -/
def Dev.decodeStart (d : Dev) (g : Nat) : Dev :=
  let x := d.graph g
  match x.queue with
  | [] => d
  | q :: qs =>
    if x.dec.isSome || x.down || !d.svOn || !d.bit (SV_G_CTL.EN g) then d
    else
      let r := q.round
      let tog := (x.toggles.filter (fun t => t.2 == (r.rho, r.shot))).map (·.1)
      let defs := tog.foldl (fun l t => if l.contains t then l.filter (· != t) else insNat t l) r.defs
      let lo := max 1 (r.rho + 1 - d.gWin g)
      let win := x.window.filter (fun w => decide (lo ≤ w.rho) && w.shot == r.shot) ++ [{ r with defs := defs }]
      let n : Nat := (win.map (fun w => w.defs.length)).foldl (· + ·) 0
      let d := (d.setGraph g { x with queue := qs, window := win, toggles := x.toggles.filter (fun t => t.2 != (r.rho, r.shot)) }).queueShow g
      if 256 < n then d.svOverload g r.rho r.shot r.sat
      else d.setGraph g { d.graph g with dec := some ⟨r.rho, r.shot, q.closeTk, q.final, false, false⟩ }

/-- Key, detector and round of a window node. -/
def nodeDet (n : Nat) : Nat := (n - 16) % 8192
def nodeRound (n : Nat) : Nat := (n - 16) / 8192

/-- A decode completes: dropped and handed-up clusters leave the window, the correction commits, outputs wait for their issue
(R259 to R262, R266 to R269).
[DESIGN CHOICE, assumption 56] -/
def Dev.decodeCommit (d : Dev) (g : Nat) : Dev :=
  let x := d.graph g
  match x.dec with
  | none => d
  | some e =>
    if e.committed then d
    else
      let es := d.gEdgeList g
      let win := d.gWin g
      let lo := max 1 (e.hi + 1 - win)
      let sw : SvWindow := {
        lo := lo, hi := e.hi, final := e.final, win := win,
        defs := (x.window.map (fun w => w.defs.map (fun t => (t, w.rho)))).flatten,
        low := (x.window.map (fun w => w.low.map (fun t => (t, w.rho)))).flatten, loww := d.fget SV_CFG.LOWW }
      let res := sw.decode es
      let commit := e.final || decide (win ≤ e.hi)
      let gone := res.lost ++ res.opened.map (·.1)
      let window := x.window.map (fun (w : SvRound) => { w with
        defs := w.defs.filter (fun t => !gone.contains (nodeOf t w.rho))
        bad := w.bad || res.lost.any (fun n => nodeRound n == w.rho) })
      let cr := if e.final then e.hi else lo
      let crs := if e.final then x.window else x.window.filter (fun w => w.rho == lo)
      let bad := x.window.any (·.bad) || decide (0 < res.dropped) ||
        x.cleared.any (fun c => c.1 == e.shot && decide (lo ≤ c.2) && decide (c.2 ≤ e.hi))
      let edges := res.committed.filterMap (fun c => es[c.1]?)
      let acc := (edges.filterMap (fun g' => if g'.label = 0x3FFF then none else entryAcc (d.gEntry g g'.label))).foldl
        (fun a y => accXor y a) []
      let obs := edges.foldl (fun o g' => Nat.xor o g'.obs) (x.obsOf e.shot)
      let x' := { x with
        window := (if e.final then [] else if commit then window.filter (fun w => w.rho != lo) else window),
        toggles := res.toggles.foldl (fun l t =>
          let y := (t, lo + 1, e.shot)
          if l.contains y then l.filter (· != y) else y :: l) (if e.final then [] else x.toggles),
        obs := if e.final && e.shot != d.shot24 then tdel x.obs e.shot else tset 0 x.obs e.shot obs,
        dec := some { e with committed := true } }
      -- toggles of a round already in the window act on it at once
      let x' := { x' with
        window := x'.window.map (fun (w : SvRound) => { w with
          defs := ((x'.toggles.filter (fun t => t.2 == (w.rho, w.shot))).map (·.1)).foldl
            (fun l t => if l.contains t then l.filter (· != t) else insNat t l) w.defs }),
        toggles := x'.toggles.filter (fun t => x'.window.all (fun w => (w.rho, w.shot) != t.2)) }
      let d := d.setGraph g x'
      let d := if 0 < res.dropped then ((d.satAdd SV_CNT1.OVERLOAD res.dropped).svErr SV_ERR.OVERLOAD).setTaint else d
      let d := res.opened.foldl (fun d p => d.sieveSend p.2 (sieveMsg 0 g (nodeRound p.1) e.shot (nodeDet p.1 * 32))) d
      let d := d.doneQueue g e.hi e.shot ((res.opened.filter (fun p => nodeRound p.1 == e.hi)).map (·.2))
      let d := if !commit then d else
        let outs := accOutputs g e.shot cr acc
        let d := (d.fset (SV_G_STAT.WEIGHT g) (min 65535 res.weight)).raise (452 + g)
        let d : Dev := { d with sieve := { d.sieve with outq := d.sieve.outq ++ outs } }
        d.svoQueue g obs (if bad then 0 else 63) e.shot cr (crs.any (·.sat)) e.late
          (if outs.any (fun o => o.kind.frame) then none else some (d.tk + 1))
      d.decFinish g

/-- The oldest DONE of a graph is sent on its ports (R269). -/
def Dev.doneSend (d : Dev) (g : Nat) : Dev :=
  match d.sieve.dones.find? (fun w => w.graph == g) with
  | none => d
  | some w =>
    let d : Dev := { d with sieve := { d.sieve with dones := d.sieve.dones.erase w } }
    (w.ports.foldl (fun d p => d.sieveSend p.1 (sieveMsg 1 g w.rho w.shot p.2)) d).decFinish g

/-! ### Received sieve messages -/

/-- A received message is dropped with HMAP and a taint (R271); the round it names carries the map fault (R268). -/
def Dev.hmapFault (d : Dev) (g : Option Nat) (r : Nat) : Dev :=
  let d := (d.svErr SV_ERR.HMAP).setTaint
  match g with
  | some g =>
    let x := d.graph g
    if x.closed < r ∧ r ≤ d.sieve.count then d.setGraph g (x.putRound { x.openRound r with fault := true })
    else d.setGraph g { x with window := x.window.map (fun w => if w.rho == r then { w with bad := true } else w),
                               queue := x.queue.map (fun q => if q.round.rho == r then { q with round := { q.round with bad := true } } else q) }
  | none => d

/-- A received OPEN or DONE (R271).
[DESIGN CHOICE, assumptions 56, 58] -/
def Dev.handOff (d : Dev) (p : Nat) (m : BitVec 64) : Dev :=
  if !d.svOn then d
  else
    let q := bits m.toNat 61 58
    let r := bits m.toNat 57 42
    let shot := bits m.toNat 41 18
    let arg := bits m.toNat 17 0
    if !d.bit (SV_HMAP.EN p q) then d.hmapFault none r
    else
      let g := d.fget (SV_HMAP.GRAPH p q)
      let x := d.graph g
      let det := arg / 32 + d.fget (SV_HMAP.OFFSET p q)
      if !d.bit (SV_G_CTL.EN g) then d.hmapFault none r
      else if r ≤ x.closed ∨ shot ≠ d.shot24 ∨ (bits m.toNat 63 62 = 0 ∧ d.gDets g ≤ det) then d.hmapFault (some g) r
      else
        let o := x.openRound r
        let o := if bits m.toNat 63 62 = 0 then
            { o with vals := insNat det o.vals, opens := tset 0 o.opens (16 * p + q) (tget 0 o.opens (16 * p + q) + 1) }
          else { o with dones := tput o.dones (16 * p + q) arg }
        (d.setGraph g (x.putRound o)).closeComplete g (d.closeFuel g)

/-- A received FLIP applies a label of a local graph (R272): its output waits before those of the decodes, under the limit of R266.
[DESIGN CHOICE, assumption 58] -/
def Dev.flipReceive (d : Dev) (m : BitVec 64) : Dev :=
  if !d.svOn then d
  else
    let g := bits m.toNat 61 58
    let l := bits m.toNat 13 0
    if !d.bit (SV_G_CTL.EN g) || decide (d.gLabels g ≤ l) then d.hmapFault none 0
    else
      let acc := match entryAcc (d.gEntry g l) with | some y => [y] | none => []
      let outs := accOutputs 16 (bits m.toNat 41 18) (bits m.toNat 57 42) acc
      let q := d.sieve.outq
      { d with sieve := { d.sieve with outq := q.takeWhile (·.graph == 16) ++ outs ++ q.dropWhile (·.graph == 16) } }

/-- A port delivers a sieve message; its TYPE decides (Table 08-6, R245). -/
def Dev.sieveDeliver (d : Dev) (p : Nat) (m : BitVec 64) : Dev :=
  match bits m.toNat 63 62 with
  | 2 => d.flipReceive m
  | 3 => if d.svOn then d.svErr SV_ERR.HMAP else d
  | _ => d.handOff p m

/-! ### Tiles -/

/-- The spare tile is needed: a self-test slice on it is abandoned and counts (R492). -/
def Dev.tileYield (d : Dev) : Dev :=
  if d.slices.any (fun e => e.1 == 1) then ({ d with slices := tdel d.slices 1 } : Dev).satAdd BST_CNT.ABANDONS 1 else d

/-- A copy of a graph to the spare may start (R273). -/
def Dev.rotationStart (d : Dev) : Dev :=
  let v := d.sieve
  let served := (List.range 17).filterMap (fun t =>
    ((List.range 16).find? (fun g => d.bit (SV_G_CTL.EN g) && d.fget (SV_G_CTL.TILE g) == t)).map (fun g => (t, g)))
  let next := match served.find? (fun x => decide (v.rotLast < x.1)) with | some x => some x | none => served.head?
  match next with
  | none => d
  | some (t, g) =>
    if d.bit SV_CTRL.ROT_EN && v.rot.isNone && v.rescue.isNone && d.fget SV_STATUS.SPARE != 31 && d.svOn &&
        decide (2 ^ min 24 (d.fget SV_CTRL.ROT_EXP) ≤ v.rotCnt) then
      let d : Dev := { d.tileYield with sieve := { v with rotCnt := 0, rotLast := t, rot := some (g, false) } }
      (d.fset SV_STATUS.ROTATING 1).fset SV_STATUS.ROTG g
    else d

/-- A copy to the spare is complete and waits for a shot boundary (R273, R274). -/
def Dev.rotationCopyDone (d : Dev) : Dev :=
  let v := d.sieve
  match v.rescue with
  | some (g, false) => ({ d with sieve := { v with rescue := some (g, true) } } : Dev).fset SV_STATUS.ROTATING 0
  | _ => match v.rot with
    | some (g, false) => ({ d with sieve := { v with rot := some (g, true) } } : Dev).fset SV_STATUS.ROTATING 0
    | _ => d

/-- At a shot boundary a finished copy serves: a rotated graph's old tile becomes the spare, a failed one's does not
(R273, R274). -/
def Dev.spareTakeover (d : Dev) : Dev :=
  let v := d.sieve
  let spare := d.fget SV_STATUS.SPARE
  match v.rescue with
  | some (g, true) =>
    let d : Dev := { d with sieve := { v with rescue := none } }
    let d := ((d.fset (SV_G_CTL.TILE g) spare).fset SV_STATUS.SPARE 31).raise 450
    d.setGraph g { d.graph g with down := false }
  | _ => match v.rot with
    | some (g, true) =>
      let old := d.fget (SV_G_CTL.TILE g)
      let d : Dev := { d with sieve := { v with rot := none } }
      ((d.fset (SV_G_CTL.TILE g) spare).fset SV_STATUS.SPARE old).raise 450
    | _ => d

/-- A serving tile fails (R274). -/
def Dev.tileFail (d : Dev) (t : Nat) (lost : Bool) : Dev :=
  match (List.range 16).find? (fun g => d.bit (SV_G_CTL.EN g) && d.fget (SV_G_CTL.TILE g) == t) with
  | none => d
  | some g =>
    let x := d.graph g
    let undone := (match x.dec with | some e => (if e.committed then [] else [(e.shot, e.hi)]) | none => []) ++
      x.queue.map (fun q => (q.round.shot, q.round.rho)) ++
      (List.range (d.roundsBegun - x.closed)).map (fun i => (d.shot24, x.closed + 1 + i))
    let waiting := d.sieve.dones
    let d := (d.svWithdraw g).setGraph g { x with closed := max x.closed d.roundsBegun, open_ := [], queue := [], window := [],
                                                  toggles := [], cleared := [], dec := none, down := true }
    let d := ({ d with sieve := { d.sieve with dones := waiting } } : Dev).doneQueues g undone
    let d := d.queueShow g
    let d := ((d.setTaint).svErr SV_ERR.TILE_FAIL).raise 451
    let d := d.fset SV_STATUS.FAILED (Nat.lor (d.fget SV_STATUS.FAILED) (2 ^ t))
    let v := d.sieve
    let d := if v.rot.isSome then ({ d with sieve := { v with rot := none } } : Dev).fset SV_STATUS.ROTATING 0 else d
    if lost then
      let d := (d.clearMem (graphBase g) 0x100000).svErr SV_ERR.GRAPH_LOST
      let d := (d.fset (SV_G_CTL.EN g) 0).fset (SV_G_CTL.TILE g) 31
      d.setGraph g { d.graph g with down := false, lost := true }
    else if d.fget SV_STATUS.SPARE = 31 ∨ v.rescue.isSome then d
    else
      let d : Dev := { d.tileYield with sieve := { d.sieve with rescue := some (g, false) } }
      (d.fset SV_STATUS.ROTATING 1).fset SV_STATUS.ROTG g

/-! ### Shot boundaries and rounds -/

/-- What a shot boundary does to the sieve: open rounds close as timeouts, the new schedule comes into force, a finished copy
serves (R247, R256, R273, R274). It acts before the shot counter moves.
[DESIGN CHOICE, assumption 56] -/
def Dev.sieveShot (d : Dev) : Dev :=
  let gs := d.sieve.graphs.map (·.1)
  let gs := (List.range 16).filter (fun g => gs.contains g || d.bit (SV_G_CTL.EN g))
  let d := gs.foldl (fun d g =>
    let shot := d.shot24
    let d := if d.svOn && d.bit (SV_G_CTL.EN g) then
        (List.range (min d.sieve.count d.roundsBegun - (d.graph g).closed)).foldl (fun d _ =>
          d.roundClose g ((d.graph g).closed + 1) shot true true) d
      else d
    let x := d.graph g
    let live := fun (s : Nat) => x.queue.any (fun q => q.round.shot == s) || (x.dec.map (fun c => c.shot == s)).getD false
    d.setGraph g { x with closed := 0, open_ := [], raws := [], obs := x.obs.filter (fun e => live e.1),
                          toggles := x.toggles.filter (fun t => live t.2.2), cleared := x.cleared.filter (fun c => live c.1) }) d
  let f := d.fget SV_RSCHED0.FIRST
  let p := d.fget SV_RSCHED0.PERIOD
  let c := d.fget SV_RSCHED1.COUNT
  let bad := decide (1 ≤ c) && decide (p < 64)
  let was := d.sieve.refused
  let d : Dev := { d with sieve := { d.sieve with base := d.tk, first := max 1 f, period := p, count := if bad then 0 else c,
                                                  refused := if bad then some (f, p, c) else none, rotCnt := d.sieve.rotCnt + 1 } }
  let d := if bad && was != some (f, p, c) then d.svErr SV_ERR.RSCHED else d
  d.spareTakeover

/-- The next round boundary, by tick count (R246). -/
def Dev.nextRound (d : Dev) : Option Nat :=
  if d.round.toNat < d.sieve.count then some (d.sieve.base + d.sieve.first + d.round.toNat * d.sieve.period) else none

/-- A declared round boundary arrives (R32, R246); rounds with nothing to wait for close (R256). On a tick with a shot boundary,
made or still to be made, the shot boundary alone takes effect (R33).
[DESIGN CHOICE, assumption 56] -/
def Dev.roundBoundary (d : Dev) (now : Nat) : Dev :=
  match d.nextRound with
  | none => d
  | some t =>
    if t ≤ d.tk ∧ !d.shotTick now then
      let d : Dev := { d with round := d.round + 1 }
      if d.svOn then (List.range 16).foldl (fun d g => if d.bit (SV_G_CTL.EN g) then d.closeComplete g (d.closeFuel g) else d) d
      else d
    else d

end Sys2Proof.Machine
end

