-- ==== Sys2Proof/Machine/WitnessOps.lean ====
section
/-! DEFINITION. What the witness commands share: capture (R275, R276), blocks and the ring (R277 to R279), crossings and
conditions (R280 to R282), decisions (R283 to R285), windows (R286 to R290), capture records (R291, R292), pins, spill and
the stream (R293 to R295). `now` is the timeline value. -/
namespace Sys2Proof.Machine

/-- Lines of the ring (R279). -/
def poolLines : Nat := 1048576

/-- A bit of ACQ_ERR is set; it raises its source (R377). -/
def Dev.acqErr (d : Dev) (f : Fld) : Dev := d.flagRaise f 898

/-- A trigger unit, and the device with one replaced. -/
def Dev.tu (d : Dev) (u : Nat) : TuSt := tget {} d.wit.units u
def Dev.setTu (d : Dev) (u : Nat) (x : TuSt) : Dev := { d with wit := { d.wit with units := tset {} d.wit.units u x } }

/-! ### Capture and blocks -/

/-- The ICs the pool records now, in ascending order (R276). -/
def Dev.recordedIcs (d : Dev) : List Nat :=
  (List.range 32).filter (fun i => d.mode == .witness || bitAt (d.fget ACQ_ICMASK.MASK) i)

/-- The codes of an IC among those of a tick, 32 of them; an IC that is not named has zeros. -/
def icCodes (adc : List AdcTick) (i : Nat) : List (BitVec 12) :=
  let c := ((adc.find? (fun a => a.ic.val == i)).map (·.codes)).getD []
  (c ++ List.replicate 32 0#12).take 32

/-- The samples of a tick enter the period in progress; a period is complete when all its five ticks were recorded (R277). -/
def Dev.poolSample (d : Dev) (now : Nat) (adc : List AdcTick) : Dev :=
  let w := d.wit
  if !d.bit ACQ_CTL.RUN then { d with wit := { w with cur := none } }
  else
    let cur : Option WitPeriod :=
      if now % 5 = 0 then
        some { k := now / 5, tsus := d.bit TML_STATUS.TSUS, ics := d.recordedIcs.map (fun i => (i, icCodes adc i)) }
      else match w.cur with
        | some p =>
          if p.k = now / 5 ∧ p.ics.all (fun e => e.2.length == 32 * (now % 5)) then
            some { p with ics := p.ics.map (fun e => (e.1, e.2 ++ icCodes adc e.1)) }
          else none
        | none => none
    match cur with
    | some p =>
      if now % 5 = 4 then { d with wit := { w with cur := none, ready := w.ready ++ [{ p with dueTk := d.tk + 9 }] } }
      else { d with wit := { w with cur := some p } }
    | none => { d with wit := { w with cur := none } }

/-- A block is narrow when every sample lies in −256 to 255 (R278). -/
def blockNarrow (c : List (BitVec 12)) : Bool := c.all (fun x => decide (-256 ≤ adcCode x) && decide (adcCode x ≤ 255))

/-- Lines of a block (Table 09-1). -/
def blockLines (c : List (BitVec 12)) : Nat := if blockNarrow c then 3 else 4

/-- Samples of `w` bits each, the first in the lowest place. -/
def packSamples (w : Nat) : List (BitVec 12) → Nat
  | [] => 0
  | x :: xs => (adcCode x % (2 ^ w : Int)).toNat + 2 ^ w * packSamples w xs

/-- A block as a number (Table 09-1, R278). -/
def mkBlock (ic : Nat) (c : List (BitVec 12)) (spill tsus : Bool) (t lost : Nat) : Nat :=
  let wide := !blockNarrow c
  packSamples (if wide then 12 else 9) c * 2 ^ 96 + wide.toNat * 2 ^ 95 + spill.toNat * 2 ^ 94 + ic * 2 ^ 89 +
    (c.any adcSat).toNat * 2 ^ 88 + tsus.toNat * 2 ^ 87 + (t % 2 ^ 56) * 2 ^ 31 + (min lost 65535) * 2 ^ 15

/-- Bytes written into the ring from a line on, going round at its end (R279). -/
def Dev.ringWrite (d : Dev) (line : Nat) (bs : List Byte) : Dev :=
  let room := 64 * (poolLines - line)
  (d.wrBytes (bar4Base + 64 * line) (bs.take room)).wrBytes bar4Base (bs.drop room)

/-- Ring distance from WR to a floor, a floor at WR itself lying a whole ring ahead.
[DESIGN CHOICE, assumption 37] -/
def floorDist (wr f : Nat) : Nat := let x := (f + poolLines - wr) % poolLines; if x = 0 then poolLines else x

/-- Byte offset in BAR0 of entry `i` of the record ring (R291). -/
def recEntry (i : Nat) : Nat := 0x1008000 + 32 * (i % 256)

/-- Unread capture records (R292). -/
def Dev.recUnread (d : Dev) : Nat := (d.fget ACQ_REC_WR.WR + 512 - d.fget ACQ_REC_RD.RD) % 512

/-- The floors (R293). -/
def Dev.poolFloors (d : Dev) : List Nat :=
  let recs := (List.range d.recUnread).map (fun j => recEntry (d.fget ACQ_REC_RD.RD + j))
  ((recs.filter (fun a => bitAt (d.rdLe (a + 8) 8) 35)).map (fun a => bits (d.rdLe (a + 16) 8) 63 44)) ++
  (d.wit.units.flatMap (fun e => (e.2.windows.filter (·.pin)).map (·.start))) ++
  (if d.bit ACQ_CTL.STREAM then [d.fget ACQ_PRD.PRD] else [])

/-- The oldest complete period is written into the ring, or dropped against a floor (R277, R293, R294).
[DESIGN CHOICE, assumption 37] -/
def Dev.periodWrite (d : Dev) (p : WitPeriod) (rest : List WitPeriod) : Dev :=
  let ics := p.ics.filter (fun e => d.domOn (192 + e.1))
  let wr := d.fget ACQ_STATUS.WR
  let need := (ics.map (fun e => blockLines e.2)).foldl (· + ·) 0
  let w := { d.wit with ready := rest }
  if d.poolFloors.any (fun f => decide (floorDist wr f ≤ need)) then
    let d : Dev := { d with wit := { w with places := ⟨p.k, wr, 0, true⟩ :: w.places, dropped := w.dropped + 1 } }
    let d := (d.satAdd ACQ_CNT.SPILL_P 1).acqErr ACQ_ERR.SPILL
    (d.fset ACQ_STATUS.SPILLING 1).raise 897
  else
    let spill := d.bit ACQ_STATUS.SPILLING
    let d : Dev := ics.foldl (fun (d : Dev) e =>
      let n := blockLines e.2
      let line := d.fget ACQ_STATUS.WR
      let b := mkBlock e.1 e.2 spill p.tsus (5 * p.k) (w.dropped - tget 0 w.seen e.1)
      (d.ringWrite line (leBytes (64 * n) b)).fset ACQ_STATUS.WR ((line + n) % poolLines)) d
    let d : Dev := { d with wit := { w with
      places := ⟨p.k, wr, need, false⟩ :: w.places
      seen := ics.foldl (fun t e => tset 0 t e.1 w.dropped) w.seen } }
    d.fset ACQ_STATUS.SPILLING 0

/-! ### Conditions -/

/-- COND bits (Table 09-2). -/
def condExt : Nat := 5
def condLink : Nat := 4
def condWidth : Nat := 3
def condRunt : Nat := 2
def condTimeout : Nat := 1
def condSlew : Nat := 0

/-- The crossing point between two samples for which x₀ and x₁ lie on either side of a level (R280), in 1/64 sample. -/
def crossPoint (n : Nat) (x0 x1 lev : Int) : Nat :=
  64 * (n - 1) + ((64 * (lev - x0).natAbs) / (x1 - x0).natAbs)

/-- The sample of a point (R281). -/
def pointSample (p : Nat) : Nat := (p + 63) / 64

/-- The decision tick of a sample (R283). -/
def Dev.decideTick (d : Dev) (n : Nat) : Nat := n / 32 + max 16 (d.fget ACQ_CTL.TDELAY)

/-- Whether a unit evaluates conditions of a kind. -/
def Dev.tuOn (d : Dev) (u bit : Nat) : Bool :=
  d.bit ACQ_CTL.RUN && d.bit (TU_CTL.ARM u) && bitAt (d.fget (TU_CTL.ENABLE u)) bit

/-- Evidence reaches a unit (R283, R284). -/
def Dev.tuEvidence (d : Dev) (u bit p now : Nat) : Dev :=
  let n := pointSample p
  let x := d.tu u
  d.setTu u { x with evidence := x.evidence ++ [⟨n, bit, p, decide (d.decideTick n < now)⟩] }

/-- One sample x of a unit after x₀ (R280 to R282): the levels' crossings, and the signal conditions met in it. -/
def Dev.tuSample (d : Dev) (u n now : Nat) (x0 x : Int) : Dev :=
  let t := d.tu u
  let hi := sext 12 (d.fget (TU_LEV.HI u))
  let lo := sext 12 (d.fget (TU_LEV.LO u))
  let upLo := decide (x0 < lo) && decide (lo ≤ x)
  let dnLo := decide (lo < x0) && decide (x ≤ lo)
  let upHi := decide (x0 < hi) && decide (hi ≤ x)
  let dnHi := decide (hi < x0) && decide (x ≤ hi)
  let pLo := crossPoint n x0 x lo
  let pHi := crossPoint n x0 x hi
  let within := fun (v lo hi : Nat) => decide (lo ≤ v) && decide (v ≤ hi)
  let width := dnHi && (t.upHi.map (fun m => within (n - m) (d.fget (TU_WID.WMIN u)) (d.fget (TU_WID.WMAX u)))).getD false
  let runt := dnLo && t.upLo.isSome && !t.reached
  let upAt := if upLo then some (n, pLo) else t.upLo
  let slew := upHi && (upAt.map (fun m => within (pHi - m.2) (d.fget (TU_SLW.SMIN u)) (d.fget (TU_SLW.SMAX u)))).getD false
  let count := if upHi || dnHi then 0 else t.count + 1
  let out := !(upHi || dnHi) && !t.expired && decide (max 1 (d.fget (TU_TOUT.TOUT u)) ≤ count)
  let d := d.setTu u { t with
    upHi := if upHi then some n else if dnHi then none else t.upHi
    upLo := if dnLo then none else upAt
    reached := if upLo then decide (hi ≤ x) else t.reached || decide (hi ≤ x)
    count := count
    expired := if upHi || dnHi then false else t.expired || out }
  let add := fun (d : Dev) (b : Bool) (bit p : Nat) => if b && d.tuOn u bit then d.tuEvidence u bit p now else d
  add (add (add (add d width condWidth pHi) runt condRunt pLo) out condTimeout (64 * n)) slew condSlew pHi

/-- The samples of a tick reach a unit (R280 to R282). -/
def Dev.tuSamples (d : Dev) (u now : Nat) : Nat → Int → List Int → Dev
  | _, _, [] => d
  | n, x0, x :: xs => (d.tuSample u n now x0 x).tuSamples u now (n + 1) x xs

/-- A tick's samples reach a unit that is armed while the pool runs; the unit's counts start when it begins to evaluate
(R282). -/
def Dev.tuTick (d : Dev) (u now : Nat) (adc : List AdcTick) : Dev :=
  let t := d.tu u
  if !(d.bit ACQ_CTL.RUN && d.bit (TU_CTL.ARM u)) then
    d.setTu u { t with live := false, upHi := none, upLo := none, reached := false, count := 0, expired := false }
  else
    let ic := d.fget (TU_CTL.IC u)
    let d := d.setTu u { t with live := true }
    if !d.domOn (192 + ic) then d
    else
      let sgn : Int := if d.bit (TU_CTL.POL u) then -1 else 1
      d.tuSamples u now (32 * now) (sgn * adcCode (tget 0 d.wit.lastCode ic)) ((icCodes adc ic).map (fun c => sgn * adcCode c))

/-- What the witness does with the samples of a tick.
[DESIGN CHOICE, assumption 37] -/
def Dev.witTick (d : Dev) (now : Nat) (adc : List AdcTick) : Dev :=
  let d := d.poolSample now adc
  let d := (List.range 8).foldl (fun d u => d.tuTick u now adc) d
  { d with wit := { d.wit with lastCode := adc.foldl (fun t a => tset 0 t a.ic.val ((icCodes [a] a.ic.val).getLastD 0)) [] } }

/-- A registered marker edge supplies EXT (Table 09-2); its stamp is in 1/1,024 tk. -/
def Dev.witExt (d : Dev) (k : Nat) (rising : Bool) (stamp now : Nat) : Dev :=
  (List.range 8).foldl (fun d u =>
    if d.tuOn u condExt && d.fget (TU_CTL.MKI u) == k && d.bit (TU_CTL.MKE u) != rising
    then d.tuEvidence u condExt (2 * stamp) now else d) d

/-- The point of a link trigger, its upper bits restored as the value nearest the timeline (R285). -/
def restorePoint (p now : Nat) : Nat :=
  let m := 2 ^ 60
  let base := 2048 * now
  let lo := base / m * m + p
  if lo + m / 2 < base then lo + m else if base + m / 2 < lo ∧ m ≤ lo then lo - m else lo

/-- A link trigger is received (R285). -/
def Dev.witLink (d : Dev) (w : BitVec 64) (now : Nat) : Dev :=
  (List.range 8).foldl (fun d u =>
    if d.tuOn u condLink && d.fget (TU_CTL.LTAG u) == bits w.toNat 63 60
    then d.tuEvidence u condLink (restorePoint (bits w.toNat 59 0) now) now else d) d

/-! ### Windows -/

/-- First timeline tick on which a window with a known end is closed: its last sample has passed. -/
def closedFrom (s1 now : Nat) : Nat := max (now + 1) ((s1 - 1) / 32 + 1)

/-- The unit's window is open, or its re-arm time runs (R289). -/
def Dev.tuBusy (d : Dev) (u now : Nat) : Bool :=
  decide (now < (d.tu u).freeAt) ||
  (d.tu u).windows.any (fun w => (w.closeAt.map (fun c => decide (now < c + d.fget (TU_LIM.REARM u)))).getD true)

/-- A stop at sample `m` reaches a unit (R286, R287).
[DESIGN CHOICE, assumption 37] -/
def Dev.tuStop (d : Dev) (u m now : Nat) : Dev :=
  let t := d.tu u
  match t.windows.find? (fun w => w.s1.isNone) with
  | some w =>
    if w.n ≤ m then
      let s1 := if m - w.n < 64 then w.n + 64 else m
      let w' := { w with s1 := some s1, short := decide (m - w.n < 64), closeAt := some (closedFrom s1 now) }
      d.setTu u { t with windows := t.windows.map (fun x => if x = w then w' else x) }
    else d.satAdd (TU_CNT.STRAY_STOP u) 1
  | none => d.satAdd (TU_CNT.STRAY_STOP u) 1

/-- First line of the period that starts a window; a period the ring has no place for leaves it open.
[DESIGN CHOICE, assumption 38] -/
def Dev.startLine (d : Dev) (k : Nat) : Nat × Dev :=
  match d.wit.places.find? (fun p => p.k == k) with
  | some p => (p.line, d)
  | none => let (v, d) := d.draw; (v.toNat % poolLines, d)

/-- Open a window at a trigger point, or refuse it for want of a record (R286, R292). -/
def Dev.windowStart (d : Dev) (u n p cond srck : Nat) (late : Bool) (now : Nat) : Dev :=
  let open_ := (d.wit.units.map (fun e => e.2.windows.length)).foldl (· + ·) 0
  if 256 ≤ d.recUnread + open_ then (d.satAdd ACQ_CNT.REC_FULL 1).acqErr ACQ_ERR.REC_FULL
  else
    let pre := d.fget (TU_WIN.PRE u)
    let (line, d) := d.startLine ((n / 32 - pre) / 5)
    let t := d.tu u
    let s1 := if d.bit (TU_CTL.STOPM u) then none else some (n + max 64 (d.fget (TU_WIN.POST u)))
    let w : TuWindow := { n := n, p := p, cond := cond, srck := srck, pre := pre, pin := d.bit (TU_CTL.PIN u), late := late,
                          tsus := d.bit TML_STATUS.TSUS, shot := d.shot.toNat % 2 ^ 24, round := d.round.toNat % 2 ^ 16,
                          start := line, s1 := s1, closeAt := s1.map (fun s => closedFrom s now) }
    d.setTu u { t with windows := t.windows ++ [w] }

/-- A link trigger enters the trigger queues of the unit's ports; a port that is not trained takes none (R285).
[DESIGN CHOICE, assumption 37] -/
def Dev.triggerSend (d : Dev) (u p : Nat) : Dev :=
  let w := BitVec.ofNat 64 (d.fget (TU_LIM.FTAG u) * 2 ^ 60 + p % 2 ^ 60)
  (List.range 6).foldl (fun d q =>
    if bitAt (d.fget (TU_LIM.FWD u)) q && d.portUp q then { d with trigq := tset [] d.trigq q (tget [] d.trigq q ++ [w]) } else d) d

/-- The unit triggers on the conditions met in a sample (R283 to R289). -/
def Dev.tuTrigger (d : Dev) (u n : Nat) (ev : List TuEvidence) (late : Bool) (now : Nat) : Dev :=
  let cond := (List.range 6).foldl (fun c b => if ev.any (fun e => e.bit == b) then c + 2 ^ b else c) 0
  let top := (ev.map (·.bit)).foldl max 0
  let p := ((ev.find? (fun e => e.bit == top)).map (·.p)).getD 0
  let d := d.raise (899 + u)
  let d := d.triggerSend u p
  let d := if d.bit (TU_CTL.MODE u) then d
    else if d.tuBusy u now then d.satAdd (TU_CNT.BUSY u) 1
    else d.windowStart u n p cond (5 - top) late now
  (List.range 8).foldl (fun d v =>
    if !d.bit (TU_CTL.MODE v) && d.bit (TU_CTL.STOPM v) && d.fget (TU_CTL.STOPU v) == u then d.tuStop v n now else d) d

/-- The unit's oldest sample whose decision tick has come is decided (R283). -/
def Dev.tuDecide (d : Dev) (u now : Nat) : Dev :=
  let t := d.tu u
  let due := t.evidence.filter (fun e => !e.late && decide (d.decideTick e.n ≤ now))
  match due with
  | [] => d
  | e :: es =>
    let n := (es.map (·.n)).foldl min e.n
    let d := d.setTu u { t with evidence := t.evidence.filter (fun e => e.late || e.n != n) }
    d.tuTrigger u n (due.filter (fun e => e.n == n)) false now

/-- The unit's first late evidence is decided alone (R284). -/
def Dev.tuLate (d : Dev) (u now : Nat) : Dev :=
  let t := d.tu u
  match t.evidence.find? (·.late) with
  | none => d
  | some e => (d.setTu u { t with evidence := t.evidence.erase e }).tuTrigger u e.n [e] true now

/-- The tick on which a window closes at the latest (R288). -/
def Dev.limitTick (d : Dev) (u : Nat) (w : TuWindow) : Nat :=
  let l := d.fget (TU_LIM.LIMIT u)
  w.n / 32 + (if l = 0 then 65535 else l)

/-- A window that is not closed yet and whose end lies after the start of a tick is truncated there (R288). -/
def TuWindow.cut (w : TuWindow) (tick : Nat) (now : Nat) : TuWindow :=
  if (w.s1.map (fun s => decide (32 * tick < s))).getD true then
    { w with s1 := some (32 * tick), trunc := true, short := false, closeAt := some now }
  else w

/-- LIMIT closes a unit's window (R288). -/
def Dev.tuLimit (d : Dev) (u now : Nat) : Dev :=
  let t := d.tu u
  d.setTu u { t with windows := t.windows.map (fun w =>
    if d.limitTick u w ≤ now ∧ (w.closeAt.map (fun c => decide (now < c))).getD true then w.cut (d.limitTick u w) now else w) }

/-- A disarmed unit, or one whose capture stops, closes its open window on this tick and forgets its evidence (R288).
[DESIGN CHOICE, assumption 38] -/
def Dev.tuClose (d : Dev) (u now : Nat) : Dev :=
  let t := d.tu u
  d.setTu u { t with
    evidence := []
    windows := t.windows.map (fun w => if (w.closeAt.map (fun c => decide (now < c))).getD true then w.cut now now else w) }

/-- RUN clears, and with it every open window (R275, R288). -/
def Dev.acqStop (d : Dev) (now : Nat) : Dev :=
  if d.bit ACQ_CTL.RUN then (List.range 8).foldl (fun d u => d.tuClose u now) (d.fset ACQ_CTL.RUN 0) else d

/-! ### Register writes -/

/-- A write of ACQ_CTL (R275). -/
def Dev.wrAcqCtl (d : Dev) (v : W32) (now : Nat) : Dev :=
  let was := d.bit ACQ_CTL.RUN
  let d := d.writeCodes ACQ_CTL.off v
  if ACQ_CTL.RUN.of v = 1 then
    if d.mode.running then d else (d.fset ACQ_CTL.RUN 0).acqErr ACQ_ERR.MODE_BAD
  else if was then (List.range 8).foldl (fun d u => d.tuClose u now) d else d

/-- A write of ACQ_ICMASK (R276). -/
def Dev.wrIcmask (d : Dev) (v : W32) : Dev :=
  if ((List.range 32).filter (fun i => bitAt v.toNat i)).length ≤ 8 then d.writeCodes ACQ_ICMASK.off v
  else d.acqErr ACQ_ERR.MASK_BAD

/-- A write of TUn_CTL (R282, R288, R290). -/
def Dev.wrTuCtl (d : Dev) (u : Nat) (v : W32) (now : Nat) : Dev :=
  let was := d.bit (TU_CTL.ARM u)
  let arm := (TU_CTL.ARM u).of v == 1
  if was && arm then d
  else
    let d := d.writeCodes (TU_CTL.off u) v
    if arm then
      let en := d.fget (TU_CTL.ENABLE u)
      if (bitAt en condRunt || bitAt en condSlew) &&
          decide (sext 12 (d.fget (TU_LEV.HI u)) ≤ sext 12 (d.fget (TU_LEV.LO u))) then
        (d.fset (TU_CTL.ARM u) 0).acqErr ACQ_ERR.LEV_BAD
      else d
    else if was then d.tuClose u now else d

/-- A write of another register of a trigger unit: ignored while it is armed, its counter apart (R290). -/
def Dev.wrTu (d : Dev) (u off : Nat) (v : W32) : Dev :=
  if d.bit (TU_CTL.ARM u) && off != TU_CNT.off u then d else d.writeCodes off v

/-- A write of ACQ_REC_RD (R292). -/
def Dev.wrRecRd (d : Dev) (v : W32) : Dev :=
  let new := ACQ_REC_RD.RD.of v
  if (new + 512 - d.fget ACQ_REC_RD.RD) % 512 ≤ d.recUnread then d.fset ACQ_REC_RD.RD new else d

/-- Lines of the stream not yet read (R295). -/
def Dev.prdUnread (d : Dev) : Nat := (d.fget ACQ_STATUS.WR + poolLines - d.fget ACQ_PRD.PRD) % poolLines

/-- A write of ACQ_PRD (R295). -/
def Dev.wrPrd (d : Dev) (v : W32) : Dev :=
  let new := ACQ_PRD.PRD.of v
  if (new + poolLines - d.fget ACQ_PRD.PRD) % poolLines ≤ d.prdUnread then d.fset ACQ_PRD.PRD new
  else d.acqErr ACQ_ERR.PRD_BAD

/-- The pool request line (R295). -/
def Dev.poolRequest (d : Dev) : Bool := d.bit ACQ_CTL.STREAM && decide (64 ≤ d.prdUnread)

/-- A read of BAR4: with STREAM, one that begins at line PRD advances it by the whole lines it covers (R295). -/
def Dev.poolRead (d : Dev) (off len : Nat) : List Byte × Dev :=
  let len := min len (0x4000000 - off)
  let bs := d.rdBytes (bar4Base + off) len
  if d.bit ACQ_CTL.STREAM ∧ off = 64 * d.fget ACQ_PRD.PRD then
    (bs, d.fset ACQ_PRD.PRD ((d.fget ACQ_PRD.PRD + len / 64) % poolLines))
  else (bs, d)

/-! ### Capture records -/

/-- Last period of a window. -/
def lastPeriod (s1 : Nat) : Nat := (s1 - 1) / 32 / 5

/-- A window's record is due (R291): its last period is readable and it is closed. -/
def Dev.recordDue (d : Dev) (now : Nat) (w : TuWindow) : Bool :=
  (w.s1.map (fun s => decide (5 * (lastPeriod s + 1) + 8 ≤ now) &&
    d.wit.ready.all (fun p => decide (lastPeriod s < p.k)))).getD false &&
  (w.closeAt.map (fun c => decide (c ≤ now))).getD false

/-- Words 0 to 3 of a capture record (Table 09-3). -/
def captureRecord (u : Nat) (w : TuWindow) (s1 startLine endLine seq : Nat) (spill : Bool) : List Nat :=
  [w.p / 2048,
   (w.p / 64 % 32) * 2 ^ 59 + (w.p % 64) * 2 ^ 53 + w.cond * 2 ^ 47 + w.srck * 2 ^ 44 + u * 2 ^ 41 + w.short.toNat * 2 ^ 40 +
     spill.toNat * 2 ^ 39 + w.late.toNat * 2 ^ 38 + w.trunc.toNat * 2 ^ 37 + w.tsus.toNat * 2 ^ 36 + w.pin.toNat * 2 ^ 35 +
     ((s1 - w.n) % 2 ^ 21) * 2 ^ 12 + w.pre,
   startLine * 2 ^ 44 + endLine * 2 ^ 24 + w.shot,
   w.round * 2 ^ 48 + seq * 2 ^ 32 + 1]

/-- Write a unit's oldest due record; records of one tick stand in ascending unit order (R291). -/
def Dev.recordWrite (d : Dev) (u now : Nat) : Dev :=
  if (List.range u).any (fun v => (d.tu v).windows.any (d.recordDue now)) then d
  else
    let t := d.tu u
    match t.windows.find? (d.recordDue now) with
    | none => d
    | some w =>
      let s1 := w.s1.getD 0
      let kf := (w.n / 32 - w.pre) / 5
      let kl := lastPeriod s1
      let spill := d.wit.places.any (fun p => p.dropped && decide (kf ≤ p.k) && decide (p.k ≤ kl))
      let endLine := match d.wit.places.find? (fun p => decide (p.k ≤ kl)) with
        | some p => (p.line + p.lines) % poolLines
        | none => d.fget ACQ_STATUS.WR
      let wr := d.fget ACQ_REC_WR.WR
      let words := captureRecord u w s1 w.start endLine d.wit.seq.toNat spill
      let d := d.wrBytes (recEntry wr) (words.flatMap (leBytes 8))
      let d := d.fset ACQ_REC_WR.WR ((wr + 1) % 512)
      let d : Dev := { d with wit := { d.wit with seq := d.wit.seq + 1 } }
      let d := d.setTu u { t with
        windows := t.windows.erase w
        freeAt := max t.freeAt ((w.closeAt.getD 0) + d.fget (TU_LIM.REARM u)) }
      d.raise 896

end Sys2Proof.Machine
end

