-- ==== Sys2Proof/Machine/MarkerOps.lean ====
section
/-! DEFINITION. What the marker, stamper and cycle-lock commands share (spec/13_markers_stamps_cycle_lock.md). `now` is the
timeline value; stamps and periods are in 1/1,024 tk. -/
namespace Sys2Proof.Machine

/-! ### Stamps -/

/-- Byte offset in BAR0 of entry `i` of the stamp ring (R388). -/
def stampEntry (i : Nat) : Nat := 0x38000 + 16 * (i % 1024)

/-- Unread stamp records (R389). -/
def Dev.stampUnread (d : Dev) : Nat := (d.fget TDC_STAT.WR + 2048 - d.fget TDC_RD.RD) % 2048

/-- The two words of a stamp record (Table 13-1). -/
def stampWords (stamp src : Nat) (pol tsus spill : Bool) (lost seq : Nat) : List Nat :=
  [stamp / 1024 % 2 ^ 64,
   (stamp % 1024) * 2 ^ 54 + src * 2 ^ 49 + pol.toNat * 2 ^ 48 + tsus.toNat * 2 ^ 47 + spill.toNat * 2 ^ 46 +
     min lost 255 * 2 ^ 38 + seq * 2 ^ 22 + 1]

/-- A stamp is to be written on this tick, in ascending SRC among those of the tick (R388, R390). -/
def stampInsert (x : StampDue) : List StampDue → List StampDue
  | [] => [x]
  | y :: ys => if x.src < y.src then x :: y :: ys else y :: stampInsert x ys
def Dev.stampAdd (d : Dev) (stamp src : Nat) (pol : Bool) : Dev := { d with stamps := stampInsert ⟨src, stamp, pol⟩ d.stamps }

/-- A stamp is written to the ring, or dropped when 1,024 records are unread (R388, R389). -/
def Dev.stampWrite (d : Dev) (stamp src : Nat) (pol : Bool) : Dev :=
  if 1024 ≤ d.stampUnread then
    let d := (d.satAdd TDC_CNT.DROP 1).flag TDC_STAT.DROP
    { d with stampSpill := true }
  else
    let wr := d.fget TDC_STAT.WR
    let m := tget {} d.mkIn src
    let ws := stampWords stamp src pol (d.bit TML_STATUS.TSUS) d.stampSpill m.lost d.stampSeq.toNat
    let d := (d.wrBytes (stampEntry wr) (ws.flatMap (leBytes 8))).fset TDC_STAT.WR ((wr + 1) % 2048)
    let d : Dev := { d with stampSpill := false, stampSeq := d.stampSeq + 1, mkIn := tset {} d.mkIn src { m with lost := 0 } }
    d.raise 688

/-- The records of the tick are written (R388). -/
def Dev.stampFlush (d : Dev) : Dev := d.stamps.foldl (fun d x => d.stampWrite x.stamp x.src x.pol) { d with stamps := [] }

/-- A write of TDC_RD; one that would carry RD past WR is ignored (R389). -/
def Dev.wrTdcRd (d : Dev) (v : W32) : Dev :=
  let new := TDC_RD.RD.of v
  if (new + 2048 - d.fget TDC_RD.RD) % 2048 ≤ d.stampUnread then d.fset TDC_RD.RD new else d

/-! ### Cycle lock -/

/-- The range of an accepted period (R396). -/
def periodOk (p : Nat) : Bool := decide (64000000000 ≤ p) && decide (p ≤ 6400000000000)

/-- VALID follows the prediction; its changes raise the cycle lock's sources (R397, R398, R401). -/
def Dev.clUpdate (d : Dev) : Dev :=
  let was := d.bit CL_STAT.VALID
  let on := d.prediction.isSome
  let d := d.fsetB CL_STAT.VALID on
  if on && !was then d.raise 690 else if was && !on then d.raise 691 else d

/-- floor(P̂ × TOL / 1,024). -/
def Dev.clTol (d : Dev) (p : Nat) : Nat := p * d.fget CL_CFG.TOL / 1024

/-- The measurement is not valid and no accepted period counts (R398, R403).
[DESIGN CHOICE, assumption 39] -/
def Dev.clDrop (d : Dev) (hist : List Nat) : Dev :=
  let d := d.fset CL_STAT.NACC 0
  ({ d with cycle := { d.cycle with hist := hist, measValid := false } } : Dev).clUpdate

/-- An accepted period (R397). -/
def Dev.clAccept (d : Dev) (s : Nat) : Dev :=
  let full := 2 ^ min 4 (d.fget CL_CFG.AVG)
  let nacc := min 31 (d.fget CL_STAT.NACC + 1)
  let hist := (s :: d.cycle.hist).take 17
  let m := min nacc full
  let pHat := (s - (hist[m]?).getD s) / m
  let d := d.fset CL_STAT.NACC nacc
  ({ d with cycle := { d.cycle with hist := hist, pHat := pHat,
                                    measValid := d.cycle.measValid || decide (full ≤ nacc) } } : Dev).clUpdate

/-- A held prediction: an edge far from every E_k sets DRIFT (R401). -/
def Dev.clDrift (d : Dev) (s : Nat) : Dev :=
  match (if d.bit CL_CFG.HOLD then d.cycle.held else none) with
  | none => d
  | some (s0, p) =>
    let away := if s < s0 then s0 - s else let r := (s - s0) % p; min r (p - r)
    if d.clTol p < away then d.flag CL_ERR.DRIFT else d

/-- A reference edge arrives (R396 to R398, R401).
[DESIGN CHOICE, assumption 39] -/
def Dev.clEdge (d : Dev) (s : Nat) : Dev :=
  let d := d.clDrift s
  match d.cycle.hist.head? with
  | none => { d with cycle := { d.cycle with hist := [s] } }
  | some s0 =>
    let p := s - s0
    let d := d.fset CL_MEAS.PER (min (2 ^ 32 - 1) (p / 1024))
    let far := (p : Int) - (d.cycle.pHat : Int)
    if periodOk p && (d.fget CL_STAT.NACC == 0 || decide (far.natAbs ≤ d.clTol d.cycle.pHat)) then d.clAccept s
    else (d.flag CL_ERR.REJECT).clDrop [s]

/-- Last tick on which the expected reference edge may be registered (R398). -/
def Dev.clDeadline (d : Dev) : Option Nat :=
  if d.bit CL_CFG.EN ∧ 1 ≤ d.fget CL_STAT.NACC then
    d.cycle.hist.head?.map (fun s => (s + d.cycle.pHat + d.clTol d.cycle.pHat) / 1024 + 6)
  else none

/-- A marker edge is a reference edge (R396). -/
def Dev.clReference (d : Dev) (k : Nat) (rising : Bool) : Bool :=
  d.bit CL_CFG.EN && d.fget CL_CFG.MKI == k && d.bit CL_CFG.EDGE != rising

/-- A write of CL_CFG: clearing EN ends the measurement. Held values and a commit that waits survive a cleared HOLD (R403), which
only takes them out of the prediction (R401).
[DESIGN CHOICE, assumption 39] -/
def Dev.wrClCfg (d : Dev) (v : W32) : Dev :=
  let was := d.bit CL_CFG.EN
  let d := d.writeCodes CL_CFG.off v
  let d := if was && !d.bit CL_CFG.EN then d.clDrop [] else d
  d.clUpdate

/-- Stage a part of the held values (R401). -/
def Dev.wrClStage (d : Dev) (off : Nat) (v : W32) : Dev :=
  let c := d.cycle
  let ref := c.stRef.toNat
  let per := c.stPer.toNat
  let c := if off = CL_REF_LO.off then { c with stRef := BitVec.ofNat 74 (ref / 2 ^ 42 * 2 ^ 42 + v.toNat * 1024 + ref % 1024) }
    else if off = CL_REF_HI.off then { c with stRef := BitVec.ofNat 74 (v.toNat * 2 ^ 42 + ref % 2 ^ 42) }
    else if off = CL_PER_LO.off then { c with stPer := BitVec.ofNat 48 (per / 2 ^ 32 * 2 ^ 32 + v.toNat) }
    else { c with stRef := BitVec.ofNat 74 (ref / 1024 * 1024 + CL_PER_HI.REF_FRAC.of v)
                  stPer := BitVec.ofNat 48 (CL_PER_HI.PER_HI.of v * 2 ^ 32 + per % 2 ^ 32) }
  { d with cycle := c }

/-- A write of CL_COMMIT (R401). -/
def Dev.wrClCommit (d : Dev) (v : W32) : Dev :=
  if CL_COMMIT.COMMIT.of v = 0 ∨ !d.bit CL_CFG.HOLD then d
  else if periodOk d.cycle.stPer.toNat then
    ({ d with cycle := { d.cycle with pend := some (d.cycle.stRef.toNat, d.cycle.stPer.toNat), pendAt := d.tk, pendGo := none } } : Dev).fset
      CL_STAT.PEND 1
  else d.flag CL_ERR.HOLD_BAD

/-- A held commit made on an earlier tick moves into force (R401). -/
def Dev.cycleCommit (d : Dev) : Dev :=
  match d.cycle.pend with
  | none => d
  | some p =>
    if d.cycle.pendAt < d.tk then
      (({ d with cycle := { d.cycle with held := some p, pend := none } } : Dev).fset CL_STAT.PEND 0).clUpdate
    else d

/-- Every step engine of the device is IDLE, PRIMED or ENDED (R401, R484). -/
def Dev.allStill (d : Dev) : Bool := d.ocs.all (fun e => e.2.eng.still)

/-- S and P̂ in force, as the CL_REF and CL_PER registers read them. -/
def Dev.clRead (d : Dev) : Nat × Nat :=
  if d.bit CL_CFG.HOLD then d.cycle.held.getD (0, 0) else (d.cycle.hist.head?.getD 0, d.cycle.pHat)

/-- A read of CL_REF_LO fills the shadows of the other three registers. -/
def Dev.rdClRefLo (d : Dev) : W32 × Dev :=
  let (s, p) := d.clRead
  (BitVec.ofNat 32 (s / 1024),
   { d with cycle := { d.cycle with
      shRefHi := BitVec.ofNat 32 (s / 1024 / 2 ^ 32)
      shPerLo := BitVec.ofNat 32 p
      shPerHi := BitVec.ofNat 32 ((s % 1024) * 2 ^ 22 + p / 2 ^ 32 % 2 ^ 16) } })

/-! ### Marker inputs -/

/-- Whether EDGE of an input selects a polarity (R381). -/
def Dev.edgeSelected (d : Dev) (k : Nat) (rising : Bool) : Bool :=
  let e := d.fget (MK_IN_CFG.EDGE k)
  if rising then e == 1 || e == 3 else e == 2 || e == 3

/-- HOLDOFF in 1/1,024 tk: 0.4 ns is 256 of them (R382). -/
def Dev.holdoff (d : Dev) (k : Nat) : Nat := 256 * min 2500 (max 5 (d.fget (MK_IN_CFG.HOLDOFF k)))

/-- An edge crosses the threshold of MKIk at fraction `f` of this tick (R381 to R385). -/
def Dev.mkEdge (d : Dev) (k : Nat) (rising : Bool) (f now : Nat) : Dev :=
  if d.mode = .load ∨ d.mode = .sleep ∨ !d.edgeSelected k rising then d
  else
    let at_ := 1024 * d.tk + f
    let m := tget {} d.mkIn k
    let since := m.last.map (fun l => at_ - l)
    if (since.map (fun x => decide (x < d.holdoff k))).getD false then d.satAdd (MK_IN_CNT.HELD k) 1
    else if (since.map (fun x => decide (x < 1536))).getD false then
      let d := (d.satAdd (MK_IN_CNT.LOST k) 1).raise 689
      { d with mkIn := tset {} d.mkIn k { m with lost := m.lost + 1 } }
    else { d with mkIn := tset {} d.mkIn k { m with last := some at_ }
                  edges := d.edges ++ [⟨k, rising, 1024 * now + f, d.tk + 6⟩] }

/-- Place an edge among others in order of registration tick, and within one tick in ascending source. -/
def edgeInsert (e : EdgePend) : List EdgePend → List EdgePend
  | [] => [e]
  | x :: xs => if e.due < x.due || (e.due == x.due && decide (e.k < x.k)) then e :: x :: xs else x :: edgeInsert e xs

/-- One edge is registered (R384, R388, R392, R396). -/
def Dev.mkRegister (d : Dev) (e : EdgePend) (now : Nat) : Dev :=
  let d := d.raise (672 + e.k)
  let d : Dev := { d with mkIn := tset {} d.mkIn e.k { tget {} d.mkIn e.k with pol := e.rising }
                          mkIntake := d.mkIntake ++ [(d.tk, e.k, e.rising)] }
  let d := if e.rising then
      { d with gsSoon := ((List.range 16).filter (fun g =>
          d.bit (GS_CTL.MKI_EN g) && d.fget (GS_CTL.MKI g) == e.k)).foldl (fun l g => insNat g l) d.gsSoon }
    else d
  let d := d.witExt e.k e.rising e.stamp now
  let d := if d.clReference e.k e.rising then d.clEdge e.stamp else d
  if d.bit (MK_IN_CFG.RING e.k) then d.stampAdd e.stamp e.k e.rising else d

/-- Every edge due is registered, in ascending source order (R384, R388); none in LOAD and SLEEP (R385). -/
def Dev.mkRegisterDue (d : Dev) (now : Nat) : Dev :=
  if d.mode = .load ∨ d.mode = .sleep then { d with edges := [] } else
  let due := (d.edges.filter (fun e => decide (e.due ≤ d.tk))).foldl (fun l e => edgeInsert e l) []
  let d : Dev := { d with edges := d.edges.filter (fun e => !decide (e.due ≤ d.tk)) }
  due.foldl (fun d e => d.mkRegister e now) d

/-! ### Marker outputs -/

/-- The end ticks of the quiet windows `w` of a prediction that hold tick `now` (R399). -/
def Dev.windowEnds (d : Dev) (w now : Nat) (p : Nat × Nat) : List Nat :=
  let base := p.1 + d.fget (CL_WIN.START w) * p.2 / 65536
  let k := (1024 * now - base) / p.2
  if d.fget (CL_WIN.LEN w) = 0 then []
  else [k, k - 1, k - 2].filterMap (fun j =>
    let (a, b) := d.windowTicks w p j
    if a ≤ now ∧ now < b then some b else none)

/-- Whether tick `now` lies in a quiet window `w`: one of the prediction in force, or one that an earlier prediction began (R399,
Table 13-3).
[DESIGN CHOICE, assumption 39] -/
def Dev.inWindow (d : Dev) (w now : Nat) : Bool :=
  d.fget (CL_WIN.LEN w) != 0 && (decide (now < tget 0 d.cycle.carry w) ||
    (match d.prediction with | some p => !(d.windowEnds w now p).isEmpty | none => false))

/-- When the prediction has changed since the last tick, a window in progress then keeps its end tick (R399).
[DESIGN CHOICE, assumption 39] -/
def Dev.windowCarry (d : Dev) (now : Nat) : Dev :=
  let c := d.cycle
  let carry := match c.lastPred with
    | some p => if d.prediction = some p then c.carry
        else (List.range 4).foldl (fun t w => tset 0 t w (((d.windowEnds w (now - 1) p)).foldl max (tget 0 t w))) c.carry
    | none => c.carry
  { d with cycle := { c with lastPred := d.prediction, carry := carry.filter (fun e => decide (now < e.2)) } }

/-- The line of MKOk on tick `now` (R91, R392, R395).
[DESIGN CHOICE, assumption 39] -/
def Dev.mkoLine (d : Dev) (k now : Nat) : Bool :=
  let arg := d.fget (MK_OUT_CFG.ARG k)
  let line := match d.fget (MK_OUT_CFG.SEL k) with
    | 0 => bitAt (d.fget MK_OUT_LVL.LVL) k
    | 1 => decide (arg ≤ 191) && d.domOn arg && (d.eng arg).marks.any (fun m => decide (m.1 ≤ now) && decide (now < m.2))
    | 2 => (tget {} d.pgs (arg % 4)).fallAt.isSome
    | 3 => d.rillLines.contains (arg % 16)
    | 4 => (tget {} d.mkIn (arg % 16)).pol
    | 5 => d.inWindow (arg % 4) now
    | _ => false
  match d.mode with
  | .load | .sleep => false
  | _ => line != d.bit (MK_OUT_CFG.INV k)

/-- The line values of this tick enter the history that the delay of R393 reads. -/
def Dev.mkoTick (d : Dev) (now : Nat) : Dev :=
  let d := d.windowCarry now
  (List.range 16).foldl (fun d k =>
    let h := (d.mkoLine k now :: tget [] d.mkoHist k).take 68
    { d with mkoHist := tset [] d.mkoHist k (if h.all (· == false) then [] else h) }) d

/-- The level at the ball of MKOk on this tick: the line of 4 + DLY ticks ago (R393), low in LOAD, and none in SLEEP, where the
ball is high-impedance (R395). -/
def Dev.mkoBall (d : Dev) (k : Nat) : Option Bool :=
  match d.mode with
  | .load => some false
  | .sleep => none
  | _ => some (((tget [] d.mkoHist k)[4 + d.fget (MK_OUT_CFG.DLY k)]?).getD false)

/-- An action sets a level line (R394). -/
def Dev.lvlAction (d : Dev) (k : Nat) (on : Bool) : Dev :=
  let d := d.fset MK_OUT_LVL.LVL (if on then (d.fget MK_OUT_LVL.LVL ||| 2 ^ k) else d.fget MK_OUT_LVL.LVL - (if bitAt (d.fget MK_OUT_LVL.LVL) k then 2 ^ k else 0))
  { d with lvlNow := d.lvlNow ++ [(k, on)] }

/-- A host write of MK_OUT_LVL; lines an action sets on the same tick keep the action's level (R394). -/
def Dev.wrLvl (d : Dev) (v : W32) : Dev :=
  let d := d.writeCodes MK_OUT_LVL.off v
  let acts := d.lvlNow
  acts.foldl (fun d a => d.lvlAction a.1 a.2) ({ d with lvlNow := [] } : Dev)

end Sys2Proof.Machine
end

