-- ==== Sys2Proof/Machine/OutputOps.lean ====
section
/-! DEFINITION. What the output-channel commands share: mute causes (R165), range changes (R169 to R171), loads and strobe
groups (R172 to R176), queue mode (R177 to R182) and leg currents (R162, R163). `now` is the timeline value. -/
namespace Sys2Proof.Machine

/-- A bit of OC_ERR is set; it raises the channel-fault source (R377). -/
def Dev.ocErr (d : Dev) (n : Nat) (f : Fld) : Dev := d.flagRaise f (2 * n + 1)

/-! ### Loads and strobes -/

/-- The trim fields of a load word (R172). -/
def trimOf (n : Nat) (w : W32) : Nat × Nat × Nat :=
  ((OC_LOAD.TRIM_TK n).of w, (OC_LOAD.TRIM_S n).of w, (OC_LOAD.TRIM_F n).of w)

/-- 256 tk after an accepted range change M_SETTLE clears (R171). -/
def Dev.settleEnd (d : Dev) (n : Nat) : Dev :=
  match (d.oc n).settle with
  | some t => if t ≤ d.tk then ((d.setOc n { d.oc n with settle := none }).fset (OC_STATUS.M_SETTLE n) 0).muteUpdate n else d
  | none => d

/-- A staged load commits on a strobe: OC_INFORCE copies it, mute causes follow (R172, R187), and a trim change on a channel
not muted on the tick before and after it taints the shot (R176). In settling, which ends 256 tk after its start whether SETTLE_END has come or not, it
stays staged (R171). Where no samples flow the output switch follows at once (R168).
[DESIGN CHOICE, assumption 54] -/
def Dev.loadCommit (d : Dev) (n : Nat) : Dev :=
  let d := d.settleEnd n
  match (d.oc n).loadAt with
  | none => d
  | some w =>
    if d.tk ≤ w ∨ d.bit (OC_STATUS.M_SETTLE n) then d
    else
      let ld := d.reg (OC_LOAD.off n)
      let moved := trimOf n ld != trimOf n (d.reg (OC_INFORCE.off n))
      let before := d.mutedBefore n
      let d := d.setReg (OC_INFORCE.off n) ld
      let d := (d.fset (OC_STATUS.M_NOLOAD n) 0).fset (OC_STATUS.M_LOAD n) ((OC_LOAD.MUTE n).of ld)
      let d := if d.bit (OC_ERR.SHORT n) then d else d.fset (OC_STATUS.M_SHORT n) 0
      let d := d.fset (OC_STATUS.LOAD_PEND n) 0
      let d := (d.setOc n { d.oc n with loadAt := none }).muteUpdate n
      let d := if d.mode.running then d else d.setOc n { d.oc n with swMute := d.bit (OC_STATUS.M_LOAD n) }
      if moved && !(before && d.bit (OC_STATUS.MUTED n)) then d.setTaint else d

/-- What a strobe does to one channel of its group: waiting commands fire, a staged load commits, an armed queue starts
(R128, R172, R179). -/
def Dev.strobeOc (d : Dev) (n now : Nat) : Dev :=
  let d := ((d.oc n).tones.map (·.1)).foldl (fun d t => d.fireStrobed n t now) d
  let d := d.loadCommit n
  match (d.oc n).queueArm with
  | some w => if w < d.tk then (d.setOc n { d.oc n with queueArm := none }).fset (OC_QCTL.RUN n) 1 else d
  | none => d

/-- A strobe of group `g` on this tick; several causes on one tick make one strobe (R174). -/
def Dev.groupStrobe (d : Dev) (g now : Nat) : Dev :=
  if d.gsDone.contains g then d
  else
    let d : Dev := { d with gsDone := insNat g d.gsDone }
    let d := d.wrapInc (GS_CTL.COUNT g)
    (d.ocs.map (·.1)).foldl (fun d n => if d.fget (OC_CFG.GROUP n) = g then d.strobeOc n now else d) d

/-- GS_AT of a group. -/
def Dev.gsAt (d : Dev) (g : Nat) : Nat := d.fget (GS_AT_LO.AT_LO g) + 2 ^ 32 * d.fget (GS_AT_HI.AT_HI g)

/-- The rules for the first timeline strobe of an armed group (R175): a late one-shot is dropped, a periodic group starts at
the smallest k that is not late. -/
def Dev.strobeSchedule (d : Dev) (g now : Nat) : Dev :=
  let a := d.gsAt g
  let p := d.fget (GS_PER.PER g)
  if p = 0 then
    if a < now + 64 then
      let d : Dev := { d with gsNext := tset none d.gsNext g none }
      (d.fset (GS_CTL.ARM g) 0).flag (GS_CTL.LATE g)
    else { d with gsNext := tset none d.gsNext g (some a) }
  else
    let k := (now + 64 - a + p - 1) / p
    let d := if 0 < k then d.flag (GS_CTL.LATE g) else d
    { d with gsNext := tset none d.gsNext g (some (a + k * p)) }

/-- A write of GS_CTL: NOW strobes on the next tick; setting ARM arms timeline strobes unless the timeline is FREE or
ACQUIRE (`timed` false); clearing it disarms (R174, R175). -/
def Dev.wrGsCtl (d : Dev) (g : Nat) (v : W32) (now : Nat) (timed : Bool) : Dev :=
  let was := d.bit (GS_CTL.ARM g)
  let d := d.writeCodes (GS_CTL.off g) v
  let d := if (GS_CTL.NOW g).of v = 1 then { d with gsSoon := insNat g d.gsSoon } else d
  if (GS_CTL.ARM g).of v = 0 then { d with gsNext := tset none d.gsNext g none }
  else if was then d
  else if !timed then (d.fset (GS_CTL.ARM g) 0).tmlErr TML_ERR.NOTIME
  else d.strobeSchedule g now

/-- A write of GS_AT_LO, GS_AT_HI or GS_PER, ignored while ARM is 1 (R175). -/
def Dev.wrGsTime (d : Dev) (g off : Nat) (v : W32) : Dev := if d.bit (GS_CTL.ARM g) then d else d.writeCodes off v

/-- An occurrence of a timeline strobe is due on tick `now` (R175). -/
def Dev.timelineStrobe (d : Dev) (g now : Nat) : Dev :=
  match tget none d.gsNext g with
  | none => d
  | some t =>
    if d.bit (GS_CTL.ARM g) && decide (t ≤ now) then
      let p := d.fget (GS_PER.PER g)
      let d : Dev := { d with gsNext := tset none d.gsNext g (if p = 0 then none else some (t + p)) }
      let d := if p = 0 then d.fset (GS_CTL.ARM g) 0 else d
      d.groupStrobe g now
    else d

/-- A strobe of group `g` is still to come on this tick, from its timeline occurrence or from a shot boundary (R174, R175). -/
def Dev.strobeDue (d : Dev) (g now : Nat) : Bool :=
  !d.gsDone.contains g &&
  ((d.bit (GS_CTL.ARM g) && ((tget none d.gsNext g).map (fun t => decide (t ≤ now))).getD false) ||
   (d.bit (GS_CTL.SHOT g) && d.shotTick now))

/-- A register write that reaches a channel is evaluated after a load commit of the same tick (R170): a commit still to come on the
tick is made first.
[DESIGN CHOICE, assumption 54] -/
def Dev.preCommit (d : Dev) (n now : Nat) : Dev :=
  if d.strobeDue (d.fget (OC_CFG.GROUP n)) now then d.loadCommit n else d

/-- A write of OC_LOAD stages a load for a strobe of a later tick (R172, R174); a load staged before commits on a strobe of this one
(R170). -/
def Dev.wrOcLoad (d : Dev) (n : Nat) (v : W32) (now : Nat) : Dev :=
  let d := (d.preCommit n now).writeCodes (OC_LOAD.off n) v
  (d.setOc n { d.oc n with loadAt := some d.tk }).fset (OC_STATUS.LOAD_PEND n) 1

/-! ### OC_CFG -/

/-- A write of OC_CFG: GAIN changes only while muted (R169 to R171), ROLE 3 leaves ROLE (R160), GROUP acts from the next tick
(R173), and SRST resets the channel softly (R134). -/
def Dev.wrOcCfg (d : Dev) (n : Nat) (v : W32) (now : Nat) (open_ : Bool := false) : Dev :=
  let d := (d.preCommit n now).settleEnd n
  let old := d.reg (OC_CFG.off n)
  let gainNew := (OC_CFG.GAIN n).of v
  let change := gainNew != (OC_CFG.GAIN n).of old
  let ok := d.bit (OC_STATUS.MUTED n)
  let w := if change && !ok then (OC_CFG.GAIN n).put v ((OC_CFG.GAIN n).of old) else v
  let w := if (OC_CFG.ROLE n).of v = 3 then (OC_CFG.ROLE n).put w ((OC_CFG.ROLE n).of old) else w
  let w := (OC_CFG.GROUP n).put w ((OC_CFG.GROUP n).of old)
  let d := d.writeCodes (OC_CFG.off n) w open_
  let d := if (OC_CFG.GROUP n).of v != (OC_CFG.GROUP n).of old then d.lateReg (OC_CFG.GROUP n) ((OC_CFG.GROUP n).of v) else d
  let d :=
    if !change then d
    else if ok then
      let d := (d.fset (OC_STATUS.M_SETTLE n) 1).lateReg (OC_STATUS.GAIN n) gainNew
      (d.setOc n { d.oc n with settle := some (d.tk + 256) }).muteUpdate n
    else d.ocErr n (OC_ERR.RANGE_BUSY n)
  if (OC_CFG.SRST n).of v = 1 then d.softReset n now else d

/-! ### Queue mode -/

/-- Channels with OC_QCTL.EN = 1. -/
def Dev.queueChannels (d : Dev) : List Nat := (List.range 192).filter (fun n => d.bit (OC_QCTL.EN n))

/-- Whether a mode admits queue mode (R178). -/
def Mode.queues : Mode → Bool
  | .full | .witness | .swift => true
  | _ => false

/-- Queue mode of a channel ends: EN, RUN and QACTIVE clear. -/
def Dev.queueOff (d : Dev) (n : Nat) : Dev :=
  let d := ((d.fset (OC_QCTL.EN n) 0).fset (OC_QCTL.RUN n) 0).fset (OC_STATUS.QACTIVE n) 0
  d.setOc n { d.oc n with queueArm := none }

/-- Entry to a mode that does not admit queue mode (R182). -/
def Dev.queueDrop (d : Dev) (n : Nat) : Dev := if d.bit (OC_QCTL.EN n) then (d.queueOff n).ocErr n (OC_ERR.QDROP n) else d

/-- A write of OC_QCTL (R178, R179): EN under its conditions, then START, then STOP. The image never sets EN (R182).
[DESIGN CHOICE, assumption 54] -/
def Dev.wrQctl (d : Dev) (n : Nat) (v : W32) (loader : Bool := false) : Dev :=
  let was := d.bit (OC_QCTL.EN n)
  let v := if loader && !was then (OC_QCTL.EN n).put v 0 else v
  let d :=
    if (OC_QCTL.EN n).of v = 0 then (if was then d.queueOff n else d)
    else if was then d
    else if (d.eng n).mode != .idle || !(d.segsInUse n).isEmpty || !(d.ocMode n).queues then d.ocErr n (OC_ERR.QREFUSE n)
    else if 16 ≤ d.queueChannels.length then d.ocErr n (OC_ERR.QLIMIT n)
    else (d.fset (OC_QCTL.EN n) 1).fset (OC_STATUS.QACTIVE n) 1
  let d :=
    if (OC_QCTL.START n).of v = 1 ∧ d.bit (OC_QCTL.EN n) ∧ !d.bit (OC_QCTL.RUN n)
    then d.setOc n { d.oc n with queueArm := some d.tk } else d
  if (OC_QCTL.STOP n).of v = 1 then (d.setOc n { d.oc n with queueArm := none }).lateReg (OC_QCTL.RUN n) 0 else d

/-- A write of OC_QPTR.WR, refused when it would carry WR onto or past RD (R180). -/
def Dev.wrQptr (d : Dev) (n : Nat) (v : W32) : Dev :=
  let wr := d.fget (OC_QPTR.WR n)
  let rd := d.fget (OC_QPTR.RD n)
  let new := (OC_QPTR.WR n).of v
  if 65535 - (wr + 65536 - rd) % 65536 < (new + 65536 - wr) % 65536 then d.ocErr n (OC_ERR.QOVER n)
  else d.fset (OC_QPTR.WR n) new

/-! ### Short circuits and currents -/

/-- The leg-current limit has acted on this tick and the tick before (R186, R187).
[DESIGN CHOICE, assumption 54] -/
def Dev.shortDetect (d : Dev) (n : Nat) : Dev :=
  let k := if (d.oc n).shortTk.map (· + 1) = some d.tk then 1 else if (d.oc n).shortTk = some d.tk then 0 else 2
  let d := d.setOc n { d.oc n with shortTk := some d.tk }
  let d := ((d.satAdd (OC_CNT.SHORT_TK n) k).ocErr n (OC_ERR.SHORT n)).setTaint
  if d.bit (OC_CFG.SC_MUTE n) then (d.fset (OC_STATUS.M_SHORT n) 1).muteUpdate n else d

/-- Full-scale current in µA: 20 mA, or 40 mA at gain ×2 (R163); with the external reference, in proportion to the voltage applied
to the ball of the channel's quarter, over 1.2 V (R553). -/
def Dev.fullScale (d : Dev) (n : Nat) : Nat :=
  let fs := if d.bit (OC_STATUS.GAIN n) then 40000 else 20000
  if d.bit (OC_CFG.REFSEL n) then fs * Config.extRef (n / 48) d.tk / 1200000 else fs

/-- A self-test slice or its restore steers an OC's current into the dump (R495, R496).
[DESIGN CHOICE, assumption 88] -/
def Dev.inSlice (d : Dev) (n : Nat) : Bool :=
  d.slices.any (fun e => e.1 == 9 && e.2.unit == n) || d.restores.any (fun e => e.1 == n && decide (d.tk < e.2))

/-- The limit of each leg's current, in µA (R185). -/
def Dev.legLimit (d : Dev) (n : Nat) : Nat := d.fullScale n * 3 / 2

end Sys2Proof.Machine
end

