-- ==== Sys2Proof/Machine/Shot.lean ====
section
/-! DEFINITION. The shot boundary (R30, R31, R100, R111, R158, R174, R401, R484). -/
namespace Sys2Proof.Machine

/-- Quarter of a calibration group, for the groups of a quarter (Table 17-1). -/
def groupQuarter (g : Nat) : Option Nat :=
  if g < 192 then some (g / 48) else if g < 224 then some ((g - 192) / 8)
  else if 226 ≤ g ∧ g ≤ 229 then some (g - 226) else none

/-- A group's staged values move into force (R484): T, the set pair and w are shown for quarter groups. -/
def Dev.calCommit (d : Dev) (g : Nat) : Dev :=
  match d.calStaged.find? (fun e => e.1 == g) with
  | none => d
  | some (_, c) =>
    if c.at_ < d.tk then
      let d : Dev := { d with calStaged := tdel d.calStaged g, calApplied := tput d.calApplied g c.t
                              calChoice := tset none d.calChoice g c.choice }
      let d := match groupQuarter g with
        | some q =>
          (((d.fset (CAL_QT.T q) c.t).fset (CAL_QT.SETI q) c.i).fset (CAL_QT.SETJ q) c.j).fset (CAL_QT.W q) c.w
        | none => d
      d.raise 770
    else d

/-- Input channels count the shot boundaries on which no window of theirs is open (R488). -/
def Dev.convBoundary (d : Dev) : Dev :=
  d.ics.foldl (fun d e =>
    let open_ := e.2.dts.any (fun x => !x.2.open_.isEmpty)
    if e.2.mode == .idle || e.2.mode == .primed || e.2.mode == .ended || open_ then d
    else
      let c := tget {} d.convs e.1
      { d with convs := tset {} d.convs e.1 { c with boundaries := c.boundaries + 1 } }) d

/-- A shot boundary of this tick counts for the engines that have starved on it already: SE_LASTSTARVE bears the shot after any
boundary on its tick (R109). -/
def Dev.starveShots (d : Dev) (now : Nat) : Dev :=
  d.ocs.foldl (fun d e =>
    if e.2.eng.mode == .starving && (e.2.eng.plans.head?.map (·.start)) == some now then
      d.fset (SE_LASTSTARVE.SHOT e.1) (d.shot.toNat % 2 ^ 24)
    else d) d

/-- A shot boundary on this tick (R30): the counters move, the taint clears unless the shot is tainted on this very tick
(R31, R111), staged values come into force (R158, R401, R484), and groups with GS_CTL.SHOT strobe (R174). Several causes
on one tick make one boundary. -/
def Dev.shotBoundary (d : Dev) (now : Nat) : Dev :=
  if d.shotTk = some d.tk then d
  else
    let d := d.sieveShot
    let d : Dev := { d with shot := d.shot + 1, round := 0, shotTk := some d.tk,
                            taint := d.taintTk == some d.tk || d.nospareTaint }
    let d := (d.starveShots now).commitStaged (fun _ => true)
    let d := d.cycleCommit.convBoundary
    let d := (d.calStaged.map (·.1)).foldl Dev.calCommit d
    let d := (List.range 16).foldl (fun d g => if d.bit (GS_CTL.SHOT g) then d.groupStrobe g now else d) d
    if d.sieve.graphs.any (fun g => g.2.down) then d.setTaint else d

end Sys2Proof.Machine
end

