-- ==== Sys2Proof/Machine/EngineOps.lean ====
section
/-! DEFINITION. The steps an engine reads (Table 03-2), its boundaries (R107 to R110), its start and its register writes. -/
namespace Sys2Proof.Machine

/-! ### Steps -/

/-- A PLAY or SETF step queues its command; a full queue stops reading (R94, R140). -/
def Dev.cmdStep (d0 d : Dev) (n now : Nat) (w : StepWord) : Dev :=
  if d.queueRoom n w.fields.tone then
    d.simpleStep n now w fun d =>
      d.enqueue n now { step := (d.eng n).cursor, play := w.op == opPlay, strobe := w.strobe, fields := w.fields }
  else d0

/-- A step that executes as IDLE (R90). -/
def Dev.badStep (d0 : Dev) (n now : Nat) : Dev :=
  let d := d0.openNext n now
  match d.readable n now with
  | none => d0
  | some p =>
    let w := d.stepWord n (d.eng n).pos
    match d.stepBad n p w with
    | none => d0
    | some tone => d.simpleStep n now w fun d => d.seErrTaint n (if tone then SE_ERR.BADTONE n else SE_ERR.BADOP n)

/-- A BRANCH or segment-level LOOP read too late executes as IDLE (R573). -/
def Dev.lateStep (d : Dev) (n now : Nat) (w : StepWord) : Dev :=
  d.simpleStep n now w fun d => d.seErrTaint n (SE_ERR.CTRL_LATE n)

/-- Change the plan being read. -/
def Dev.planSet (d : Dev) (n : Nat) (f : Plan → Plan) : Dev :=
  let e := d.eng n
  match e.plans.getLast? with
  | none => d
  | some p => d.setEng n { e with plans := setLast e.plans (f p) }

/-- A BRANCH step (R112). -/
def Dev.branchRead (d : Dev) (n now : Nat) (p : Plan) (w : StepWord) : Dev :=
  if ctrlLate now p then d.lateStep n now w
  else d.simpleStep n now w fun d =>
    d.planSet n fun p => { p with jump := none, branched := true, branch := some { cond := w.cond, target := w.target % 256 } }

/-- A LOOP step (R122, R123). -/
def Dev.loopRead (d : Dev) (n now : Nat) (p : Plan) (w : StepWord) : Dev :=
  let lc := w.aux % 4
  let seg := bitAt w.aux 2
  if seg && ctrlLate now p then d.lateStep n now w
  else
    let (r, jump) := loopCount (tget 0 (d.eng n).lc lc) w.cond
    let d := d.setEng n { d.eng n with lc := tset 0 (d.eng n).lc lc r }
    if seg then
      d.simpleStep n now w fun d =>
        if jump then d.planSet n fun p => { p with jump := some (w.target % 256), branch := none } else d
    else
      let d := ((d.countRead n).stepShot n now w).stepMark n w w.mark
      d.stepDone n now ((d.eng n).cursor + w.adv) w.segEnd (if jump then some w.target else none)

/-- A WAIT step (R120): its input may have delivered its event already. -/
def Dev.waitRead (d : Dev) (n now : Nat) (w : StepWord) : Dev :=
  let d := ((d.countRead n).stepShot n now w).stepMark n w w.mark
  let e := d.eng n
  let x : WaitSt := { c := e.cursor, dur := if w.fields.dur = 0 then 16777215 else w.fields.dur, cond := w.cond,
                      taint := bitAt w.aux 0, adv := w.adv, segEnd := w.segEnd }
  let d := d.setEng n { e with wait := some x }
  (tget {} e.ci (w.cond % 16)).evs.reverse.foldl (fun d ev => d.waitEvent n ev) d

/-- A WAIT ends with a new cursor (R120, R121). -/
def Dev.waitEnd (d : Dev) (n now cursor : Nat) (w : WaitSt) : Dev :=
  let d := d.holdSeg n (cursor - w.c) now
  let d := d.setEng n { d.eng n with wait := none }
  d.stepDone n now (cursor + w.adv) w.segEnd none

/-- The true event that has come resumes a WAIT (R120). -/
def Dev.waitResume (d : Dev) (n now : Nat) : Dev :=
  match (d.eng n).wait with
  | none => d
  | some w =>
    match w.hit with
    | some t => d.waitEnd n now (max w.c (t + d.lead n)) w
    | none => d

/-- A WAIT times out when tick c + DUR passes without a true event (R120). -/
def Dev.waitTimeout (d : Dev) (n now : Nat) : Dev :=
  match (d.eng n).wait with
  | none => d
  | some w =>
    if w.hit.isSome ∨ now < w.c + w.dur then d
    else
      let d := (d.seErr n (SE_ERR.WAIT_TO n)).satAdd (SE_CNT1.WAIT_TIMEOUTS n) 1
      let d := if w.taint then d.setTaint else d
      d.waitEnd n now (w.c + w.dur) w

/-- A SYNC moves the cursor, and the end tick with it (R133).
[DEDUCED, assumption 27] -/
def Dev.syncTo (d : Dev) (n now cursor : Nat) : Dev :=
  let c := (d.eng n).cursor
  let d := d.holdSeg n (cursor - c) now
  d.stepDone n now cursor false none

/-- A SYNC that cannot move the cursor (R133). -/
def Dev.syncFail (d : Dev) (n now : Nat) : Dev :=
  (d.seErrTaint n (SE_ERR.SYNC_LATE n)).stepDone n now (d.eng n).cursor false none

/-- A SYNC of kind 0 (R133). -/
def Dev.syncAbsolute (d : Dev) (n now : Nat) (w : StepWord) : Dev :=
  let d := d.countRead n
  if (d.eng n).cursor ≤ w.value then d.syncTo n now w.value else d.syncFail n now

/-- A SYNC of kind 1 (R133, R400). -/
def Dev.syncWindow (d : Dev) (n now : Nat) (w : StepWord) : Dev :=
  let d := d.countRead n
  match d.nextWindow (w.aux / 4 % 4) (d.eng n).cursor with
  | some t => d.syncTo n now t
  | none => d.syncFail n now

/-- The engine takes the decisions made on the slot it waits for and, past held ones, on those behind it (R133); an undecided slot
leaves the question open. Each decided slot is one entry of `slots`, whose number `fuel` bounds. -/
def Dev.slotTakes (d : Dev) (n now : Nat) : Nat → Dev
  | 0 => d
  | fuel + 1 =>
    let e := d.eng n
    match e.slot with
    | none => d
    | some x =>
      match tget none d.slots x.slot with
      | none => d
      | some true =>
        ({ d.setEng n { e with slot := some { x with slot := x.slot + x.dur } } with askedTk := d.tk } : Dev).slotTakes n now fuel
      | some false => (d.setEng n { e with slot := none }).syncTo n now x.slot

/-- The engine takes the decisions made on the slot it waits for (R133). -/
def Dev.slotTake (d : Dev) (n now : Nat) : Dev := d.slotTakes n now (d.slots.length + 1)

/-- A SYNC of kind 2 waits for the decision on the first slot at or after the cursor (R133).
[DEDUCED, assumption 27] -/
def Dev.syncSlot (d : Dev) (n now : Nat) (w : StepWord) : Dev :=
  let d := d.countRead n
  let e := d.eng n
  let dur := w.fields.dur
  let k := if e.cursor ≤ w.value then 0 else (e.cursor - w.value + dur - 1) / dur
  let d : Dev := { d with askedTk := d.tk }
  (d.setEng n { e with slot := some { slot := w.value + k * dur, dur := dur } }).slotTake n now

/-- A FRAME operation on the frames of a channel (R125). -/
def FrameOp.run (f : FrameOp) (fr : Nat) : Nat :=
  let sh := 2 ^ (2 * f.tone)
  match f.op with
  | 0 => fr - fr / sh % 4 * sh + f.val * sh
  | 1 => Nat.xor fr (f.val * sh)
  | _ => 0

/-- FRAME operations whose step tick has come act on the frames (R125), before the sluice updates of the tick (R126). -/
def Dev.frameDue (d : Dev) (n now : Nat) : Dev :=
  let e := d.eng n
  let go := e.frameOps.filter (fun f => decide (f.step ≤ now))
  if go.isEmpty then d
  else
    let d := d.setEng n { e with frameOps := e.frameOps.filter (fun f => !decide (f.step ≤ now)) }
    d.frameSet n now (Nat.xor (go.foldl (fun fr f => f.run fr) (Nat.xor (d.fget (SE_FRAME.FRAME n)) e.frXor)) e.frXor)

/-- A FRAME step acts on its step tick (R125), at once when it is read on it. -/
def Dev.frameRead (d : Dev) (n now : Nat) (w : StepWord) : Dev :=
  d.simpleStep n now w fun d =>
    let e := d.eng n
    (d.setEng n { e with frameOps := e.frameOps ++ [⟨e.cursor, w.aux / 4 % 4, w.fields.tone, w.aux % 4⟩] }).frameDue n now

/-- An END step (R131). -/
def Dev.endRead (d : Dev) (n : Nat) : Dev := (d.countRead n).planSet n fun p => { p with ended := true, readDone := true }

/-- A loop counter as SE_LOOPk reads it: BUSY in bit 31 or another bit `b`, REMAIN below. -/
def Engine.loopWord (e : Engine) (k b : Nat) : Nat := let r := tget 0 e.lc k; (if r = 0 then 0 else 2 ^ b) + r

/-- SE_CIVAL. -/
def Engine.ciWord (e : Engine) : Nat :=
  (List.range 16).foldl (fun a k =>
    let c := tget {} e.ci k
    a + (if c.fresh then 2 ^ (16 + k) else 0) + (if c.value then 2 ^ k else 0)) 0

/-- A CALL enters its routine (R440, R441). -/
def Dev.callRead (d : Dev) (n now : Nat) (p : Plan) (w : StepWord) : Dev :=
  let d := ((d.countRead n).stepShot n now w).stepMark n w w.mark
  let e := d.eng n
  let src := [e.cursor, d.shot.toNat, d.round.toNat, e.ciWord, d.fget (SE_FRAME.FRAME n),
              e.loopWord 0 16, e.loopWord 1 16, e.loopWord 2 16, e.loopWord 3 16]
  let u := (List.range 8).foldl (fun u k =>
    tset 0 u k (if k = 0 then BitVec.ofNat 64 w.cond else if k = 1 then BitVec.ofNat 64 w.aux else 0)) e.u
  let x : CallSt := { pc := w.target, last := (d.routineAt w.target).getD w.target, c := e.cursor, stop := p.stop,
                      strobe := w.strobe, adv := w.adv, segEnd := w.segEnd, src := src }
  d.setEng n { e with u := u, build := w.fields, call := some x }

/-! ### Decisions, checks and boundaries -/

/-- The undecided branch whose decision tick has come (R113). -/
def Dev.branchDue (d : Dev) (n now : Nat) (p : Plan) : Option BranchSt :=
  match p.branch with
  | some b => if b.chosen.isNone && decide (p.stop ≤ now + d.lead n) then some b else none
  | none => none

/-- The decision of a BRANCH (R112, R113, R116, R118). In a segment whose declared DUR is not above BRANCH_LEAD, a broken must of
R115, the outcome is free (R11).
[DESIGN CHOICE, assumption 26; DEDUCED, assumption 28] -/
def Dev.branchDecide (d : Dev) (n now : Nat) : Dev :=
  match (d.eng n).plans.find? (fun p => (d.branchDue n now p).isSome) with
  | none => d
  | some p =>
    match p.branch with
    | none => d
    | some b =>
      let k := b.cond % 16
      let c := tget {} (d.eng n).ci k
      let fresh := c.fresh && decide (c.at_ + d.lead n ≤ p.stop)
      let d := if fresh then d.setEng n ((d.eng n).consume k) else d.satAdd (SE_CNT0.NO_COND n) 1
      let (v, d) := if d.segDur n p.seg ≤ d.lead n then let (v, d) := d.draw; (bitAt v.toNat 0, d)
        else d.condTrue b.cond (fresh && c.value)
      let b' := { b with chosen := some (if v then b.target else d.segNext n p.seg) }
      let e := d.eng n
      d.setEng n { e with plans := e.plans.map (fun q => if q = p then { p with branch := some b' } else q) }

/-- The check tick of the first boundary not yet checked: VALID candidates are armed, the others found absent (R107).
[DESIGN CHOICE, assumption 25] -/
def Dev.checkTick (d : Dev) (n now : Nat) : Dev :=
  match (d.eng n).plans.find? (fun p => !p.checked) with
  | none => d
  | some p =>
    if now + 64 < p.stop ∨ p.ended then d
    else
      let (d, q) := d.armCandidates n p
      let q := { q with checked := true, absent := (d.candidates n q).filter (fun s => !d.present n q s) }
      let e := d.eng n
      d.setEng n { e with plans := e.plans.map (fun x => if x = p then q else x) }

/-- Whether the plans behind a boundary keep a segment armed: it is to play, or a candidate of theirs (R107). -/
def keptArmed (rest : List Plan) (s : Nat) : Bool := rest.any (fun q => (q.seg == s && !q.starved) || q.armed.contains s)

/-- The candidates armed for a boundary that it does not take return to VALID (R108), unless a boundary behind it keeps them
armed (R107). -/
def Dev.disarm (d : Dev) (n : Nat) (p : Plan) (taken : Option Nat) (rest : List Plan) : Dev :=
  p.armed.foldl (fun d s =>
    if some s ≠ taken ∧ !keptArmed rest s ∧ d.segState n s = segArmed then d.setSeg n s segValid else d) d

/-- The ending segment retires, or returns to VALID with RETAIN (R101). -/
def Dev.retire (d : Dev) (n s : Nat) : Dev := d.setSeg n s (if d.bit (SE_SEG_LO.RETAIN n s) then segValid else segRetired)

/-- A segment starts: ACTIVE, FALLBACK clear, its SHOTB a shot boundary (R100 to R102, R108). -/
def Dev.segStartNow (d : Dev) (n s now : Nat) : Dev :=
  let d := (d.setSeg n s segActive).fset (SE_SEG_LO.FALLBACK n s) 0
  let d := d.raise (2 * n)
  let d := if d.bit (SE_SEG_LO.SHOTB n s) then d.shotBoundary now else d
  d.setEng n { d.eng n with mode := .running }

/-- The engine starves on a segment (R100, R109). -/
def Dev.starveNow (d : Dev) (n s now : Nat) : Dev :=
  let d := if d.bit (SE_SEG_LO.SHOTB n s) then d.shotBoundary now else d
  let d := (d.fset (SE_SEG_LO.FALLBACK n s) 1).seErr n (SE_ERR.STARVE n)
  let d := d.satAdd (SE_CNT1.STARVES n) 1
  let d := (d.fset (SE_LASTSTARVE.SEG n) s).fset (SE_LASTSTARVE.SHOT n) (d.shot.toNat % 2 ^ 24)
  let d := ((d.raise (2 * n)).raise (2 * n + 1)).setTaint
  let x := d.oc n
  let tones := (x.tones.map (fun t => (t.1, t.2.bare))).filter (fun t => t.2 != {})
  d.setOc n { x with tones := tones, eng := { x.eng with mode := .starving } }

/-- The boundary of the plan in play: it makes way for the selected segment, played or starved on (R107 to R110, R131).
[DESIGN CHOICE, assumption 24] -/
def Dev.boundary (d : Dev) (n now : Nat) (p : Plan) (rest : List Plan) : Dev :=
  let d := if p.starved then let x := d.oc n; d.setOc n { x with starved := (p.start, p.stop) :: x.starved } else d
  if p.ended then
    let d := (if p.starved then d else d.retire n p.seg).disarm n p none []
    d.setEng n { d.eng n with mode := .ended, plans := [] }
  else
    let d := if rest.isEmpty && !p.readDone && !p.starved then
        d.seErrTaint n (if p.stop ≤ (d.eng n).cursor then SE_ERR.OVERRUN n else SE_ERR.CMD_LATE n) else d
    let opened := !rest.isEmpty
    let q := match rest with
      | q :: _ => q
      | [] =>
        let s := (d.selected n p).getD (d.segNext n p.seg)
        if d.present n p s then d.newPlan n s p.stop else d.starvePlan n s p.stop
    let again := !p.starved && !q.starved && p.seg == q.seg
    let d := if p.starved || again then d else d.retire n p.seg
    let d := d.disarm n p (if q.starved then none else some q.seg) rest
    let e := d.eng n
    let d := if opened then d.setEng n { e with plans := rest }
      else d.setEng n { e with plans := [q], cursor := p.stop, pos := d.segStart n q.seg }
    if q.starved then d.starveNow n q.seg now else d.segStartNow n q.seg now

/-- The boundary of a plan that played (`false`) or starved (`true`), when due. -/
def Dev.boundaryNow (d : Dev) (n now : Nat) (starved : Bool) : Dev :=
  match (d.eng n).plans with
  | p :: rest => if p.starved = starved ∧ d.boundaryDue n now p rest then d.boundary n now p rest else d
  | [] => d

/-! ### Start and register writes -/

/-- PRIME (R129, R131).
[DESIGN CHOICE, assumption 104] -/
def Dev.prime (d : Dev) (n : Nat) : Dev :=
  let e := d.eng n
  let d := if e.mode = .ended then d.setEng n { e with mode := .idle } else d
  let s := d.fget (SE_CTRL.ENTRY n)
  if (d.eng n).mode = .idle ∧ d.mode.running ∧ !d.bit (OC_QCTL.EN n) ∧ d.segState n s = segValid then
    let d := d.setSeg n s segArmed
    d.setEng n { d.eng n with mode := .primed, plans := [], entry := s }
  else d.seErr n (SE_ERR.PRIME_FAIL n)

/-- A write of SE_CTRL: its fields, then HALT, then PRIME (R129, R132); a PRIME written with a HALT that a routine holds waits for
it (R444).
[DESIGN CHOICE, assumption 104] -/
def Dev.wrSeCtrl (d : Dev) (n : Nat) (v : W32) (now : Nat) : Dev :=
  let d := d.writeCodes (SE_CTRL.off n) v
  let halt := (SE_CTRL.HALT n).of v == 1
  let d := if halt then d.halt n now else d
  if (SE_CTRL.PRIME n).of v = 1 then
    if halt && (d.eng n).haltHeld then d.setEng n { d.eng n with primeHeld := true } else d.prime n
  else d

/-- A HALT with its PRIME, or a soft reset, that a routine held takes effect on the tick after RET (R444).
[DESIGN CHOICE, assumption 104] -/
def Dev.heldNow (d : Dev) (now n : Nat) : Dev :=
  let e := d.eng n
  match e.heldFrom with
  | some t =>
    if t < d.tk then
      if e.srstHeld then (d.softResetNow n now).muteUpdate n
      else
        let d := if e.haltHeld then d.haltNow n now else d
        if e.primeHeld then d.prime n else d
    else d
  | none => d

/-- Released engines of a group whose start tick has come start their ENTRY segment (R130).
[DEDUCED, assumption 30] -/
def Dev.engineStart (d : Dev) (g now : Nat) : Dev :=
  (d.ocs.map (·.1)).foldl (fun d n =>
    let e := d.eng n
    match e.plans.head? with
    | some p =>
      if e.mode = .primed ∧ e.group = g ∧ p.start ≤ now then d.segStartNow n p.seg now else d
    | none => d) d

/-- The refill list is rebuilt from the RETIRED segments (R106). -/
def Dev.refillRebuild (d : Dev) (n : Nat) : Dev :=
  let e := d.eng n
  match e.rebuild with
  | some t =>
    if t ≤ d.tk then
      d.setEng n { e with rebuild := none, refill := (d.segsInUse n).filter (fun s => d.segState n s == segRetired) }
    else d
  | none => d

end Sys2Proof.Machine
end

