-- ==== Sys2Proof/Machine/TimeOps.lean ====
section
/-! DEFINITION. What the timeline commands share: the state of the timeline block (R52, R68), sync exchanges (R55 to R67),
timed actions (R70 to R75), network time (R76 to R81) and pulse generators (R82 to R87). Stamps are in 1/1,024 tk. -/
namespace Sys2Proof.Machine

/-! ### Network time -/

/-- One second in units of 2⁻³² ns. -/
def ntSecond : Nat := 1000000000 * 2 ^ 32

/-- Network time in units of 2⁻³² ns, and back. -/
def NetTime.units (t : NetTime) : Nat := t.sec.toNat * ntSecond + t.ns * 2 ^ 32 + t.frac.toNat
def NetTime.ofUnits (u : Nat) : NetTime where
  sec := BitVec.ofNat 64 (u / ntSecond)
  ns := u / 2 ^ 32 % 1000000000
  frac := BitVec.ofNat 32 u

/-- Network time advanced by a number of 2⁻³² ns (R76). -/
def NetTime.add (t : NetTime) (u : Nat) : NetTime := .ofUnits (t.units + u)

/-- NT_SEND as 64 bits of seconds, 30 of nanoseconds and 16 of fraction (Table 10-5), in units of 2⁻³² ns and from them.
[DESIGN CHOICE, assumption 36] -/
def ntSendUnits (x : BitVec 110) : Nat :=
  bits x.toNat 109 46 * ntSecond + bits x.toNat 45 16 * 2 ^ 32 + bits x.toNat 15 0 * 65536
def ntSendOf (u : Nat) : BitVec 110 :=
  BitVec.ofNat 110 ((u / ntSecond) % 2 ^ 64 * 2 ^ 46 + u / 2 ^ 32 % 1000000000 * 2 ^ 16 + u % 2 ^ 32 / 65536)

/-- A span of 1/1,024 tk at the increment in force, in units of 2⁻³² ns, rounded down (R79, assumption 36).
[DESIGN CHOICE, assumption 36] -/
def Clock.span (c : Clock) (x : Nat) : Nat := x * c.inc.toNat / 1024

/-- Network time at a fraction of the present tick, in units of 2⁻³² ns.
[DESIGN CHOICE, assumption 36] -/
def Clock.ntAt (c : Clock) (f : Nat) : Nat := c.nt.units + c.span f

/-! ### The state of the timeline block -/

/-- The code of a state in TML_STATUS.STATE. -/
def TState.code : TState → Nat
  | .free => 0 | .acquire => 1 | .locked => 2 | .holdover => 3

/-- TML_STATUS.TSUS (R68). -/
def Clock.tsus (c : Clock) : Bool := c.tstate != .locked || c.suspectRx

/-- The word of TML_STATUS. -/
def Clock.statusWord (c : Clock) : W32 :=
  BitVec.ofNat 32 (c.hops.toNat * 256 + c.active.toNat * 32 + c.suspectRx.toNat * 16 + c.tsus.toNat * 8 + c.tstate.code)

/-- The clock takes a new value; TML_STATUS follows, and a change of STATE raises source 650 (R377). -/
def State.setClk (s : State) (c : Clock) : State :=
  let d := s.dev.setReg TML_STATUS.off c.statusWord
  { s with clk := c, dev := if s.clk.tstate = c.tstate then d else d.raise 650 }

/-- Timed actions and pulse generators may be armed (R54). -/
def Clock.timed (c : Clock) : Bool := c.tstate == .locked || c.tstate == .holdover

/-- The count is on the beat grid (R47, R48). -/
def Clock.aligned (c : Clock) : Bool := c.timed || (c.tstate == .acquire && c.acqSet)

/-- The device is the wellhead (R49). -/
def Dev.wellhead (d : Dev) : Bool := d.bit TML_CTRL.ROLE

/-- A sync period of this device, in ticks. -/
def Dev.syncPeriod (d : Dev) : Nat := (d.fget TML_CTRL.SYNC_PER + 1) * 320

/-- ALIGN_TOL in force, in ticks. -/
def Dev.alignTol (d : Dev) : Nat := let t := d.fget TML_CTRL.ALIGN_TOL; if t = 0 then 1 else min t 128

/-- A candidate upstream port (R50), and the other of the two. -/
def Dev.upCandidate (d : Dev) (p : Nat) : Bool := d.fget TML_CTRL.UP_PRI == p || d.fget TML_CTRL.UP_ALT == p
def Dev.upOther (d : Dev) (p : Nat) : Nat :=
  if d.fget TML_CTRL.UP_PRI = p then d.fget TML_CTRL.UP_ALT else d.fget TML_CTRL.UP_PRI

/-- A port's exchanges. -/
def Clock.port (c : Clock) (p : Nat) : PortSync := tget {} c.ports p
def Clock.setPort (c : Clock) (p : Nat) (x : PortSync) : Clock := { c with ports := tset {} c.ports p x }

/-- An instant of the tick count on the timeline, a 74-bit stamp. -/
def State.stampOf (s : State) (a : Nat) : Nat :=
  ((1024 * (s.clk.now.toNat : Int) + (a : Int) - 1024 * (s.dev.tk : Int)) % (2 ^ 74 : Int)).toNat

/-- The difference of two 74-bit stamps. -/
def stampDiff (a b : Nat) : Int := sext 74 ((a + 2 ^ 74 - b % 2 ^ 74) % 2 ^ 74)

/-- The working lane of a port that a VC0 flit is stamped on, as a logical lane: pair B in UP4, the lowest working lane in UP3
(Table 10-4, R318). -/
def Dev.stampLane (d : Dev) (p : Nat) : Nat :=
  if d.fget (LNK_P_STAT.WLANES p) = 15 then 2
  else ((List.range 4).find? (fun l => bitAt (d.fget (LNK_P_STAT.WLANES p)) l)).getD 0

/-- The physical lane mapped to a logical one (R302). -/
def Dev.physLane (d : Dev) (p l : Nat) : Option Nat :=
  (List.range 4).find? (fun q => let m := bits (d.fget (LNK_P_MAP.MAP p)) (4 * q + 3) (4 * q); bitAt m 3 && m % 4 == l)

/-- The arrival instant of a VC0 flit from the instant seen on the lane it is stamped on (R318). -/
def Dev.arrival (d : Dev) (p f : Nat) : Nat :=
  let l := d.stampLane p
  let skew : Int := if l = 0 then 0
    else match d.physLane p l with | some q => sext 16 (d.fget (LNK_PL_STAT.SKEW p q)) | none => 0
  (1024 * (d.tk : Int) + (f : Int) - skew).toNat

/-! ### Timed actions -/

/-- The value of an entry. -/
def Dev.actValue (d : Dev) (n : Nat) : Nat := d.fget (TML_ACT_LO.VALUE_LO n) + 2 ^ 32 * d.fget (TML_ACT_HI.VALUE_HI n)

/-- R71: an entry whose value lies below now + MIN_LEAD is dropped.
[DESIGN CHOICE, assumption 100] -/
def Dev.actCheck (d : Dev) (n now : Nat) : Dev :=
  if d.actValue n < now + 64 then ((d.fset (TML_ACT_CTL.ARM n) 0).flag (TML_ACT_CTL.DROPPED n)).tmlErr TML_ERR.LATE else d

/-- A write of TML_ACTn_CTL (R54, R71 to R73). -/
def Dev.wrActCtl (d : Dev) (n : Nat) (v : W32) (now : Nat) (timed : Bool) : Dev :=
  let cancel := (TML_ACT_CTL.CANCEL n).of v == 1
  let arm := (TML_ACT_CTL.ARM n).of v == 1
  if d.bit (TML_ACT_CTL.ARM n) then
    if cancel then ({ d with asapNew := d.asapNew.filter (· != n), asapDue := d.asapDue.filter (· != n) } : Dev).fset (TML_ACT_CTL.ARM n) 0
    else d
  else if cancel then d.writeCodes (TML_ACT_CTL.off n) ((TML_ACT_CTL.ARM n).put v 0)
  else if !arm then d.writeCodes (TML_ACT_CTL.off n) v
  else if !timed then d.tmlErr TML_ERR.NOTIME
  else
    let d := d.writeCodes (TML_ACT_CTL.off n) v
    if d.bit (TML_ACT_CTL.ASAP n) then { d with asapNew := insNat n d.asapNew } else d.actCheck n now

/-- A write of TML_ACTn_LO or TML_ACTn_HI, ignored while ARM is 1 (R73). -/
def Dev.wrActVal (d : Dev) (n off : Nat) (v : W32) : Dev := if d.bit (TML_ACT_CTL.ARM n) then d else d.writeCodes off v

/-- An armed entry's tick has come (R71, R72, R75).
[DESIGN CHOICE, assumption 100] -/
def Dev.actDue (d : Dev) (n now : Nat) : Bool :=
  d.bit (TML_ACT_CTL.ARM n) &&
    (if d.bit (TML_ACT_CTL.ASAP n) then d.asapDue.contains n else decide (d.actValue n ≤ now))

/-- Entry `n` fires now: entries of one tick fire in ascending order (R74). -/
def Dev.actTurn (d : Dev) (n now : Nat) : Bool := d.actDue n now && (List.range n).all (fun k => !d.actDue k now)

/-- What the firing of an entry writes, whatever its code (R72). -/
def Dev.actLog (d : Dev) (n now : Nat) : Dev :=
  let d := ({ d with asapDue := d.asapDue.filter (· != n) } : Dev).fset (TML_ACT_CTL.ARM n) 0
  ((d.flag (TML_ACT_CTL.FIRED n)).fset (TML_ACT_DONE.DONE n) now).raise (651 + n)

/-- An entry fires if its turn has come and its code is one of those asked for; `f` is its action with ARG. -/
def State.actFire (s : State) (n : Nat) (code : Nat → Bool) (f : State → Nat → State) : State :=
  let now := s.clk.now.toNat
  if s.clk.counting && s.dev.actTurn n now && code (s.dev.fget (TML_ACT_CTL.CODE n)) then
    f (s.withDev fun d => d.actLog n now) (s.dev.fget (TML_ACT_CTL.ARG n))
  else s

/-- After a move of the count, entries armed without ASAP and armed timeline strobes are judged again (R75, R175). -/
def Dev.countMoved (d : Dev) (now : Nat) : Dev :=
  let d := (List.range 16).foldl (fun d n =>
    if d.bit (TML_ACT_CTL.ARM n) && !d.bit (TML_ACT_CTL.ASAP n) then d.actCheck n now else d) d
  (List.range 16).foldl (fun d g => if d.bit (GS_CTL.ARM g) then d.strobeSchedule g now else d) d

/-! ### Pulse generators -/

/-- 2³² seconds and 2⁶⁴ seconds in units of 2⁻³² ns: where the seconds of NT_PGn_SEC, and network time itself, wrap. -/
def pgWrap : Nat := 2 ^ 32 * ntSecond
def ntWrap : Nat := 2 ^ 64 * ntSecond

/-- Whether a network time is equal to or later than an occurrence in nanoseconds; the two are less than 2⁶³ seconds apart. -/
def ntReached (nt occ : Nat) : Bool := decide ((nt + ntWrap - occ * 2 ^ 32 % ntWrap) % ntWrap < ntWrap / 2)

/-- T of a generator in nanoseconds. -/
def Dev.pgT (d : Dev) (n : Nat) : Nat := d.fget (NT_PG_SEC.SEC n) * 1000000000 + min 999999999 (d.fget (NT_PG_NS.NS n))

/-- A generator's run-time state. -/
def Dev.pg (d : Dev) (n : Nat) : PgSt := tget {} d.pgs n
def Dev.setPg (d : Dev) (n : Nat) (x : PgSt) : Dev := { d with pgs := tset {} d.pgs n x }

/-- Pulse width in ticks. -/
def Dev.pgWidth (d : Dev) (n : Nat) : Nat := max 1 (d.fget (NT_PG_CTL.WIDTH n))

/-- The increment of the next tick: the one a code 5 committed or, due on this tick, will commit (R74, R77). -/
def Clock.incStaged (c : Clock) : BitVec 40 :=
  c.stIncHi.getD (BitVec.ofNat 8 (c.inc.toNat / 2 ^ 32)) ++ c.stIncLo.getD (BitVec.ofNat 32 c.inc.toNat)
def Dev.incAhead (d : Dev) (c : Clock) : Nat :=
  if c.counting && (List.range 16).any (fun k => d.actDue k c.now.toNat && d.fget (TML_ACT_CTL.CODE k) == 5)
  then c.incStaged.toNat else (c.incNext.getD c.inc).toNat

/-- Network time of now + MIN_LEAD (R83, R84), in units of 2⁻³² ns.
[DESIGN CHOICE, assumption 35] -/
def Dev.pgLimit (d : Dev) (c : Clock) : Nat := c.nt.units + 64 * d.incAhead c

/-- R83 and R84 for an armed generator: T is compared with network-time seconds [31:0] (R82), and the occurrence kept with the
high seconds of the limit it was compared with. `c` holds network time now.
[DESIGN CHOICE, assumption 35] -/
def Dev.pgSchedule (d : Dev) (c : Clock) (n : Nat) : Dev :=
  let lim := d.pgLimit c
  let low := lim % pgWrap
  let t := d.pgT n
  let base := (lim - low) / 2 ^ 32 + t
  let per := d.fget (NT_PG_PERIOD.PERIOD n)
  if per = 0 then
    if t * 2 ^ 32 < low then ((d.setPg n { d.pg n with next := none }).fset (NT_PG_CTL.ARM n) 0).tmlErr TML_ERR.PG_LATE
    else d.setPg n { d.pg n with next := some base }
  else
    let k := (low - t * 2 ^ 32 + per * 2 ^ 32 - 1) / (per * 2 ^ 32)
    let d := d.setPg n { d.pg n with next := some (base + k * per) }
    if 0 < k then d.tmlErr TML_ERR.PG_LATE else d

/-- After a step of network time R83 and R84 apply again to every armed generator (R85).
[DESIGN CHOICE, assumption 35] -/
def Dev.pgRecheck (d : Dev) (c : Clock) : Dev :=
  (List.range 4).foldl (fun d n => if d.bit (NT_PG_CTL.ARM n) then d.pgSchedule c n else d) d

/-- A write of NT_PGn_CTL (R54, R83 to R87). -/
def Dev.wrPgCtl (d : Dev) (c : Clock) (n : Nat) (v : W32) : Dev :=
  if d.bit (NT_PG_CTL.ARM n) then
    let d := d.writeCodes (NT_PG_CTL.off n) ((NT_PG_CTL.WIDTH n).put v (d.fget (NT_PG_CTL.WIDTH n)))
    if d.bit (NT_PG_CTL.ARM n) then d else d.setPg n { d.pg n with next := none }
  else if (NT_PG_CTL.ARM n).of v = 0 then d.writeCodes (NT_PG_CTL.off n) v
  else if !c.timed then d.tmlErr TML_ERR.NOTIME
  else
    let d := d.writeCodes (NT_PG_CTL.off n) v
    let per := d.fget (NT_PG_PERIOD.PERIOD n)
    if per ≠ 0 ∧ 10 * per < 32 * d.pgWidth n then (d.fset (NT_PG_CTL.ARM n) 0).tmlErr TML_ERR.PG_BAD
    else d.pgSchedule c n

/-- A write of NT_PGn_SEC, NT_PGn_NS or NT_PGn_PERIOD, ignored while ARM is 1 (R87). -/
def Dev.wrPgVal (d : Dev) (n off : Nat) (v : W32) : Dev := if d.bit (NT_PG_CTL.ARM n) then d else d.writeCodes off v

/-- The first tick at or after an occurrence: the pulse rises (R82). A pulse still high from before a disarm lasts its full WIDTH
(R87).
[DESIGN CHOICE, assumption 35] -/
def Dev.pgRise (d : Dev) (c : Clock) (n : Nat) : Dev :=
  match (d.pg n).next with
  | none => d
  | some o =>
    if d.bit (NT_PG_CTL.ARM n) && c.counting && ntReached c.nt.units o then
      let per := d.fget (NT_PG_PERIOD.PERIOD n)
      let past := (c.nt.units + ntWrap - o * 2 ^ 32 % ntWrap) % ntWrap / 2 ^ 32
      let next := if per = 0 then none else some (o + per * (past / per + 1))
      let x : PgSt := { next := next, fallAt := some (max ((d.pg n).fallAt.getD 0) (d.tk + d.pgWidth n)) }
      ((d.setPg n x).flag (NT_PG_CTL.FIRED n)).raise (667 + n)
    else d

/-- WIDTH ticks later the pulse ends; a one-shot generator is then disarmed (R82).
[DESIGN CHOICE, assumption 35] -/
def Dev.pgFall (d : Dev) (n : Nat) : Dev :=
  match (d.pg n).fallAt with
  | none => d
  | some t =>
    if t ≤ d.tk then
      let d := d.setPg n { d.pg n with fallAt := none }
      if (d.pg n).next.isNone then d.fset (NT_PG_CTL.ARM n) 0 else d
    else d

/-! ### Network time by software -/

/-- Action code 4: the staged parts, the fraction 0, a new epoch on a wellhead (R78, R85). -/
def State.ntApply (s : State) : State :=
  let c := s.clk
  let lo := c.stSecLo.getD (BitVec.ofNat 32 c.nt.sec.toNat)
  let hi := c.stSecHi.getD (BitVec.ofNat 32 (c.nt.sec.toNat / 2 ^ 32))
  let nt : NetTime := { sec := hi ++ lo, ns := c.stNs.getD c.nt.ns, frac := 0 }
  let c := { c with nt := nt, stSecLo := none, stSecHi := none, stNs := none,
                    epoch := if s.dev.wellhead then c.epoch + 1 else c.epoch }
  let s := s.setClk c
  s.withDev fun d => d.pgRecheck c

/-- Action code 5: the increment changes from the next tick (R74, R77). -/
def State.ntIncCommit (s : State) : State :=
  let c := s.clk
  { s with clk := { c with incNext := some c.incStaged, stIncLo := none, stIncHi := none } }

/-- A write of NT_INC_LO or NT_INC_HI (R77). -/
def State.wrNtInc (s : State) (hi : Bool) (v : W32) : State :=
  { s with clk := if hi then { s.clk with stIncHi := some (BitVec.ofNat 8 v.toNat) } else { s.clk with stIncLo := some v } }

/-- A write of NT_SEC_LO, NT_SEC_HI or NT_NS (R78). -/
def State.wrNt (s : State) (part : NtPart) (v : W32) : State :=
  { s with clk := match part with
      | .secLo => { s.clk with stSecLo := some v }
      | .secHi => { s.clk with stSecHi := some v }
      | .ns => { s.clk with stNs := some (min 999999999 (NT_NS.NS.of v)) } }

/-- A read of NT_SEC_LO, with its shadows (R78). -/
def State.rdNtSecLo (s : State) : W32 × State :=
  let c := s.clk
  (BitVec.ofNat 32 c.nt.sec.toNat, s.withDev fun d => { d with tmlSh := { d.tmlSh with
      secHi := BitVec.ofNat 32 (c.nt.sec.toNat / 2 ^ 32)
      ns := c.nt.ns
      frac := BitVec.ofNat 16 (c.nt.frac.toNat / 65536)
      epoch := c.epoch } })

/-- A read of TML_NOW_LO, with its shadow (R45). -/
def State.rdNowLo (s : State) : W32 × State :=
  (BitVec.ofNat 32 s.clk.now.toNat,
   s.withDev fun d => { d with tmlSh := { d.tmlSh with nowHi := BitVec.ofNat 32 (s.clk.now.toNat / 2 ^ 32) } })

/-! ### TML_CTRL -/

/-- The modes in which REALIGN is accepted (R66). -/
def Mode.realigns : Mode → Bool
  | .park | .calibrate | .relay | .safe => true
  | _ => false

/-- A write of TML_CTRL: its fields, START on a wellhead not yet LOCKED (R51), REALIGN on a follower that is LOCKED or in
HOLDOVER (R66, Table 02-1).
[DEDUCED, assumption 34] -/
def State.wrTmlCtrl (s : State) (v : W32) (open_ : Bool := false) : State :=
  let s := s.withDev fun d => d.writeCodes TML_CTRL.off v open_
  let c := s.clk
  let c := if TML_CTRL.START.of v = 1 ∧ s.dev.wellhead ∧ c.tstate ≠ .locked then { c with startPend := true } else c
  let c := if TML_CTRL.REALIGN.of v = 1 ∧ !s.dev.wellhead ∧ s.dev.mode.realigns ∧ c.timed
    then { c with realignPend := some s.dev.tk } else c
  s.setClk c

/-! ### Sync exchanges -/

/-- A link port beyond its registers. -/
def Dev.link (d : Dev) (p : Nat) : LinkSt := tget {} d.links p
def Dev.setLink (d : Dev) (p : Nat) (x : LinkSt) : Dev := { d with links := tset {} d.links p x }

/-- A VC0 flit of a TYPE waits for its pair; its payload stands at its place in the flit (Table 10-5). -/
def Dev.vc0Push (d : Dev) (p type payload : Nat) : Dev :=
  d.setLink p { d.link p with vc0q := (d.link p).vc0q ++ [({ flit := BitVec.ofNat 256 (type * 2 ^ 250 + payload) } : Vc0Wait)] }

/-- The payload of a FOLLOW flit. -/
def followPayload (f : FollowFlit) : Nat :=
  f.xid.toNat * 2 ^ 216 + f.vSend.toNat * 2 ^ 142 + f.ntSend.toNat * 2 ^ 32 + f.hops.toNat * 2 ^ 28 + f.suspect.toNat * 2 ^ 27 +
    f.epoch.toNat * 2 ^ 19

/-- R572: port `p` is not chosen, because its last usable SYNC was suspect and the other candidate delivered a clean one
within the last sync period. -/
def State.shunned (s : State) (p : Nat) : Bool :=
  let o := s.dev.upOther p
  match (s.clk.port p).lastUsable, (s.clk.port o).lastUsable with
  | some (_, true), some (t, false) => o ≠ p && decide (s.dev.tk ≤ t + s.dev.syncPeriod)
  | _, _ => false

/-- A SYNC flit arrives on port `p` at instant `a` (R50, R53, R55, R67, R572).
[DEDUCED, assumption 34] -/
def State.syncReceive (s : State) (p a : Nat) (xid : BitVec 8) (hops : BitVec 4) (suspect : Bool) : State :=
  let d := s.dev
  let s := if bitAt (d.fget TDC_CTL.SYNC) p then s.withDev fun d => d.stampAdd (s.stampOf a) (17 + p) true else s
  if d.wellhead then s
  else
    let own := if 1024 * d.tk ≤ a then s.clk.ntAt (a - 1024 * d.tk) else s.clk.nt.units - s.clk.span (1024 * d.tk - a)
    let x := { s.clk.port p with wait := some (xid, a, own) }
    if !d.upCandidate p then s.setClk (s.clk.setPort p x)
    else
      let x := { x with lastSync := some d.tk }
      if hops = 15 then (s.setClk (s.clk.setPort p x)).withDev fun d => d.tmlErr TML_ERR.HOPLOOP
      else
        let x := { x with lastGood := some d.tk }
        if !d.bit (TML_HOP.VALID p) then
          let s := s.setClk (s.clk.setPort p x)
          if s.clk.tstate = .free then s.withDev fun d => d.tmlErr TML_ERR.UNCAL_HOP else s
        else
          let gap := match x.lastUsable with | some (t, _) => decide (t + 2 * d.syncPeriod < d.tk) | none => true
          let x := { x with lastUsable := some (d.tk, suspect), runStart := if gap then some d.tk else x.runStart }
          let s := s.setClk (s.clk.setPort p x)
          if s.clk.tstate = .free then
            if s.shunned p then s
            else s.setClk { s.clk with tstate := .acquire, active := BitVec.ofNat 3 p, suspectRx := suspect,
                                       acq := none, acqSet := false, ntCopy := none, altSince := d.tk }
          else if s.clk.active.toNat = p then s.setClk { s.clk with suspectRx := suspect } else s

/-- What an exchange gives: E, the arrival instant, and the sender's network time (R56, R79). -/
def State.acqOf (s : State) (p a : Nat) (f : FollowFlit) : Acq where
  e := (f.vSend.toNat + s.dev.fget (TML_HOP.DELAY p)) % 2 ^ 74
  a := a
  ntSend := f.ntSend
  dIn := s.dev.fget (TML_HOP.DELAY p)
  epoch := f.epoch
  hops := f.hops

/-- TML_RESID takes a residual, saturating. -/
def Dev.setResid (d : Dev) (r : Int) : Dev := d.fset TML_RESID.RESID (satInt 32 r)

/-- Verification of a SYNC flit on the active port (R57, R58, R62, R65, R79, R80): `own` is this device's network time at the
arrival. It is done when the FOLLOW brings V_SEND, so LOCKED is entered then.
[DEDUCED, assumption 34; DESIGN CHOICE, assumption 36] -/
def State.verify (s : State) (q : Acq) (own : Nat) : State :=
  let r := stampDiff q.e (s.stampOf q.a)
  let pass := decide (r.natAbs ≤ s.dev.alignTol * 1024)
  let s := s.withDev fun d => d.setResid r
  let s := if s.clk.tstate = .locked then
      let diff : Int := ((ntSendUnits q.ntSend + s.clk.span q.dIn : Nat) : Int) - (own : Int)
      s.withDev fun d => d.fset NT_DIFF.DIFF (satInt 32 (diff / 65536))
    else s
  let copy (c : Clock) : Clock := if q.epoch ≠ c.epoch then { c with ntCopy := some q } else c
  match s.clk.tstate, pass with
  | .acquire, true => s.setClk (copy { s.clk with tstate := .locked, hops := q.hops + 1, acq := none, acqSet := false })
  | .acquire, false =>
    (s.setClk { s.clk with tstate := .free, active := 7, acq := none, acqSet := false }).withDev fun d => d.tmlErr TML_ERR.ALIGN_FAIL
  | .locked, true => s.setClk (copy s.clk)
  | .locked, false => (s.setClk { s.clk with tstate := .holdover }).withDev fun d => d.tmlErr TML_ERR.MISMATCH
  | .holdover, true => s.setClk { s.clk with tstate := .locked, hops := q.hops + 1 }
  | .holdover, false => s.withDev fun d => d.tmlErr TML_ERR.MISMATCH
  | .free, _ => s

/-- A FOLLOW flit completes a SYNC (R56, R57, R60, R66). A realignment may take its exchange from either candidate port, and
leaves the active port as it is (R61, R66).
[DEDUCED, assumption 34] -/
def State.followReceive (s : State) (p : Nat) (f : FollowFlit) : State :=
  match (s.clk.port p).wait with
  | none => s
  | some (xid, a, own) =>
    if xid ≠ f.xid then s
    else
      let x := { s.clk.port p with wait := none, t1 := f.vSend.toNat, t2 := a, rxXid := xid, dreqDue := true }
      let s := s.setClk (s.clk.setPort p x)
      if s.dev.wellhead || !s.dev.upCandidate p || f.hops == 15 || !s.dev.bit (TML_HOP.VALID p) then s
      else
        let q := s.acqOf p a f
        let act := s.clk.active.toNat == p
        if s.clk.tstate = .acquire && !s.clk.acqSet then
          if act && s.clk.acq.isNone then s.setClk { s.clk with acq := some (q, false) } else s
        else
          let s := if act then s.verify q own else s
          match s.clk.realignPend with
          | some t =>
            if s.clk.timed && decide (1024 * t ≤ a) then
              s.setClk { s.clk with realignPend := none, acq := some (q, true) }
            else s
          | none => s

/-- Network time from an exchange at the present tick (R79).
[DESIGN CHOICE, assumption 103] -/
def State.ntCopyFrom (s : State) (q : Acq) : State :=
  let u := ntSendUnits q.ntSend + s.clk.span q.dIn + s.clk.span (1024 * s.dev.tk - q.a)
  let s := s.setClk { s.clk with nt := .ofUnits u, epoch := q.epoch, ntCopy := none }
  s.withDev fun d => d.pgRecheck s.clk

/-- The count is set at a TIMEBEAT edge from an exchange (R56, R66): the multiple of 320 nearest the sum, an exact half
upward. -/
def State.acquireAt (s : State) (q : Acq) (realign : Bool) : State :=
  let sum : Nat := (q.e + (1024 * s.dev.tk - q.a)) % 2 ^ 74
  let count : Nat := (sum + 163840) / 327680 * 320
  let s := s.withDev fun d => d.setResid ((sum : Int) - 1024 * (count : Int))
  let moved := BitVec.ofNat 64 count != s.clk.now
  let c := { s.clk with now := BitVec.ofNat 64 count, acq := none, ntCopy := none }
  let s := s.setClk (if realign then { c with tstate := .locked, hops := q.hops + 1 } else { c with acqSet := true })
  let s := s.ntCopyFrom q
  if realign && moved then s.withDev fun d => d.countMoved count else s

/-- A TIMEBEAT rising edge is registered on this tick (R48, R51, R56, R66, R79); `f` is the fraction of its instant.
[DESIGN CHOICE, assumption 103] -/
def State.timebeat (s : State) (f : Nat) : State :=
  let s := if s.dev.bit TDC_CTL.TB then s.withDev fun d => d.stampAdd (1024 * s.clk.now.toNat + f) 16 true else s
  let s := { s with clk := { s.clk with lastBeat := some s.dev.tk } }
  if s.clk.startPend then
    let v := s.dev.fget TML_START_LO.START_LO + 2 ^ 32 * s.dev.fget TML_START_HI.START_HI
    s.setClk { s.clk with now := BitVec.ofNat 64 (v / 320 * 320), tstate := .locked, hops := 0, startPend := false }
  else match s.clk.acq with
    | some (q, realign) => s.acquireAt q realign
    | none =>
      let s := if s.clk.aligned && s.clk.now.toNat % 320 != 0 then s.withDev fun d => d.tmlErr TML_ERR.BEAT_ERR else s
      match s.clk.ntCopy with
      | some q => if s.clk.tstate = .locked then s.ntCopyFrom q else { s with clk := { s.clk with ntCopy := none } }
      | none => s

/-- An expected TIMEBEAT edge has not come on this tick (R48). -/
def State.beatMissing (s : State) : State :=
  if s.clk.counting && s.clk.aligned && s.clk.now.toNat % 320 == 0 && s.clk.lastBeat != some s.dev.tk then
    s.withDev fun d => d.tmlErr TML_ERR.BEAT_ERR
  else s

/-- The device enters HOLDOVER. Table 02-1 gives ACQUIRE no transition to HOLDOVER: there the state stays.
[DEDUCED, assumption 34] -/
def Clock.toHoldover (c : Clock) : Clock := if c.tstate = .acquire then c else { c with tstate := .holdover }

/-- The device takes another upstream port (R62, R63, R67). -/
def State.switchTo (s : State) (p : Nat) : State :=
  let c := { s.clk with active := BitVec.ofNat 3 p, altSince := s.dev.tk }
  if s.dev.bit (TML_HOP.VALID p) then s.setClk c
  else (s.setClk c.toHoldover).withDev fun d => d.tmlErr TML_ERR.UNCAL_HOP

/-- The active port has delivered no SYNC for 4 sync periods (R61 to R63). The loss counts once; the other candidate delivers
sync flits if one with HOPS below 15 came within the last 4 sync periods.
[DESIGN CHOICE, assumption 103] -/
def State.syncLost (s : State) : State :=
  let p := s.clk.active.toNat
  let x := s.clk.port p
  let lost := match x.lastSync with | some t => decide (t + 4 * s.dev.syncPeriod ≤ s.dev.tk) | none => false
  if s.dev.wellhead || s.clk.tstate == .free || decide (5 < p) || !lost then s
  else
    let s := s.withDev fun d => d.tmlErr TML_ERR.SYNC_LOST
    let o := s.dev.upOther p
    let good := match (s.clk.port o).lastGood with | some t => decide (s.dev.tk < t + 4 * s.dev.syncPeriod) | none => false
    let s := { s with clk := s.clk.setPort p { x with lastSync := none } }
    if decide (o ≤ 5) && o != p && good && !s.shunned o then s.switchTo o
    else s.setClk s.clk.toHoldover

/-- UP_PRI has delivered usable SYNC flits for 64 sync periods without a gap (R67). -/
def State.upPriReturn (s : State) : State :=
  let p := s.dev.fget TML_CTRL.UP_PRI
  let x := s.clk.port p
  let clean := match x.lastUsable, x.runStart with
    | some (t, _), some r => decide (s.dev.tk ≤ t + 2 * s.dev.syncPeriod) &&
        decide (max r s.clk.altSince + 64 * s.dev.syncPeriod ≤ s.dev.tk)
    | _, _ => false
  if s.dev.wellhead || !s.clk.timed || decide (5 < p) || s.clk.active.toNat == p ||
      s.clk.active.toNat != s.dev.fget TML_CTRL.UP_ALT || !clean || s.shunned p then s
  else s.switchTo p

/-- A SYNC flit is due on a port that is not the source of this device's time: it joins the VC0 queue (R50, R320). -/
def State.syncSend (s : State) (p : Nat) (f : BitVec 10) : State :=
  let x := s.clk.port p
  let due := match x.sentAt with | some t => decide (t + s.dev.syncPeriod ≤ s.dev.tk) | none => true
  if s.clk.timed && s.clk.counting && s.dev.portUp p && s.clk.active.toNat != p && due then
    { s with clk := s.clk.setPort p { x with sentAt := some s.dev.tk, txXid := x.txXid + 1, syncFrac := f }
             dev := s.dev.vc0Push p 1 (x.txXid.toNat * 2 ^ 216) }
  else s

/-- The first symbol of a SYNC or DREQ flit leaves the balls: its departure stamp (R318). -/
def State.vc0Left (s : State) (p : Nat) (flit : BitVec 256) : State :=
  let x := s.clk.port p
  let f := x.syncFrac.toNat
  let xid := BitVec.ofNat 8 (bits flit.toNat 223 216)
  match bits flit.toNat 255 254, bits flit.toNat 253 250 with
  | 0, 1 => s.setClk (s.clk.setPort p { x with
      sent := some (xid, BitVec.ofNat 74 (1024 * s.clk.now.toNat + f), ntSendOf (s.clk.ntAt f)), leftAt := s.dev.tk })
  | 0, 3 => s.setClk (s.clk.setPort p { x with t3 := 1024 * s.dev.tk + x.dreqFrac.toNat })
  | _, _ => s

/-- The FOLLOW of a SYNC follows no sooner than 16 slots after it has left (R320). -/
def State.followSend (s : State) (p : Nat) : State :=
  let x := s.clk.port p
  match x.sent with
  | some (xid, v, n) =>
    if s.dev.portUp p && decide (x.leftAt + 7 ≤ s.dev.tk) then
      let f : FollowFlit := ⟨xid, v, n, s.clk.hops, s.clk.tsus, s.clk.epoch⟩
      { s with clk := s.clk.setPort p { x with sent := none, follow := some f }
               dev := s.dev.vc0Push p 2 (followPayload f) }
    else s
  | none => s

/-- A DREQ joins the VC0 queue after the period's FOLLOW (R60, R320). -/
def State.dreqSend (s : State) (p : Nat) (f : BitVec 10) : State :=
  let x := s.clk.port p
  if x.dreqDue && s.dev.portUp p && !s.dev.wellhead then
    { s with clk := s.clk.setPort p { x with dreqDue := false, dreqXid := some x.rxXid, dreqFrac := f }
             dev := s.dev.vc0Push p 3 (x.rxXid.toNat * 2 ^ 216) }
  else s

/-- A DREQ arrives and is answered (R320). -/
def State.dreqReceive (s : State) (p a : Nat) (xid : BitVec 8) : State :=
  if s.dev.portUp p then
    { s with clk := s.clk.setPort p { s.clk.port p with resp := some (xid, BitVec.ofNat 74 (s.stampOf a)) }
             dev := s.dev.vc0Push p 4 (xid.toNat * 2 ^ 216 + s.stampOf a * 2 ^ 142) }
  else s

/-- A DRESP arrives: the mean path delay of the port (R60). -/
def State.drespReceive (s : State) (p : Nat) (xid : BitVec 8) (t4 : BitVec 74) : State :=
  let x := s.clk.port p
  if x.dreqXid = some xid then
    let m := (stampDiff t4.toNat x.t1 - ((x.t3 : Int) - (x.t2 : Int)) + 1) / 2
    let m := if m < 0 then 0 else min (2 ^ 22 - 1) m.toNat
    { s with clk := s.clk.setPort p { x with dreqXid := none },
             dev := (s.dev.fset (TML_MEAN.MEAN p) m).fset (TML_MEAN.VALID p) 1 }
  else s

end Sys2Proof.Machine
end

