-- ==== Sys2Proof/Machine/LinkOps.lean ====
section
/-! DEFINITION. What the link commands share (spec/10_link_ports.md): port states (R300 to R305), link mode (R306), flits and
their placement (R307 to R310), replay and credits (R311 to R313), routes (R315 to R317) and lane loss (R322 to R326). A lane
operand is a physical lane; masks are by logical lane. -/
namespace Sys2Proof.Machine

/-! ### Port states -/

/-- The codes of LNK_Pp_STAT.STATE. -/
def portOff : Nat := 0
def portTrain : Nat := 2
def portUp4 : Nat := 3
def portUp3 : Nat := 4
def portTest : Nat := 5

/-- A port's state. -/
def Dev.portState (d : Dev) (p : Nat) : Nat := d.fget (LNK_P_STAT.STATE p)

/-- The state changes and raises its source (R377). -/
def Dev.setPortState (d : Dev) (p st : Nat) : Dev :=
  if d.portState p = st then d else (d.fset (LNK_P_STAT.STATE p) st).raise (512 + 8 * p)

/-- A bit of LNK_Pp_ERR or LNK_GERR is set (R377). -/
def Dev.lnkErr (d : Dev) (p : Nat) (f : Fld) : Dev := d.flagRaise f (513 + 8 * p)
def Dev.lnkGerr (d : Dev) (f : Fld) : Dev := d.flagRaise f 560

/-- The ports run in every mode but LOAD and SLEEP (R300). -/
def Dev.linkRuns (d : Dev) : Bool := d.mode != .load && d.mode != .sleep

/-- Number of lanes in a mask. -/
def lanes4 (m : Nat) : Nat := (List.range 4).countP (fun l => bitAt m l)

/-- The logical lane of a physical one (R302). -/
def Dev.laneLogical (d : Dev) (p q : Nat) : Option Nat :=
  let m := bits (d.fget (LNK_P_MAP.MAP p)) (4 * q + 3) (4 * q)
  if bitAt m 3 then some (m % 4) else none

/-- The logical lanes whose physical lane is aligned. -/
def Dev.alignedMask (d : Dev) (p : Nat) : Nat :=
  (List.range 4).foldl (fun m q =>
    match d.laneLogical p q with
    | some l => if d.bit (LNK_PL_STAT.ALIGNED p q) then m ||| 2 ^ l else m
    | none => m) 0

/-- The message queues and flits of a port are discarded (R326). -/
def Dev.linkFlush (d : Dev) (p : Nat) : Dev :=
  { d with decq := tset [] d.decq p [], sieveq := tset [] d.sieveq p [], trigq := tset [] d.trigq p [] }

/-- A receive lane of a port, and the device with it replaced. -/
def Dev.rxLane (d : Dev) (p q : Nat) : RxLane := tget {} (d.link p).rx q
def Dev.setRx (d : Dev) (p q : Nat) (x : RxLane) : Dev := d.setLink p { d.link p with rx := tset {} (d.link p).rx q x }

/-- A port stops: its lanes lose lock, its queues are empty. -/
def Dev.linkStop (d : Dev) (p st : Nat) : Dev :=
  let d := (List.range 4).foldl (fun (d : Dev) q =>
    ((d.fset (LNK_PL_STAT.LOCK p q) 0).fset (LNK_PL_STAT.ALIGNED p q) 0).fset (LNK_PL_STAT.CHK_LOCK p q) 0) d
  let d := ((d.linkFlush p).setLink p { trainTk := d.tk }).fset (LNK_P_STAT.WLANES p) 0
  d.setPortState p st

/-- A pattern code that names a pattern (R327, R328). -/
def patOn (c : Nat) : Bool := decide (1 ≤ c) && decide (c ≤ 4)

/-- A port goes DOWN and then to TRAIN (R326). -/
def Dev.portDown (d : Dev) (p : Nat) : Dev := ((d.setPortState p 1).lnkErr p (LNK_P_ERR.DOWN p)).linkStop p portTrain

/-- A port follows EN, the mode and its pattern settings (R300, R328). A port that EN = 0 takes to OFF keeps its class E counters and
flags.
[DESIGN CHOICE, assumption 60] -/
def Dev.portApply (d : Dev) (p : Nat) : Dev :=
  let st := d.portState p
  let pat := (List.range 4).any (fun q => patOn (d.fget (LNK_PL_PAT.GEN p q)) || patOn (d.fget (LNK_PL_PAT.CHK p q)))
  let want := if !d.linkRuns then portOff else if d.bit (LNK_P_CTL.EN p) then portTrain else if pat then portTest else portOff
  if want = portTrain then (if st = portOff ∨ st = portTest then d.linkStop p portTrain else d)
  else if st = want then d else d.linkStop p want

/-- A write of LNK_Pp_CTL: its fields, then SRST, which returns class E values to default and retrains (R300, R514). -/
def Dev.wrLnkCtl (d : Dev) (p : Nat) (v : W32) (open_ : Bool := false) : Dev :=
  let d := d.writeCodes (LNK_P_CTL.off p) v open_
  if (LNK_P_CTL.SRST p).of v = 1 then
    let old := d.portState p
    let d := d.resetRegs (LNK_P_CTL.off p) (LNK_P_CTL.off p + 0x100) (· == .e)
    let d := (d.fset (LNK_P_STAT.STATE p) old).linkStop p (if d.linkRuns && d.bit (LNK_P_CTL.EN p) then portTrain else portOff)
    d.portApply p
  else d.portApply p

/-! ### Link mode (R306) -/

/-- The device reports FPLAIN. -/
def Dev.fplain (d : Dev) : Bool := (List.range 4).any (fun q => d.quarterMode q == .swift) && d.linkRuns

/-- This end allows PROTECTED. -/
def Dev.linkAllow (d : Dev) (p : Nat) : Bool := d.bit (LNK_P_CTL.PROT p) && !d.fplain

/-- A LANE control block (Table 10-2). -/
def laneBlock (op mask : Nat) (mode : Bool) : BitVec 64 :=
  BitVec.ofNat 64 (0x2D * 2 ^ 56 + op * 2 ^ 52 + mask % 16 * 2 ^ 48 + mode.toNat * 2 ^ 47)
def laneDrop : Nat := 1
def laneReady : Nat := 2
def laneSwitch : Nat := 3
def laneModeReq : Nat := 4
def laneModeSet : Nat := 5

/-- Fields of a received LANE control block, if it is one of operation `op`. -/
def laneOp (x : BitVec 64) (op : Nat) : Bool := bits x.toNat 63 56 == 0x2D && bits x.toNat 55 52 == op
def laneMask (x : BitVec 64) : Nat := bits x.toNat 51 48
def laneMode (x : BitVec 64) : Bool := bitAt x.toNat 47

/-- A control block waits to be sent in a number of slots. -/
def Dev.ctlPush (d : Dev) (p : Nat) (x : BitVec 64) (n : Nat) : Dev :=
  let k := d.link p
  if k.ctl.any (fun c => c.payload == x) then d else d.setLink p { k with ctl := k.ctl ++ [⟨x, n⟩] }

/-- MODE_REQ is sent, for the first time or again (R306). -/
def Dev.modeReq (d : Dev) (p : Nat) : Dev :=
  let a := d.linkAllow p
  let d := d.setLink p { d.link p with told := a, reqTk := some d.tk }
  d.ctlPush p (laneBlock laneModeReq 0 a) 3

/-- LNK_Pp_STAT.MODE follows once this end both transmits and receives in the new mode (R306). -/
def Dev.modeSettle (d : Dev) (p : Nat) : Dev :=
  let k := d.link p
  if d.portUp p && k.txMode == k.rxMode && d.bit (LNK_P_STAT.MODE p) != k.txMode then
    (d.fsetB (LNK_P_STAT.MODE p) k.txMode).raise (516 + 8 * p)
  else d

/-! ### Training (R301 to R305) -/

/-- The skew between the earliest and the latest aligned lane in slots, once an ALIGN block of each has been measured (R303). -/
def Dev.skewSlots (d : Dev) (p : Nat) : Option Nat :=
  let qs := (List.range 4).filter (fun q => d.bit (LNK_PL_STAT.ALIGNED p q))
  let ts := qs.filterMap (fun q => (d.rxLane p q).at_)
  if ts.length < qs.length then none
  else
    let spread : Int := ts.foldl max (ts.headD 0) - ts.foldl min (ts.headD 0)
    some ((10 * spread + 4095) / 4096).toNat

/-- The skew is measured and at most 24 slots (R303). -/
def Dev.skewOk (d : Dev) (p : Nat) : Bool := ((d.skewSlots p).map (fun n => decide (n ≤ 24))).getD false

/-- The port enters UP4 or UP3 from TRAIN (R304, R306, R313). -/
def Dev.linkUp (d : Dev) (p tx rx st : Nat) : Dev :=
  let a := d.linkAllow p
  let k := d.link p
  let m := a && k.peerProt
  let d := d.setLink p { k with txLanes := tx, cred2 := 32, cred3 := 256, told := a, ackTk := d.tk, upWait := true,
                                txMode := m, rxMode := m }
  let d := (d.fset (LNK_P_STAT.WLANES p) rx).fsetB (LNK_P_STAT.MODE p) m
  d.setPortState p st

/-- Four lanes aligned and reported: UP4 (R304). Skew above 24 slots and a peer that is this device keep the port in TRAIN
(R303, R305). -/
def Dev.tryUp4 (d : Dev) (p : Nat) : Dev :=
  let k := d.link p
  if d.portState p = portTrain ∧ d.alignedMask p = 15 ∧ k.peerOk = 15 ∧ !k.peerSelf ∧ d.skewOk p
  then d.linkUp p 15 15 portUp4 else d

/-- A receive lane whose search has read its ALIGN block completes R301: slip, polarity and logical lane stand. Two lanes that report
one logical number both search again (R302).
[DESIGN CHOICE, assumption 60] -/
def Dev.laneAligned (d : Dev) (p q : Nat) (a : Nat × Bool) : Dev :=
  if (d.rxLane p q).found ≠ some a ∨ (d.portState p ≠ portTrain ∧ !d.portUp p) ∨ d.bit (LNK_PL_STAT.ALIGNED p q) then d
  else
    let (l, inv) := a
    let twin := (List.range 4).find? (fun x => x != q && d.bit (LNK_PL_STAT.ALIGNED p x) && d.laneLogical p x == some l)
    let map := d.fget (LNK_P_MAP.MAP p)
    let map := map - bits map (4 * q + 3) (4 * q) * 2 ^ (4 * q) + (8 + 4 * inv.toNat + l) * 2 ^ (4 * q)
    let d := (d.fset (LNK_PL_STAT.LOCK p q) 1).fset (LNK_PL_STAT.SLIP p q) (d.rxLane p q).slip
    match twin with
    | some x => ((d.fset (LNK_PL_STAT.ALIGNED p x) 0).setRx p x {}).setRx p q {}
    | none =>
      let d := (d.fset (LNK_P_MAP.MAP p) map).fset (LNK_PL_STAT.ALIGNED p q) 1
      let d := d.setRx p q { d.rxLane p q with clean := 0, hist := [], lost := false, at_ := none }
      if d.portState p = portTrain then (d.fset (LNK_P_STAT.WLANES p) (d.alignedMask p)).tryUp4 p else d

/-- A TRAIN control block arrives (Table 10-2, R304, R305). -/
def Dev.rxTrain (d : Dev) (p : Nat) (x : BitVec 64) : Dev :=
  let v := x.toNat
  if bits v 63 56 ≠ 0x1E ∨ d.portState p ≠ portTrain then d
  else
    let node := bits v 44 29
    let self := node == d.fget LNK_NODE.NODE
    let d := (d.fset (LNK_P_STAT.PEER_NODE p) node).fset (LNK_P_STAT.PEER_PORT p) (bits v 47 45)
    let d := d.setLink p { d.link p with peerOk := bits v 53 50, peerProt := bitAt v 49 && !bitAt v 48, peerSelf := self }
    (if self then d.lnkErr p (LNK_P_ERR.PEER_SELF p) else d).tryUp4 p

/-- 800,000 tk in TRAIN have passed (R304). -/
def Dev.trainTimeout (d : Dev) (p : Nat) : Dev :=
  let k := d.link p
  if d.portState p = portTrain ∧ k.trainTk + 800000 ≤ d.tk then
    let rx := d.alignedMask p
    if 3 ≤ lanes4 rx ∧ 3 ≤ lanes4 k.peerOk ∧ !k.peerSelf ∧ d.skewOk p then d.linkUp p k.peerOk rx portUp3
    else ((d.satAdd (LNK_P_CNT1.RETRAINS p) 1).lnkErr p (LNK_P_ERR.TRAIN_TO p)).linkStop p portTrain
  else d

/-! ### Losing and regaining a lane (R322 to R326) -/

/-- A working receive lane is declared lost (R322); it ends a self-test slice on another lane of the port (R491). -/
def Dev.laneLost (d : Dev) (p q : Nat) : Dev :=
  match d.laneLogical p q with
  | none => d
  | some l =>
    let d := ((d.fset (LNK_PL_STAT.LOCK p q) 0).fset (LNK_PL_STAT.ALIGNED p q) 0).setRx p q {}
    if !d.portUp p then d.fset (LNK_P_STAT.WLANES p) (d.alignedMask p)
    else if !bitAt (d.fget (LNK_P_STAT.WLANES p)) l then d
    else
      let k := d.link p
      let d : Dev := { d with slices := tdel d.slices (2 + p) }
      let d := d.fset (LNK_P_STAT.WLANES p) (d.fget (LNK_P_STAT.WLANES p) - 2 ^ l)
      let d := ((d.satAdd (LNK_P_CNT1.LANE_LOSSES p) 1).lnkErr p (LNK_P_ERR.LANE_LOST p)).raise (514 + 8 * p)
      let d := d.setLink p { k with lost := k.lost ||| 2 ^ l, dropTk := d.tk }
      d.ctlPush p (laneBlock laneDrop (k.lost ||| 2 ^ l) false) 3

/-- UP4 or UP3 follows the working lanes of both directions; a return to UP4 is a rejoin (R325, R377). -/
def Dev.laneState (d : Dev) (p tx rx : Nat) : Dev :=
  let was := d.portState p
  let now := if tx = 15 ∧ rx = 15 then portUp4 else portUp3
  let d := d.setPortState p now
  if was = portUp3 ∧ now = portUp4 then d.raise (515 + 8 * p) else d

/-- The lanes that the transmitter uses once its last SWITCH has left. -/
def LinkSt.txNext (k : LinkSt) : Nat :=
  match k.ctl.find? (fun c => laneOp c.payload laneSwitch) with
  | some c => laneMask c.payload
  | none => k.txLanes

/-- A DROP arrives: SWITCH and restripe, or DOWN and then TRAIN (R323, R326). -/
def Dev.rxDrop (d : Dev) (p mask : Nat) : Dev :=
  if !d.portUp p then d
  else
    let k := d.link p
    let left := (List.range 4).foldl (fun m l => if bitAt k.txNext l && !bitAt mask l then m + 2 ^ l else m) 0
    let d := d.setLink p { k with txForced := 0 }
    if lanes4 left < 3 then d.portDown p else d.ctlPush p (laneBlock laneSwitch left false) 1

/-- A SWITCH arrives: the lanes the peer sends on (R322, R323, R325). -/
def Dev.rxSwitch (d : Dev) (p mask : Nat) : Dev :=
  if !d.portUp p then d
  else
    let k := d.link p
    let rx := mask &&& d.alignedMask p
    let d := d.setLink p { k with lost := k.lost &&& mask }
    (d.fset (LNK_P_STAT.WLANES p) rx).laneState p k.txLanes rx

/-- A self-test slice runs on a lane of the port (R491). -/
def Dev.laneSlice (d : Dev) (p q : Nat) : Bool := d.slices.any (fun e => e.1 == 2 + p && e.2.unit == q)

/-- 65,536 blocks in a row with valid headers on a lane aligned again (R325). -/
def Dev.laneReadySend (d : Dev) (p q : Nat) : Dev :=
  match d.laneLogical p q with
  | some l =>
    let x := d.rxLane p q
    if d.portUp p && d.bit (LNK_PL_STAT.ALIGNED p q) && !bitAt (d.fget (LNK_P_STAT.WLANES p)) l && decide (65536 ≤ x.clean) &&
        !d.laneSlice p q then
      (d.setRx p q { x with clean := 0 }).ctlPush p (laneBlock laneReady (2 ^ l) false) 3
    else d
  | none => d

/-- A READY arrives: SWITCH with the lane (R325). -/
def Dev.rxReady (d : Dev) (p mask : Nat) : Dev :=
  if !d.portUp p then d else d.ctlPush p (laneBlock laneSwitch ((d.link p).txNext ||| mask) false) 1

/-- SKEW of every lane measured, against logical lane 0 while that lane works (R319). -/
def Dev.skewShow (d : Dev) (p : Nat) : Dev :=
  match d.physLane p 0 with
  | none => d
  | some z =>
    match (d.rxLane p z).at_ with
    | none => d
    | some t0 =>
      if !bitAt (d.fget (LNK_P_STAT.WLANES p)) 0 then d
      else (List.range 4).foldl (fun d q =>
        match (d.rxLane p q).at_ with
        | some t => if d.bit (LNK_PL_STAT.ALIGNED p q) then d.fset (LNK_PL_STAT.SKEW p q) (satInt 16 (t - t0)) else d
        | none => d) d

/-- An ALIGN block arrives on a lane at an instant of the port's alignment period, in 1/1,024 tk: skew and deskew (R303, R319), or a
lane that names another logical number (R322). -/
def Dev.rxAlign (d : Dev) (p q : Nat) (x : BitVec 64) (instant : BitVec 16) : Dev :=
  let v := x.toNat
  if bits v 63 56 ≠ 0x4B ∨ bits v 31 0 ≠ 0x2D4BB4D2 ∨ !d.bit (LNK_PL_STAT.ALIGNED p q) then d
  else if d.laneLogical p q ≠ some (bits v 55 54) then d.laneLost p q
  else
    let d := (d.setRx p q { d.rxLane p q with at_ := some instant.toInt }).skewShow p
    match d.skewSlots p with
    | none => d
    | some slots =>
      let d := d.fset (LNK_P_STAT.DESKEW p) (min 31 slots)
      if 24 < slots then d.lnkErr p (LNK_P_ERR.SKEW_BIG p) else d.tryUp4 p

/-! ### Flits -/

/-- Fields of a flit (Table 10-3). -/
def flVc (f : BitVec 256) : Nat := bits f.toNat 255 254
def flType (f : BitVec 256) : Nat := bits f.toNat 253 250
def flSeq (f : BitVec 256) : BitVec 10 := BitVec.ofNat 10 (bits f.toNat 249 240)

/-- Whether Table 10-5 defines a VC and TYPE (R310). -/
def flDefined (f : BitVec 256) : Bool :=
  match flVc f with
  | 0 => decide (1 ≤ flType f) && decide (flType f ≤ 4)
  | 1 => decide (1 ≤ flType f) && decide (flType f ≤ 3)
  | 2 => decide (1 ≤ flType f) && decide (flType f ≤ 3)
  | _ => decide (flType f ≤ 2)

/-- A number with bits `hi` down to `lo` replaced.
[DESIGN CHOICE, assumption 60] -/
def putBits (v hi lo x : Nat) : Nat := v - bits v hi lo * 2 ^ lo + x % 2 ^ (hi + 1 - lo) * 2 ^ lo

/-- The header of a received flit: its ACK and its credits (R312, R313). -/
def Dev.hdrRx (d : Dev) (p : Nat) (f : BitVec 256) : Dev :=
  let k := d.link p
  let ack := BitVec.ofNat 10 (bits f.toNat 239 230)
  let cred := bits f.toNat 227 224
  let k := if bitAt f.toNat 228 then { k with cred3 := k.cred3 + cred } else { k with cred2 := k.cred2 + cred }
  let k := match k.unacked.findIdx? (fun u => flSeq u == ack) with
    | some i => { k with unacked := k.unacked.drop (i + 1), resend := k.resend - (i + 1), ackTk := d.tk }
    | none => k
  d.setLink p k

/-- One more credit to return for a flit that has left its receive buffer (R313). -/
def Dev.creditBack (d : Dev) (p : Nat) (f : BitVec 256) : Dev :=
  let k := d.link p
  if 5 < p then d else d.setLink p (if flVc f = 2 then { k with owe2 := k.owe2 + 1 } else { k with owe3 := k.owe3 + 1 })

/-- A striped flit is acceptable: it passes its check and is next in order (R312). -/
def Dev.stripedOk (d : Dev) (p : Nat) (f : BitVec 256) : Bool :=
  d.portUp p && crcOk f && decide (2 ≤ flVc f) && flSeq f == (d.link p).rxSeq

/-- A striped flit is accepted (R312). -/
def Dev.stripedAccept (d : Dev) (p : Nat) (f : BitVec 256) : Dev :=
  let k := d.link p
  (d.setLink p { k with rxSeq := k.rxSeq + 1, ackDue := true, naking := none, nakDue := false }).hdrRx p f

/-- A striped flit that fails its check or is out of order, a NULL flit apart: NAK once, then discard; the header of one that
passes its check still counts (R307, R312, Table 10-5). -/
def Dev.stripedError (d : Dev) (p : Nat) (f : BitVec 256) : Dev :=
  let order := decide (2 ≤ flVc f) && !(flVc f == 3 && flType f == 0) && flSeq f != (d.link p).rxSeq
  if d.portUp p && (!crcOk f || order) then
    let d := if crcOk f then d.hdrRx p f else d
    let k := d.link p
    if k.naking.isNone then d.setLink p { k with naking := some d.tk, nakDue := true } else d
  else d

/-- The transmitter sends its unacknowledged flits again (R312). -/
def Dev.replay (d : Dev) (p : Nat) (drop : Nat) : Dev :=
  let k := d.link p
  let d := d.setLink p { k with unacked := k.unacked.drop drop, resend := 0, ackTk := d.tk }
  (d.satAdd (LNK_P_CNT0.REPLAYS p) 1).lnkErr p (LNK_P_ERR.REPLAY p)

/-- The messages of a VC1 flit, `w` bits each from bit 208 down, as many as it counts and can hold. -/
def vc1Msgs (f : BitVec 256) (w cap : Nat) : List Nat :=
  (List.range (min cap (bits f.toNat 223 222))).map (fun i => bits f.toNat (207 - w * i) (208 - w * (i + 1)))

/-- A flit taken: the messages of a VC1 flit are delivered on this tick in the order they stand in it; a VC and TYPE that Table 10-5
does not define is dropped (R310). The stamped flits of VC0 are commands of their own.
[DESIGN CHOICE, assumption 60] -/
def Dev.flitDeliver (d : Dev) (p now : Nat) (f : BitVec 256) : Dev :=
  if !flDefined f then d.lnkGerr LNK_GERR.BADTYPE
  else match flVc f, flType f with
    | 1, 1 => (vc1Msgs f 96 2).foldl (fun d m => d.decisionDeliver p (BitVec.ofNat 96 m)) d
    | 1, 2 => (vc1Msgs f 64 3).foldl (fun d m => d.sieveDeliver p (BitVec.ofNat 64 m)) d
    | 1, 3 => (vc1Msgs f 64 3).foldl (fun d m => d.witLink (BitVec.ofNat 64 m) now) d
    | _, _ => d

/-- A duplicated flit is taken from the lower lane's copy when it passes, from the other when that passes, or is lost; a gap in
the sequence counts the flits it skips (R311). -/
def Dev.duplicated (d : Dev) (p now : Nat) (lower upper : BitVec 256) : Dev :=
  if !d.portUp p then d
  else
    let k := d.link p
    match (if crcOk lower then some lower else if crcOk upper then some upper else none) with
    | none =>
      let d := d.setLink p { k with rxDup := k.rxDup.map (· + 1) }
      (d.satAdd (LNK_P_CNT0.DUP_LOST p) 1).lnkErr p (LNK_P_ERR.DUP_LOST p)
    | some f =>
      let gap := match k.rxDup with | some e => (flSeq f - e).toNat | none => 0
      let d := (d.setLink p { k with rxDup := some (flSeq f + 1), rxFlit := some f }).hdrRx p f
      let d := if 0 < gap then (d.satAdd (LNK_P_CNT0.DUP_LOST p) gap).lnkErr p (LNK_P_ERR.DUP_LOST p) else d
      d.flitDeliver p now f

/-- A flit waits to be sent on a port. -/
def Dev.stripedPush (d : Dev) (p : Nat) (f : BitVec 256) : Dev :=
  let k := d.link p
  d.setLink p (if flVc f = 2 then { k with vc2q := k.vc2q ++ [f] } else { k with vc3q := k.vc3q ++ [f] })

/-! ### Routes (R315 to R317) -/

/-- RLEN, RPOS and entry `i` of a route. -/
def rtLen (f : BitVec 256) : Nat := bits f.toNat 207 204
def rtPos (f : BitVec 256) : Nat := bits f.toNat 203 200
def rtEntry (f : BitVec 256) (i : Nat) : Nat := bits f.toNat (199 - 3 * i) (197 - 3 * i)

/-- An outbound flit at a device: sent on, delivered here, or dropped. `arr` is the arrival port, 7 at its origin.
[DESIGN CHOICE, assumption 60] -/
def Dev.routeOut (d : Dev) (arr : Nat) (f : BitVec 256) : Dev :=
  let r := rtPos f
  if r < rtLen f ∧ r < 14 then
    let e := rtEntry f r
    if 5 < e ∨ !d.portUp e then (d.lnkGerr LNK_GERR.ROUTE_BAD).creditBack arr f
    else
      let v := putBits (putBits f.toNat (199 - 3 * r) (197 - 3 * r) arr) 203 200 (r + 1)
      (d.stripedPush e (BitVec.ofNat 256 v)).creditBack arr f
  else if r = rtLen f then { d with inbox := d.inbox ++ [(arr, f)] }
  else (d.lnkGerr LNK_GERR.ROUTE_BAD).creditBack arr f

/-- A return flit at a device: sent back, delivered here, or dropped. -/
def Dev.routeBack (d : Dev) (arr : Nat) (f : BitVec 256) : Dev :=
  let r := rtPos f
  if r = 0 then (d.lnkGerr LNK_GERR.ROUTE_BAD).creditBack arr f
  else
    let e := rtEntry f (r - 1)
    let g := BitVec.ofNat 256 (putBits f.toNat 203 200 (r - 1))
    if e = 7 then { d with inbox := d.inbox ++ [(arr, g)] }
    else if 5 < e ∨ !d.portUp e then (d.lnkGerr LNK_GERR.ROUTE_BAD).creditBack arr f
    else (d.stripedPush e g).creditBack arr f

/-- The reply of a target leaves on the port its outbound flit arrived on, with RPOS unchanged (R316); from the device itself
when the route was empty. -/
def Dev.replySend (d : Dev) (arr : Nat) (f : BitVec 256) : Dev :=
  if arr ≤ 5 then (if d.portUp arr then d.stripedPush arr f else d.lnkGerr LNK_GERR.ROUTE_BAD)
  else { d with inbox := d.inbox ++ [(arr, f)] }

/-- A delivered flit has been performed and leaves its buffer (R313). -/
def Dev.inboxTake (d : Dev) (arr : Nat) (f : BitVec 256) : Dev :=
  if d.inbox.contains (arr, f) then ({ d with inbox := d.inbox.erase (arr, f) } : Dev).creditBack arr f else d

/-! ### Test features (R327 to R329) -/

/-- A write of LNK_PpLq_PAT (R328). A new pattern starts its generator and its checker afresh (R327). -/
def Dev.wrPat (d : Dev) (p q : Nat) (v : W32) : Dev :=
  if d.bit (LNK_P_CTL.EN p) then d.lnkErr p (LNK_P_ERR.PAT_BUSY p)
  else
    let old := d.reg (LNK_PL_PAT.off p q)
    let d := (d.writeCodes (LNK_PL_PAT.off p q) v).portApply p
    let new := d.reg (LNK_PL_PAT.off p q)
    let d := if (LNK_PL_PAT.GEN p q).of old = (LNK_PL_PAT.GEN p q).of new then d
      else d.setLink p { d.link p with gen := tset 0 (d.link p).gen q 0 }
    let d := if (LNK_PL_PAT.CHK p q).of old = (LNK_PL_PAT.CHK p q).of new then d
      else (d.setRx p q { d.rxLane p q with chk := 0, agree := false }).fset (LNK_PL_STAT.CHK_LOCK p q) 0
    let d := if (LNK_PL_PAT.INJ1 p q).of v = 1 then d.setLink p { d.link p with inj1 := insNat q (d.link p).inj1 } else d
    if patOn (d.fget (LNK_PL_PAT.CHK p q)) then d else d.fset (LNK_PL_STAT.CHK_LOCK p q) 0

/-- A write of LNK_Pp_INJ (R329).
[DESIGN CHOICE, assumption 60] -/
def Dev.wrInj (d : Dev) (p : Nat) (v : W32) : Dev :=
  let d := d.writeCodes (LNK_P_INJ.off p) v
  if !d.portUp p then d
  else
    let k := d.link p
    let k := if (LNK_P_INJ.FLIT p).of v = 1 then { k with injFlit := true } else k
    let k := if (LNK_P_INJ.DROP p).of v = 1 then { k with txForced := k.txForced ||| 2 ^ d.fget (LNK_P_INJ.LANE p) } else k
    d.setLink p k

/-- A FEC codeword of a lane (R314): the 16 slots are one exactly when the last of them carried a parity header (R306). -/
def Dev.fecCodeword (d : Dev) (p q : Nat) (w : List Byte) : Dev :=
  if !d.portUp p ∨ !(d.rxLane p q).parity ∨ w.length ≠ 136 then d
  else match rsDecode (w.map (·.toNat)) with
    | none =>
      let d := d.setLink p { d.link p with rxCode := w }
      (d.satAdd (LNK_P_CNT1.FEC_UNCORR p) 1).lnkErr p (LNK_P_ERR.FEC_UNCORR p)
    | some (c, fixed) =>
      let d := d.setLink p { d.link p with rxCode := c.map (BitVec.ofNat 8) }
      if fixed then d.satAdd (LNK_P_CNT1.FEC_CORR p) 1 else d

end Sys2Proof.Machine
end

