-- ==== Sys2Proof/Machine/RxOps.lean ====
section
/-! DEFINITION. What a receive lane does with the symbols of one slot (spec/10_link_ports.md): decoding (R297), headers (R298, R322),
the bit-slip search and the ALIGN reading (R301), parity headers (R306), and the pattern checker (R327). -/
namespace Sys2Proof.Machine

/-! ### Blocks received -/

/-- The header codes of Table 10-1. -/
def hdrValid (h : Nat) : Bool := h == 6 || h == 5 || h == 9 || h == 10

/-- The logical lane and the polarity an ALIGN block names, from the Gray values of a block: the payload is read as received and with
every level inverted, and the reading with the ALIGN constant is kept (R301). -/
def alignLane (blk : List Nat) : Option (Nat × Bool) :=
  let read (gs : List Nat) : Option Nat :=
    let v := pairsNat gs
    if bits v 63 56 = 0x4B ∧ bits v 31 0 = 0x2D4BB4D2 then some (bits v 55 54) else none
  if pairsNat (blk.take 2) ≠ 9 then none
  else match read (blk.drop 2), read ((blk.drop 2).map grayInvert) with
    | some l, _ => some (l, false)
    | none, some l => some (l, true)
    | none, none => none

/-- One block of the bit-slip search: 64 blocks are checked at an offset, which moves by one symbol when a header was invalid (R301). -/
def RxLane.search (x : RxLane) (valid : Bool) : RxLane :=
  let bad := x.bad || !valid
  if x.checked + 1 < 64 then { x with checked := x.checked + 1, bad := bad }
  else if bad then { x with checked := 0, bad := false, slip := (x.slip + 1) % 34 }
  else { x with checked := 0, bad := false, framed := true, hist := [], clean := 0 }

/-- One block of a framed lane: its header counts (R322, R325), an ALIGN block is found or is due in slot 0 (R301, R322), and slot
16j + 15 says whether the 16 slots were a codeword (R306). -/
def RxLane.block (x : RxLane) (blk : List Nat) : RxLane :=
  let hdr := pairsNat (blk.take 2)
  let valid := hdrValid hdr
  let hist := ((!valid) :: x.hist).take 64
  let x := { x with hist := hist, clean := if valid then x.clean + 1 else 0, lost := x.lost || decide (8 ≤ hist.countP id) }
  match x.found with
  | none => match alignLane blk with
    | some a => { x with found := some a, slot := 1 }
    | none => x
  | some a =>
    let x := if x.slot = 0 ∧ alignLane blk ≠ some a then { x with lost := true } else x
    let x := if x.slot % 16 = 15 ∧ valid then { x with parity := hdr == 10 } else x
    { x with slot := (x.slot + 1) % 1024 }

/-- The 34 symbols of a slot: the lane after them, and whether a framed block had an invalid header (R297, R298). -/
def RxLane.take (x : RxLane) (syms : List Nat) : RxLane × Bool :=
  let gs := grayDecode x.prev syms
  let all := List.replicate (34 - x.hold.length) 0 ++ x.hold ++ gs
  let blk := (all.drop (if x.slip = 0 then 34 else x.slip)).take 34
  let x := { x with prev := syms.getLastD x.prev, hold := gs }
  let valid := hdrValid (pairsNat (blk.take 2))
  if x.framed then (x.block blk, !valid) else (x.search valid, false)

/-! ### Patterns (R327) -/

/-- A pattern symbol's bit pair and the generator after it; the state of a fresh generator is all ones. The stress pattern inverts its
symbols each time its register is back at all ones, which it is after 8,191 symbols (R327).
[DESIGN CHOICE, assumption 60] -/
def patPair (code s : Nat) : Nat × Nat :=
  match code with
  | 1 => prbs 7 [7, 6] 2 (if s = 0 then 127 else s)
  | 2 => prbs 15 [15, 14] 2 (if s = 0 then 32767 else s)
  | 3 => prbs 31 [31, 28] 2 (if s = 0 then 2147483647 else s)
  | _ =>
    let inv := s / 8192 % 2
    let (b, st) := prbs 13 [13, 12, 2, 1] 2 (if s % 8192 = 0 then 8191 else s % 8192)
    (if inv = 0 then b else 3 - b, (if st = 8191 then 1 - inv else inv) * 8192 + st)

/-- `n` bit pairs of a pattern, first one highest. -/
def patPairs (code : Nat) : Nat → Nat → Nat × Nat
  | 0, s => (0, s)
  | n + 1, s =>
    let (b, s) := patPair code s
    let (r, s) := patPairs code n s
    (b * 4 ^ n + r, s)

/-- The generator state that continues 68 received bits: the last bits are the register, and a stress pattern whose bits do not follow
its recurrence is in its inverted half (R327). -/
def patState (code v : Nat) : Nat :=
  match code with
  | 1 => v % 2 ^ 7
  | 2 => v % 2 ^ 15
  | 3 => v % 2 ^ 31
  | _ =>
    let inv := if (prbs 13 [13, 12, 2, 1] 55 (v / 2 ^ 55)).1 = v % 2 ^ 55 then 0 else 1
    let st := if inv = 0 then v % 8192 else 8191 - v % 8192
    (if st = 8191 then 1 - inv else inv) * 8192 + st

/-- The pattern checker of a lane of a port in TEST takes a slot: out of lock it follows the bits it receives, in lock it counts the
bits that differ from its own pattern (R327). -/
def Dev.checkLane (d : Dev) (p q : Nat) (syms : List Nat) : Dev :=
  let c := d.fget (LNK_PL_PAT.CHK p q)
  let x := d.rxLane p q
  let v := pairsNat (if d.bit (LNK_PL_PAT.PRECODE p q) then grayDecode x.prev syms else syms)
  let x := { x with prev := syms.getLastD x.prev }
  let (own, s) := patPairs c 34 x.chk
  if !patOn c then d.setRx p q x
  else if d.bit (LNK_PL_STAT.CHK_LOCK p q) then
    (d.setRx p q { x with chk := s }).satAdd (LNK_PL_PERR.ERRS p q) ((List.range 68).countP (fun i => bitAt (v ^^^ own) i))
  else d.setRx p q { x with chk := patState c v, agree := own == v }

/-! ### One slot of a lane -/

/-- The port receives in the mode its working lanes show (R306). -/
def Dev.rxModeSet (d : Dev) (p q : Nat) : Dev :=
  let x := d.rxLane p q
  match d.laneLogical p q with
  | some l =>
    if d.bit (LNK_PL_STAT.ALIGNED p q) && bitAt (d.fget (LNK_P_STAT.WLANES p)) l && x.found.isSome && x.slot % 16 == 0 then
      (d.setLink p { d.link p with rxMode := x.parity }).modeSettle p
    else d
  | none => d

/-- What a receive lane does with one slot. A lane that is not aligned and loses lock or frame searches again; one that is aligned waits
for its loss to be declared (R301, R322, R325). -/
def Dev.rxSlot (d : Dev) (p : Nat) (r : LaneRx) : Dev :=
  let q := r.lane.val
  let x := d.rxLane p q
  let aligned := d.bit (LNK_PL_STAT.ALIGNED p q)
  let syms := r.syms.map (·.val)
  if d.portState p ≠ portTest ∧ d.portState p ≠ portTrain ∧ !d.portUp p then d
  else if !r.lock then
    (d.fset (LNK_PL_STAT.LOCK p q) 0).setRx p q (if aligned then { x with lost := true } else {})
  else
    let d := d.fset (LNK_PL_STAT.LOCK p q) 1
    if d.portState p = portTest then d.checkLane p q syms
    else
      let (y, bad) := x.take syms
      let d := d.setRx p q (if y.lost && !aligned then {} else y)
      let d := if bad then d.satAdd (LNK_PL_STAT.HDR_ERR p q) 1 else d
      d.rxModeSet p q

end Sys2Proof.Machine
end

