-- ==== Sys2Proof/Machine/SlotOps.lean ====
section
/-! DEFINITION. One slot of a port: the block each lane sends (R298, R299, R308 to R313), its symbols (R297), and the patterns
of a port in TEST (R327). -/
namespace Sys2Proof.Machine

/-! ### Flits that start -/

/-- A flit with its header filled in and its CRC; an injected error inverts CRC bits, which ones the manual leaves open (R307,
R312, R313, R329). -/
def Dev.flitFill (d : Dev) (p : Nat) (f : BitVec 256) (seq : BitVec 10) : BitVec 256 × Dev :=
  let k := d.link p
  let two := decide (0 < k.owe2)
  let cred := min 15 (if two then k.owe2 else k.owe3)
  let ack := k.rxSeq - 1
  let v := putBits f.toNat 249 224
    (seq.toNat * 2 ^ 16 + ack.toNat * 2 ^ 6 + k.nakDue.toNat * 2 ^ 5 + (!two).toNat * 2 ^ 4 + cred)
  let g := withCrc (BitVec.ofNat 256 v)
  let d := d.setLink p { k with
    nakDue := false, ackDue := false, injFlit := false
    owe2 := if two then k.owe2 - cred else k.owe2
    owe3 := if two then k.owe3 else k.owe3 - cred }
  if k.injFlit then
    let (r, d) := d.draw
    (g ^^^ BitVec.ofNat 256 (max 1 (r.toNat % 65536)), d)
  else (g, d)

/-- Messages of a VC1 flit, packed from the top down: `w` bits each below bit 208. -/
def packMsgs (w : Nat) : Nat → List Nat → Nat
  | _, [] => 0
  | top, m :: ms => m * 2 ^ (top - w) + packMsgs w (top - w) ms

/-- The next VC1 flit: decisions, then sieve messages, then link triggers (R574). -/
def Dev.vc1Next (d : Dev) (p : Nat) : Option (BitVec 256 × Dev) :=
  let mk (type n body : Nat) : BitVec 256 := BitVec.ofNat 256 (2 ^ 254 + type * 2 ^ 250 + n * 2 ^ 222 + body)
  let dq := tget [] d.decq p
  let sq := tget [] d.sieveq p
  let tq := tget [] d.trigq p
  if !dq.isEmpty then
    let m := dq.take 2
    some (mk 1 m.length (packMsgs 96 208 (m.map (·.toNat))), { d with decq := tset [] d.decq p (dq.drop 2) })
  else if !sq.isEmpty then
    let m := sq.take 3
    some (mk 2 m.length (packMsgs 64 208 (m.map (·.toNat))), { d with sieveq := tset [] d.sieveq p (sq.drop 3) })
  else if !tq.isEmpty then
    let m := tq.take 3
    some (mk 3 m.length (packMsgs 64 208 (m.map (·.toNat))), { d with trigq := tset [] d.trigq p (tq.drop 3) })
  else none

/-- The next VC0 flit. -/
def Dev.vc0Next (d : Dev) (p : Nat) : Option (BitVec 256 × Dev) :=
  match (d.link p).vc0q with
  | [] => none
  | w :: ws => some (w.flit, d.setLink p { d.link p with vc0q := ws })

/-- A VC0 flit has waited 64 slots (R309). -/
def LinkSt.vc0Due (k : LinkSt) : Bool := match k.vc0q with | w :: _ => decide (64 ≤ w.age) | [] => false

/-- A duplicated flit starts, with its own sequence number. -/
def dupStart (p : Nat) (x : Option (BitVec 256 × Dev)) : Option (DupOut × Dev) :=
  x.map (fun (f, d') =>
    let seq := (d'.link p).dupSeq
    let (g, d') := d'.flitFill p f seq
    (⟨g, 0⟩, d'.setLink p { d'.link p with dupSeq := seq + 1 }))

/-- A VC2 or VC3 flit can start: one waits and has a credit (R313). -/
def LinkSt.can2 (k : LinkSt) : Bool := !k.vc2q.isEmpty && decide (0 < k.cred2)
def LinkSt.can3 (k : LinkSt) : Bool := !k.vc3q.isEmpty && decide (0 < k.cred3)

/-- A striped flit waits (R308): one in transmission, one to send again, or a new one. -/
def LinkSt.stripWaits (k : LinkSt) : Bool :=
  !k.strip.isEmpty || decide (k.resend < k.unacked.length) || (decide (k.unacked.length < 512) && (k.can2 || k.can3))

/-- The four quarters of a flit, bits [255:192] first. -/
def quarters (f : BitVec 256) : List (BitVec 64) := [3, 2, 1, 0].map (fun i => BitVec.ofNat 64 (f.toNat / 2 ^ (64 * i)))

/-- The next striped flit starts: one to send again, or a new one in the order of R309, or a NULL flit that carries an ACK, a
NAK or credits (R312, R313, Table 10-5). -/
def Dev.stripStart (d : Dev) (p : Nat) : Option Dev :=
  let k := d.link p
  let go (f : BitVec 256) (seq : BitVec 10) (d : Dev) : Dev :=
    let (g, d) := d.flitFill p f seq
    d.setLink p { d.link p with strip := quarters g }
  match k.unacked[k.resend]? with
  | some f => some (go f (flSeq f) (d.setLink p { k with resend := k.resend + 1 }))
  | none =>
    let new (f : BitVec 256) (k : LinkSt) : Option Dev :=
      let f := BitVec.ofNat 256 (putBits f.toNat 249 240 k.stSeq.toNat)
      let k := { k with stSeq := k.stSeq + 1, unacked := k.unacked ++ [f], resend := k.unacked.length + 1,
                        ackTk := if k.unacked.isEmpty then d.tk else k.ackTk }
      some (go f (flSeq f) (d.setLink p k))
    let idle : Option Dev :=
      if k.ackDue || k.nakDue || decide (0 < k.owe2 + k.owe3) then some (go (BitVec.ofNat 256 (3 * 2 ^ 254)) 0 d) else none
    if 512 ≤ k.unacked.length then idle
    else if k.can2 && (!k.can3 || decide (k.vc2Run < 3)) then
      match k.vc2q with
      | f :: fs => new f { k with vc2q := fs, cred2 := k.cred2 - 1, vc2Run := if k.can3 then k.vc2Run + 1 else 0 }
      | [] => idle
    else if k.can3 then
      match k.vc3q with
      | f :: fs => new f { k with vc3q := fs, cred3 := k.cred3 - 1, vc2Run := 0 }
      | [] => idle
    else idle

/-! ### Blocks -/

/-- A block from its header and payload. -/
def linkBlock (hdr : Nat) (payload : BitVec 64) : BitVec 68 := BitVec.ofNat 4 hdr ++ payload

/-- Lane `l` sends a block in this slot: it joins the FEC group, its payload is scrambled unless it is ALIGN, and its symbols
are formed (R297 to R299, R314). A block of LANE is corrupted once in EVERY, in bits the manual leaves open, and a lane whose loss
is forced sends nothing (R329). -/
def Dev.laneSend (d : Dev) (p l hdr : Nat) (payload : BitVec 64) (align : Bool) : Dev :=
  let k := d.link p
  let scr := if k.slot = 1 then 0x2AAAAAAA ^^^ l else tget 0 k.scr l
  let (key, scr') := scramble 64 scr
  let (pay, scr) := if align then (payload, scr) else (payload ^^^ BitVec.ofNat 64 key, scr')
  let every := d.fget (LNK_P_INJ.EVERY p)
  let counts := d.portUp p && decide (0 < every) && d.fget (LNK_P_INJ.LANE p) == l
  let hit := counts && decide (every ≤ k.everyCnt + 1)
  let (flip, d) := if hit then let (r, d) := d.draw; (BitVec.ofNat 64 (max 1 r.toNat), d) else (0#64, d)
  let b := linkBlock hdr (pay ^^^ flip)
  let (levels, pre) := levelsOf b.toNat 34 (tget 0 k.pre l)
  d.setLink p { k with
    scr := tset 0 k.scr l scr, pre := tset 0 k.pre l pre
    everyCnt := if hit then 0 else if counts then k.everyCnt + 1 else k.everyCnt
    group := tset [] k.group l (linkBlock hdr payload :: (tget [] k.group l).take 14)
    txBlocks := if bitAt k.txForced l then k.txBlocks else tset 0 k.txBlocks l b
    txLevels := if bitAt k.txForced l then k.txLevels else tset [] k.txLevels l levels }

/-- The ALIGN block of a lane (Table 10-2). -/
def alignBlock (l : Nat) (marker : BitVec 16) : BitVec 64 :=
  BitVec.ofNat 64 (0x4B * 2 ^ 56 + l * 2 ^ 54 + marker.toNat * 2 ^ 32 + 0x2D4BB4D2)

/-- The TRAIN block of a lane (Table 10-2). -/
def Dev.trainBlock (d : Dev) (p l : Nat) : BitVec 64 :=
  BitVec.ofNat 64 (0x1E * 2 ^ 56 + l * 2 ^ 54 + d.alignedMask p * 2 ^ 50 + (d.fget (LNK_P_CTL.PROT p)) * 2 ^ 49 +
    d.fplain.toNat * 2 ^ 48 + p * 2 ^ 45 + d.fget LNK_NODE.NODE * 2 ^ 29)

/-- The bytes of a FEC group's message: 15 blocks in transmission order and the parity block's header (R314). -/
def groupBytes (bs : List (BitVec 68)) : List Nat :=
  let v := bs.reverse.foldl (fun v b => v * 2 ^ 68 + b.toNat) 0 * 16 + 0xA
  (List.range 128).map (fun i => v / 2 ^ (8 * (127 - i)) % 256)

/-- The parity payload of a lane's group (R314). -/
def parityPayload (bs : List (BitVec 68)) : BitVec 64 :=
  BitVec.ofNat 64 ((rsParity (groupBytes (bs.take 15))).foldl (fun v b => v * 256 + b) 0)

/-- One lane of an UP port in a data slot: its pair's duplicated flit, the next quarter of a striped flit, or IDLE. `stop` keeps
new striped flits from starting. -/
def Dev.dataLane (d : Dev) (p l : Nat) (dup : Option DupOut) (stop : Bool) : Dev :=
  match dup with
  | some x => d.laneSend p l 5 ((quarters x.flit)[x.next]?.getD 0) false
  | none =>
    let d := if (d.link p).strip.isEmpty && !stop then (d.stripStart p).getD d else d
    match (d.link p).strip with
    | q :: qs => (d.setLink p { d.link p with strip := qs }).laneSend p l 6 q false
    | [] => d.laneSend p l 9 0 false

/-- A duplicated flit after one more quarter. -/
def DupOut.step (x : Option DupOut) : Option DupOut := x.bind (fun x => if x.next = 3 then none else some { x with next := x.next + 1 })

/-- Duplicated flits start on free pairs (R308, R309). -/
def Dev.dupFill (d : Dev) (p : Nat) (up4 : Bool) : Dev :=
  let k := d.link p
  let d := if k.dupA.isSome then d
    else
      let x := if up4 then d.vc1Next p
        else if k.vc0Due then (d.vc0Next p).orElse (fun _ => d.vc1Next p)
        else (d.vc1Next p).orElse (fun _ => d.vc0Next p)
      match dupStart p x with
      | some (o, d) => d.setLink p { d.link p with dupA := some o }
      | none => d
  let k := d.link p
  if !up4 || k.dupB.isSome then d
  else
    let x := (d.vc0Next p).orElse (fun _ => if k.stripWaits then none else d.vc1Next p)
    match dupStart p x with
    | some (o, d) => d.setLink p { d.link p with dupB := some o }
    | none => d

/-- A data slot of an UP port. -/
def Dev.dataSlot (d : Dev) (p : Nat) : Dev :=
  let k := d.link p
  let up4 := k.txLanes == 15
  let stop := !k.ctl.isEmpty
  let d := if stop then d else d.dupFill p up4
  let k := d.link p
  let low := (List.range 4).filter (fun l => bitAt k.txLanes l)
  let pairA := if up4 then [0, 1] else low.take 2
  let d := (List.range 4).foldl (fun d l =>
    if !bitAt k.txLanes l then d.laneSend p l 9 (d.trainBlock p l) false
    else d.dataLane p l (if pairA.contains l then k.dupA else if up4 then k.dupB else none) stop) d
  let k := d.link p
  let first (x : Option DupOut) : List (BitVec 256) := (x.toList.filter (fun y => y.next == 0)).map (·.flit)
  d.setLink p { k with dupA := DupOut.step k.dupA, dupB := if up4 then DupOut.step k.dupB else none
                       left := first k.dupA ++ first k.dupB }

/-- Every lane in `mask` sends one control or parity block, and every other working lane of TRAIN blocks keeps training. -/
def Dev.allLanes (d : Dev) (p mask hdr : Nat) (pay : Dev → Nat → BitVec 64) (align : Bool) : Dev :=
  (List.range 4).foldl (fun d l =>
    if bitAt mask l then d.laneSend p l hdr (pay d l) align
    else d.laneSend p l 9 (d.trainBlock p l) false) d

/-- The next slot of a control block, which waits until no flit is in transmission (R309); the placement of a SWITCH holds from
the next slot, and with it UP4 or UP3 (R323, R325). -/
def Dev.ctlSlot (d : Dev) (p : Nat) : Option Dev :=
  let k := d.link p
  match k.ctl with
  | [] => none
  | c :: cs =>
    let sw := laneOp c.payload laneSwitch
    if k.dupA.isSome || k.dupB.isSome || !k.strip.isEmpty then none
    else
      let mask := if sw then laneMask c.payload else k.txLanes
      let k := { k with ctl := if c.left ≤ 1 then cs else { c with left := c.left - 1 } :: cs
                        txLanes := mask }
      let d := (d.setLink p k).allLanes p mask 9 (fun _ _ => c.payload) false
      some (if sw then d.laneState p mask (d.fget (LNK_P_STAT.WLANES p)) else d)

/-- The 34 symbols of a pattern lane; an injected error inverts one bit of the first, which one the manual leaves open. -/
def Dev.patLane (d : Dev) (p q : Nat) : Dev :=
  let g := d.fget (LNK_PL_PAT.GEN p q)
  if !patOn g then d
  else
    let k := d.link p
    let (v, s) := patPairs g 34 (tget 0 k.gen q)
    let inj := k.inj1.contains q
    let (r, d) := if inj then d.draw else (0, d)
    let v := if inj then v ^^^ (2 ^ (66 + r.toNat % 2)) else v
    let (ls, pre) := if d.bit (LNK_PL_PAT.PRECODE p q) then levelsOf v 34 (tget 0 k.pre q) else (plainLevels v 34, tget 0 k.pre q)
    d.setLink p { k with gen := tset 0 k.gen q s, pre := tset 0 k.pre q pre, inj1 := k.inj1.filter (· != q)
                         txLevels := tset [] k.txLevels q ls }

/-- The DROP that leaves fewer than three working receive lanes has been sent: the port goes DOWN (R326). -/
def Dev.dropDown (d : Dev) (p : Nat) : Dev :=
  if d.portUp p && decide (lanes4 (d.fget (LNK_P_STAT.WLANES p)) < 3) && !(d.link p).ctl.any (fun c => laneOp c.payload laneDrop)
  then d.portDown p else d

/-- What a port sends in one slot (R298, R299, R309, R314, R327). -/
def Dev.slotSend (d : Dev) (p : Nat) : Dev :=
  let d := d.dropDown p
  let st := d.portState p
  let k := d.link p
  let d := d.setLink p { k with txBlocks := [], txLevels := [], left := [], upWait := k.upWait && k.slot != 1
                                vc0q := k.vc0q.map (fun w => { w with age := w.age + 1 }) }
  let next (d : Dev) : Dev :=
    let k := d.link p
    d.setLink p { k with slot := (k.slot + 1) % 1024, marker := if k.slot = 0 then k.marker + 1 else k.marker }
  if st = portTest then (List.range 4).foldl (fun d q => d.patLane p q) d
  else if st ≠ portTrain ∧ !d.portUp p then d
  else if k.slot = 0 then next (d.allLanes p 15 9 (fun _ l => alignBlock l k.marker) true)
  else if st = portTrain ∨ (k.upWait ∧ k.slot ≠ 1) then next (d.allLanes p 0 9 (fun _ _ => 0) false)
  else if k.txMode && k.slot % 16 == 15 then
    next (d.allLanes p k.txLanes 10 (fun d l => parityPayload (tget [] (d.link p).group l)) false)
  else next ((d.ctlSlot p).getD (d.dataSlot p))

end Sys2Proof.Machine
end

