-- ==== Sys2Proof/Machine/Link.lean ====
section
/-! DEFINITION. Meanings of the link-port commands (spec/10_link_ports.md). A command that stands for an event changes nothing
when the state says that event is not due. -/
namespace Sys2Proof.Machine

/-- PORT_ENABLE: a write of LNK_Pp_CTL (R300). -/
def execPortEnable (p : PortId) (v : W32) (s : State) : Host.Outcome State Fault Refusal :=
  .next (s.withDev fun d => d.wrLnkCtl p.val v)

/-- PORT_SOFT_RESET: a write of LNK_Pp_CTL (R514). -/
def execPortSoftReset (p : PortId) (v : W32) (s : State) : Host.Outcome State Fault Refusal :=
  .next (s.withDev fun d => d.wrLnkCtl p.val v)

/-- LANE_ALIGNED (R301, R302, R304, R325): the search of the lane has ended with this logical number, polarity and slip. -/
def execLaneAligned (p : PortId) (lane logical : LaneId) (inverted : Bool) (slip : Fin 34) (s : State) :
    Host.Outcome State Fault Refusal :=
  .next (s.withDev fun d => if (d.rxLane p.val lane.val).slip = slip.val then d.laneAligned p.val lane.val (logical.val, inverted) else d)

/-- TRAIN_TIMEOUT (R304). -/
def execTrainTimeout (p : PortId) (s : State) : Host.Outcome State Fault Refusal := .next (s.withDev fun d => d.trainTimeout p.val)

/-- RX_TRAIN_BLOCK (R304, R305). -/
def execRxTrainBlock (p : PortId) (payload : BitVec 64) (s : State) : Host.Outcome State Fault Refusal :=
  .next (s.withDev fun d => d.rxTrain p.val payload)

/-- RX_ALIGN_BLOCK (R303, R319, R322). -/
def execRxAlignBlock (p : PortId) (lane : LaneId) (payload : BitVec 64) (instant : BitVec 16) (s : State) :
    Host.Outcome State Fault Refusal :=
  .next (s.withDev fun d => d.rxAlign p.val lane.val payload instant)

/-- RX_IDLE_BLOCK: an IDLE block carries nothing (Table 10-2). -/
def execRxIdleBlock (_p : PortId) (_lane : LaneId) (s : State) : Host.Outcome State Fault Refusal := .next s

/-- LINK_MODE_CHANGE_REQUEST: this end's permission differs from the one it last announced (R306). -/
def execLinkModeChangeRequest (p : PortId) (s : State) : Host.Outcome State Fault Refusal :=
  .next (s.withDev fun d => if d.portUp p.val && d.linkAllow p.val != (d.link p.val).told then d.modeReq p.val else d)

/-- MODE_REQ_REPEAT: 1,024 slots without MODE_SET (R306). -/
def execModeReqRepeat (p : PortId) (s : State) : Host.Outcome State Fault Refusal :=
  .next (s.withDev fun d =>
    match (d.link p.val).reqTk with
    | some t => if d.portUp p.val && decide (t + 410 ≤ d.tk) then d.modeReq p.val else d
    | none => d)

/-- RX_MODE_REQ: answered with MODE_SET; the result holds from the next slot 0 (R306). -/
def execRxModeReq (p : PortId) (payload : BitVec 64) (s : State) : Host.Outcome State Fault Refusal :=
  .next (s.withDev fun d =>
    if d.portUp p.val && laneOp payload laneModeReq then
      let m := d.linkAllow p.val && laneMode payload
      let d := d.setLink p.val { d.link p.val with setMode := some m, peerProt := laneMode payload }
      d.ctlPush p.val (laneBlock laneModeSet 0 m) 3
    else d)

/-- RX_MODE_SET (R306). -/
def execRxModeSet (p : PortId) (payload : BitVec 64) (s : State) : Host.Outcome State Fault Refusal :=
  .next (s.withDev fun d =>
    if d.portUp p.val && laneOp payload laneModeSet then
      d.setLink p.val { d.link p.val with setMode := some (laneMode payload), reqTk := none }
    else d)

/-- LINK_MODE_SWITCH: at a transmitted slot 0, after a MODE_SET it owes has begun to leave, this end transmits in the new mode
(R306).
[DESIGN CHOICE, assumption 60] -/
def execLinkModeSwitch (p : PortId) (s : State) : Host.Outcome State Fault Refusal :=
  .next (s.withDev fun d =>
    let k := d.link p.val
    match k.setMode with
    | some m =>
      if d.portUp p.val && k.slot == 0 && !k.ctl.any (fun c => laneOp c.payload laneModeSet && c.left == 3) then
        (d.setLink p.val { k with setMode := none, txMode := m }).modeSettle p.val
      else d
    | none => d)

/-- LANE_LOSS_DETECT: the receiver has seen one of the three cases (R322). -/
def execLaneLossDetect (p : PortId) (lane : LaneId) (s : State) : Host.Outcome State Fault Refusal :=
  .next (s.withDev fun d => if (d.rxLane p.val lane.val).lost then d.laneLost p.val lane.val else d)

/-- LANE_DROP_REPEAT: 64 slots without a SWITCH that excludes the lane (R322). -/
def execLaneDropRepeat (p : PortId) (s : State) : Host.Outcome State Fault Refusal :=
  .next (s.withDev fun d =>
    let k := d.link p.val
    if d.portUp p.val && k.lost != 0 && decide (k.dropTk + 26 ≤ d.tk) then
      (d.setLink p.val { k with dropTk := d.tk }).ctlPush p.val (laneBlock laneDrop k.lost false) 3
    else d)

/-- RX_LANE_DROP (R323, R326). -/
def execRxLaneDrop (p : PortId) (payload : BitVec 64) (s : State) : Host.Outcome State Fault Refusal :=
  .next (s.withDev fun d => if laneOp payload laneDrop then d.rxDrop p.val (laneMask payload) else d)

/-- RX_LANE_SWITCH (R323, R325). -/
def execRxLaneSwitch (p : PortId) (payload : BitVec 64) (s : State) : Host.Outcome State Fault Refusal :=
  .next (s.withDev fun d => if laneOp payload laneSwitch then d.rxSwitch p.val (laneMask payload) else d)

/-- LANE_READY_SEND (R325). -/
def execLaneReadySend (p : PortId) (lane : LaneId) (s : State) : Host.Outcome State Fault Refusal :=
  .next (s.withDev fun d => d.laneReadySend p.val lane.val)

/-- RX_LANE_READY (R325). -/
def execRxLaneReady (p : PortId) (payload : BitVec 64) (s : State) : Host.Outcome State Fault Refusal :=
  .next (s.withDev fun d => if laneOp payload laneReady then d.rxReady p.val (laneMask payload) else d)

/-- DUPLICATED_FLIT_RECEIVE: the flit taken is kept, and its messages are delivered (R310, R311). -/
def execDuplicatedFlitReceive (p : PortId) (lower upper : BitVec 256) (s : State) : Host.Outcome State Fault Refusal :=
  .next (s.withDev fun d => d.duplicated p.val s.clk.now.toNat lower upper)

/-- STRIPED_FLIT_ERROR (R312). -/
def execStripedFlitError (p : PortId) (flit : BitVec 256) (s : State) : Host.Outcome State Fault Refusal :=
  .next (s.withDev fun d => d.stripedError p.val flit)

/-- NAK_REPEAT: 256 slots without the expected flit (R312). -/
def execNakRepeat (p : PortId) (s : State) : Host.Outcome State Fault Refusal :=
  .next (s.withDev fun d =>
    let k := d.link p.val
    match k.naking with
    | some t => if d.portUp p.val && decide (t + 103 ≤ d.tk) then d.setLink p.val { k with naking := some d.tk, nakDue := true } else d
    | none => d)

/-- NAK_RECEIVE: replay from ACK + 1 (R312). -/
def execNakReceive (p : PortId) (ack : BitVec 10) (s : State) : Host.Outcome State Fault Refusal :=
  .next (s.withDev fun d =>
    if d.portUp p.val then
      d.replay p.val (match (d.link p.val).unacked.findIdx? (fun u => flSeq u == ack) with | some i => i + 1 | none => 0)
    else d)

/-- REPLAY_TIMEOUT: ACK has not advanced for 4,096 slots (R312). -/
def execReplayTimeout (p : PortId) (s : State) : Host.Outcome State Fault Refusal :=
  .next (s.withDev fun d =>
    let k := d.link p.val
    if d.portUp p.val && !k.unacked.isEmpty && decide (k.ackTk + 1639 ≤ d.tk) then d.replay p.val 0 else d)

/-- FEC_CODEWORD (R314). -/
def execFecCodeword (p : PortId) (lane : LaneId) (codeword : List Byte) (s : State) : Host.Outcome State Fault Refusal :=
  .next (s.withDev fun d => d.fecCodeword p.val lane.val codeword)

/-- BAD_FLIT: a flit of an undefined VC and TYPE (R310). -/
def execBadFlit (p : PortId) (flit : BitVec 256) (s : State) : Host.Outcome State Fault Refusal :=
  .next (s.withDev fun d =>
    if d.portUp p.val && crcOk flit && !flDefined flit then
      let d := if d.stripedOk p.val flit then (d.stripedAccept p.val flit).creditBack p.val flit else d
      d.lnkGerr LNK_GERR.BADTYPE
    else d)

/-- ROUTE_FORWARD: a READ, WRITE or OUT flit, next in order (R315, R317). A NULL flit has a header only. -/
def execRouteForward (p : PortId) (flit : BitVec 256) (s : State) : Host.Outcome State Fault Refusal :=
  .next (s.withDev fun d =>
    if d.portUp p.val && crcOk flit && flVc flit == 3 && flType flit == 0 then d.hdrRx p.val flit
    else if d.stripedOk p.val flit && ((flVc flit == 2 && (flType flit == 1 || flType flit == 2)) || (flVc flit == 3 && flType flit == 1))
    then (d.stripedAccept p.val flit).routeOut p.val flit else d)

/-- RETURN_FORWARD: a COMPLETION or BACK flit, next in order (R316, R317). -/
def execReturnForward (p : PortId) (flit : BitVec 256) (s : State) : Host.Outcome State Fault Refusal :=
  .next (s.withDev fun d =>
    if d.stripedOk p.val flit && ((flVc flit == 2 && flType flit == 3) || (flVc flit == 3 && flType flit == 2))
    then (d.stripedAccept p.val flit).routeBack p.val flit else d)

/-- PAT_WRITE (R327, R328). -/
def execPatWrite (p : PortId) (lane : LaneId) (v : W32) (s : State) : Host.Outcome State Fault Refusal :=
  .next (s.withDev fun d => d.wrPat p.val lane.val v)

/-- INJECT_FLIT: a write of LNK_Pp_INJ (R329). -/
def execInjectFlit (p : PortId) (v : W32) (s : State) : Host.Outcome State Fault Refusal := .next (s.withDev fun d => d.wrInj p.val v)

/-- INJECT_LANE_DROP: a write of LNK_Pp_INJ (R329). -/
def execInjectLaneDrop (p : PortId) (v : W32) (s : State) : Host.Outcome State Fault Refusal :=
  .next (s.withDev fun d => d.wrInj p.val v)

/-- PATTERN_CHECKER_SYNC: a checker of a port in TEST has found its pattern (R327). -/
def execPatternCheckerSync (p : PortId) (lane : LaneId) (s : State) : Host.Outcome State Fault Refusal :=
  .next (s.withDev fun d =>
    if d.portState p.val = portTest ∧ patOn (d.fget (LNK_PL_PAT.CHK p.val lane.val)) ∧ (d.rxLane p.val lane.val).agree then
      d.fset (LNK_PL_STAT.CHK_LOCK p.val lane.val) 1 else d)

/-- SLOT: what each lane received and what each lane sends; SYNC and DREQ flits that leave are stamped (R297, R298, R309, R318). -/
def execSlot (p : PortId) (s : State) (rx : List LaneRx := []) : Host.Outcome State Fault Refusal :=
  let s := s.withDev fun d => (rx.foldl (fun d r => d.rxSlot p.val r) d).slotSend p.val
  .next ((s.dev.link p.val).left.foldl (fun s f => s.vc0Left p.val f) s)

end Sys2Proof.Machine
end

