-- ==== Sys2Proof/Machine/RillOps.lean ====
section
/-! DEFINITION. What the rill-network commands share (spec/12_rill_event_network.md): owners (R372 to R374), relay cycles (R370),
and the routing registers' writes. -/
namespace Sys2Proof.Machine

/-- The loader in LOAD (R372). -/
def Dev.loaderInLoad (d : Dev) (a : Auth) : Bool := a == .loader && d.mode == .load

/-- The OWNER code of an authority (R372): the loader has firmware authority. -/
def ownCode : Auth → Nat
  | .host => 1
  | _ => 0

/-- OWNER of a rill.
[DEDUCED, assumption 74] -/
def Dev.rillOwner (d : Dev) (r : Nat) : Nat := d.fget (RIL_RL.OWNER r)

/-- A refused write of a routing register: REG code `reg`, index `i`; cause 0 is ROUTE_CYCLE, 1 is OWN_BAD (R370, R372). -/
def Dev.rillRefuse (d : Dev) (cause reg i : Nat) : Dev :=
  let d := d.flag (if cause = 0 then RIL_ERR.ROUTE_CYCLE else RIL_ERR.OWN_BAD)
  let d := if d.bit RIL_ERRINFO.VALID then d
    else (((d.flag RIL_ERRINFO.VALID).fset RIL_ERRINFO.CAUSE cause).fset RIL_ERRINFO.REG reg).fset RIL_ERRINFO.INDEX i
  d.raiseRilErr

/-- An enabled source or task input names the rill. -/
def Dev.rillUsed (d : Dev) (r : Nat) : Bool :=
  d.regs.any (fun e =>
    (decide (RIL_SRC.off 0 ≤ e.1) && decide (e.1 < RIL_SRC.off 1024) && (RIL_SRC.EN 0).of e.2 == 1 && (RIL_SRC.RILL 0).of e.2 == r) ||
    (decide (RIL_TASK.off 0 ≤ e.1) && decide (e.1 < RIL_TASK.off 512) && (RIL_TASK.EN 0).of e.2 == 1 && (RIL_TASK.RILL 0).of e.2 == r))

/-- A write of RIL_RLr (R372, R373).
[DEDUCED, assumption 74] -/
def Dev.wrRl (d : Dev) (a : Auth) (r : Nat) (v : W32) : Dev :=
  let o := d.rillOwner r
  let o' := (RIL_RL.OWNER r).of v
  let sec := (RIL_RL.SEC r).of v == 1
  let ld := d.loaderInLoad a
  let ok :=
    if ld && (o == 2 || o' == 2) then (o' == 2) == sec && (o == 3 || o == 0 || o == 2)
    else if o == 3 then o' == 3 || o' == ownCode a
    else if o == 2 then false
    else o == ownCode a && (o' == o || (o' == 3 && !d.rillUsed r && (RIL_RL.MSI_EN r).of v == 0))
  if !ok then d.rillRefuse 1 0 r
  else
    let v := if ld && (o == 2 || o' == 2) then v else (RIL_RL.SEC r).put v (d.fget (RIL_RL.SEC r))
    d.writeCodes (RIL_RL.off r) v ld

/-- A rill may be named by an authority in RIL_SRCs or RIL_TASKi (R372). -/
def Dev.mayName (d : Dev) (a : Auth) (r : Nat) : Bool :=
  let o := d.rillOwner r
  if o = 2 then d.loaderInLoad a else o == ownCode a

/-- Relay tasks reached from relay source `a` in one hop. -/
def Dev.relayHop (d : Dev) (a : Nat) : List Nat :=
  if d.bit (RIL_SRC.EN (992 + a)) then
    (List.range 32).filter (fun b => d.bit (RIL_TASK.EN (480 + b)) && d.fget (RIL_TASK.RILL (480 + b)) == d.fget (RIL_SRC.RILL (992 + a)))
  else []

/-- Relay tasks reached from a set in up to `n` hops. -/
def Dev.relayReach (d : Dev) : Nat → List Nat → List Nat
  | 0, s => s
  | n + 1, s => d.relayReach n ((s.flatMap d.relayHop).foldl (fun l b => insNat b l) s)

/-- Some relay task reaches itself through relay tasks alone (R370). -/
def Dev.relayCycle (d : Dev) : Bool := (List.range 32).any (fun a => (d.relayReach 31 (d.relayHop a)).contains a)

/-- A write of RIL_SRCs (R364, R370 to R372). -/
def Dev.wrSrc (d : Dev) (a : Auth) (s : Nat) (v : W32) : Dev :=
  if srcReserved s then d
  else
    let ok := d.mayName a ((RIL_SRC.RILL s).of v) && (!d.bit (RIL_SRC.EN s) || d.mayName a (d.fget (RIL_SRC.RILL s)))
    if !ok then d.rillRefuse 1 1 s
    else
      let n := d.writeCodes (RIL_SRC.off s) v
      let n := if n.bit (RIL_SRC.EN s) then n.fset (RIL_SRC.GUARDED s) 0 else n
      if 992 ≤ s ∧ n.relayCycle then d.rillRefuse 0 1 s else n

/-- R374: the rills some task inputs accept. -/
def Dev.taskAccepts (d : Dev) (i r : Nat) : Bool :=
  if (352 ≤ i ∧ i ≤ 415) ∨ (252 ≤ i ∧ i ≤ 255) ∨ (284 ≤ i ∧ i ≤ 287) then d.rillOwner r == 0
  else if 448 ≤ i ∧ i ≤ 479 then d.bit (RIL_RL.SEC r)
  else true

/-- A write of RIL_TASKi (R367, R369, R370, R372, R374). -/
def Dev.wrTask (d : Dev) (a : Auth) (i : Nat) (v : W32) : Dev :=
  if taskReserved i then d
  else
    let r := (RIL_TASK.RILL i).of v
    let ok := d.taskAccepts i r && d.mayName a r && (!d.bit (RIL_TASK.EN i) || d.mayName a (d.fget (RIL_TASK.RILL i)))
    if !ok then d.rillRefuse 1 2 i
    else
      let n := d.writeCodes (RIL_TASK.off i) v
      let n := if 480 ≤ i then n.fset (RIL_TASK.COAL i) 0 else n
      if 480 ≤ i ∧ n.relayCycle then d.rillRefuse 0 2 i else n

/-- A write of RIL_SWRAISE0 (`hi` false) or RIL_SWRAISE1 (R378). -/
def Dev.wrSwRaise (d : Dev) (hi : Bool) (v : W32) : Dev :=
  (List.range 32).foldl (fun d k => if bitAt v.toNat k then d.raise (960 + (if hi then 32 else 0) + k) else d) d

/-- A new guard window (R371). -/
def Dev.guardWindow (d : Dev) : Dev := if d.guardWin < d.xtal / 25 then { d with guardCnt := [], guardWin := d.xtal / 25 } else d

/-- Relay task `k` passes one event on (R369). -/
def Dev.relayTask (d : Dev) (k : Nat) : Dev :=
  let t := tget {} d.tasks (480 + k)
  if t.arr.isEmpty then d
  else ({ d with tasks := tset {} d.tasks (480 + k) { t with arr := t.arr.drop 1 } } : Dev).raise (992 + k)

/-- What the host authority reads of a routing register of a secure rill is 0 (R373).
[DESIGN CHOICE, assumption 78] -/
def Dev.rillHidden (d : Dev) (off : Nat) : Bool :=
  if RIL_RL.off 0 ≤ off ∧ off < RIL_RL.off 256 then (RIL_RL.SEC 0).of (d.reg off) == 1
  else if (RIL_SRC.off 0 ≤ off ∧ off < RIL_SRC.off 1024) ∨ (RIL_TASK.off 0 ≤ off ∧ off < RIL_TASK.off 512) then
    d.bit (RIL_RL.SEC ((RIL_SRC.RILL 0).of (d.reg off)))
  else false

end Sys2Proof.Machine
end

