-- ==== Sys2Proof/Machine/Rill.lean ====
section
/-! DEFINITION. Meanings of the rill-network commands that route and relay (spec/12_rill_event_network.md). The firing of tasks is
in `Machine/Task.lean`. -/
namespace Sys2Proof.Machine

/-- GUARD_WINDOW_END (R371). -/
def execGuardWindowEnd (s : State) : Host.Outcome State Fault Refusal := .next (s.withDev fun d => d.guardWindow)

/-- RELAY_TASK (R369). -/
def execRelayTask (k : Fin 32) (s : State) : Host.Outcome State Fault Refusal := .next (s.withDev fun d => d.relayTask k.val)

/-- RILL_ROUTE_WRITE (R372). -/
def execRillRouteWrite (auth : Auth) (r : Fin 256) (v : W32) (s : State) : Host.Outcome State Fault Refusal :=
  .next (s.withDev fun d => d.wrRl auth r.val v)

/-- RIL_SRC_WRITE (R370, R372). -/
def execRilSrcWrite (auth : Auth) (src : SourceId) (v : W32) (s : State) : Host.Outcome State Fault Refusal :=
  .next (s.withDev fun d => d.wrSrc auth src.val v)

/-- RIL_TASK_WRITE (R370, R372, R374). -/
def execRilTaskWrite (auth : Auth) (i : TaskId) (v : W32) (s : State) : Host.Outcome State Fault Refusal :=
  .next (s.withDev fun d => d.wrTask auth i.val v)

/-- SOFTWARE_RAISE (R378). -/
def execSoftwareRaise (hi : Bool) (v : W32) (s : State) : Host.Outcome State Fault Refusal :=
  .next (s.withDev fun d => d.wrSwRaise hi v)

end Sys2Proof.Machine
end

