-- ==== Sys2Proof/Machine/Witness.lean ====
section
/-! DEFINITION. Meanings of the witness commands (spec/09_witness_pool_and_triggers.md). -/
namespace Sys2Proof.Machine

/-- ACQ_RUN: a write of ACQ_CTL (R275). -/
def execAcqRun (v : W32) (s : State) : Host.Outcome State Fault Refusal :=
  .next (s.withDev fun d => d.wrAcqCtl v s.clk.now.toNat)

/-- ICMASK_WRITE (R276). -/
def execIcmaskWrite (v : W32) (s : State) : Host.Outcome State Fault Refusal := .next (s.withDev fun d => d.wrIcmask v)

/-- POOL_PERIOD_WRITE: the oldest complete period is due (R277, R293). -/
def execPoolPeriodWrite (s : State) : Host.Outcome State Fault Refusal :=
  .next (s.withDev fun d =>
    match d.wit.ready with
    | p :: rest => if p.dueTk ≤ d.tk then d.periodWrite p rest else d
    | [] => d)

/-- TRIGGER_ARM: a write of TUn_CTL (R282, R290). -/
def execTriggerArm (u : UnitId) (v : W32) (s : State) : Host.Outcome State Fault Refusal :=
  .next (s.withDev fun d => d.wrTuCtl u.val v s.clk.now.toNat)

/-- TRIGGER_DISARM: a write of TUn_CTL (R288, R290). -/
def execTriggerDisarm (u : UnitId) (v : W32) (s : State) : Host.Outcome State Fault Refusal :=
  .next (s.withDev fun d => d.wrTuCtl u.val v s.clk.now.toNat)

/-- TRIGGER_DECISION (R283). -/
def execTriggerDecision (u : UnitId) (s : State) : Host.Outcome State Fault Refusal :=
  .next (s.withDev fun d => d.tuDecide u.val s.clk.now.toNat)

/-- LATE_TRIGGER (R284). -/
def execLateTrigger (u : UnitId) (s : State) : Host.Outcome State Fault Refusal :=
  .next (s.withDev fun d => d.tuLate u.val s.clk.now.toNat)

/-- LINK_TRIGGER_RECEIVE (R285): port `p` delivers a link trigger. -/
def execLinkTriggerReceive (_p : PortId) (trig : BitVec 64) (s : State) : Host.Outcome State Fault Refusal :=
  .next (s.withDev fun d => d.witLink trig s.clk.now.toNat)

/-- CAPTURE_WINDOW_TRUNC (R288). -/
def execCaptureWindowTrunc (u : UnitId) (s : State) : Host.Outcome State Fault Refusal :=
  .next (s.withDev fun d => d.tuLimit u.val s.clk.now.toNat)

/-- CAPTURE_RECORD_WRITE (R291). -/
def execCaptureRecordWrite (u : UnitId) (s : State) : Host.Outcome State Fault Refusal :=
  .next (s.withDev fun d => d.recordWrite u.val s.clk.now.toNat)

/-- REC_RD_WRITE (R292). -/
def execRecRdWrite (v : W32) (s : State) : Host.Outcome State Fault Refusal := .next (s.withDev fun d => d.wrRecRd v)

/-- PRD_WRITE (R295). -/
def execPrdWrite (v : W32) (s : State) : Host.Outcome State Fault Refusal := .next (s.withDev fun d => d.wrPrd v)

/-- POOL_STREAM_READ: a read of BAR4 (R295). -/
def execPoolStreamRead (off : Fin 0x4000000) (len : Nat) (s : State) : Host.Outcome State Fault Refusal :=
  .next (s.withDev fun d => let (bs, d) := d.poolRead off.val len; d.retBytes bs)

end Sys2Proof.Machine
end

