-- ==== Sys2Proof/Machine/MemOps.lean ====
section
/-! DEFINITION. Accesses to the memory windows BAR2 and BAR4 (R38 to R41, R571) and to the memories the DMA engine reaches
(R349). -/
namespace Sys2Proof.Machine

/-- The parts of BAR2 (Table 01-4). -/
inductive Bar2Part where
  | step (n : Nat) | shape (q : Nat) | capture (i : Nat) | weight (i : Nat) | result (i : Nat) | reserved
  deriving DecidableEq, Repr

/-- The part of BAR2 an offset lies in, and the offset behind that part. -/
def bar2Part (off : Nat) : Bar2Part × Nat :=
  if off < 0x3000000 then (.step (off / 0x40000), (off / 0x40000 + 1) * 0x40000)
  else if off < 0x4000000 then (.reserved, 0x4000000)
  else if off < 0x4100000 then (.shape ((off - 0x4000000) / 0x40000), (off / 0x40000 + 1) * 0x40000)
  else if off < 0x5000000 then (.reserved, 0x5000000)
  else if off < 0x5080000 then (.capture ((off - 0x5000000) / 0x4000), (off / 0x4000 + 1) * 0x4000)
  else if off < 0x6000000 then (.reserved, 0x6000000)
  else if off < 0x6200000 then (.weight ((off - 0x6000000) / 0x10000), (off / 0x10000 + 1) * 0x10000)
  else if off < 0x8000000 then (.reserved, 0x8000000)
  else if off < 0x9000000 then (.result ((off - 0x8000000) / 0x80000), (off / 0x80000 + 1) * 0x80000)
  else (.reserved, 0x20000000)

/-- The channel domain a part belongs to. -/
def Bar2Part.domain : Bar2Part → Option Nat
  | .step n => some n
  | .capture i | .weight i | .result i => some (192 + i)
  | .shape _ | .reserved => none

/-- Whether any byte of a BAR2 range is reserved. -/
def bar2Reserved : Nat → Nat → Nat → Bool
  | 0, _, _ => false
  | fuel + 1, off, len =>
    if len = 0 then false
    else
      let (p, stop) := bar2Part off
      if p = .reserved then true else if off + len ≤ stop then false else bar2Reserved fuel stop (off + len - stop)

/-- A write into one part of BAR2 (R41): each memory by its own rules. -/
def Dev.partWrite (d : Dev) (p : Bar2Part) (off : Nat) (bs : List Byte) : Dev :=
  match p with
  | .step n => d.stepStore n (off - 0x40000 * n) bs
  | .shape _ | .weight _ => d.lateBytes (bar2Base + off) bs
  | .capture _ => d.wrBytes (bar2Base + off) bs
  | .result _ | .reserved => d

/-- A read from one part of BAR2. -/
def Dev.partRead (d : Dev) (p : Bar2Part) (off len : Nat) : List Byte × Dev :=
  match p with
  | .result i => d.rbRead i (off - 0x8000000 - 0x80000 * i) len
  | .reserved => (List.replicate len 0, d)
  | _ => (d.rdBytes (bar2Base + off) len, d)

/-- A write of a BAR2 range within one part: reserved ranges are recorded (R40); a domain that is off drops it, recorded for a
host-port or relayed access (R571, R340); one that rehydrates drops it with REHY_BUSY (R424). -/
def Dev.bar2Chunk (d : Dev) (host : Bool) (p : Bar2Part) (off : Nat) (bs : List Byte) (loader : Bool) : Dev :=
  match p.domain with
  | some n => if !host && !d.domOn n && !loader then d else d.domWrite n 3 off (fun d => d.partWrite p off bs) loader
  | none => if p = .reserved then d.mapErr 1 off else d.partWrite p off bs

/-- A write of a BAR2 range, part by part. -/
def Dev.bar2Write (d : Dev) (host : Bool) (loader : Bool) : Nat → Nat → List Byte → Dev
  | 0, _, _ => d
  | fuel + 1, off, bs =>
    if bs.isEmpty ∨ 0x20000000 ≤ off then d
    else
      let (p, stop) := bar2Part off
      (d.bar2Chunk host p off (bs.take (stop - off)) loader).bar2Write host loader fuel stop (bs.drop (stop - off))

/-- A read of a BAR2 range, part by part (R40, R571). -/
def Dev.bar2Read (d : Dev) (host : Bool) : Nat → Nat → Nat → List Byte × Dev
  | 0, _, _ => ([], d)
  | fuel + 1, off, len =>
    if len = 0 ∨ 0x20000000 ≤ off then ([], d)
    else
      let (p, stop) := bar2Part off
      let n := min len (stop - off)
      let (bs, d) :=
        if p = .reserved then (List.replicate n (0 : Byte), d.mapErr 1 off)
        else match p.domain with
          | some k => if d.domOn k then d.partRead p off n
              else (List.replicate n (0 : Byte), if host then d.mapErr 3 off else d)
          | none => d.partRead p off n
      let (rest, d) := d.bar2Read host fuel stop (len - n)
      (bs ++ rest, d)

/-! ### The spaces of a DMA address (R349) -/

/-- LSP: BAR2, BAR4, descriptor memory, management memory. -/
def lspSize : Nat → Nat
  | 0 => 0x20000000
  | 1 => 0x4000000
  | 2 => 0x8000
  | 3 => 0x800000
  | _ => 0

/-- The descriptor memory in BAR0 (R348). -/
def descBase : Nat := 0x58000

/-- The memories behind BAR0 that a host may write: descriptor memory (R348), MSI-X table (R337), flash buffer (R419). -/
def bar0Writable (off : Nat) : Bool :=
  (decide (descBase ≤ off) && decide (off < descBase + 0x8000)) || (decide (msixBase ≤ off) && decide (off < msixBase + 0x1000)) ||
    (decide (flBufBase ≤ off) && decide (off < flBufBase + 0x100))

/-- A DMA write into a space (R340, R352). -/
def Dev.spaceWrite (d : Dev) (lsp off : Nat) (bs : List Byte) : Dev :=
  match lsp with
  | 0 => d.bar2Write false false 4 off bs
  | 1 => d.wrBytes (bar4Base + off) bs
  | 2 => d.wrBytes (descBase + off) bs
  | _ => d.wrBytes (mgmtBase + off) bs

/-- A DMA read of whole 64-byte lines from a space, cut to the range asked for (R352). -/
def Dev.spaceRead (d : Dev) (lsp off len : Nat) : List Byte × Dev :=
  let lo := off / 64 * 64
  let n := (off + len + 63) / 64 * 64 - lo
  let (bs, d) := match lsp with
    | 0 => d.bar2Read false 4 lo n
    | 1 => d.poolRead lo n
    | 2 => (d.rdBytes (descBase + lo) n, d)
    | _ => (d.rdBytes (mgmtBase + lo) n, d)
  ((bs.drop (off - lo)).take len, d)

end Sys2Proof.Machine
end

