-- ==== Sys2Proof/Machine/DmaOps.lean ====
section
/-! DEFINITION. What the DMA and host-port commands share (spec/11_host_port_and_dma.md): descriptors and their checks (R348 to
R350), bursts (R352), remote bursts (R356 to R358), ends of a channel (R355, R359 to R362) and the host port's resets (R335, R560). -/
namespace Sys2Proof.Machine

/-! ### Channels and descriptors -/

def Dev.dma (d : Dev) (c : Nat) : DmaCh := tget {} d.dmas c
def Dev.setDma (d : Dev) (c : Nat) (x : DmaCh) : Dev := { d with dmas := tset {} d.dmas c x }

/-- The codes of DMA_Cc_STAT.STATE and CAUSE. -/
def dmaRun : Nat := 1
def dmaWaitreq : Nat := 2
def dmaDone : Nat := 3
def dmaStopped : Nat := 4
def dmaFault : Nat := 5
def causeLoop : Nat := 1
def causeNoresp : Nat := 2
def causeDescBad : Nat := 3
def causeCplErr : Nat := 4
def causePoison : Nat := 5
def causeAbort : Nat := 6

/-- Fields of a descriptor's word 3 (Table 11-5). -/
def Desc.ssp (x : Desc) : Nat := bits x.ctl 63 62
def Desc.dsp (x : Desc) : Nat := bits x.ctl 61 60
def Desc.nsp (x : Desc) : Bool := bitAt x.ctl 59
def Desc.ridx (x : Desc) : Nat := bits x.ctl 58 55
def Desc.wreq (x : Desc) : Bool := bitAt x.ctl 54
def Desc.irq (x : Desc) : Bool := bitAt x.ctl 53
def Desc.last (x : Desc) : Bool := bitAt x.ctl 52
def Desc.len (x : Desc) : Nat := bits x.ctl 12 0

/-- The space codes of SSP and DSP. -/
def spHost : Nat := 0
def spLocal : Nat := 1
def spRemote : Nat := 2

/-- LSP and OFFSET of a local or remote address (R349). -/
def lsp (a : Nat) : Nat := bits a 35 32
def lspOff (a : Nat) : Nat := bits a 31 0

/-- The four words of a descriptor. -/
def Desc.ofNat (w : Nat) : Desc := { src := bits w 63 0, dst := bits w 127 64, next := bits w 191 128, ctl := bits w 255 192 }

/-- Whether a channel may name an address in a space (R349, R350). -/
def addrBad (c sp a len : Nat) : Bool :=
  if sp = spLocal then bits a 63 36 != 0 || decide (lspSize (lsp a) < lspOff a + len) || (lsp a == 3 && decide (c < 28))
  else if sp = spRemote then bits a 63 36 != 0 || decide (2 < lsp a)
  else false

/-- RLEN and the entries of a route register pair. -/
def Dev.routeLen (d : Dev) (r : Nat) : Nat := d.fget (DMA_ROUTE_HI.RLEN r)

/-- A descriptor is refused (R350).
[DESIGN CHOICE, assumption 76] -/
def Dev.descBad (d : Dev) (c : Nat) (x : Desc) : Bool :=
  x.ssp == 3 || x.dsp == 3 || (x.ssp == spRemote && x.dsp == spRemote) || x.len == 0 || decide (4096 < x.len) ||
  bits x.ctl 51 13 != 0 || addrBad c x.ssp x.src x.len || addrBad c x.dsp x.dst x.len ||
  ((x.ssp == spRemote || x.dsp == spRemote) && (!d.bit (DMA_ROUTE_HI.EN x.ridx) || d.routeLen x.ridx == 0)) ||
  (!x.last && x.next % 32 != 0)

/-- A channel's state shows. -/
def Dev.dmaState (d : Dev) (c st cause : Nat) : Dev := (d.fset (DMA_C_STAT.STATE c) st).fset (DMA_C_STAT.CAUSE c) cause

/-- A channel is at work. -/
def Dev.dmaBusy (d : Dev) (c : Nat) : Bool := (d.dma c).phase != .idle

/-- A channel ends without fault. -/
def Dev.dmaEnd (d : Dev) (c st : Nat) : Dev := (d.setDma c {}).dmaState c st 0

/-- The memory address of an offset of a space (R349). -/
def spaceAddr (lsp off : Nat) : Nat :=
  match lsp with
  | 0 => bar2Base + off
  | 1 => bar4Base + off
  | 2 => descBase + off
  | _ => mgmtBase + off

/-- A byte of a local space that a DMA write may reach. -/
def Dev.spaceOpen (d : Dev) (lsp off : Nat) : Bool :=
  lsp != 0 || (match (bar2Part off).1 with
    | .result _ | .reserved => false
    | p => (p.domain.map d.domOn).getD true)

/-- A descriptor in progress writes into a local range that holds address `a`. -/
def Dev.dmaSpoils (d : Dev) (c a : Nat) : Bool :=
  let x := d.dma c
  (x.phase == .read || x.phase == .wrote) && x.desc.dsp == spLocal &&
    decide (spaceAddr (lsp x.desc.dst) (lspOff x.desc.dst) ≤ a) &&
    decide (a < spaceAddr (lsp x.desc.dst) (lspOff x.desc.dst) + x.desc.len)

/-- The destination bytes of the descriptor in progress are undefined (R355, R360, R362; free values, assumption 5).
[DESIGN CHOICE, assumption 76] -/
def Dev.dmaSpoil (d : Dev) (c : Nat) : Dev :=
  let x := d.dma c
  if (x.phase = .read ∨ x.phase = .wrote) ∧ x.desc.dsp = spLocal then
    (List.range x.desc.len).foldl (fun (d : Dev) i =>
      let off := lspOff x.desc.dst + i
      let (v, d) := d.draw
      if d.spaceOpen (lsp x.desc.dst) off then d.wr8 (spaceAddr (lsp x.desc.dst) off) (v.setWidth 8) else d) d
  else d

/-- A channel ends in FAULT: FADDR holds the descriptor, source 577 + 2c rises (R350, R355, R359, R360, R362). -/
def Dev.dmaFaultEnd (d : Dev) (c cause : Nat) : Dev :=
  let a := (d.dma c).addr
  let d := if cause = causeLoop ∨ cause = causeDescBad then d else d.dmaSpoil c
  let d := ((d.setDma c {}).fset (DMA_C_FADDR_LO.FADDR_LO c) a).fset (DMA_C_FADDR_HI.FADDR_HI c) (a / 2 ^ 32)
  (d.dmaState c dmaFault cause).raise (577 + 2 * c)

/-- A descriptor fetch, to be issued to host memory or from the descriptor memory (R351). -/
def Dev.dmaFetch (d : Dev) (c addr : Nat) (local_ : Bool) : Dev :=
  (d.setDma c { phase := .fetch, addr := addr, local_ := local_, backs := (d.dma c).backs
                todo := if local_ then [] else [{ addr := addr, len := 32 }] }).dmaState c dmaRun 0

/-- START (R355). -/
def Dev.dmaStart (d : Dev) (c : Nat) : Dev :=
  if d.dmaBusy c then d
  else
    let d := ((d.fset (DMA_C_HOPS.HOPS c) 0).fset (DMA_C_FADDR_LO.FADDR_LO c) 0).fset (DMA_C_FADDR_HI.FADDR_HI c) 0
    let d := d.fset (DMA_C_FCNT.FCNT c) 0
    d.dmaFetch c (d.fget (DMA_C_DESC_LO.DESC_LO c) + 2 ^ 32 * d.fget (DMA_C_DESC_HI.DESC_HI c)) (d.bit (DMA_C_CFG.NSP0 c))

/-- STOP (R355): at once when no descriptor is in progress.
[DESIGN CHOICE, assumption 76] -/
def Dev.dmaStop (d : Dev) (c : Nat) : Dev :=
  let x := d.dma c
  match x.phase with
  | .idle => d
  | .fetch | .waitreq => d.dmaEnd c dmaStopped
  | _ => d.setDma c { x with stop := true }

/-- ABORT (R355).
[DESIGN CHOICE, assumption 76] -/
def Dev.dmaAbort (d : Dev) (c : Nat) : Dev := if d.dmaBusy c then d.dmaFaultEnd c causeAbort else d

/-- The host writes only the registers of DC0 to DC27 (R347). -/
def dmaOpen (a : Auth) (c : Nat) : Bool := a != .host || decide (c < 28)

/-- A write of DMA_Cc_CTL (R355). -/
def Dev.wrDmaCtl (d : Dev) (a : Auth) (c : Nat) (v : W32) : Dev :=
  if !dmaOpen a c then d
  else
    let d := if (DMA_C_CTL.START c).of v = 1 then d.dmaStart c else d
    let d := if (DMA_C_CTL.STOP c).of v = 1 then d.dmaStop c else d
    if (DMA_C_CTL.ABORT c).of v = 1 then d.dmaAbort c else d

/-- A write of DMA_Cc_CFG: a request line above 225 leaves REQ (Table 11-6). -/
def Dev.wrDmaCfg (d : Dev) (a : Auth) (c : Nat) (v : W32) : Dev :=
  if !dmaOpen a c then d
  else d.writeCodes (DMA_C_CFG.off c) (if 225 < (DMA_C_CFG.REQ c).of v then (DMA_C_CFG.REQ c).put v (d.fget (DMA_C_CFG.REQ c)) else v)

/-- A write of another register of a channel (R347). -/
def Dev.wrDmaReg (d : Dev) (a : Auth) (c off : Nat) (v : W32) : Dev := if dmaOpen a c then d.writeCodes off v else d

/-! ### Remote flits (R356) -/

/-- The route bits of a flit from its two registers: RLEN, RPOS 0, entries. -/
def routeBits (rlen e0 e1 : Nat) : Nat :=
  (List.range 14).foldl (fun w i =>
    w + (if i < 10 then bits e0 (3 * i + 2) (3 * i) else bits e1 (3 * (i - 10) + 2) (3 * (i - 10))) * 2 ^ (197 - 3 * i)) (rlen * 2 ^ 204)

/-- A VC3 flit: type, route bits in place, channel, FIRST, LAST, valid bytes and data (Table 10-5). -/
def vc3Flit (type route chan : Nat) (first last : Bool) (valid data : Nat) : BitVec 256 :=
  BitVec.ofNat 256 (3 * 2 ^ 254 + type * 2 ^ 250 + route + chan * 2 ^ 153 + first.toNat * 2 ^ 152 + last.toNat * 2 ^ 151 +
    (valid - 1) * 2 ^ 146 + data % 2 ^ 128)

/-- Fields of a VC3 flit. -/
def v3Chan (f : BitVec 256) : Nat := bits f.toNat 157 153
def v3First (f : BitVec 256) : Bool := bitAt f.toNat 152
def v3Last (f : BitVec 256) : Bool := bitAt f.toNat 151
def v3Valid (f : BitVec 256) : Nat := bits f.toNat 149 146 + 1
def v3Data (f : BitVec 256) : Nat := bits f.toNat 127 0
def v3Bytes (f : BitVec 256) : List Byte := leBytes (v3Valid f) (v3Data f)
/-- The route bits of a flit, in place. -/
def rtBits (f : BitVec 256) : Nat := bits f.toNat 207 158 * 2 ^ 158

/-- Bytes as data flits of 16, the last with LAST (R356, R358). -/
def dataFlits (type route chan : Nat) : Nat → List Byte → List (BitVec 256)
  | 0, _ => []
  | fuel + 1, bs =>
    let h := bs.take 16
    let t := bs.drop 16
    vc3Flit type route chan false t.isEmpty h.length (leNat h) :: (if t.isEmpty then [] else dataFlits type route chan fuel t)

/-- The address word of a remote address; its OFFSET field holds 30 bits (R344, R356).
[DESIGN CHOICE, assumption 76] -/
def remoteWord (a : Nat) : Nat :=
  match lsp a with
  | 0 => 2 ^ 30 + lspOff a % 2 ^ 30
  | 1 => 2 * 2 ^ 30 + lspOff a % 2 ^ 30
  | _ => (descBase + lspOff a) % 2 ^ 30

/-- The route of a descriptor, in place. -/
def Dev.descRoute (d : Dev) (x : Desc) : Nat :=
  routeBits (d.routeLen x.ridx) (d.fget (DMA_ROUTE_LO.E0_9 x.ridx)) (d.fget (DMA_ROUTE_HI.E10_13 x.ridx))

/-- The header of a remote burst (R356). -/
def Dev.remoteHeader (d : Dev) (c : Nat) (x : Desc) (addr : Nat) (read : Bool) : BitVec 256 :=
  vc3Flit 1 (d.descRoute x) c true read 16 (remoteWord addr % 2 ^ 32 * 2 ^ 96 + (x.len - 1) * 2 ^ 84 + read.toNat * 2 ^ 83)

/-! ### Requests to host memory (R351, R354) -/

/-- The pieces of a range between multiples of `m`. -/
def chunks (m : Nat) : Nat → Nat → Nat → List (Nat × Nat)
  | 0, _, _ => []
  | fuel + 1, lo, hi =>
    if hi ≤ lo then []
    else
      let e := min hi ((lo / m + 1) * m)
      (lo, e - lo) :: chunks m fuel e hi

/-- The reads of a burst from host memory: whole 64-byte lines, each of at most 512 bytes or Max Read Request Size, none across 4 KiB
(R351, R352, R354).
[DESIGN CHOICE, assumption 76] -/
def Dev.hostReads (d : Dev) (a n : Nat) : List HostReq :=
  (chunks (min 512 (128 * 2 ^ d.fget PCI_STAT.MRRS)) 40 (a / 64 * 64) ((a + n + 63) / 64 * 64)).map
    (fun e => { addr := e.1, len := e.2 })

/-- The writes of bytes to host memory: each of at most 512 bytes or Max Payload Size, none across 4 KiB (R351, R354).
[DESIGN CHOICE, assumption 76] -/
def Dev.hostWrites (d : Dev) (a : Nat) (bs : List Byte) : List HostReq :=
  (chunks (min 512 (128 * 2 ^ d.fget PCI_STAT.MPS)) 40 a (a + bs.length)).map
    (fun e => { addr := e.1, len := e.2, bytes := some ((bs.drop (e.1 - a)).take e.2) })

/-- The engine reads back the last byte it wrote before a descriptor is complete, also when a STOP ends the chain with it (R341,
R355). -/
def Dev.readBack (d : Dev) (c : Nat) (x : DmaCh) : Bool := x.desc.irq || x.desc.last || d.fget (DMA_C_CFG.REQ c) != 0 || x.stop

/-- The last write to host memory is issued: the descriptor is complete, or its read-back is to be issued (R341). -/
def Dev.dmaWritten (d : Dev) (c : Nat) : Dev :=
  let x := d.dma c
  if x.phase ≠ .read ∨ x.desc.dsp ≠ spHost ∨ x.moved ≠ x.desc.len ∨ !x.todo.isEmpty then d
  else if d.readBack c x then
    d.setDma c { x with phase := .back, todo := [{ addr := (x.desc.dst + x.desc.len - 1) / 4 * 4, len := 4 }] }
  else d.setDma c { x with phase := .wrote }

/-- The tags in use: reads outstanding, and reads given up whose tags are held (Table 11-1, R361). -/
def Dev.tagsUsed (d : Dev) : Nat := (d.dmas.map (fun e => e.2.out.length)).sum + d.lateReads.length

/-- A channel issues its next request to host memory. -/
def Dev.dmaIssue (d : Dev) (c : Nat) : Dev :=
  let x := d.dma c
  match x.todo with
  | [] => d
  | r :: rs =>
    match r.bytes with
    | some bs => ({ d with hostWr := [(r.addr, bs)], dmaLast := c } : Dev).setDma c { x with todo := rs } |>.dmaWritten c
    | none =>
      if 256 ≤ d.tagsUsed then d
      else ({ d with dmaLast := c } : Dev).setDma c { x with todo := rs, out := x.out ++ [{ r with issued := d.tk }] }

/-- The channel served next: those of high priority first, round robin from the one served last (R354). -/
def Dev.dmaNext (d : Dev) : Option Nat :=
  let ready := ((List.range 32).map (fun i => (d.dmaLast + 1 + i) % 32)).filter (fun c => !(d.dma c).todo.isEmpty)
  (ready.find? (fun c => d.bit (DMA_C_CFG.PRI c))).orElse (fun _ => ready.head?)

/-- An error that AER reports (R331, Table 11-2). -/
def Dev.aerNote (d : Dev) (e : AerErr) : Dev :=
  if d.pci.aer.contains e then d else { d with pci := { d.pci with aer := d.pci.aer ++ [e] } }

/-- Tags held longer than the PCI Express completion timeout are free again (R361).
[DESIGN CHOICE, assumption 76] -/
def Dev.tagsExpire (d : Dev) : Dev :=
  let held := d.lateReads.filter (fun t => decide (d.tk < t + Config.cplTimeout d.pci.cplTo))
  if held.length = d.lateReads.length then d else ({ d with lateReads := held } : Dev).aerNote .completionTimeout

/-- The engine issues one request to host memory a tick, for `n` ticks.
[DESIGN CHOICE, assumption 76] -/
def Dev.dmaServe (d : Dev) (n : Nat) : Dev :=
  (List.range n).foldl (fun d _ => match d.dmaNext with | some c => d.dmaIssue c | none => d) d.tagsExpire

/-! ### Running a descriptor -/

/-- A descriptor runs: the reads of its source are to be issued, and its remote header goes out (R352, R356). -/
def Dev.dmaGo (d : Dev) (c : Nat) : Dev :=
  let x := d.dma c
  let remote := x.desc.dsp = spRemote
  let d := (d.setDma c { x with
    phase := .read, moved := 0, got := [], status := false, out := []
    todo := if x.desc.ssp = spHost then d.hostReads x.desc.src x.desc.len else []
    remTk := if x.desc.ssp = spRemote then some d.tk else none
    backs := if remote then x.backs ++ [d.tk] else x.backs }).dmaState c dmaRun 0
  if x.desc.ssp = spRemote then d.routeOut 7 (d.remoteHeader c x.desc x.desc.src true)
  else if remote then d.routeOut 7 (d.remoteHeader c x.desc x.desc.dst false)
  else d

/-- A request line (Table 11-6). -/
def Dev.reqLine (d : Dev) (r : Nat) : Bool :=
  if 1 ≤ r ∧ r ≤ 192 then !(d.eng (r - 1)).refill.isEmpty
  else if 193 ≤ r ∧ r ≤ 224 then d.bit (IC_STATUS.RB_REQ (r - 193))
  else if r = 225 then d.poolRequest
  else false

/-- A fetched descriptor is checked, and runs or waits (R350, R353). -/
def Dev.descHeld (d : Dev) (c : Nat) (w : Nat) : Dev :=
  let x := d.dma c
  let desc := Desc.ofNat w
  let d := d.setDma c { x with desc := desc, out := [] }
  if d.descBad c desc then d.dmaFaultEnd c causeDescBad
  else if desc.wreq then (d.setDma c { d.dma c with phase := .waitreq }).dmaState c dmaWaitreq 0
  else d.dmaGo c

/-- A fetch that has been issued is answered: by host memory, or by the descriptor memory, beyond whose end no descriptor lies (R350).
A descriptor whose address is not a multiple of 32 is free (R11, R348).
[DESIGN CHOICE, assumption 5] -/
def Dev.descFetched (d : Dev) (c : Nat) (host : BitVec 256) : Dev :=
  let x := d.dma c
  if x.phase ≠ .fetch ∨ (!x.local_ ∧ x.out.isEmpty) then d
  else if x.addr % 32 ≠ 0 then
    let (w, d) := (List.range 4).foldl (fun (a : Nat × Dev) _ => let (v, d) := a.2.draw; (a.1 * 2 ^ 64 + v.toNat, d)) (0, d)
    d.descHeld c w
  else if x.local_ then d.descHeld c (if x.addr + 32 ≤ 0x8000 then d.rdLe (descBase + x.addr) 32 else 0)
  else d.descHeld c host.toNat

/-- Channels whose descriptor has yet to run sample their request lines as a tick ends (R353).
[DESIGN CHOICE, assumption 76] -/
def Dev.dmaSense (d : Dev) : Dev :=
  { d with dmas := d.dmas.map fun e =>
      (e.1, if e.2.phase = .fetch ∨ e.2.phase = .waitreq then { e.2 with lineWas := d.reqLine (d.fget (DMA_C_CFG.REQ e.1)) } else e.2) }

/-- The line of a waiting descriptor is active, and was as the last tick ended (R353).
[DESIGN CHOICE, assumption 76] -/
def Dev.dmaSeen (d : Dev) (c : Nat) : Dev :=
  let x := d.dma c
  if x.phase = .waitreq ∧ x.lineWas ∧ d.reqLine (d.fget (DMA_C_CFG.REQ c)) then
    (d.setDma c { x with lineWas := false }).dmaGo c
  else d

/-- A DMA write into a space, and the bytes that have reached a memory, which stand on this tick (R340). -/
def Dev.dmaWrite (d : Dev) (lsp off : Nat) (bs : List Byte) : Dev :=
  let d := d.spaceWrite lsp off bs
  let landed := ((List.range bs.length).zip bs).filterMap (fun e =>
    let a := spaceAddr lsp (off + e.1)
    if d.spaceOpen lsp (off + e.1) && (lateAt a || d.rd8 a == e.2) then some (a, e.2) else none)
  { d with dmaTick := d.dmaTick ++ landed }

/-- Source bytes go to the destination, from where the last ones ended (R341, R352, R356). -/
def Dev.dmaMove (d : Dev) (c : Nat) (bs : List Byte) : Dev :=
  let x := d.dma c
  let bs := bs.take (x.desc.len - x.moved)
  let at_ := x.desc.dst + x.moved
  let all := x.moved + bs.length == x.desc.len
  let x := { x with moved := x.moved + bs.length }
  if x.desc.dsp = spRemote then
    if all then
      let phase := if d.readBack c x ∧ !x.backs.isEmpty then .sent else .wrote
      let d := d.setDma c { x with phase := phase, got := [] }
      (dataFlits 1 (d.descRoute x.desc) c 4096 (x.got ++ bs)).foldl (fun d f => d.routeOut 7 f) d
    else d.setDma c { x with got := x.got ++ bs }
  else if x.desc.dsp = spHost then d.setDma c { x with todo := x.todo ++ d.hostWrites at_ bs }
  else
    let d := d.dmaWrite (lsp at_) (lspOff at_) bs
    d.setDma c { x with phase := if all then .wrote else .read }

/-- The bytes of an answer to a host read that lie in the source range: `a` is the address of the first one. -/
def Desc.cut (x : Desc) (a : Nat) (bs : List Byte) : List Byte := (bs.take (x.src + x.len - a)).drop (x.src - a)

/-- Read data returns: from host memory with a completion status, for the read issued first, or from a local memory (R352, R362). In the
read-back of R341 a bad status ends the channel too. -/
def Dev.dmaReturn (d : Dev) (c : Nat) (st : CplStatus) (host : List Byte) : Dev :=
  let x := d.dma c
  match x.out with
  | r :: rs =>
    match st with
    | .poisoned => (d.aerNote .poisonedTlp).dmaFaultEnd c causePoison
    | .ur => (d.aerNote .unsupportedRequest).dmaFaultEnd c causeCplErr
    | .ca => (d.aerNote .completerAbort).dmaFaultEnd c causeCplErr
    | .ok =>
      let bs := host.take r.len
      let out := if bs.length = r.len then rs else { r with addr := r.addr + bs.length, len := r.len - bs.length } :: rs
      match x.phase with
      | .read => (d.setDma c { x with out := out }).dmaMove c (x.desc.cut r.addr bs)
      | .back => d.setDma c { x with out := out, phase := if out.isEmpty then .wrote else .back }
      | _ => d
  | [] =>
    if x.phase ≠ .read ∨ x.desc.ssp ≠ spLocal ∨ x.moved ≠ 0 then d
    else
      let (bs, d) := d.spaceRead (lsp x.desc.src) (lspOff x.desc.src) x.desc.len
      d.dmaMove c bs

/-- A descriptor is complete (R341, R355, R359): completion is raised, then the chain ends, stops or goes on. -/
def Dev.dmaComplete (d : Dev) (c : Nat) : Dev :=
  let x := d.dma c
  if x.phase ≠ .wrote then d
  else
    let d := d.satAdd (DMA_C_FCNT.FCNT c) x.desc.len
    let d := if x.desc.irq || x.desc.last then d.raise (576 + 2 * c) else d
    if x.stop then d.dmaEnd c dmaStopped
    else if x.desc.last then d.dmaEnd c dmaDone
    else
      let lim := d.fget (DMA_C_HOPLIM.LIMIT c)
      if lim ≠ 0 ∧ d.fget (DMA_C_HOPS.HOPS c) = lim then d.dmaFaultEnd c causeLoop
      else (d.wrapInc (DMA_C_HOPS.HOPS c)).dmaFetch c x.desc.next x.desc.nsp

/-- The issue ticks of what a channel awaits an answer to: host reads and fetches, a remote read's status, remote writes (R360). -/
def DmaCh.awaits (x : DmaCh) : List Nat := x.out.map (·.issued) ++ x.remTk.toList ++ x.backs

/-- No answer within 2,048 tk of its issue; the tags of the reads unanswered stay held (R360, R361). -/
def Dev.dmaNoresp (d : Dev) (c : Nat) : Dev :=
  let x := d.dma c
  if d.dmaBusy c && x.awaits.any (fun t => decide (t + 2048 ≤ d.tk)) then
    ({ d with lateReads := d.lateReads ++ x.out.map (fun r => r.issued) } : Dev).dmaFaultEnd c causeNoresp
  else d

/-- A completion of a read given up: counted and dropped while its tag is held, and unexpected otherwise (R331, R361). -/
def Dev.dmaLate (d : Dev) : Dev :=
  let d := d.tagsExpire
  match d.lateReads with
  | [] => d.aerNote .unexpectedCompletion
  | _ :: ts => { d with lateReads := ts }.satAdd DMA_LATECPL.LATE 1

/-! ### Remote bursts at their target and back (R357, R358) -/

/-- SPACE and OFFSET of an address word (R344). -/
def adSpace (a : Nat) : Nat := bits a 31 30
def adOff (a : Nat) : Nat := bits a 29 0

/-- Status of a remote burst: refused, in a reserved range, or done (R357, Table 11-4). -/
def burstStatus (a len : Nat) : Nat :=
  match adSpace a with
  | 0 => if descBase ≤ adOff a ∧ adOff a + len ≤ descBase + 0x8000 then 0 else 2
  | 1 => if 0x20000000 < adOff a + len then 2 else if bar2Reserved 4 (adOff a) len then 1 else 0
  | 2 => if 0x4000000 < adOff a + len then 2 else 0
  | _ => 2

/-- LSP and offset at the target. -/
def burstSpace (a : Nat) : Nat × Nat :=
  match adSpace a with
  | 0 => (2, adOff a - descBase)
  | 1 => (0, adOff a)
  | _ => (1, adOff a)

/-- A BACK status flit.
[DESIGN CHOICE, assumption 76] -/
def backStatus (f : BitVec 256) (st : Nat) (last : Bool) : BitVec 256 := vc3Flit 2 (rtBits f) (v3Chan f) true last 1 st

/-- A remote write is whole: performed, its status returned (R358).
[DESIGN CHOICE, assumption 76] -/
def Dev.remotePerform (d : Dev) (arr : Nat) (f : BitVec 256) (x : RemIn) : Dev :=
  let st := burstStatus x.addr x.len
  let d := if st = 2 then d else let (s, o) := burstSpace x.addr; d.dmaWrite s o (x.bytes.take x.len)
  d.replySend arr (backStatus f st true)

/-- A remote read is performed: status, then data unless refused (R358). -/
def Dev.remoteRead (d : Dev) (arr : Nat) (f : BitVec 256) (a len : Nat) : Dev :=
  let st := burstStatus a len
  if st = 2 then d.replySend arr (backStatus f st true)
  else
    let (s, o) := burstSpace a
    let (bs, d) := d.spaceRead s o len
    (dataFlits 2 (rtBits f) (v3Chan f) 4096 bs).foldl (fun d g => d.replySend arr g) (d.replySend arr (backStatus f st false))

/-- An OUT flit delivered here, the next of its port (R356, R358). -/
def Dev.remoteOut (d : Dev) (arr : Nat) (f : BitVec 256) : Dev :=
  if !(flVc f == 3 && flType f == 1 && d.inbox.find? (fun x => x.1 == arr && flVc x.2 == 3 && flType x.2 == 1) == some (arr, f))
  then d
  else
    let d := d.inboxTake arr f
    let key := 32 * arr + v3Chan f
    if v3First f then
      let a := bits (v3Data f) 127 96
      let len := bits (v3Data f) 95 84 + 1
      if bitAt (v3Data f) 83 then ({ d with remotes := tdel d.remotes key } : Dev).remoteRead arr f a len
      else { d with remotes := tput d.remotes key { addr := a, len := len } }
    else match d.remotes.find? (fun e => e.1 == key) with
      | none => d
      | some (_, x) =>
        let x := { x with bytes := x.bytes ++ v3Bytes f }
        if v3Last f then ({ d with remotes := tdel d.remotes key } : Dev).remotePerform arr f x
        else { d with remotes := tput d.remotes key x }

/-- A BACK flit delivered here, the next of its port (R358, R360).
[DESIGN CHOICE, assumption 76] -/
def Dev.remoteBack (d : Dev) (f : BitVec 256) : Dev :=
  match d.inbox.find? (fun e => e.2 == f) with
  | none => d
  | some (arr, _) =>
    if !(flVc f == 3 && flType f == 2 &&
        d.inbox.find? (fun x => x.1 == arr && flVc x.2 == 3 && flType x.2 == 2) == some (arr, f)) then d
    else
      let d := d.inboxTake arr f
      let c := v3Chan f
      let x := d.dma c
      let reading := x.phase == .read && x.desc.ssp == spRemote
      if v3First f then
        let st := v3Data f % 256
        if !(reading || !x.backs.isEmpty) then d
        else if 1 < st then d.dmaFaultEnd c causeCplErr
        else if reading && !v3Last f then d.setDma c { x with status := true, remTk := none }
        else
          let backs := x.backs.drop 1
          d.setDma c { x with backs := backs, phase := if x.phase = .sent ∧ backs.isEmpty then .wrote else x.phase }
      else if reading && x.status then
        let x := { x with got := x.got ++ v3Bytes f }
        if v3Last f then (d.setDma c { x with got := [] }).dmaMove c x.got else d.setDma c x
      else d

/-! ### The host port -/

/-- The PCI and DMA blocks return to default (R335): their registers, the descriptor memory, the MSI-X table and PBA.
[DESIGN CHOICE, assumption 75] -/
def Dev.hostReset (d : Dev) : Dev :=
  let link := [PCI_STAT.DL_UP, PCI_STAT.SPEED, PCI_STAT.WIDTH].map (fun f => (f, d.fget f))
  let d := (d.resetRegs 0x50000 0x60000 (fun _ => true)).resetRegs 0xB0000 0xC0000 (fun _ => true)
  let d := (d.clearMem descBase 0x8000).clearMem msixBase 0x1000
  let d : Dev := { d with dmas := [], rlyTk := [], pba := [], pci := {} }
  link.foldl (fun d x => d.fset x.1 x.2) d

/-- Host-owned channels end as by ABORT, and busy relay slots with status 0xFE (R335).
[DESIGN CHOICE, assumption 75] -/
def Dev.hostAbort (d : Dev) : Dev :=
  let d := (List.range 28).foldl Dev.dmaAbort d
  (List.range 16).foldl (fun d s =>
    if d.fget (PCI_RLY_CTL.STATE s) = 1 then (d.fset (PCI_RLY_CTL.STATE s) 3).fset (PCI_RLY_CTL.STATUS s) 0xFE else d) d

/-- The host port's link comes up or goes down; it stays down in SLEEP and while PERST_N is asserted (R333, R418, R560).
[DESIGN CHOICE, assumption 78] -/
def Dev.hostLink (d : Dev) (up : Bool) (speed width : Nat) (cfg : PcieCfg) : Dev :=
  let up := up && d.mode != .sleep && !d.perstLow
  let d := cfg.errors.foldl Dev.aerNote d
  let d := ((d.fsetB PCI_STAT.DL_UP up).fset PCI_STAT.SPEED (if up then speed else 0)).fset PCI_STAT.WIDTH (if up then width else 0)
  if up then
    let base (x : BitVec 64) (size : Nat) : BitVec 64 := BitVec.ofNat 64 (x.toNat / size * size)
    let d : Dev := { d with pci := { d.pci with
      bar0 := base cfg.bar0 0x2000000, bar2 := base cfg.bar2 0x20000000, bar4 := base cfg.bar4 0x4000000
      cplTo := cfg.cplTo, d3hot := cfg.d3hot, aspmL1 := cfg.aspmL1 } }
    ((d.fset PCI_STAT.MPS cfg.mps).fset PCI_STAT.MRRS cfg.mrrs).fsetB PCI_STAT.TAG10 cfg.tag10
  else d

/-- The fields of the configuration header that the manual gives. -/
inductive HeaderField where
  | vendorId | deviceId | classCode | bar (k : Fin 6)
  deriving DecidableEq, Repr

/-- What a field of the configuration header reads as (R333, R334): a base address register pair holds its address and its kind, 64-bit,
prefetchable for BAR2 and BAR4. -/
def Dev.pciHeader (d : Dev) (f : HeaderField) : Nat :=
  match f with
  | .vendorId => Config.vendorId.toNat
  | .deviceId => 0x4192
  | .classCode => 0x120000
  | .bar k =>
    let b := match k.val / 2 with | 0 => d.pci.bar0.toNat + 4 | 1 => d.pci.bar2.toNat + 12 | _ => d.pci.bar4.toNat + 12
    b / 2 ^ (32 * (k.val % 2)) % 2 ^ 32

/-- A pending unmasked vector sends its message while the link is up (R337, R375).
[PRESUMED, assumption 16] -/
def Dev.msixSend (d : Dev) (v : Nat) : Dev :=
  let e := msixBase + 16 * v
  if d.pba.contains v && d.bit PCI_STAT.DL_UP && d.mode != .sleep && d.rdLe (e + 12) 4 % 2 == 0 then
    { d with pba := d.pba.filter (· != v), msixSent := some (v, d.rdLe e 8, d.rdLe (e + 8) 4) }
  else d

end Sys2Proof.Machine
end

