-- ==== Sys2Proof/Machine/Dma.lean ====
section
/-! DEFINITION. Meanings of the host-port and DMA commands (spec/11_host_port_and_dma.md), but for the register relay, which is in
`Machine/Relay.lean`. A command that stands for an event changes nothing when the state says that event is not due. -/
namespace Sys2Proof.Machine

/-- DMA_START: a write of DMA_Cc_CTL (R355). -/
def execDmaStart (auth : Auth) (c : ChanId) (v : W32) (s : State) : Host.Outcome State Fault Refusal :=
  .next (s.withDev fun d => d.wrDmaCtl auth c.val v)

/-- DMA_STOP: a write of DMA_Cc_CTL (R355). -/
def execDmaStop (auth : Auth) (c : ChanId) (v : W32) (s : State) : Host.Outcome State Fault Refusal :=
  .next (s.withDev fun d => d.wrDmaCtl auth c.val v)

/-- DMA_ABORT: a write of DMA_Cc_CTL (R355). -/
def execDmaAbort (auth : Auth) (c : ChanId) (v : W32) (s : State) : Host.Outcome State Fault Refusal :=
  .next (s.withDev fun d => d.wrDmaCtl auth c.val v)

/-- DESCRIPTOR_FETCH (R350, R351, R353). -/
def execDescriptorFetch (c : ChanId) (hostData : BitVec 256) (s : State) : Host.Outcome State Fault Refusal :=
  .next (s.withDev fun d => d.descFetched c.val hostData)

/-- DMA_REQUEST_SEEN (R353). -/
def execDmaRequestSeen (c : ChanId) (s : State) : Host.Outcome State Fault Refusal := .next (s.withDev fun d => d.dmaSeen c.val)

/-- DMA_READ_RETURN (R352, R362). -/
def execDmaReadReturn (c : ChanId) (status : CplStatus) (hostData : List Byte) (s : State) : Host.Outcome State Fault Refusal :=
  .next (s.withDev fun d => d.dmaReturn c.val status hostData)

/-- DMA_DESCRIPTOR_COMPLETE (R341, R359). -/
def execDmaDescriptorComplete (c : ChanId) (s : State) : Host.Outcome State Fault Refusal :=
  .next (s.withDev fun d => d.dmaComplete c.val)

/-- DMA_NORESP (R360). -/
def execDmaNoresp (c : ChanId) (s : State) : Host.Outcome State Fault Refusal := .next (s.withDev fun d => d.dmaNoresp c.val)

/-- LATE_COMPLETION (R361): the tag is the host port's own. -/
def execLateCompletion (_tag : Nat) (s : State) : Host.Outcome State Fault Refusal := .next (s.withDev fun d => d.dmaLate)

/-- REMOTE_OUT_RECEIVE (R357, R358). -/
def execRemoteOutReceive (p : PortId) (flit : BitVec 256) (s : State) : Host.Outcome State Fault Refusal :=
  .next (s.withDev fun d => d.remoteOut p.val flit)

/-- REMOTE_BACK_RECEIVE (R358). -/
def execRemoteBackReceive (flit : BitVec 256) (s : State) : Host.Outcome State Fault Refusal :=
  .next (s.withDev fun d => d.remoteBack flit)

/-- MSIX_MESSAGE_SEND (R375). -/
def execMsixMessageSend (vec : Fin 256) (s : State) : Host.Outcome State Fault Refusal :=
  .next (s.withDev fun d => d.msixSend vec.val)

/-- FUNCTION_LEVEL_RESET (R335).
[DESIGN CHOICE, assumption 75] -/
def execFunctionLevelReset (s : State) : Host.Outcome State Fault Refusal := .next (s.withDev fun d => d.hostAbort.hostReset)

/-- PERST (R560): asserted it holds the host port in reset. -/
def execPerst (asserted : Bool) (s : State) : Host.Outcome State Fault Refusal :=
  .next (s.withDev fun d =>
    if asserted then ({ d.hostAbort.hostReset with perstLow := true } : Dev).hostLink false 0 0 {}
    else { d with perstLow := false })

/-- HOST_PORT_LINK_CHANGE, with what the host's configuration writes leave in force and the errors the port meets (R331, R333, R334,
R418). -/
def execHostPortLinkChange (up : Bool) (speed : Fin 6) (width : BitVec 4) (s : State) (cfg : PcieCfg := {}) :
    Host.Outcome State Fault Refusal :=
  .next (s.withDev fun d => d.hostLink up speed.val width.toNat cfg)

end Sys2Proof.Machine
end

