-- ==== Sys2Proof/Machine/BbxOps.lean ====
section
/-! DEFINITION. The sediment record (R525 to R533): its ring, freezing to the eNVM, and the SAFE causes of R534. -/
namespace Sys2Proof.Machine

/-! ### CRC-32 of R429 -/

/-- One bit of the reflected CRC-32. -/
def crc32Bit (c : Nat) : Nat := if c % 2 = 1 then (c / 2) ^^^ 0xEDB88320 else c / 2

/-- One byte. -/
def crc32Byte (c : Nat) (b : Byte) : Nat := (List.range 8).foldl (fun c _ => crc32Bit c) (c ^^^ b.toNat)

/-- CRC-32 of IEEE 802.3 over bytes (R429). -/
def crc32 (bs : List Byte) : Nat := bs.foldl crc32Byte 0xFFFFFFFF ^^^ 0xFFFFFFFF

/-! ### The ring -/

/-- The ring's place in BAR0 (R525). -/
def bbxBase : Nat := 0x98000

/-- Word 1 of an entry (Table 19-1), but for its clock bits. -/
def Dev.bbxWord (d : Dev) (e : BbxEntry) (tsus nt : Bool) : Nat :=
  e.kind.code * 2 ^ 60 + e.src * 2 ^ 50 + d.shot24 * 2 ^ 26 + d.fget GLB_MODE.CUR * 2 ^ 22 + tsus.toNat * 2 ^ 21 + nt.toNat * 2 ^ 20 +
    e.arg % 65536

/-- One entry written at HEAD (R525). -/
def Dev.bbxPut (d : Dev) (time : Nat) (w : Nat) : Dev :=
  let h := d.fget BBX_STAT.HEAD
  let d := (d.wrLe (bbxBase + 16 * h) 8 time).wrLe (bbxBase + 16 * h + 8) 8 w
  (d.fset BBX_STAT.HEAD ((h + 1) % 1024)).wrapInc BBX_SEQ.SEQ

/-- The entries of a tick are written in order, at most `limit`; the rest are lost and counted (R527).
[DESIGN CHOICE, assumption 93] -/
def Dev.bbxFlush (d : Dev) (limit time : Nat) (tsus nt : Bool) : Dev :=
  let go := d.bbx.take limit
  let lost := d.bbx.length - limit
  let d := go.foldl (fun d e => d.bbxPut time (d.bbxWord e tsus nt)) { d with bbx := [] }
  if lost = 0 then d else d.satAdd BBX_STAT.DROPPED lost

/-! ### Frames in the eNVM -/

/-- A frame's data and its directory page (R529). -/
def frameBase (f : Nat) : Nat := nvBase + 0x40000 + 0x4000 * f
def framePage (f : Nat) : Nat := nvBase + 0x7C000 + 64 * f

/-- Every byte of a range of the eNVM is erased (R428). -/
def Dev.nvErased (d : Dev) (a n : Nat) : Bool := d.mem.all (fun e => !(decide (a ≤ e.1) && decide (e.1 < a + n)))

/-- The 257 pages of a frame are erased. -/
def Dev.frameErased (d : Dev) (f : Nat) : Bool := d.nvErased (frameBase f) 0x4000 && d.nvErased (framePage f) 64

/-- A frame is valid: both its CRC-32 values check (R532). -/
def Dev.frameValid (d : Dev) (f : Nat) : Bool :=
  crc32 (d.rdBytes (framePage f) 60) == d.rdLe (framePage f + 60) 4 &&
    crc32 (d.rdBytes (frameBase f) 0x4000) == d.rdLe (framePage f + 36) 4

/-- FSEQ of a frame. -/
def Dev.frameSeq (d : Dev) (f : Nat) : Nat := d.rdLe (framePage f + 32) 4

/-- The lowest-numbered frame that is erased. -/
def Dev.freeFrame (d : Dev) : Option Nat := (List.range 15).find? d.frameErased

/-- A freeze starts in an erased frame, or fails for want of one (R529). -/
def Dev.freezeBegin (d : Dev) (cause : Nat) (overtook : Bool) : Dev :=
  match d.freeFrame with
  | none => d.flag BBX_FRAME.FAIL
  | some f =>
    let d : Dev := { d with freeze := some { cause := cause, frame := f, start := d.tk, overtook := overtook } }
    (d.fset BBX_STAT.BUSY 1).bbxAdd .freeze 0 cause

/-- The pages of an abandoned freeze that were programmed, the one in progress among them (R531). -/
def Dev.freezeDrop (d : Dev) (x : Freeze) : Dev :=
  let d := ({ d with freeze := none } : Dev).fset BBX_STAT.BUSY 0
  match x.snap with
  | none => d
  | some s => d.wrBytes (frameBase x.frame) (s.ring.take (64 * min 256 ((d.tk - x.start) / 1250 + 1)))

/-- A freeze cause takes effect (R529 to R531). -/
def Dev.freezeStart (d : Dev) (cause : Nat) : Dev :=
  let d : Dev := { d with frzDue := d.frzDue.filter (· != cause) }
  match d.freeze with
  | none => d.freezeBegin cause false
  | some x =>
    let d := d.flag BBX_FRAME.FAIL
    if cause ≤ 3 ∧ 4 ≤ x.cause then (d.freezeDrop x).freezeBegin cause true else d

/-- At the end of its tick a freeze takes the ring as it stands (R529).
[DESIGN CHOICE, assumption 93] -/
def Dev.freezeSnap (d : Dev) (c : Clock) : Dev :=
  match d.freeze with
  | some x =>
    if x.snap.isSome then d
    else
      let s : Snap := { ring := d.rdBytes bbxBase 0x4000, head := d.fget BBX_STAT.HEAD, seq := d.fget BBX_SEQ.SEQ,
                        dropped := d.fget BBX_STAT.DROPPED != 0, time := c.now.toNat, ntSec := c.nt.sec.toNat, ntNs := c.nt.ns }
      { d with freeze := some { x with snap := some s } }
  | none => d

/-- A slot of a set, and its commit page (Table 14-5). -/
def setBase (t k : Nat) : Nat := nvBase + 0x10000 + 0x8000 * t + 0x4000 * k
def setPage (t k : Nat) : Nat := nvBase + 0x38000 + 64 * (2 * t + k)

/-- A set's content, which is firmware-defined (R480): free bytes, `n` groups of 8. -/
def freeBytes (k : Nat) : Nat → List Byte
  | 0 => []
  | n + 1 => freeBytes k n ++ leBytes 8 (Config.free (k + n)).toNat

/-- A commit page: `body` of 60 bytes with its CRC-32 (R429, R464, R532). -/
def nvPage (body : List Byte) : List Byte :=
  let b := (body ++ List.replicate 60 0xFF).take 60
  b ++ leBytes 4 (crc32 b)

/-- The directory page of Table 19-5. -/
def Dev.directory (d : Dev) (x : Freeze) (s : Snap) : List Byte :=
  let seqs := ((List.range 15).filter d.frameValid).map d.frameSeq
  nvPage ([0x58, 0x4B, 0x42, 0x42] ++ leBytes 1 x.cause ++ leBytes 1 (x.overtook.toNat + 2 * s.dropped.toNat) ++ leBytes 2 s.head ++
    leBytes 4 s.seq ++ leBytes 8 s.time ++ leBytes 8 s.ntSec ++ leBytes 4 s.ntNs ++ leBytes 4 (seqs.foldl max 0 + 1) ++
    leBytes 4 (crc32 s.ring))

/-- A freeze is programmed, 514 µs after its start (R529). -/
def Dev.freezeComplete (d : Dev) : Dev :=
  match d.freeze with
  | some x =>
    match x.snap with
    | some s =>
      if x.start + 321250 ≤ d.tk then
        let page := d.directory x s
        let d := (d.wrBytes (frameBase x.frame) s.ring).wrBytes (framePage x.frame) page
        let d : Dev := { d with freeze := none }
        let d := (((d.fset BBX_STAT.BUSY 0).flag BBX_FRAME.DONE).fset BBX_FRAME.FRAME x.frame).fset BBX_FRAME.CAUSE x.cause
        d.raise 775
      else d
    | none => d
  | none => d

/-- A freeze cause arises (R530); it starts with FREEZE_START. -/
def Dev.freezeArise (d : Dev) (cause : Nat) : Dev := { d with frzDue := insNat cause d.frzDue }

/-- Frames are erased until two are: those not valid first, then the valid one of lowest FSEQ (R533). -/
def Dev.frameErase : Nat → Dev → Dev
  | 0, d => d
  | n + 1, d =>
    if 2 ≤ ((List.range 15).filter d.frameErased).length then d
    else
      let used := (List.range 15).filter (fun f => !d.frameErased f)
      let pick := match used.find? (fun f => !d.frameValid f) with
        | some f => some f
        | none => used.foldl (fun b f => match b with
            | none => some f
            | some g => if d.frameSeq f < d.frameSeq g then some f else some g) none
      match pick with
      | none => d
      | some f => ((d.clearMem (frameBase f) 0x4000).clearMem (framePage f) 64).frameErase n

/-! ### SAFE causes (R534) -/

/-- A cause of Table 19-6 arises: it shows in PRESENT (the host's is never held) and writes its entry; the device enters SAFE with
SAFE_ENTRY, on this tick. A device cause that enters SAFE freezes the record when FRZSAFE is 1 (R530); a shutdown freezes it with its own cause.
[DESIGN CHOICE, assumption 64] -/
def Dev.safeArise (d : Dev) (c : Nat) : Dev :=
  if c ≠ 1 ∧ bitAt (d.fget BBX_SAFE.PRESENT) (c - 1) then d
  else
    let d := if c = 1 then d else d.fset BBX_SAFE.PRESENT (d.fget BBX_SAFE.PRESENT + 2 ^ (c - 1))
    let d := d.bbxAdd .safe 0 c
    let d := if 2 ≤ c && c ≤ 4 && d.bit BBX_CTL.FRZSAFE && d.mode != .load && d.mode != .sleep && d.mode != .safe then d.freezeArise 4 else d
    { d with safeDue := insNat c d.safeDue }

/-- A cause is no longer present. -/
def Dev.safeClear (d : Dev) (c : Nat) : Dev :=
  if bitAt (d.fget BBX_SAFE.PRESENT) (c - 1) then d.fset BBX_SAFE.PRESENT (d.fget BBX_SAFE.PRESENT - 2 ^ (c - 1)) else d

/-- A write of BBX_SAFE: ACK ends cause 2 (R534). -/
def Dev.wrSafe (d : Dev) (v : W32) : Dev := if BBX_SAFE.ACK.of v = 1 then d.safeClear 2 else d

/-- A write of BBX_NOTE (R526). -/
def Dev.wrNote (d : Dev) (v : W32) : Dev := d.bbxAdd .note 0 (BBX_NOTE.NOTE.of v)

/-- A write of BBX_CTL: FREEZE freezes with cause 5 (R530). -/
def Dev.wrBbxCtl (d : Dev) (v : W32) : Dev :=
  let d := d.writeCodes BBX_CTL.off v
  if BBX_CTL.FREEZE.of v = 1 then d.freezeStart 5 else d

end Sys2Proof.Machine
end

