-- ==== Sys2Proof/Machine/HeatOps.lean ====
section
/-! DEFINITION. Heat and supply (R450 to R476): sensors and estimates, throttle levels, the shutdown, the droop and rail
monitors, and the cryostat heat ledger. Temperatures are in 1/16 °C. -/
namespace Sys2Proof.Machine

/-! ### Levels (R455) -/

/-- A level of THM_LIM in 1/16 °C. -/
def Dev.limit (d : Dev) (f : Fld) : Int := 16 * (d.fget f : Int)

/-- The hysteresis: 2 to 8 °C, other values act as 4 (THM_LIM.HYS). -/
def Dev.hysteresis (d : Dev) : Int :=
  let h := d.fget THM_LIM.HYS
  16 * (if 2 ≤ h ∧ h ≤ 8 then (h : Int) else 4)

/-- The default of THR for the part's range (Table 16-2). -/
def Dev.thrDefault (d : Dev) : Nat := if d.otp.rangeLX then 110 else 105

/-- THM_LIM as the firmware writes it at power-on (R8, R455). -/
def limDefault (lx : Bool) : W32 := if lx then 0x646E7604#32 else 0x5F697604#32

/-- A write of THM_LIM (R455). -/
def Dev.wrThmLim (d : Dev) (v : W32) : Dev :=
  let warn := THM_LIM.WARN.of v
  let thr := THM_LIM.THR.of v
  let sd := THM_LIM.SD.of v
  if warn < thr ∧ thr < sd ∧ sd ≤ 118 ∧ thr ≤ d.thrDefault then d.writeCodes THM_LIM.off v else d.flag THM_ERR.LIM_BAD

/-! ### Sensors (R450 to R453) -/

/-- Region of a sensor: 0 the control die, 1 to 4 the converter dies (R450). -/
def sensorRegion (s : Nat) : Nat := if s < 32 then 0 else (s - 32) / 16 + 1

/-- Columns of a region's grid, its first sensor and its number of sensors. -/
def regionGrid (r : Nat) : Nat × Nat × Nat := if r = 0 then (8, 0, 32) else (4, 16 + 16 * r, 16)

/-- The sensors of a region. -/
def regionSensors (r : Nat) : List Nat := let (_, b, n) := regionGrid r; (List.range n).map (· + b)

/-- The neighbours of a sensor: one row or one column away in its region's grid (R450). -/
def neighbours (s : Nat) : List Nat :=
  let (cols, b, _) := regionGrid (sensorRegion s)
  let row := fun (k : Nat) => (k - b) / cols
  let col := fun (k : Nat) => (k - b) % cols
  let near := fun (x y : Nat) => x = y + 1 ∨ y = x + 1
  (regionSensors (sensorRegion s)).filter (fun k =>
    decide ((row k = row s ∧ near (col k) (col s)) ∨ (col k = col s ∧ near (row k) (row s))))

/-- A sensor is declared failed (R452). -/
def Dev.sensorFailed (d : Dev) (s : Nat) : Bool := bitAt (d.fget (THM_FAILED.FAILED (s / 32))) (s % 32)

/-- A frequency lies in the band of −55 to +150 °C (R452). -/
def inBand (s count : Nat) : Bool := let t := Config.sensorTemp s count; decide (-880 ≤ t) && decide (t ≤ 2400)

/-- One count of one sensor: out of band, or unchanged for 64 samples, it is declared failed (R452).
[DESIGN CHOICE, assumption 81] -/
def Dev.sensorCount (d : Dev) (s count : Nat) : Dev :=
  let x := tget {} d.heat.sensors s
  let same := if x.count = some count then x.same + 1 else 0
  let d : Dev := { d with heat := { d.heat with sensors := tset {} d.heat.sensors s { count := some count, same := same } } }
  if !d.sensorFailed s && (!inBand s count || decide (64 ≤ same)) then
    let d := d.fset (THM_FAILED.FAILED (s / 32)) (d.fget (THM_FAILED.FAILED (s / 32)) + 2 ^ (s % 32))
    (d.fset (THM_SNS.FAILED s) 1).flagRaise THM_ERR.SENSOR_FAIL 708
  else d

/-- R_s = Σ_r θ_sr × P_r of R451, in 2⁻¹⁶ of 1/16 °C. M_s − M_n = R_s − R_n, so that T_cp need not be held. -/
def rise (powers : List Nat) (s : Nat) : Int :=
  (List.range 5).foldl (fun a r => a + Config.theta s r * (((powers[r]?).getD 0 : Nat) : Int)) 0

/-- The substituted estimate of a failed sensor over the working sensors `ns`, with a guard band (R453). -/
def substitute (powers : List Nat) (temp : Nat → Int) (s : Nat) (ns : List Nat) (guard : Int) : Int :=
  let sum := ns.foldl (fun a n => a + 65536 * temp n + rise powers s - rise powers n) 0
  roundDiv sum (65536 * ns.length) + guard

/-- The estimate of a sensor: T_s, whether it is substituted, and whether its region is blind (R451, R453). Where no sensor of
the device works no mean exists, and the estimate is free.
[DESIGN CHOICE, assumption 81] -/
def Dev.estimate (d : Dev) (powers : List Nat) (temp : Nat → Int) (s : Nat) : Int × Bool × Bool :=
  let works := fun (k : Nat) => !d.sensorFailed k
  if works s then (temp s, false, false)
  else
    let near := (neighbours s).filter works
    let region := (regionSensors (sensorRegion s)).filter works
    let all := (List.range 96).filter works
    if !near.isEmpty then (substitute powers temp s near 96, true, false)
    else if !region.isEmpty then (substitute powers temp s region 96, true, false)
    else if !all.isEmpty then (substitute powers temp s all 192, true, true)
    else (sext 16 (Config.free (d.free + s)).toNat, true, true)

/-- The hottest of a list of sensors; among equals the lowest-numbered.
[DESIGN CHOICE, assumption 80] -/
def hottest (t : Nat → Int) : List Nat → Option (Nat × Int)
  | [] => none
  | s :: ss => match hottest t ss with
    | none => some (s, t s)
    | some (k, x) => if t s < x then some (k, x) else some (s, t s)

/-- REGFAIL: a sensor of the throttling region is failed (R458). -/
def Dev.regFail (d : Dev) : Bool :=
  match d.heat.region with
  | none => false
  | some r => (regionSensors r).any d.sensorFailed

/-- RATE by the hottest estimate (Table 16-1). -/
def Dev.rateOf (d : Dev) (t : Int) : Nat :=
  if t < d.limit THM_LIM.THR - 96 then 0 else if t < d.limit THM_LIM.SD - 48 then 1 else 2

/-- The sampling interval in tk, by RATE (Table 16-1). -/
def rateTk (rate : Nat) : Nat := match rate with | 0 => 625000 | 1 => 31250 | _ => 6250

/-! ### Throttle levels (R456 to R461) -/

/-- n_L of Table 16-3, the eighths held. -/
def eighthsHeld (level : Nat) : Nat := match level with | 0 => 0 | 1 => 1 | 2 => 2 | 3 => 4 | _ => 6

/-- Warning is entered at WARN and left below WARN − HYS (R456). -/
def Dev.judgeWarning (d : Dev) (t : Int) : Dev :=
  if !d.bit THM_STAT.WARNING && decide (d.limit THM_LIM.WARN ≤ t) then (d.fset THM_STAT.WARNING 1).raise 704
  else if d.bit THM_STAT.WARNING && decide (t < d.limit THM_LIM.WARN - d.hysteresis) then (d.fset THM_STAT.WARNING 0).raise 705
  else d

/-- The level rises by 1 after a sample at or above THR, at most once a millisecond (R457). -/
def Dev.judgeLevel (d : Dev) (hot : Nat) (t : Int) : Dev :=
  let cool : Option Nat := if t < d.limit THM_LIM.THR - d.hysteresis then d.heat.coolTk.orElse (fun _ => some d.tk) else none
  let d : Dev := { d with heat := { d.heat with coolTk := cool } }
  let waited := match d.heat.riseTk with | none => true | some k => decide (k + 625000 ≤ d.tk)
  let d := if d.limit THM_LIM.THR ≤ t ∧ waited = true ∧ d.fget THM_STAT.LEVEL < 4 then
      let d : Dev := { d with heat := { d.heat with riseTk := some d.tk, region := some (sensorRegion hot) } }
      (d.fset THM_STAT.LEVEL (d.fget THM_STAT.LEVEL + 1)).raise 706
    else d
  d.fsetB THM_STAT.REGFAIL d.regFail

/-- The level falls by 1 after 10 ms below THR − HYS, unless a sensor of the throttling region is failed (R457, R458). -/
def Dev.levelDown (d : Dev) : Dev :=
  match d.heat.coolTk with
  | none => d
  | some k =>
    if k + 6250000 ≤ d.tk ∧ 0 < d.fget THM_STAT.LEVEL ∧ d.regFail = false then
      let d : Dev := { d with heat := { d.heat with coolTk := some d.tk } }
      (d.fset THM_STAT.LEVEL (d.fget THM_STAT.LEVEL - 1)).raise 706
    else d

/-- Whether throttling or the ledger may hold slots now (R462). -/
def Dev.mayHold (d : Dev) : Bool := decide (0 < d.fget THM_STAT.LEVEL) || d.fget HL_STAT.HOLDING != 0

/-- No engine has asked about a slot for 1,048,576 tk while slots may be held (R462).
[DESIGN CHOICE, assumption 81] -/
def Dev.noslot (d : Dev) : Dev :=
  if d.mayHold && decide (d.askedTk + 1048576 ≤ d.tk) then d.flagRaise THM_ERR.NOSLOT 706 else d

/-- Slot s is held by throttling or the ledger (R460, R474). -/
def Dev.slotHeld (d : Dev) (s : Nat) : Bool :=
  decide (s / 4096 % 8 < eighthsHeld (d.fget THM_STAT.LEVEL)) || (d.bit HL_CTL.EN && d.fget HL_STAT.HOLDING != 0)

/-- Some engine asks about slot s. -/
def Dev.slotAsked (d : Dev) (s : Nat) : Bool :=
  d.ocs.any (fun e => match e.2.eng.slot with | some x => x.slot == s | none => false)

/-- The decision on slot s, on tick s − 64 (R133, R460, R474); every engine that asks takes it.
[DESIGN CHOICE, assumption 81] -/
def Dev.slotDecide (d : Dev) (s now : Nat) : Dev :=
  if d.slotAsked s && (tget none d.slots s).isNone && decide (s ≤ now + 64) then
    let held := d.slotHeld s
    let d : Dev := { d with slots := tset none d.slots s (some held) }
    let d := if held then (d.satAdd HL_CNT.HELD 1).raise 729 else d
    (d.ocs.map (·.1)).foldl (fun d n => match (d.eng n).slot with
      | some x => if x.slot = s then d.slotTake n now else d
      | none => d) d
  else d

/-! ### Shutdown (R463 to R465, R469) -/

/-- A bit of a free value.
[DESIGN CHOICE, assumption 82] -/
def Dev.drawBit (d : Dev) : Bool × Dev := let (x, d) := d.draw; (x.getLsbD 0, d)

/-- The eNVM work a shutdown finds, as bits 2 to 0 of FLAGS (R430, Table 16-5): a commit is abandoned, and the data pages it has
programmed, the one in progress completed, stand in its slot. How far the work has come is free, within a page each 2 µs; with no
page programmed the erase is what is abandoned.
[DESIGN CHOICE, assumptions 81, 82] -/
def Dev.nvWork (d : Dev) : Nat × Dev :=
  match d.calStore with
  | some (t, k, start) =>
    let (x, d) := d.draw
    let n := min (x.toNat % 257) ((d.tk - start) / 1250 + 1)
    let d' : Dev := { d with free := d.free + 8 * n, calStore := none }
    ((if n = 0 then 4 else x.toNat / 512 % 2) + 2, d'.wrBytes (setBase t k) (freeBytes d.free (8 * n)))
  | none =>
    if d.freeze.isSome then let (x, d) := d.draw; (x.toNat % 2, d) else (0, d)

/-- The shutdown begins (Table 16-4): its sources, SAFE cause 5, the freeze, and what its record will hold. In
LOAD the loader stops (R463). -/
def Dev.shutdownStart (d : Dev) (c : Clock) (cause : Nat) : Dev :=
  if d.heat.shutdown.isSome || d.bit THM_STAT.SDLATCH then d
  else
    let (work, d) := d.nvWork
    let failed := d.fget (THM_FAILED.FAILED 0) + 2 ^ 32 * d.fget (THM_FAILED.FAILED 1) + 2 ^ 64 * d.fget (THM_FAILED.FAILED 2)
    let x : Shutdown := { cause := cause, flags := work + 8 * d.regFail.toNat, hotsns := d.fget THM_STAT.HOTSNS,
                          level := d.fget THM_STAT.LEVEL, hott := d.fget THM_STAT.HOTT, time := c.now.toNat,
                          ntSec := c.nt.sec.toNat, ntNs := c.nt.ns, shot := d.shot.toNat, failed := failed }
    let boot := if d.mode = .load then { d.boot with phase := .stopped } else d.boot
    let d : Dev := { d with heat := { d.heat with shutdown := some x }, boot := boot }
    ((d.raise 707).freezeArise cause).safeArise 5

/-- The shutdown record, Table 16-5. -/
def Shutdown.page (x : Shutdown) : List Byte :=
  nvPage ([0x58, 0x4B, 0x53, 0x44] ++ leBytes 1 x.cause ++ leBytes 1 x.flags ++ leBytes 1 x.hotsns ++ leBytes 1 x.level ++
    leBytes 2 x.hott ++ leBytes 2 0 ++ leBytes 8 x.time ++ leBytes 8 x.ntSec ++ leBytes 4 x.ntNs ++ leBytes 6 x.shot ++
    leBytes 12 x.failed)

/-- The shutdown area of Table 14-5: 64 pages. -/
def shutdownPage (k : Nat) : Nat := nvBase + 0x80000 + 64 * k

/-- The record goes into the lowest erased page of the area, once the freeze has ended (R464, R430).
[DESIGN CHOICE, assumptions 81, 82] -/
def Dev.shutdownRecord (d : Dev) : Dev :=
  match d.heat.shutdown with
  | none => d
  | some x =>
    if x.recorded || d.freeze.isSome || d.frzDue.contains x.cause then d
    else
      let d := match (List.range 64).find? (fun k => d.nvErased (shutdownPage k) 64) with
        | some k => d.wrBytes (shutdownPage k) x.page
        | none => d
      { d with heat := { d.heat with shutdown := some { x with recorded := true } } }

/-! ### The sample (R454) -/

/-- In SLEEP only the always-on sensors 0 to 3 are read (R450, R465): each is judged as R452 says, the hottest that works gives the next
interval (R454) and the warning (R376, R456).
[DESIGN CHOICE, assumption 81] -/
def Dev.sampleAlwaysOn (d : Dev) (counts : List Nat) : Dev :=
  let cnt := fun (s : Nat) => (counts[s]?).getD 0
  let d := (List.range 4).foldl (fun d s => d.sensorCount s (cnt s)) d
  let (t, d) := match hottest (fun s => Config.sensorTemp s (cnt s)) ((List.range 4).filter (fun s => !d.sensorFailed s)) with
    | some (_, t) => (t, d)
    | none => let (x, d) := d.draw; (sext 16 x.toNat, d)
  let d : Dev := { d with heat := { d.heat with hot4 := t } }
  (d.fset THM_STAT.RATE (d.rateOf t)).judgeWarning t

/-- The estimate of each sensor is shown in THM_SNSi (R453). -/
def Dev.showEstimates (d : Dev) (est : Nat → Int × Bool × Bool) : Nat → Dev
  | 0 => d
  | n + 1 =>
    let d := d.showEstimates est n
    let (t, sub, blind) := est n
    let d := ((d.fset (THM_SNS.T n) (satInt 16 t)).fsetB (THM_SNS.SUBST n) sub).fsetB (THM_SNS.FAILED n) (d.sensorFailed n)
    if blind then d.flag THM_ERR.DIEBLIND else d

/-- A sample of every sensor: counts, estimates, and the judgements of R456, R457 and R463. -/
def Dev.sampleAll (d : Dev) (c : Clock) (counts powers : List Nat) : Dev :=
  let cnt := fun (s : Nat) => (counts[s]?).getD 0
  let d := (List.range 96).foldl (fun d s => d.sensorCount s (cnt s)) d
  let d := (List.range 5).foldl (fun d r => d.fset (THM_PWR.P r) (min (2 ^ 32 - 1) ((powers[r]?).getD 0))) d
  let temp := fun (s : Nat) => Config.sensorTemp s (cnt s)
  let d0 := d
  let est := fun (s : Nat) => d0.estimate powers temp s
  let d := d.showEstimates est 96
  let d : Dev := { d with free := if (List.range 96).all d.sensorFailed then d.free + 96 else d.free }
  match hottest (fun s => (est s).1) (List.range 96) with
  | none => d
  | some (hot, t) =>
    let h4 := match hottest (fun s => (est s).1) (List.range 4) with | some (_, x) => x | none => 0
    let d : Dev := { d with heat := { d.heat with hot4 := h4 } }
    let d := ((d.fset THM_STAT.HOTSNS hot).fset THM_STAT.HOTT (satInt 16 t)).fset THM_STAT.RATE (d.rateOf t)
    let d := (d.judgeWarning t).judgeLevel hot t
    if d.limit THM_LIM.SD ≤ t then d.shutdownStart c 1 else d

/-- A sample is due at the interval of Table 16-1.
[DESIGN CHOICE, assumption 81] -/
def Dev.sampleDue (d : Dev) : Bool :=
  match d.heat.sampleTk with
  | none => true
  | some k => decide (k + rateTk (d.fget THM_STAT.RATE) ≤ d.tk)

/-- SENSOR_SAMPLE. -/
def Dev.sensorSample (d : Dev) (c : Clock) (counts powers : List Nat) : Dev :=
  if d.sampleDue then
    let d : Dev := { d with heat := { d.heat with sampleTk := some d.tk } }
    if d.mode = .sleep then d.sampleAlwaysOn counts else d.sampleAll c counts powers
  else d

/-- The hottest always-on sensor reads below SD − HYS (R465). -/
def Dev.cooled (d : Dev) : Bool := decide (d.heat.hot4 < d.limit THM_LIM.SD - d.hysteresis)

/-! ### Droop, rails and PFAIL_N (R466 to R469) -/

/-- The stretch in eighths for a lowest voltage (R466). -/
def stretchFor (unt mv : Nat) : Nat := min 4 (1 + (unt - mv) / 10)

/-- VDD_CORE at `mv` is below UNT_MV (R466); a crossing of TIM_MV taints the shot and counts (R467).
[DESIGN CHOICE, assumption 84; DEDUCED, assumption 85] -/
def Dev.droop (d : Dev) (mv : Nat) : Dev :=
  let unt := d.fget THM_DROOP.UNT_MV
  let tim := d.fget THM_DROOP.TIM_MV
  if d.mode = .sleep ∨ unt ≤ mv then d
  else
    let fresh := d.heat.stretch == 0
    let low := if fresh then mv else min mv d.heat.lowMv
    let crossed := decide (mv < tim) && (fresh || decide (tim ≤ d.heat.lowMv))
    let d : Dev := { d with heat := { d.heat with stretch := stretchFor unt low, lowMv := low, droopTk := d.tk } }
    let d := if fresh then (d.satAdd THM_DROOPCNT.STRETCHES 1).raise 709 else d
    if crossed then ((d.satAdd THM_DROOPCNT.TIMED 1).flagRaise THM_ERR.DROOP_TIMED 710).setTaint else d

/-- The stretch ends once the voltage has stayed above UNT_MV for HOLD tk; 0 acts as 1 (R466).
[DESIGN CHOICE, assumption 84] -/
def Dev.droopEnd (d : Dev) : Dev :=
  if d.heat.stretch ≠ 0 ∧ d.heat.droopTk + max 1 (d.fget THM_DROOP.HOLD) ≤ d.tk then
    { d with heat := { d.heat with stretch := 0, lowMv := 0 } }
  else d

/-- A rail has been outside its window for a time (R468, R543).
[DEDUCED, assumption 85] -/
def Dev.railOut (d : Dev) (ns : Nat) : Dev := if 10000 ≤ ns then d.flagRaise THM_ERR.RAIL 711 else d

/-- A pin asserted for a time acts: not below `lo` ns, always from `hi` ns, and as a free value decides between (R558). -/
def Dev.pinActs (d : Dev) (ns lo hi : Nat) : Bool × Dev :=
  if ns < lo then (false, d) else if hi ≤ ns then (true, d) else d.drawBit

/-- PFAIL_N asserted (R469). -/
def Dev.pfail (d : Dev) (c : Clock) : Dev := (d.raise 712).shutdownStart c 2

/-! ### The cryostat heat ledger (R470 to R475) -/

/-- 10^(−x/100) in 2⁻¹²⁸ for x in tenths of a decibel: a hundredth root of 1/10 taken by repeated multiplication, and whole tens
divided out. -/
def attRoot : Nat := 332536594590083385262498879600849308303
def attFrac : Nat → Nat
  | 0 => 2 ^ 128
  | n + 1 => attFrac n * attRoot / 2 ^ 128
def attFactor (x : Nat) : Nat := attFrac (x % 100) / 10 ^ (x / 100)

/-- ROOM and A_0 to A_7 of an OC, in tenths of a decibel (R471). -/
def Dev.attenuations (d : Dev) (n : Nat) : List Nat :=
  (List.range 3).flatMap (fun w => [d.fget (HL_OC_ATT.F0 n w), d.fget (HL_OC_ATT.F1 n w), d.fget (HL_OC_ATT.F2 n w)])

/-- What line n contributes to the power of a stage: P0 × 2 Σc² × (arriving − leaving), still to be divided (R470, R471). -/
def Dev.lineStage (d : Dev) (n st : Nat) : Nat :=
  let atts := d.attenuations n
  let before := (atts.take (st + 1)).foldl (· + ·) 0
  let after := (atts.take (st + 2)).foldl (· + ·) 0
  d.fget (HL_OC_P0.P0 n) * 2 * (d.oc n).sumSq * (attFactor before - attFactor after)

/-- P_s in 1/256 µW.
[DESIGN CHOICE, assumption 83] -/
def Dev.stagePower (d : Dev) (st : Nat) : Nat :=
  (d.ocs.map (·.1)).foldl (fun a n => a + (if (d.oc n).sumSq = 0 then 0 else d.lineStage n st)) 0 * 256 /
    (200000 * 32767 ^ 2 * 2 ^ 128)

/-- H_s moves towards P_s by α_s (R472).
[DESIGN CHOICE, assumption 83] -/
def ledgerFilter (h p tau : Nat) : Nat :=
  let alpha : Nat := 2 ^ 32 / (100 * tau)
  min (2 ^ 32 - 1) ((h : Int) + ((p : Int) - (h : Int)) * (alpha : Int) / 2 ^ 32).toNat

/-- A bit of a field set or cleared. -/
def putBit (v i : Nat) (b : Bool) : Nat := if bitAt v i == b then v else if b then v + 2 ^ i else v - 2 ^ i

/-- One stage judged after its step (R473). HL_STAT.OVER shows H_s ≥ B_s whether or not the stage is enabled (DEDUCED, assumption 83).
[DESIGN CHOICE, assumption 83] -/
def Dev.judgeStage (d : Dev) (st : Nat) : Dev :=
  let h := d.fget (HL_ST_H.H st)
  let bud := d.fget (HL_ST_BUD.BUD st)
  let on := d.bit (HL_ST_CFG.EN st)
  let hold := d.fget HL_CTL.HOLD
  let resume := min hold (d.fget HL_CTL.RESUME)
  let was := bitAt (d.fget HL_STAT.HOLDING) st
  let is := on && (if was then decide (bud * resume ≤ h) else decide (bud * hold ≤ h))
  let d := if is && !was then (d.fset HL_STAT.HOLDING (putBit (d.fget HL_STAT.HOLDING) st true)).raise (713 + st)
    else if was && !is then (d.fset HL_STAT.HOLDING (putBit (d.fget HL_STAT.HOLDING) st false)).raise (721 + st) else d
  let overs := decide (256 * bud ≤ h)
  let d := d.fset HL_STAT.OVER (putBit (d.fget HL_STAT.OVER) st overs)
  if overs then d.flag HL_ERR.OVER else d

/-- A ledger step (R470 to R473, R475). -/
def Dev.ledgerStep (d : Dev) : Dev :=
  let due := match d.heat.ledgerTk with | none => true | some k => decide (k + 6250 ≤ d.tk)
  if due && d.mode != .load && d.mode != .sleep then
    let powers := (List.range 8).map d.stagePower
    let d := (List.range 8).foldl (fun d st =>
      let p := (powers[st]?).getD 0
      let d := d.fset (HL_ST_P.P st) (min (2 ^ 32 - 1) p)
      d.fset (HL_ST_H.H st) (ledgerFilter (d.fget (HL_ST_H.H st)) p (d.fget (HL_ST_CFG.TAU st)))) d
    let d := (List.range 8).foldl Dev.judgeStage d
    let d := (d.ocs.map (·.1)).foldl (fun d n => d.setOc n { d.oc n with sumSq := 0 }) d
    { d with heat := { d.heat with ledgerTk := some d.tk } }
  else d

/-- A write of HL_STs_CFG (R472). -/
def Dev.wrTau (d : Dev) (st : Nat) (v : W32) : Dev :=
  let tau := (HL_ST_CFG.TAU st).of v
  if 1 ≤ tau ∧ tau ≤ 100000 then d.writeCodes (HL_ST_CFG.off st) v else d.flag HL_ERR.TAU_BAD

/-- Each H_s after a reset of class B, once the image has been applied (R475). -/
def Dev.ledgerInit (d : Dev) : Dev :=
  (List.range 8).foldl (fun d st => d.fset (HL_ST_H.H st)
    (if d.bit HL_CTL.INITFULL then min (2 ^ 32 - 1) (d.fget (HL_ST_BUD.BUD st) * d.fget HL_CTL.HOLD) else 0)) d

end Sys2Proof.Machine
end

