-- ==== Sys2Proof/Machine/ModeOps.lean ====
section
/-! DEFINITION. Resets (R514 to R519), power domains (R522 to R524), and the mode control (R504 to R513, R534). -/
namespace Sys2Proof.Machine

/-! ### What a reset leaves -/

/-- The clock after a reset of class C or stronger: FREE, the count stopped at 0, network time and its increment kept (R44, R52,
R76, Table 18-5). -/
def Clock.afterReset (c : Clock) : Clock :=
  { nt := c.nt, epoch := c.epoch, inc := c.inc, incNext := c.incNext, stSecLo := c.stSecLo, stSecHi := c.stSecHi, stNs := c.stNs,
    stIncLo := c.stIncLo, stIncHi := c.stIncHi }

/-- Registers of the classes chosen are kept, the others are back at default (R21). -/
def keepRegs (t : Tbl W32) (keep : RClass → Bool) : Tbl W32 :=
  t.filter (fun e => ((regRow? e.1).map (fun r => keep r.cls)).getD false)

/-- Memories a reset of class B keeps: the eNVM, the flash, the ring of the sediment record (R517, R525) and, but for SLEEP, the
witness pool (R279). -/
def memKept (pool : Bool) (a : Nat) : Bool :=
  (decide (nvBase ≤ a) && decide (a < mgmtBase)) || decide (flashBase ≤ a) ||
    (decide (bbxBase ≤ a) && decide (a < bbxBase + 0x4000)) || (pool && decide (bar4Base ≤ a) && decide (a < tileBase))

/-- The task inputs of the always-on domain (R376). -/
def taskAlwaysOn (i : Nat) : Bool := decide (345 ≤ i) && decide (i ≤ 347)

/-- SAFE causes that no longer stand after a reset of class B: the shutdown and the PLLs, and INTSCAN after a pin reset
(Table 19-6).
[DESIGN CHOICE, assumption 64] -/
def presentAfter (pin : Bool) (v : Nat) : Nat := v % 2 ^ 2 + (if pin then 0 else v / 2 ^ 3 % 2 * 2 ^ 3)

/-- The device after a reset of class B (R21, R514, R517): class A values, the eNVM, the flash and the OTP are kept, the rest is at
default. What INTSCAN took away comes back with a pin reset alone (R433, R503).
[DESIGN CHOICE, assumption 63] -/
def Dev.afterB (d : Dev) (pin pool : Bool) : Dev :=
  let x : Dev := {
    regs := keepRegs d.regs (· == .a)
    mem := d.mem.filter (fun e => memKept pool e.1)
    otp := d.otp, rdata := d.rdata, tk := d.tk, xtal := d.xtal, free := d.free, raised := d.raised, w1cNow := d.w1cNow
    guardCnt := d.guardCnt, guardWin := d.guardWin, tasks := d.tasks.filter (fun e => taskAlwaysOn e.1)
    smb := d.smb, tap := d.tap, bbx := d.bbx, freeze := d.freeze, frzDue := d.frzDue, perstLow := d.perstLow
    heat := { hot4 := d.heat.hot4 }
    logNext := d.logNext, srpLog := d.srpLog, vauxLost := d.vauxLost
    otpBlocked := d.otpBlocked && !pin }
  let x := x.fset BBX_SAFE.PRESENT (presentAfter pin (d.fget BBX_SAFE.PRESENT))
  if x.otpBlocked then x.fset SEC_STAT.NOKEY 1 else x

/-- The sediment entries of a reset, written on the first tick after it (R526): RESET, and MODE where the mode changes.
[DESIGN CHOICE, assumption 64] -/
def Dev.resetEntries (d : Dev) (cause : Nat) (was : Mode) : Dev :=
  let d := (d.fset GLB_RSTCAUSE.CAUSE cause).bbxAdd .reset 0 cause
  if d.mode = was then d else (d.bbxAdd .mode 0 was.code).raise 839

/-- A reset of class B: the device is in LOAD and boots (R514). -/
def State.resetB (s : State) (cause : Nat) (pin : Bool) : State :=
  { s with clk := s.clk.afterReset, dev := (s.dev.afterB pin true).resetEntries cause s.dev.mode }

/-- The device enters SLEEP (R517): as a reset of class B, the pool's contents undefined, SAFE cause 5 over.
[DEDUCED, assumption 70] -/
def State.enterSleep (s : State) : State :=
  let was := s.dev.mode
  let d := ((s.dev.afterB false false).fset GLB_MODE.CUR Mode.sleep.code).fset GLB_MODE.PREV was.code
  let d := if was = .sleep then d else d.bbxAdd .mode 0 was.code
  { s with clk := s.clk.afterReset, dev := d }

/-! ### Pin reset, watchdog and power-on -/

/-- RST_N acts (R465, R514, R558, R559): while a shutdown runs, and after one while the always-on sensors are hot, it waits.
[DEDUCED, assumption 61] -/
def State.pinReset (s : State) (cause : Nat) : State :=
  if s.dev.heat.shutdown.isSome || (s.dev.bit THM_STAT.SDLATCH && !s.dev.cooled) then
    s.withDev fun d => { d with heat := { d.heat with pinWait := true } }
  else s.resetB cause true

/-- A pin reset that waits takes effect (R465, R559). -/
def State.pinWaiting (s : State) : State :=
  if s.dev.heat.pinWait && s.dev.heat.shutdown.isNone && (!s.dev.bit THM_STAT.SDLATCH || s.dev.cooled) then s.resetB 1 true else s

/-- FAIL and CAUSE of a slot (R415). -/
def Dev.slotFail (d : Dev) (slot cause : Nat) : Dev :=
  if slot = 0 then (d.flag CFG_BOOT.FAILA).fset CFG_BOOT.CAUSEA cause else (d.flag CFG_BOOT.FAILB).fset CFG_BOOT.CAUSEB cause

/-- The watchdog expires (R514, R530); in SLEEP the controller is off. -/
def State.watchdog (s : State) : State :=
  if s.dev.mode = .sleep then s else s.withDev fun d => ({ d with dogWait := true } : Dev).freezeArise 3

/-- VAUX falls below 1.50 V: only the OTP, the eNVM and the flash remain (R548). A freeze in progress keeps the pages it has
programmed.
[DESIGN CHOICE, assumption 69] -/
def State.vauxLost (s : State) : State :=
  let d := match s.dev.freeze with | some x => s.dev.freezeDrop x | none => s.dev
  { s with clk := {}
           dev := { otp := d.otp, tk := d.tk, free := d.free, vauxLost := true, logNext := d.logNext
                    srpLog := d.srpLog
                    mem := d.mem.filter (fun e => (decide (nvBase ≤ e.1) && decide (e.1 < mgmtBase)) || decide (flashBase ≤ e.1)) } }

/-- VAUX rises after having been lost (R548): a power-on. The SMBus address strap is sampled (R563), and the firmware writes the
defaults of THM_LIM for the part's range (R8, R455).
[DESIGN CHOICE, assumption 69] -/
def State.powerOn (s : State) (strap : BitVec 3) : State :=
  if s.dev.vauxLost then
    let d : Dev := { s.dev with vauxLost := false, otp := { s.dev.otp with strap := strap } }
    let d := d.setReg THM_LIM.off (limDefault d.otp.rangeLX)
    { s with dev := d.resetEntries 0 .load }
  else s

/-! ### Power domains (R522 to R524) -/

/-- The memories of a channel domain. -/
def Dev.clearChannelMem (d : Dev) (n : Nat) : Dev :=
  if n < 192 then d.clearMem (stepAddr n 0) 0x40000
  else ((d.clearMem (capBase (n - 192)) 0x4000).clearMem (weightBase (n - 192)) 0x10000).clearMem (resultBase (n - 192)) 0x80000

/-- The register window of a channel domain. -/
def windowOf (n : Nat) : Nat := if n < 192 then OC_CFG.off n else IC_CFG.off (n - 192)

/-- A register of a channel domain: in its window and no strobe-group register (R190). -/
def inDomain (n off : Nat) : Bool := decide (windowOf n ≤ off) && decide (off < windowOf n + 0x10000) && !gsOffset off

/-- A channel domain's values return to default (R21, R520): classes D and E of its window, its memories, its run-time state. -/
def Dev.domainDefault (d : Dev) (n : Nat) : Dev :=
  let d := d.clearChannelMem n
  let f := d.force.filter (fun e => !inDomain n e.1)
  let d := if f = d.force then d else d.pushEra f
  let d : Dev := { d with
    regs := d.regs.filter (fun e => !inDomain n e.1)
    staged := d.staged.filter (fun x => x.unit != n)
    loWrites := d.loWrites.filter (fun o => !inDomain n o)
    lateRegs := d.lateRegs.filter (fun e => !inDomain n e.1.off), frameWr := tdel d.frameWr n }
  if n < 192 then d.setOc n { sumSq := (d.oc n).sumSq, starved := (d.oc n).starved } else d.setIc (n - 192) {}

/-- The enable bit of a domain in GLB_PWROCj or GLB_PWRIC. -/
def Dev.domEnabled (d : Dev) (n : Nat) : Bool :=
  if n < 192 then bitAt (d.fget (GLB_PWROC.ON (n / 32))) (n % 32) else bitAt (d.fget GLB_PWRIC.ON) (n - 192)

/-- The domains that are enabled. -/
def Dev.enabledDomains (d : Dev) : List Nat := (List.range 224).filter d.domEnabled

/-- The device with a domain's enable bit replaced. -/
def Dev.setEnable (d : Dev) (n : Nat) (b : Bool) : Dev :=
  if n < 192 then d.fset (GLB_PWROC.ON (n / 32)) (putBit (d.fget (GLB_PWROC.ON (n / 32))) (n % 32) b)
  else d.fset GLB_PWRIC.ON (putBit (d.fget GLB_PWRIC.ON) (n - 192) b)

/-- A domain goes down: values to default; a rehydration of it is over. -/
def Dev.domainDown (d : Dev) (n : Nat) : Dev :=
  let d := if d.rehydrating n then d.fset CFG_REHY.ACTIVE 0 else d
  ({ d with ramp := tdel d.ramp n, rehyQ := d.rehyQ.filter (· != n) } : Dev).domainDefault n

/-- A domain's engine is IDLE or ENDED. -/
def Dev.engineRests (d : Dev) (n : Nat) : Bool :=
  if n < 192 then (d.eng n).mode == .idle || (d.eng n).mode == .ended
  else (d.ic (n - 192)).mode == .idle || (d.ic (n - 192)).mode == .ended

/-- A power-off of a domain is accepted (R523).
[DEDUCED, assumption 66] -/
def Dev.mayPowerOff (d : Dev) (n : Nat) : Bool :=
  (d.mode == .park || d.mode == .calibrate || d.mode == .safe || d.engineRests n) && !d.rehydrating n &&
    d.mode != .load && d.mode != .sleep && d.mode != .relay

/-- One bit of a GLB_PWR write (R523, R524).
[DESIGN CHOICE, assumption 65] -/
def Dev.domPower (d : Dev) (n : Nat) (on : Bool) : Dev :=
  if d.domEnabled n = on then d
  else if on then
    let d := d.setEnable n true
    if (d.mode = .relay ∧ d.relayUp = false) ∨ d.mode = .load ∨ d.mode = .sleep then d else { d with ramp := tput d.ramp n d.tk }
  else if d.mayPowerOff n then (d.domainDown n).setEnable n false
  else ((d.flag GLB_PWRERR.VALID).fsetB GLB_PWRERR.KIND (decide (192 ≤ n))).fset GLB_PWRERR.INDEX (if n < 192 then n else n - 192)

/-- A write of GLB_PWROCj (j below 6) or GLB_PWRIC (R523).
[DEDUCED, assumption 66] -/
def Dev.wrPower (d : Dev) (j : Nat) (v : W32) : Dev :=
  (List.range 32).foldl (fun d b => d.domPower (32 * j + b) (bitAt v.toNat b)) d

/-- M_MODE of a channel as the mode has it (Table 05-2).
[DESIGN CHOICE, assumption 68] -/
def Dev.modeMute (d : Dev) (n : Nat) : Dev := (d.fsetB (OC_STATUS.M_MODE n) (!d.mode.running)).muteUpdate n

/-- Samples cease to flow through a channel: the pipeline empties and the output switch stands as the load mutes have it (R168).
[DESIGN CHOICE, assumption 54] -/
def Dev.flowStop (d : Dev) (n : Nat) : Dev :=
  d.setOc n { d.oc n with ys := [], codes := [], past := [],
                          swMute := d.bit (OC_STATUS.M_LOAD n) || d.bit (OC_STATUS.M_NOLOAD n) }

/-- The next domain to reach its supply: by the tick of its power-on, then by number (R422).
[DESIGN CHOICE, assumption 65] -/
def Dev.nextRamp (d : Dev) : Option Nat :=
  (d.ramp.foldl (fun (b : Option (Nat × Nat)) e => match b with
    | none => some e
    | some x => if e.2 < x.2 then some e else some x) none).map (·.1)

/-- A domain reaches its supply and joins the queue for rehydration (R422, R524). After a shutdown from RELAY the domains stay
off (R513).
[DESIGN CHOICE, assumption 65] -/
def Dev.domainUp (d : Dev) (n : Nat) : Dev :=
  if d.nextRamp = some n ∧ tget 0 d.ramp n < d.tk ∧ d.heat.shutdown = none ∧ (d.mode ≠ .relay ∨ d.relayUp = true) then
    let d : Dev := { d with ramp := tdel d.ramp n, rehyQ := d.rehyQ ++ [n] }
    if n < 192 then d.modeMute n else d
  else d

/-- Every enabled domain powers on again on leaving RELAY (R513). -/
def Dev.rampAll (d : Dev) : Dev := { d with ramp := d.enabledDomains.map (fun n => (n, d.tk)) }

/-! ### Entering a mode -/

/-- Step and capture engines halt, one in a micro-routine after its RET, and outputs mute (R509, R132, R204, R444).
[DEDUCED, assumption 30] -/
def Dev.haltAll (d : Dev) (now : Nat) : Dev :=
  let d := (d.ocs.map (·.1)).foldl (fun d n => d.halt n now) d
  let d := (d.ics.map (·.1)).foldl (fun d i => d.ceHalt i) d
  (List.range 192).foldl (fun d n => if d.domOn n then (d.fset (OC_STATUS.M_MODE n) 1).muteUpdate n else d) d

/-- Modes in which the sieve decodes (R245). -/
def Mode.sieveOn (m : Mode) : Bool := m.running || m == .relay

/-- CAL_STAT.BUSY: a RUN or STORE is in progress.
[DESIGN CHOICE, assumption 68] -/
def Dev.calBusy (d : Dev) : Dev := d.fsetB CAL_STAT.BUSY (!d.calQ.isEmpty || d.calStore.isSome)

/-- GLB_MODE.CUR changes (R204, R510, R513): the entry, the source, M_MODE, queue mode, capture, sieve, link ports and domains follow.
[DESIGN CHOICE, assumptions 63, 64, 68] -/
def Dev.enterMode (d : Dev) (dest : Mode) (now : Nat) : Dev :=
  let was := d.mode
  let d := ((d.fset GLB_MODE.PREV was.code).fset GLB_MODE.CUR dest.code).fset GLB_MODE.BUSY d.warm.toNat
  let d := ({ d with modeAsk := none, calQ := if dest = .calibrate then d.calQ else [] } : Dev).calBusy
  let d := if was = dest then d else (d.bbxAdd .mode 0 was.code).raise 839
  let d := if dest = .relay then
      let d := d.enabledDomains.foldl Dev.domainDown d
      { d with ramp := [], rehyQ := [], relayUp := false }
    else { d with relayUp := false }
  let d := (List.range 192).foldl (fun d n => if d.domOn n then d.modeMute n else d) d
  let d := if dest.running then d else (d.ocs.map (·.1)).foldl Dev.flowStop d
  let d := (List.range 192).foldl (fun d n => if (d.ocMode n).queues then d else d.queueDrop n) d
  let d := (d.ics.map (·.1)).foldl (fun d i => if (d.icMode i).demods = 0 then (d.ceHalt i).ceDiscard i else d) d
  let d := if dest.running then d else d.acqStop now
  let d := if dest.sieveOn then d else d.svClear
  let d := d.fsetB SV_STATUS.ACTIVE dest.sieveOn
  (List.range 6).foldl Dev.portApply d

/-! ### A failed boot attempt (R415) -/

/-- Memories that an attempt's register records write: a word of a BAR0 memory, the staging area behind MCS_UDATA, the graph stores
behind SV_GDATA. -/
def recordWrote (wrote : List Nat) (a : Nat) : Bool :=
  (bar0Writable a && wrote.contains (a / 4 * 4)) ||
    (wrote.contains MCS_UDATA.off && decide (stagingBase ≤ a) && decide (a < stagingBase + 0x8000)) ||
    (wrote.contains SV_GDATA.off && decide (tileBase ≤ a) && decide (a < nvBase))

/-- Everything the attempt wrote returns to default: registers, memories, the routine table, and from stage 5 on the domains and the
mode, with what entry to LOAD does (R385, R395, R403).
[DESIGN CHOICE, assumption 48] -/
def State.bootUndo (s : State) : State :=
  let b := s.dev.boot
  let hit := fun (a : Nat) => b.wroteMem.any (fun r => decide (r.1 ≤ a) && decide (a < r.1 + r.2))
  let s := s.withDev fun d =>
    let d : Dev := { d with
      regs := d.regs.filter (fun e => !b.wroteRegs.contains e.1)
      mem := d.mem.filter (fun e => !hit e.1 && !recordWrote b.wroteRegs e.1)
      lateMem := d.lateMem.filter (fun e => !hit e.1)
      lateRegs := d.lateRegs.filter (fun e => !b.wroteRegs.contains e.1.off)
      urt := [], mcChain := List.replicate 32 0
      boot := { b with wroteRegs := [], wroteMem := [], manifest := [] }
      cycle := if b.wroteRegs.any (fun o => decide (CL_CFG.off ≤ o) && decide (o ≤ CL_COMMIT.off)) then {} else d.cycle }
    let d := if b.wroteRegs.contains THM_LIM.off then d.setReg THM_LIM.off (limDefault d.otp.rangeLX) else d
    ((d.setReg MCS_VER.off (regReset MCS_VER.off)).setReg CFG_SEQ.off 0).fset CFG_STAT.STATE 0
  let s := if b.wroteRegs.any (fun o => decide (NT_SEC_LO.off ≤ o) && decide (o ≤ NT_INC_HI.off)) then
      { s with clk := { s.clk with stSecLo := none, stSecHi := none, stNs := none, stIncLo := none, stIncHi := none } }
    else s
  let s := if b.wroteRegs.contains TML_CTRL.off then { s with clk := { s.clk with startPend := false } } else s
  if s.dev.mode = .load then s
  else
    let s := s.withDev fun d =>
      let d := (List.range 224).foldl Dev.domainDefault d
      let d : Dev := { d with calQ := [], calAsk := [], edges := [], mkoHist := [] }
      let d := d.clDrop []
      (d.enterMode .load s.clk.now.toNat).calBusy
    s.setClk s.clk.afterReset

/-- The watchdog's reset takes effect once its freeze has ended or failed (R530). In LOAD it fails the attempt (R516): what the
attempt wrote is undone, class A values included, and the boot goes on with the other slot (R415).
[DESIGN CHOICE, assumption 48] -/
def State.dogReset (s : State) : State :=
  if s.dev.dogWait && s.dev.freeze.isNone && !s.dev.frzDue.contains 3 then
    let failed : Bool := match s.dev.boot.phase with | .loaded => true | .failing _ => s.dev.mode == .load | _ => false
    let slot := s.dev.boot.slot
    if failed then
      (s.bootUndo.resetB 3 false).withDev fun d => { d.slotFail slot 9 with boot := { d.boot with fellBack := true } }
    else s.resetB 3 false
  else s

/-! ### Requests (R507 to R512) -/

/-- Whether Table 18-3 has a transition on the host's request. -/
def modeTable (cur dest : Mode) : Bool :=
  match dest with
  | .park => cur.running || cur == .relay || cur == .safe
  | .full => cur == .park || cur == .witness
  | .witness => cur == .park || cur == .full
  | .dense | .precise | .swift | .mixed | .relay => cur == .park
  | .safe => cur != .load && cur != .sleep
  | .sleep => cur == .park || cur == .safe
  | .load | .calibrate => false

/-- Every field of GLB_QMODE names a quarter mode (R505). -/
def Dev.qmodeOk (d : Dev) : Bool :=
  [GLB_QMODE.Q0, GLB_QMODE.Q1, GLB_QMODE.Q2, GLB_QMODE.Q3].all (fun f => decide (3 ≤ d.fget f) && decide (d.fget f ≤ 6))

/-- The CAUSE with which a request is refused, if it is (R507, R510, R512).
[DESIGN CHOICE, assumptions 62, 63] -/
def Dev.modeRefusal (d : Dev) (c : Clock) (code : Nat) : Option Nat :=
  let dest := Mode.ofCode code
  if d.bit THM_STAT.SDLATCH then some 8
  else if d.modeAsk.isSome || d.warm then some 6
  else if 11 < code ∨ modeTable d.mode dest = false then some 1
  else if d.mode = .safe ∧ dest = .park ∧ d.fget BBX_SAFE.PRESENT ≠ 0 then some 7
  else if dest.running || dest == .relay then
    if d.fget CFG_STAT.STATE ≠ 2 then some 2
    else if c.timed = false then some 3
    else if d.pllOut.isEmpty = false then some 4
    else if dest = .mixed ∧ d.qmodeOk = false then some 5
    else none
  else none

/-- A refused request is recorded; later refusals overwrite it (GLB_MERR). -/
def Dev.modeRefused (d : Dev) (cause code : Nat) : Dev :=
  ((d.flag GLB_MERR.VALID).fset GLB_MERR.CAUSE cause).fset GLB_MERR.REQ code

/-- An engine is RUNNING or WAITING (R509). -/
def Dev.anyEngineRuns (d : Dev) : Bool := d.ocs.any (fun e => e.2.eng.mode == .running || e.2.eng.mode == .waiting)

/-- A write of GLB_MODE (R507, R509, R510). -/
def Dev.wrMode (d : Dev) (c : Clock) (v : W32) : Dev :=
  let d := d.writeCodes GLB_MODE.off v
  if GLB_MODE.GO.of v = 0 then d
  else
    let code := GLB_MODE.REQ.of v
    match d.modeRefusal c code with
    | some cause => d.modeRefused cause code
    | none =>
      let dest := Mode.ofCode code
      let leaving := (d.mode.running && !dest.running) || d.mode == .relay
      let ask : ModeReq := { dest := dest, leaving := leaving, atShot := d.bit GLB_MODE.ATSHOT && d.anyEngineRuns, tk := d.tk }
      ({ d with modeAsk := some ask } : Dev).fset GLB_MODE.BUSY 1

/-- The point of R509 has come: the tick after the request, or the first shot boundary after it.
[DESIGN CHOICE, assumption 63] -/
def Dev.leaveDue (d : Dev) (q : ModeReq) : Bool :=
  decide (q.tk < d.tk) &&
    (!q.atShot || (match d.shotTk with | some t => decide (q.tk < t) | none => false) || !d.anyEngineRuns)

/-- The host's entry to SAFE (R534, cause 1, never held).
[DESIGN CHOICE, assumption 64] -/
def Dev.hostSafe (d : Dev) (now : Nat) : Dev :=
  let up := d.mode == .relay && !d.relayUp
  let d := (d.bbxAdd .safe 0 1).haltAll now
  let d := d.enterMode .safe now
  if up then d.rampAll else d

/-- MODE_LEAVE_RUNNING (R509): engines halt and outputs mute. The transition completes on this tick, but from RELAY to PARK the
domains power on and rehydrate first (R513). -/
def Dev.leaveRunning (d : Dev) (now : Nat) : Dev :=
  match d.modeAsk with
  | some q =>
    if q.leaving && d.leaveDue q then
      if q.dest = .safe then d.hostSafe now
      else if d.mode = .relay then
        let d : Dev := { d with modeAsk := some { q with leaving := false }, relayUp := true }
        d.rampAll
      else (d.haltAll now).enterMode q.dest now
    else d
  | none => d

/-- The rest of a transition completes (R508, R510, R513); entry to SLEEP resets classes B to E (R517).
[DESIGN CHOICE, assumption 94] -/
def State.entryComplete (s : State) : State :=
  match s.dev.modeAsk with
  | some q =>
    if q.leaving || decide (s.dev.tk ≤ q.tk) then s
    else if s.dev.mode = .relay && !(s.dev.ramp.isEmpty && s.dev.rehyQ.isEmpty) then s
    else if q.dest = .sleep then s.enterSleep
    else if q.dest = .safe then s.withDev fun d => d.hostSafe s.clk.now.toNat
    else s.withDev fun d => d.enterMode q.dest s.clk.now.toNat
  | none => s

/-! ### SAFE (R511, R534) -/

/-- The device enters SAFE for a cause that has arisen; a host request for another mode is lost (R511).
[DESIGN CHOICE, assumption 64] -/
def Dev.enterSafe (d : Dev) (c now : Nat) : Dev :=
  let d : Dev := { d with safeDue := d.safeDue.filter (· != c) }
  if d.mode = .load ∨ d.mode = .sleep then d
  else
    let d := match d.modeAsk with
      | some q => if q.dest = Mode.safe then d else d.modeRefused 6 q.dest.code
      | none => d
    if d.mode = .safe then (({ d with modeAsk := none } : Dev).fset GLB_MODE.BUSY d.warm.toNat)
    else
      let up := d.mode == .relay && !d.relayUp
      let d := (d.haltAll now).enterMode .safe now
      if up then d.rampAll else d

/-- Code of a SAFE cause (Table 19-6). -/
def safeCauseCode : SafeCause → Nat
  | .host => 1 | .task => 2 | .pll => 3 | .intscan => 4 | .shutdown => 5

/-- SAFE_ENTRY. -/
def Dev.safeEntry (d : Dev) (cause : SafeCause) (now : Nat) : Dev :=
  if cause = .host then
    match d.modeAsk with
    | some q => if q.dest = .safe ∧ q.tk < d.tk ∧ (q.leaving = false ∨ d.leaveDue q = true) then d.hostSafe now else d
    | none => d
  else if d.safeDue.contains (safeCauseCode cause) then d.enterSafe (safeCauseCode cause) now else d

/-- Every cause still waiting enters SAFE on its own tick (R509). -/
def Dev.safeAll (d : Dev) (now : Nat) : Dev := d.safeDue.foldl (fun d c => d.enterSafe c now) d

/-- SHUTDOWN_POWER_DOWN (Table 16-4): every domain but the always-on one goes down, and the latch is set. -/
def State.shutdownDown (s : State) : State :=
  match s.dev.heat.shutdown with
  | none => s
  | some x =>
    if x.recorded then
      let wait := s.dev.heat.pinWait
      let s := s.enterSleep.withDev fun d =>
        let d : Dev := { d with heat := { d.heat with pinWait := wait } }
        let d := d.fset THM_STAT.SDLATCH 1
        let cause := if x.cause = 1 then 2 else 4
        (d.fset GLB_RSTCAUSE.CAUSE cause).bbxAdd .reset 0 cause
      s.pinWaiting
    else s

/-- AUTORESTART (R465). -/
def State.autorestart (s : State) : State :=
  if s.dev.bit THM_STAT.SDLATCH && s.dev.bit THM_CTL.AUTORESTART && s.dev.cooled then s.resetB 1 true else s

/-- A wake from SLEEP (R518): by task 346, the SMBus command or RST_N; the first two wait for no latch.
[DEDUCED, assumption 61] -/
def State.wakeUp (s : State) (cause : WakeCause) : State :=
  if s.dev.mode ≠ .sleep then s
  else match cause with
    | .rstN => s.pinReset 1
    | .task | .smbus => if s.dev.bit THM_STAT.SDLATCH then s else s.resetB 5 false

/-- Task 346 has an event to wake on (R518). -/
def Dev.taskTake (d : Dev) (i : Nat) : Dev :=
  { d with tasks := tset {} d.tasks i { tget {} d.tasks i with arr := [] } }

/-! ### Warm reset (R515) -/

/-- Fields of the link ports that a warm reset keeps: their state and lanes (R515).
[DESIGN CHOICE, assumption 67] -/
def linkKept (off : Nat) : Bool :=
  (List.range 6).any (fun p => off == LNK_P_STAT.off p || (List.range 4).any (fun q => off == LNK_PL_STAT.off p q))

/-- HDR_ERR is a class E counter of a register whose other fields a warm reset keeps (R515, Table 18-5). -/
def hdrErrClear (e : Nat × W32) : Nat × W32 :=
  if (List.range 24).any (fun k => e.1 == LNK_PL_STAT.off (k / 4) (k % 4)) then (e.1, (LNK_PL_STAT.HDR_ERR 0 0).put e.2 0) else e

/-- Registers of the host port that a warm reset keeps: the link stays up (R515).
[DESIGN CHOICE, assumption 67] -/
def hostKept (off : Nat) : Bool := off == PCI_STAT.off

/-- Memories a warm reset returns to default: those of BAR2, the graph stores, the user staging area (Table 18-5, R449).
[DESIGN CHOICE, assumption 67] -/
def memWarm (a : Nat) : Bool :=
  (decide (bar2Base ≤ a) && decide (a < bar4Base)) || (decide (tileBase ≤ a) && decide (a < nvBase)) ||
    (decide (stagingBase ≤ a) && decide (a < flashBase)) || (decide (descBase ≤ a) && decide (a < descBase + 0x8000)) ||
    (decide (msixBase ≤ a) && decide (a < msixBase + 0x1000))

/-- The device after classes C, D and E have returned to default (R515, Table 18-5).
[DESIGN CHOICE, assumption 67] -/
def Dev.afterC (d : Dev) : Dev :=
  let sums := d.ocs.filterMap (fun e => if e.2.sumSq = 0 then none else some (e.1, ({ sumSq := e.2.sumSq } : OcSt)))
  { d with
    regs := (d.regs.filter (fun e => linkKept e.1 || hostKept e.1 ||
      ((regRow? e.1).map (fun r => r.cls == .a || r.cls == .b)).getD false)).map hdrErrClear
    mem := d.mem.filter (fun e => !memWarm e.1)
    shot := 0, round := 0, taint := d.nospareTaint, shotLo := none, shotHiShadow := 0, asapNew := [], asapDue := [], pgs := []
    tmlSh := {}, ocs := sums, slots := [], shotTk := none, taintTk := none, staged := [], force := [], eras := [], labels := [], gsSoon := []
    gsNext := [], gsDone := [], lateRegs := [], lateMem := [], frameWr := [], ucommit := none, ics := [], colWait := [], colTaken := none
    transit := [], loWrites := [], sieve := {}, decq := [], sieveq := [], trigq := [], mkIntake := [], wit := {}, dmas := []
    remotes := [], hostWr := [], lateReads := [], dmaLast := 31, dmaTick := [], pci := {}, rlyTk := [], flash := none, calStaged := [], calQ := []
    calAsk := List.range 236, pba := [], mkIn := [], edges := [], rillLines := [], lvlNow := []
    mkoHist := [], stamps := [], stampSpill := false, stampSeq := 0, cycle := {}, modeAsk := none }

/-- Modes in which a warm reset is accepted (R515). -/
def Mode.warmOk (m : Mode) : Bool := m == .park || m == .calibrate || m == .relay || m == .safe

/-- A write of GLB_RST (R515).
[DESIGN CHOICE, assumption 62] -/
def State.wrReset (s : State) (v : W32) : State :=
  if GLB_RST.WARM.of v = 1 ∧ s.dev.mode.warmOk = true ∧ s.dev.warm = false then
    let was := s.dev.mode
    let d := s.dev.afterC.calBusy.resetEntries 6 was
    let d : Dev := { d with warm := true }
    let d := d.fset GLB_MODE.BUSY 1
    let d := if was = .relay then ({ d with relayUp := true } : Dev).rampAll else d
    let d := (List.range 6).foldl Dev.portApply d
    let d := d.fsetB SV_STATUS.ACTIVE was.sieveOn
    ({ s with dev := d } : State).setClk { s.clk.afterReset with starting := true }
  else s

end Sys2Proof.Machine
end

