-- ==== Sys2Proof/Machine/Sediment.lean ====
section
/-! DEFINITION. Meanings of the commands of the sediment record and of single faults (spec/19_sediment_record_and_faults.md). -/
namespace Sys2Proof.Machine

/-- Code of a freeze cause (Table 19-4). -/
def freezeCode : FreezeCause → Nat
  | .thermal => 1 | .pfail => 2 | .watchdog => 3 | .safe => 4 | .host => 5

/-- NOTE_WRITE (R526). -/
def execNoteWrite (v : W32) (s : State) : Host.Outcome State Fault Refusal := .next (s.withDev fun d => d.wrNote v)

/-- FREEZE_START (R529 to R531): the host's cause is its write of FREEZE; another starts once it has arisen. A watchdog reset
follows a freeze that cannot start. -/
def execFreezeStart (cause : FreezeCause) (s : State) : Host.Outcome State Fault Refusal :=
  .next (s.withDev fun d =>
    if cause = .host ∨ d.frzDue.contains (freezeCode cause) = true then d.freezeStart (freezeCode cause) else d).dogReset

/-- FREEZE_COMPLETE (R529, R530). -/
def execFreezeComplete (s : State) : Host.Outcome State Fault Refusal := .next (s.withDev Dev.freezeComplete).dogReset

/-- FRAME_ERASE (R533): once after each boot has reached PARK. -/
def execFrameErase (s : State) : Host.Outcome State Fault Refusal :=
  .next (s.withDev fun d =>
    if d.boot.phase = .done ∧ d.boot.eraseDone = false then
      let d := d.frameErase 15
      { d with boot := { d.boot with eraseDone := true } }
    else d)

/-- SAFE_ENTRY (R534, R509). -/
def execSafeEntry (cause : SafeCause) (s : State) : Host.Outcome State Fault Refusal :=
  .next (s.withDev fun d => d.safeEntry cause s.clk.now.toNat)

/-- SAFE_ACK (R534). -/
def execSafeAck (v : W32) (s : State) : Host.Outcome State Fault Refusal := .next (s.withDev fun d => d.wrSafe v)

/-- LOCKSTEP_MISMATCH (R536): the controller restarts, and the firmware's DMA channels stop.
[DESIGN CHOICE, assumption 79] -/
def execLockstepMismatch (s : State) : Host.Outcome State Fault Refusal :=
  .next (s.withDev fun d =>
    if d.mode = .sleep then d
    else
      let d : Dev := { d with ctlRestart := some (d.ctlRestart.getD 0) }
      [28, 29, 30, 31].foldl Dev.dmaStop d)

/-- CONTROLLER_RESTART_DONE (R536): three attempts without success raise source 840, and the watchdog then acts.
[DESIGN CHOICE, assumption 79] -/
def execControllerRestartDone (ok : Bool) (s : State) : Host.Outcome State Fault Refusal :=
  .next (s.withDev fun d =>
    match d.ctlRestart with
    | none => d
    | some k =>
      if 3 ≤ k then d
      else if ok then { d with ctlRestart := none }
      else
        let d : Dev := { d with ctlRestart := some (k + 1) }
        if k + 1 = 3 then d.raise 840 else d)

end Sys2Proof.Machine
end

