-- ==== Sys2Proof/Machine/Modes.lean ====
section
/-! DEFINITION. Meanings of the commands of modes, resets and power domains (spec/18_modes_resets_retention.md), and of the
heat commands that reset the device (spec/16). -/
namespace Sys2Proof.Machine

/-- POWER_ON (R548). -/
def execPowerOn (strap : BitVec 3) (s : State) : Host.Outcome State Fault Refusal := .next (s.powerOn strap)

/-- VAUX_LOSS (R548). -/
def execVauxLoss (s : State) : Host.Outcome State Fault Refusal := .next s.vauxLost

/-- PIN_RESET (R558, R559, R465): shorter than 1 µs it is ignored, from 10 µs it acts. -/
def execPinReset (widthNs : Nat) (s : State) : Host.Outcome State Fault Refusal :=
  let (acts, d) := s.dev.pinActs widthNs 1000 10000
  .next (if acts then ({ s with dev := d } : State).pinReset 1 else { s with dev := d })

/-- WATCHDOG_EXPIRY (R514, R530). -/
def execWatchdogExpiry (s : State) : Host.Outcome State Fault Refusal := .next s.watchdog

/-- WARM_RESET (R515). -/
def execWarmReset (v : W32) (s : State) : Host.Outcome State Fault Refusal := .next (s.wrReset v)

/-- SENSOR_SAMPLE (R451 to R457, R463); a pin reset that waits for the sensors takes effect (R465). -/
def execSensorSample (counts powers : List Nat) (s : State) : Host.Outcome State Fault Refusal :=
  .next (s.withDev fun d => d.sensorSample s.clk counts powers).pinWaiting

/-- SHUTDOWN_POWER_DOWN (R463, R517). -/
def execShutdownPowerDown (s : State) : Host.Outcome State Fault Refusal := .next s.shutdownDown

/-- AUTORESTART (R465). -/
def execAutorestart (s : State) : Host.Outcome State Fault Refusal := .next s.autorestart

/-- MODE_REQUEST (R507 to R512). -/
def execModeRequest (v : W32) (s : State) : Host.Outcome State Fault Refusal := .next (s.withDev fun d => d.wrMode s.clk v)

/-- MODE_LEAVE_RUNNING (R509). -/
def execModeLeaveRunning (s : State) : Host.Outcome State Fault Refusal :=
  .next (s.withDev fun d => d.leaveRunning s.clk.now.toNat)

/-- MODE_ENTRY_COMPLETE (R508, R510, R513, R517). -/
def execModeEntryComplete (s : State) : Host.Outcome State Fault Refusal := .next s.entryComplete

/-- WAKE (R518): task 346 wakes when an event waits at it. -/
def execWake (cause : WakeCause) (s : State) : Host.Outcome State Fault Refusal :=
  .next (if cause = .task then
      (if (tget {} s.dev.tasks 346).arr.isEmpty then s else (s.withDev fun d => d.taskTake 346).wakeUp cause)
    else s.wakeUp cause)

/-- DOMAIN_POWER_WRITE (R523). -/
def execDomainPowerWrite (j : Fin 7) (v : W32) (s : State) : Host.Outcome State Fault Refusal :=
  .next (s.withDev fun d => d.wrPower j.val v)

/-- DOMAIN_POWER_UP (R524). -/
def execDomainPowerUp (dom : DomainId) (s : State) : Host.Outcome State Fault Refusal :=
  .next (s.withDev fun d => d.domainUp dom.val)

end Sys2Proof.Machine
end

