-- ==== Sys2Proof/Machine/CalOps.lean ====
section
/-! DEFINITION. Calibration, self-test and repair (R477 to R501). -/
namespace Sys2Proof.Machine

/-! ### Temperature sets (R480 to R484) -/

/-- Number of element groups (Table 17-1). -/
def calGroups : Nat := 236

/-- N_t in 1/16 °C (Table 17-2). -/
def nominal (t : Nat) : Nat := 640 + 240 * t

/-- A slot is valid: both CRC values check (R429). -/
def Dev.slotValid (d : Dev) (t k : Nat) : Bool :=
  crc32 (d.rdBytes (setPage t k) 60) == d.rdLe (setPage t k + 60) 4 && crc32 (d.rdBytes (setBase t k) 0x4000) == d.rdLe (setPage t k + 8) 4

/-- SEQ of a slot's commit record. -/
def Dev.slotSeq (d : Dev) (t k : Nat) : Nat := d.rdLe (setPage t k) 4

/-- Set t is present, from a committed slot or from its factory copy (R480). -/
def Dev.setPresent (d : Dev) (t : Nat) : Bool := d.slotValid t 0 || d.slotValid t 1 || Config.factoryCopy t

/-- CAL_STAT.PRESENT and FACTORY follow the sets (R480). -/
def Dev.showSets (d : Dev) : Dev :=
  let mask := fun (p : Nat → Bool) => (List.range 5).foldl (fun m t => if p t then m + 2 ^ t else m) 0
  (d.fset CAL_STAT.PRESENT (mask d.setPresent)).fset CAL_STAT.FACTORY
    (mask (fun t => !d.slotValid t 0 && !d.slotValid t 1 && Config.factoryCopy t))

/-- The present sets, in rising order of N. -/
def Dev.sets (d : Dev) : List Nat := (List.range 5).filter (fun t => bitAt (d.fget CAL_STAT.PRESENT) t)

/-- The die region that governs a group's temperature (R481). -/
def groupRegion (g : Nat) : Nat := match groupQuarter g with | some q => q + 1 | none => 0

/-- T of a group: the mean of its die's estimates, rounded (R481).
[DESIGN CHOICE, assumption 86] -/
def Dev.groupTemp (d : Dev) (g : Nat) : Int :=
  let ss := regionSensors (groupRegion g)
  roundDiv (ss.foldl (fun a s => a + sext 16 (d.fget (THM_SNS.T s))) 0) ss.length

/-- The set nearest 70 °C, for group 225: the lower one wins a tie (R481). -/
def midSet (ts : List Nat) : Option Nat :=
  [2, 1, 3, 0, 4].find? (fun t => ts.contains t)

/-- i, j and w of R482 for a temperature among present sets; an end set alone outside their range.
[DESIGN CHOICE, assumption 86] -/
def setPair (ts : List Nat) (temp : Int) : Nat × Nat × Nat :=
  match ts.head?, ts.getLast? with
  | some lo, some hi =>
    if temp < nominal lo ∨ lo = hi then (lo, lo, 0)
    else if (nominal hi : Int) < temp then (hi, hi, 0)
    else
      let below := ts.filter (fun t => decide ((nominal t : Int) ≤ temp) && t != hi)
      let i := below.getLastD lo
      let j := (ts.find? (fun t => decide (i < t))).getD hi
      (i, j, ((temp - nominal i) * 256 / ((nominal j : Int) - nominal i)).toNat)
  | _, _ => (0, 0, 0)

/-- v of R482.
[DESIGN CHOICE, assumption 86] -/
def setValue (vi vj : Int) (w : Nat) : Int := vi + roundDiv ((vj - vi) * w) 256

/-- The set a choice among redundant elements comes from: the nearest N, the lower one winning a tie (R483). -/
def choiceSet (ts : List Nat) (temp : Int) : Option Nat :=
  ts.foldl (fun b t => match b with
    | none => some t
    | some u => if (temp - nominal t).natAbs < (temp - nominal u).natAbs then some t else some u) none

/-- The equalizer coefficients of an OC are staged: values of the sets, whose content is the firmware's own and free here, or the
default of R156 with no set (R480, R482, R484).
[DESIGN CHOICE, assumption 86] -/
def Dev.stageEq (d : Dev) (n : Nat) (sets : Bool) : Nat → Dev
  | 0 => d
  | k + 1 =>
    let d := d.stageEq n sets k
    let off := TS_EQ.off n k
    if sets then let (x, d) := d.draw; d.stage n off (x.setWidth 32 &&& 0x3FFFF#32) else d.stage n off (regReset off)

/-- A group's values are computed and staged (R482, R484). -/
def Dev.calStageGroup (d : Dev) (g : Nat) : Dev :=
  let ts := d.sets
  let temp := d.groupTemp g
  let d := if ts.isEmpty then d.flag CAL_ERR.NOSET else d
  let (i, j, w) := if g = 225 then let t := (midSet ts).getD 0; (t, t, 0) else setPair ts temp
  let x : CalStage := { at_ := d.tk, t := satInt 16 temp, i := i, j := j, w := w, choice := choiceSet ts temp }
  let d : Dev := { d with calStaged := tput d.calStaged g x, calAsk := d.calAsk.filter (· != g) }
  if g < 192 ∧ d.domOn g = true then d.stageEq g (!ts.isEmpty) 32 else d

/-- The firmware runs: booted or booting past stage 4, and not restarting (R484, R536). -/
def Dev.firmwareUp (d : Dev) : Bool :=
  d.mode != .load && d.mode != .sleep && d.ctlRestart.isNone && (d.boot.phase == .calibrating || d.boot.phase == .done)

/-- T has moved by 0.5 °C since the values last applied (R484). -/
def Dev.tempMoved (d : Dev) (g : Nat) : Bool :=
  match d.calApplied.find? (fun e => e.1 == g) with
  | some (_, t) => decide (8 ≤ (d.groupTemp g - sext 16 t).natAbs)
  | none => false

/-- CAL_RECOMPUTE (R484). -/
def Dev.calRecompute (d : Dev) (g : Nat) : Dev :=
  if d.firmwareUp && (d.calAsk.contains g || (g != 225 && d.tempMoved g)) then d.calStageGroup g else d

/-! ### Runs and commits (R478, R479, R485, R487) -/

/-- A calibration RUN (R487). A transition that is pending keeps the device from CALIBRATE.
[DESIGN CHOICE, assumptions 87, 89] -/
def Dev.calRun (d : Dev) (now : Nat) : Dev :=
  if (d.mode == .park && d.modeAsk.isNone && !d.warm) || d.mode == .calibrate then
    let g := d.fget CAL_CTL.GROUP
    let gs := if g < calGroups then [g] else List.range calGroups
    let d := if d.mode = .park then d.enterMode .calibrate now else d
    let d : Dev := { d with calQ := gs.foldl (fun q g => insNat g q) d.calQ, calTk := if d.calQ.isEmpty then d.tk else d.calTk }
    d.calBusy
  else d.flag CAL_ERR.MODE_BAD

/-- A STORE is refused (R485). -/
def Dev.storeBad (d : Dev) (t : Nat) : Bool :=
  decide (5 ≤ t) || !d.bit CAL_STAT.FULL || d.calStore.isSome ||
    d.calTemp.any (fun e => match e.2 with | some x => decide (48 < (x - (nominal t : Int)).natAbs) | none => false)

/-- The slot that does not hold the newer valid copy (R429). -/
def Dev.oldSlot (d : Dev) (t : Nat) : Nat :=
  match d.slotValid t 0, d.slotValid t 1 with
  | true, true => if d.slotSeq t 0 < d.slotSeq t 1 then 0 else 1
  | true, false => 1
  | _, _ => 0

/-- A STORE (R485): the slot and its commit page are erased first (R429). -/
def Dev.calStoreReq (d : Dev) : Dev :=
  let t := d.fget CAL_CTL.SET
  if d.storeBad t then d.flag CAL_ERR.STORE_BAD
  else
    let k := d.oldSlot t
    let d := (d.clearMem (setBase t k) 0x4000).clearMem (setPage t k) 64
    ({ d with calStore := some (t, k, d.tk) } : Dev).calBusy

/-- A write of CAL_CTL (R485, R487). -/
def Dev.wrCalCtl (d : Dev) (v : W32) (now : Nat) : Dev :=
  let d := d.writeCodes CAL_CTL.off v
  let d := if CAL_CTL.RUN.of v = 1 then d.calRun now else d
  if CAL_CTL.STORE.of v = 1 then d.calStoreReq else d

/-- CAL_SET_COMMITTED (R429). -/
def Dev.setCommitted (d : Dev) (nt : NetTime) : Dev :=
  match d.calStore with
  | none => d
  | some (t, k, _) =>
    if d.ctlRestart.isSome then d
    else
      let data := freeBytes d.free 2048
      let d : Dev := { d with free := d.free + 2048, calStore := none }
      let seq := if d.slotValid t (1 - k) then d.slotSeq t (1 - k) + 1 else 1
      let d := d.wrBytes (setBase t k) data
      let d := d.wrBytes (setPage t k) (nvPage (leBytes 4 seq ++ leBytes 1 t ++ leBytes 1 k ++ leBytes 2 0x5A5A ++
        leBytes 4 (crc32 data) ++ leBytes 8 nt.sec.toNat ++ leBytes 4 nt.ns))
      ({ d.showSets with calAsk := List.range calGroups } : Dev).calBusy

/-- The last group of a RUN is over (R487): back to PARK, but for boot calibration (R486).
[DESIGN CHOICE, assumption 87] -/
def Dev.calNext (d : Dev) (g now : Nat) : Dev :=
  let d : Dev := { d with calQ := d.calQ.filter (· != g) }
  let d := d.fsetB CAL_STAT.FULL ((List.range calGroups).all (fun g => (tget none d.calTemp g).isSome))
  let d := d.calBusy
  if d.calQ.isEmpty && d.mode == .calibrate && d.boot.phase != .calibrating then d.enterMode .park now else d

/-- A group fails (R479): the group and the step are recorded. -/
def Dev.calFail (d : Dev) (g step : Nat) (f : Fld) : Dev := ((d.flagRaise f 769).fset CAL_ERR.STEP step).fset CAL_ERR.FGROUP g

/-- A group's calibration ends within its deadlines (R478), or with an implausible value in a step that the command does not name
(R479).
[DESIGN CHOICE, assumptions 87, 90] -/
def Dev.calComplete (d : Dev) (g : Nat) (plausible : Bool) (nt : NetTime) (now : Nat) : Dev :=
  if d.calQ.contains g && d.mode == .calibrate && d.ctlRestart.isNone then
    let d := if plausible then
        let d := d.wrapInc (CAL_GRP_CNT.CNT g)
        let d := (d.fset (CAL_GRP_SEC.SEC g) nt.sec.toNat).fset (CAL_GRP_NS.NS g) nt.ns
        let d : Dev := { d with calTemp := tset none d.calTemp g (some (d.groupTemp g)) }
        (d.calStageGroup g).raise 768
      else let (x, d) := d.draw; d.calFail g (x.toNat % 256) CAL_ERR.RANGE
    d.calNext g now
  else d

/-- The step deadline of a group (Table 17-1).
[DESIGN CHOICE, assumption 87] -/
def stepDeadline (g : Nat) : Nat := if g < 224 ∨ g = 225 then 625000 else if g = 224 then 312500 else 62500

/-- CAL_STEP_DEADLINE (R479): no step can overrun before its deadline has passed since the run began.
[DESIGN CHOICE, assumption 87] -/
def Dev.calDeadline (d : Dev) (g step now : Nat) : Dev :=
  if d.calQ.contains g && d.mode == .calibrate && decide (d.calTk + stepDeadline g ≤ d.tk) then (d.calFail g step CAL_ERR.DEADLINE).calNext g now else d

/-! ### Exchanges while running (R488) -/

/-- A calibrated spare sub-converter takes the place of the oldest serving one (R488). -/
def Dev.convExchange (d : Dev) (i : Nat) : Dev :=
  let c := tget {} d.convs i
  let x := d.ic i
  let still := x.mode == .idle || x.mode == .primed || x.mode == .ended
  let due := if still then decide (c.last + 625000 ≤ d.tk)
    else decide (4096 < c.boundaries) && d.shotTk == some d.tk && !x.dts.any (fun e => !e.2.open_.isEmpty)
  match c.serving, c.spare with
  | old :: rest, new :: more =>
    if d.bit CAL_CTL.BG && d.domOn (192 + i) && due then
      { d with convs := tset {} d.convs i { serving := rest ++ [new], spare := more ++ [old], boundaries := 0, last := d.tk } }
    else d
  | _, _ => d

/-- A stamp source has registered no edge for 1,000 tk (R488): inputs 0 to 15, TIMEBEAT 16, the SYNC arrivals 17 to 22.
[DESIGN CHOICE, assumption 91] -/
def sourceIdle (d : Dev) (c : Clock) (src : Nat) : Bool :=
  if src < 16 then (match (tget {} d.mkIn src).last with | some t => decide (t / 1024 + 1000 ≤ d.tk) | none => true)
  else
    let last := if src = 16 then c.lastBeat else (tget {} c.ports (src - 17)).lastSync
    match last with | some t => decide (t + 1000 ≤ d.tk) | none => true

/-- A spare capacitor takes the place of the oldest serving one of an idle source (R488).
[DESIGN CHOICE, assumption 91] -/
def Dev.capExchange (d : Dev) (c : Clock) (src : Nat) : Dev :=
  match d.capSpare with
  | [] => d
  | new :: more =>
    if d.bit CAL_CTL.BG && d.mode != .sleep && d.capAge.find? (sourceIdle d c) == some src then
      { d with caps := tset src d.caps src new, capSpare := more ++ [tget src d.caps src]
               capAge := d.capAge.filter (· != src) ++ [src] }
    else d

/-! ### Slices (R489 to R496) -/

/-- Key of a row of Table 17-3 among the slices. -/
def rowKey : TestRow → Nat
  | .sram => 0 | .tile => 1 | .lane p => 2 + p.val | .pll => 8 | .oc => 9 | .ic => 10 | .part => 11

/-- Slice length in tk (Table 17-3). -/
def rowLength : TestRow → Nat
  | .sram => 400 | .tile => 25000000 | .lane _ => 12500000 | .pll => 625000 | .oc => 3200 | .ic => 1600 | .part => 1250

/-- Number of units of a row, taken round robin (R490).
[DESIGN CHOICE, assumption 88] -/
def rowUnits : TestRow → Nat
  | .sram => 1024 | .tile => 1 | .lane _ => 4 | .pll => 4 | .oc => 192 | .ic => 32 | .part => 3

/-- Offset of a tick in the gap window k's present occurrence, if it covers the tick (R494). -/
def Dev.gapOffset (d : Dev) (k now : Nat) : Option Nat :=
  let at_ := d.fget (BST_GW_AT_LO.AT_LO k) + 2 ^ 32 * d.fget (BST_GW_AT_HI.AT_HI k)
  let per := d.fget (BST_GW_REP.PER k)
  if now < at_ then none
  else
    let o := if per = 0 then now - at_ else (now - at_) % per
    if o < d.fget (BST_GW_PER.LEN k) then some o else none

/-- Ticks that remain of the windows over channel domain `n` (R494): of an OC in a strobe group of GMASK, of an IC of ICMASK. -/
def Dev.gapLeft (d : Dev) (n now : Nat) : Nat :=
  (List.range 8).foldl (fun m k =>
    let covers := if n < 192 then bitAt (d.fget (BST_GW_PER.GMASK k)) (d.fget (OC_CFG.GROUP n))
      else bitAt (d.fget (BST_GW_ICM.ICMASK k)) (n - 192)
    match covers, d.gapOffset k now with
    | true, some o => max m (d.fget (BST_GW_PER.LEN k) - o)
    | _, _ => m) 0

/-- An OC that is in a gap on every tick (R494). -/
def Dev.alwaysGap (d : Dev) (n : Nat) : Bool :=
  decide (n < 192) && (d.bit (OC_STATUS.M_NOLOAD n) || d.bit (OC_STATUS.M_LOAD n) || d.bit (OC_STATUS.M_MODE n))

/-- Slice plus restore (R495). -/
def gapNeed (n : Nat) : Nat := if n < 192 then 3360 else 1760

/-- A slice may start on a channel domain now (R495): it fits, and its engine lets it. A still engine has no cursor. -/
def Dev.gapFits (d : Dev) (n now : Nat) : Bool :=
  d.domOn n && !d.rehydrating n && (d.alwaysGap n || decide (gapNeed n ≤ d.gapLeft n now)) &&
    (if n < 192 then
      let e := d.eng n
      !(List.range 64).any (fun s => d.segState n s == segArmed) && e.wait.isNone &&
        (e.still || decide (now + (if d.alwaysGap n then gapNeed n else d.gapLeft n now) ≤ e.cursor))
    else true)

/-- The next unit of a row at or after its round-robin place that may be tested (R490, R493, R495).
[DESIGN CHOICE, assumption 88] -/
def Dev.pickUnit (d : Dev) (row : TestRow) (now : Nat) : Option Nat :=
  let start := tget 0 d.nextUnit (rowKey row)
  match row with
  | .oc => ((List.range 192).map (fun i => (start + i) % 192)).find? (fun n => d.gapFits n now)
  | .ic => ((List.range 32).map (fun i => (start + i) % 32)).find? (fun i => d.gapFits (192 + i) now)
  | .part => ((List.range 3).map (fun i => (start + i) % 3)).find? (fun u => tget 0 d.retry u == 0) <|> some (start % 3)
  | .tile => if d.fget SV_STATUS.SPARE ≠ 31 ∧ d.sieve.rot = none ∧ d.sieve.rescue = none then some (d.fget SV_STATUS.SPARE) else none
  | .lane p => if d.bit BST_CTL.LANE && d.portState p.val == portUp4 then some (start % 4) else none
  | .sram | .pll => some (start % rowUnits row)

/-- A slice of a row starts on a unit.
[DESIGN CHOICE, assumption 88] -/
def Dev.sliceGo (d : Dev) (row : TestRow) (u : Nat) : Dev :=
  let d : Dev := { d with
    slices := tput d.slices (rowKey row) { unit := u, start := d.tk }
    nextUnit := tset 0 d.nextUnit (rowKey row) (match row, d.retry.find? (fun e => e.2 == 1) with
      | .part, some e => e.1
      | _, _ => (u + 1) % rowUnits row)
    retry := if row = .part then (d.retry.map (fun e => (e.1, e.2 - 1))).filter (fun e => e.2 != 0 && e.1 != u) else d.retry }
  match row with
  | .lane p =>
    match d.laneLogical p.val u with
    | some l =>
      let d := d.fset (LNK_P_STAT.WLANES p.val) (putBit (d.fget (LNK_P_STAT.WLANES p.val)) l false)
      let k := d.link p.val
      let d := d.setLink p.val { k with lost := k.lost ||| 2 ^ l, dropTk := d.tk }
      let d := d.setRx p.val u { d.rxLane p.val u with clean := 0 }
      (d.ctlPush p.val (laneBlock laneDrop (2 ^ l) false) 3).laneState p.val k.txLanes (d.fget (LNK_P_STAT.WLANES p.val))
    | none => d
  | _ => d

/-- On one channel a calibration and a slice alternate, the calibration first (R495); with BG off there is no calibration.
[DESIGN CHOICE, assumption 88] -/
def Dev.gapTurnOf (d : Dev) (n : Nat) : Bool × Dev :=
  if !d.bit CAL_CTL.BG || decide (192 ≤ n) then (true, d)
  else if d.gapTurn.contains n then (true, { d with gapTurn := d.gapTurn.filter (· != n) })
  else (false, { d with gapTurn := insNat n d.gapTurn })

/-- A slice starts on the next unit of a row (R489, R490); the controller tests one unit at a time. -/
def Dev.sliceStart (d : Dev) (row : TestRow) (now : Nat) : Dev :=
  if d.bit BST_CTL.EN && d.slices.isEmpty && d.mode != .load && d.mode != .sleep &&
      ((row != .oc && row != .ic) || d.bit BST_CTL.CH) then
    match d.pickUnit row now with
    | none => d
    | some u =>
      if row = .oc then let (go, d) := d.gapTurnOf u; if go then d.sliceGo row u else d
      else d.sliceGo row u
  else d

/-- A gap window opens (R495).
[DESIGN CHOICE, assumption 88] -/
def Dev.gapStart (d : Dev) (k now : Nat) : Dev :=
  if d.gapOffset k now = some 0 then
    let len := d.fget (BST_GW_PER.LEN k)
    let short := (if d.fget (BST_GW_PER.GMASK k) ≠ 0 ∧ len < 3360 then 1 else 0) +
      (if d.fget (BST_GW_ICM.ICMASK k) ≠ 0 ∧ len < 1760 then 1 else 0)
    let d := d.satAdd BST_CNT.SHORTGAP short
    (d.sliceStart .oc now).sliceStart .ic now
  else d

/-- A violation ends a channel's slice (R496); the restore takes 40 tk at most, a free number. -/
def Dev.gapViolation (d : Dev) (n : Nat) : Dev :=
  let key := if n < 192 then rowKey .oc else rowKey .ic
  match d.slices.find? (fun e => e.1 == key && e.2.unit == (if n < 192 then n else n - 192)) with
  | some _ =>
    let (x, d) := d.draw
    (({ d with slices := tdel d.slices key, restores := tput d.restores n (d.tk + x.toNat % 41) } : Dev).flagRaise
      BST_ERR.GAPVIOL 772).setTaint
  | none => d

/-- A slice without a spare, or the spare tile's, is abandoned for service (R492, R493). -/
def Dev.sliceAbandon (d : Dev) (row : TestRow) : Dev :=
  match d.slices.find? (fun e => e.1 == rowKey row) with
  | none => d
  | some (_, x) =>
    if row = .part ∨ row = .tile then
      let d : Dev := { d with slices := tdel d.slices (rowKey row) }
      let d := d.satAdd BST_CNT.ABANDONS 1
      if row = .part then
        { d with retry := tset 0 d.retry x.unit 10, nextUnit := tset 0 d.nextUnit (rowKey row) x.unit }
      else d
    else d

/-! ### Faults and repair (R497 to R500) -/

/-- UNIT and block index of a failed element (BST_FREC). An element number of an OC or IC names a DAC cell or a sub-converter
when it is one, and the path otherwise.
[DESIGN CHOICE, assumption 89] -/
def faultUnit (row : TestRow) (u : Nat) (el : BitVec 16) : Nat × Nat :=
  match row with
  | .sram => (0, u)
  | .tile => (1, u)
  | .lane p => (2, p.val)
  | .pll => (3, u)
  | .oc => (if el.toNat < 72 then 6 else 4, u)
  | .ic => (if el.toNat < 68 then 7 else 5, u)
  | .part => (9 + u, 0)

/-- Entries of the soft-repair table that name a unit and block.
[DESIGN CHOICE, assumption 92] -/
def Dev.repairsOf (d : Dev) (unit block : Nat) : Nat :=
  (List.range 256).countP (fun e => d.bit (BST_SRP.VALID e) && d.fget (BST_SRP.UNIT e) == unit && d.fget (BST_SRP.ELEM e) / 65536 == block)

/-- Spares of a unit for repair (Tables 17-1 and 17-4); none for lanes, paths and partitions, which have no repair.
[DESIGN CHOICE, assumption 89] -/
def spares (unit : Nat) : Option Nat :=
  match unit with
  | 0 | 1 | 3 => some 1
  | 6 => some 9
  | 7 => some 4
  | 8 => some 3
  | _ => none

/-- The next free entry of the soft-repair table takes a repair, which the firmware logs (R497, R500).
[DESIGN CHOICE, assumption 92] -/
def Dev.repairAdd (d : Dev) (unit block el : Nat) : Dev :=
  let w := BitVec.ofNat 32 (2 ^ 31 + unit * 2 ^ 26 + block % 1024 * 65536 + el)
  let d : Dev := { d with srpLog := d.srpLog ++ [w] }
  match (List.range 256).find? (fun e => !d.bit (BST_SRP.VALID e)) with
  | some e => d.setReg (BST_SRP.off e) w
  | none => d

/-- A soft repair takes effect (Table 17-4). -/
def Dev.repairAct (d : Dev) (unit block el : Nat) : Dev :=
  match unit with
  | 1 => (d.fset SV_STATUS.FAILED (Nat.lor (d.fget SV_STATUS.FAILED) (2 ^ block))).fset SV_STATUS.SPARE 31
  | 3 => d.fset (BST_PLL.SBY_FAIL block) 1
  | 6 => { d with calAsk := insNat block d.calAsk }
  | 7 =>
    let c := tget {} d.convs block
    let c := match c.serving.contains el, c.spare.filter (· != el) with
      | true, new :: more => { c with serving := c.serving.filter (· != el) ++ [new], spare := more }
      | _, _ => { c with serving := c.serving.filter (· != el), spare := c.spare.filter (· != el) }
    { d with convs := tset {} d.convs block c, calAsk := insNat (192 + block) d.calAsk }
  | _ => d

/-- A failed element is found (R497, R499).
[DESIGN CHOICE, assumption 89] -/
def Dev.elementFault (d : Dev) (unit block el : Nat) : Dev :=
  let d := if d.bit BST_FREC_LO.VALID then d
    else (((d.flag BST_FREC_LO.VALID).fset BST_FREC_LO.UNIT unit).fset BST_FREC_LO.SHOT d.shot24).fset BST_FREC_HI.ELEM
      (block * 65536 + el)
  let d := d.flagRaise BST_ERR.FAULT 772
  match spares unit with
  | none => d
  | some n =>
    if d.repairsOf unit block < n then ((d.repairAdd unit block el).repairAct unit block el).raise 773
    else
      let d := d.flagRaise BST_ERR.NOSPARE 774
      if unit = 6 ∨ unit = 7 then { d.setTaint with nospareTaint := true } else d

/-- A slice ends on its unit (R497): a lane rejoins (R491), a standby PLL that passes loses its mark (R498), a
channel's restore takes 160 tk (Table 17-3). -/
def Dev.sliceComplete (d : Dev) (row : TestRow) (fault : Option (BitVec 16)) : Dev :=
  match d.slices.find? (fun e => e.1 == rowKey row) with
  | none => d
  | some (_, x) =>
    if d.tk < x.start + rowLength row then d
    else
      let d := ({ d with slices := tdel d.slices (rowKey row) } : Dev).raise 771
      let d := match row with
        | .lane p => match d.laneLogical p.val x.unit with
          | some l => if d.portUp p.val then
              (d.setRx p.val x.unit { d.rxLane p.val x.unit with clean := 0 }).ctlPush p.val (laneBlock laneReady (2 ^ l) false) 3
            else d
          | none => d
        | .oc => { d with restores := tput d.restores x.unit (d.tk + 160) }
        | .ic => { d with restores := tput d.restores (192 + x.unit) (d.tk + 160) }
        | .pll => if fault.isNone then d.fset (BST_PLL.SBY_FAIL x.unit) 0 else d
        | _ => d
      match fault with
      | none => d
      | some el => let (unit, block) := faultUnit row x.unit el; d.elementFault unit block el.toNat

/-- The serving PLL of a quarter fails (R498): the standby serves. With the standby failed too, both are out of lock (R534). -/
def Dev.pllFailover (d : Dev) (q : Nat) : Dev :=
  if d.mode = .load ∨ d.mode = .sleep ∨ d.pllOut.contains q = true then d
  else if d.bit (BST_PLL.SBY_FAIL q) then ({ d with pllOut := insNat q d.pllOut } : Dev).safeArise 3
  else
    let d := (d.fsetB (BST_PLL.SERVING q) (!d.bit (BST_PLL.SERVING q))).fset (BST_PLL.SBY_FAIL q) 1
    (d.satAdd (BST_PLL.SWITCHES q) 1).raise 772

/-- The serving PLL of a quarter locks again (R534). -/
def Dev.pllRelock (d : Dev) (q : Nat) : Dev :=
  if d.pllOut.contains q then
    let d : Dev := { d with pllOut := d.pllOut.filter (· != q) }
    if d.pllOut.isEmpty then d.safeClear 3 else d
  else d

/-- A write of BST_FUSE (R500). -/
def Dev.wrFuse (d : Dev) (v : W32) : Dev :=
  let d := d.writeCodes BST_FUSE.off v
  if BST_FUSE.GO.of v = 0 then d
  else
    let e := BST_FUSE.ENTRY.of v
    if d.mode = .park ∧ d.bit (BST_SRP.VALID e) = true ∧ d.bit (BST_SRP.FUSED e) = false ∧ 0 < d.otp.fuseFree then
      let w := d.reg (BST_SRP.off e)
      let d := d.fset (BST_SRP.FUSED e) 1
      { d with otp := { d.otp with fuseFree := d.otp.fuseFree - 1, repairs := d.otp.repairs ++ [w] }
               srpLog := d.srpLog.map (fun x => if x = w then d.reg (BST_SRP.off e) else x) }
    else d.flag BST_FUSE.REFUSED

/-- The firmware re-applies its log of soft repairs (R500). -/
def Dev.repairsAgain (d : Dev) : Dev :=
  ((List.range d.srpLog.length).zip d.srpLog).foldl (fun d e =>
    let unit := bits e.2.toNat 29 26
    let d := if e.1 < 256 then d.setReg (BST_SRP.off e.1) e.2 else d
    d.repairAct unit (bits e.2.toNat 25 16) (bits e.2.toNat 15 0)) d

/-- A read of BST_SIG_LO (R501): the signature of the partition selected, or 0 to the host in PROVISIONED. -/
def Dev.rdSigLo (d : Dev) (a : Auth) : W32 × Dev :=
  let sig := if a = .host ∧ d.otp.provisioned = true then 0#64 else Config.bistSignature (d.fget BST_SIGSEL.PART)
  (sig.setWidth 32, { d with sigHi := (sig >>> 32).setWidth 32 })

end Sys2Proof.Machine
end

