-- ==== Sys2Proof/Machine/Cal.lean ====
section
/-! DEFINITION. Meanings of the commands of calibration, self-test and repair (spec/17_calibration_selftest_repair.md). -/
namespace Sys2Proof.Machine

/-- CAL_RUN (R487): the whole write of CAL_CTL. -/
def execCalRun (v : W32) (s : State) : Host.Outcome State Fault Refusal :=
  .next (s.withDev fun d => d.wrCalCtl v s.clk.now.toNat)

/-- CAL_STORE (R485): the whole write of CAL_CTL. -/
def execCalStore (v : W32) (s : State) : Host.Outcome State Fault Refusal :=
  .next (s.withDev fun d => d.wrCalCtl v s.clk.now.toNat)

/-- CALIBRATION_COMPLETE (R478, R479, R486, R487). -/
def execCalibrationComplete (g : GroupId) (plausible : Bool) (s : State) : Host.Outcome State Fault Refusal :=
  .next (s.withDev fun d => d.calComplete g.val plausible s.clk.nt s.clk.now.toNat)

/-- CAL_STEP_DEADLINE (R479). -/
def execCalStepDeadline (g : GroupId) (calStep : BitVec 8) (s : State) : Host.Outcome State Fault Refusal :=
  .next (s.withDev fun d => d.calDeadline g.val calStep.toNat s.clk.now.toNat)

/-- CAL_RECOMPUTE (R481 to R484). -/
def execCalRecompute (g : GroupId) (s : State) : Host.Outcome State Fault Refusal := .next (s.withDev fun d => d.calRecompute g.val)

/-- CAL_SET_COMMITTED (R429, R480). -/
def execCalSetCommitted (s : State) : Host.Outcome State Fault Refusal := .next (s.withDev fun d => d.setCommitted s.clk.nt)

/-- SUBCONVERTER_EXCHANGE (R488). -/
def execSubconverterExchange (ic : IcId) (s : State) : Host.Outcome State Fault Refusal :=
  .next (s.withDev fun d => d.convExchange ic.val)

/-- CAPACITOR_EXCHANGE (R488). -/
def execCapacitorExchange (src : Fin 23) (s : State) : Host.Outcome State Fault Refusal :=
  .next (s.withDev fun d => d.capExchange s.clk src.val)

/-- GAP_WINDOW_START (R494, R495). -/
def execGapWindowStart (k : Fin 8) (s : State) : Host.Outcome State Fault Refusal :=
  .next (s.withDev fun d => d.gapStart k.val s.clk.now.toNat)

/-- SELFTEST_SLICE (R489 to R491). -/
def execSelftestSlice (row : TestRow) (s : State) : Host.Outcome State Fault Refusal :=
  .next (s.withDev fun d => d.sliceStart row s.clk.now.toNat)

/-- SLICE_COMPLETE (R497 to R499). -/
def execSliceComplete (row : TestRow) (fault : Option (BitVec 16)) (s : State) : Host.Outcome State Fault Refusal :=
  .next (s.withDev fun d => d.sliceComplete row fault)

/-- SLICE_ABANDON (R492, R493). -/
def execSliceAbandon (row : TestRow) (s : State) : Host.Outcome State Fault Refusal := .next (s.withDev fun d => d.sliceAbandon row)

/-- GAP_VIOLATION (R496).
[DESIGN CHOICE, assumption 88] -/
def execGapViolation (dom : DomainId) (s : State) : Host.Outcome State Fault Refusal :=
  .next (s.withDev fun d => d.gapViolation dom.val)

/-- PLL_FAILOVER (R498, R534). -/
def execPllFailover (q : QuarterId) (s : State) : Host.Outcome State Fault Refusal := .next (s.withDev fun d => d.pllFailover q.val)

/-- PLL_RELOCK (R534). -/
def execPllRelock (q : QuarterId) (s : State) : Host.Outcome State Fault Refusal := .next (s.withDev fun d => d.pllRelock q.val)

/-- REPAIR_FUSE (R500). -/
def execRepairFuse (v : W32) (s : State) : Host.Outcome State Fault Refusal := .next (s.withDev fun d => d.wrFuse v)

/-- BST_SIG_LO_READ (R501). -/
def execBstSigLoRead (auth : Auth) (s : State) : Host.Outcome State Fault Refusal :=
  .next (s.withDev fun d => let (w, d) := d.rdSigLo auth; d.ret32 w)

end Sys2Proof.Machine
end

