-- ==== Sys2Proof/Machine/BallOps.lean ====
section
/-! DEFINITION. The SMBus target (R563, R564) and the TAP (R502, R503, R565, R566). -/
namespace Sys2Proof.Machine

/-! ### SMBus -/

/-- A LINEAR11 word (R564) of a number in units of 2⁻¹⁶, with the lowest exponent whose mantissa fits, rounded down.
[DESIGN CHOICE, assumption 73] -/
def linear11 (x : Int) : BitVec 16 :=
  if x = 0 then 0
  else match (List.range 32).find? (fun e => decide (-1024 ≤ x / 2 ^ e) && decide (x / 2 ^ e ≤ 1023)) with
    | some e => BitVec.ofNat 16 ((e + 16) % 32 * 2048 + (x / 2 ^ e % 2048).toNat)
    | none => 0x7BFF

/-- The number a LINEAR11 word stands for, in units of 2⁻¹⁶.
[DESIGN CHOICE, assumption 73] -/
def linearValue (w : BitVec 16) : Int := sext 11 w.toNat * 2 ^ (sext 5 (w.toNat / 2048) + 16).toNat

/-- In SLEEP only the rails of pages 6 to 10 carry values (R564). -/
def Dev.smbCarries (d : Dev) : Bool := d.mode != .sleep || (decide (6 ≤ d.smb.page.toNat) && decide (d.smb.page.toNat ≤ 10))

/-- A read returns a word or a byte. -/
def Dev.smbWord (d : Dev) (w : BitVec 16) : Dev := d.retBytes (leBytes 2 w.toNat)
def Dev.smbByte (d : Dev) (b : Byte) : Dev := d.retBytes [b]

/-- A word of the page's rail. -/
def Dev.smbRail (d : Dev) (t : Tbl (BitVec 16)) : Dev := d.smbWord (if d.smbCarries then tget 0 t d.smb.page.toNat else 0)

/-- PAGE: the rails 0 to 10 and the device, 0xFF; another value is ignored (R564). -/
def Dev.smbPage (d : Dev) (acc : SmbAccess) : Dev :=
  match acc with
  | .read => d.smbByte d.smb.page
  | .write b => if b.toNat ≤ 10 ∨ b = 0xFF#8 then { d with smb := { d.smb with page := b } } else d

/-- The refresh of every millisecond (R564): voltage, current and power of each rail, the total power as page 0xFF, the
temperatures and MFR_MODE.
[DESIGN CHOICE, assumption 73] -/
def Dev.smbRefresh (d : Dev) (rails : List RailReading) : Dev :=
  let put := fun (f : RailReading → BitVec 16) =>
    ((List.range 11).zip rails).foldl (fun (t : Tbl (BitVec 16)) e => tset 0 t e.1 (f e.2)) []
  let total := linear11 ((rails.take 11).foldl (fun a r => a + linearValue r.pin) 0)
  { d with smb := { d.smb with
      vin := put (·.vin), iin := put (·.iin), pin := tset 0 (put (·.pin)) 255 total
      temp1 := linear11 (sext 16 (d.fget THM_STAT.HOTT) * 4096)
      temp2 := linear11 (d.heat.hot4 * 4096)
      mode := BitVec.ofNat 8 (d.fget GLB_MODE.CUR + d.fget THM_STAT.LEVEL % 8 * 16 + d.fget THM_STAT.SDLATCH * 128) } }

/-! ### TAP -/

/-- The identification register (Table 20-11). -/
def idcode : W32 := BitVec.ofNat 32 (0x14192 * 2 ^ 12 + Config.jep106.toNat * 2 + 1)

/-- A boundary instruction takes the balls from the logic (R566): every link lane is lost and the host port's link goes down.
[DEDUCED, assumption 71] -/
def Dev.boundary_ (d : Dev) (i : TapIr) : Dev :=
  let d : Dev := { d with tap := i }
  let d := if d.linkRuns then
      (List.range 6).foldl (fun d p => (List.range 4).foldl (fun d q => d.laneLost p q) d) d
    else d
  d.hostLink false 0 0 {}

/-- The attestation report's place in BAR0 (R433). -/
def reportBase : Nat := 0x18000

/-- INTSCAN (R503): SAFE cause 4 arises, in LOAD the loader stops; the protected OTP is blocked and every secret zeroised.
[DESIGN CHOICE, assumption 72] -/
def Dev.intscan (d : Dev) : Dev :=
  let d : Dev := { d with tap := .intscan }
  let d := if d.mode = .load then ({ d with boot := { d.boot with phase := .stopped } } : Dev)
    else d
  let d := if d.mode = .sleep then d else d.safeArise 4
  let d := (List.range 8).foldl (fun d i => d.fset (SEC_NONCE.NONCE i) 0) d
  let d := (d.clearMem reportBase 0x300).clearMem mgmtBase 0x800000
  let d : Dev := { d with otpBlocked := true, attesting := false }
  ((d.fset SEC_STAT.BUSY 0).fset SEC_STAT.NOKEY 1).raise 836

end Sys2Proof.Machine
end

