-- ==== Sys2Proof/Machine/Ball.lean ====
section
/-! DEFINITION. Meanings of the SMBus and TAP commands (spec/20_balls_supplies_electrical.md). -/
namespace Sys2Proof.Machine

/-- PAGE (R564). -/
def execSmbPage (acc : SmbAccess) (s : State) : Host.Outcome State Fault Refusal := .next (s.withDev fun d => d.smbPage acc)

/-- READ_VIN (R564). -/
def execSmbReadVin (s : State) : Host.Outcome State Fault Refusal := .next (s.withDev fun d => d.smbRail d.smb.vin)

/-- READ_IIN (R564). -/
def execSmbReadIin (s : State) : Host.Outcome State Fault Refusal := .next (s.withDev fun d => d.smbRail d.smb.iin)

/-- READ_PIN (R564). -/
def execSmbReadPin (s : State) : Host.Outcome State Fault Refusal := .next (s.withDev fun d => d.smbRail d.smb.pin)

/-- READ_TEMPERATURE_1 (R564): 0 in SLEEP. -/
def execSmbReadTemperature1 (s : State) : Host.Outcome State Fault Refusal :=
  .next (s.withDev fun d => d.smbWord (if d.mode = .sleep then 0 else d.smb.temp1))

/-- READ_TEMPERATURE_2 (R564). -/
def execSmbReadTemperature2 (s : State) : Host.Outcome State Fault Refusal := .next (s.withDev fun d => d.smbWord d.smb.temp2)

/-- MFR_MODE (R564). -/
def execSmbMfrMode (s : State) : Host.Outcome State Fault Refusal := .next (s.withDev fun d => d.smbByte d.smb.mode)

/-- MFR_WAKE (R518, R564): 0x01 wakes, another value is ignored. -/
def execSmbMfrWake (data : Byte) (s : State) : Host.Outcome State Fault Refusal :=
  .next (if data = 1#8 then s.wakeUp .smbus else s)

/-- SMBUS_UNKNOWN_COMMAND (R564): a read returns 0xFF, a write is ignored. -/
def execSmbUnknownCommand (_code : Byte) (acc : SmbAccess) (s : State) : Host.Outcome State Fault Refusal :=
  .next (match acc with | .read => s.withDev fun d => d.smbByte 0xFF#8 | .write _ => s)

/-- SMBUS_TIMEOUT (R563): the target's interface resets. A command here is a whole transfer, so no transfer is left to give up,
and no value of the target changes.
[DESIGN CHOICE, assumption 73] -/
def execSmbTimeout (_lowMs : Nat) (s : State) : Host.Outcome State Fault Refusal := .next s

/-- SMBUS_REFRESH (R564). -/
def execSmbRefresh (rails : List RailReading) (s : State) : Host.Outcome State Fault Refusal :=
  .next (s.withDev fun d => d.smbRefresh rails)

/-- EXTEST (R566). -/
def execTapExtest (s : State) : Host.Outcome State Fault Refusal := .next (s.withDev fun d => d.boundary_ .extest)

/-- IDCODE (R565): the identification register is selected and read. -/
def execTapIdcode (s : State) : Host.Outcome State Fault Refusal :=
  .next (s.withDev fun d => ({ d with tap := .idcode } : Dev).ret32 idcode)

/-- SAMPLE/PRELOAD (R565): the device's logic keeps its balls. -/
def execTapSamplePreload (s : State) : Host.Outcome State Fault Refusal :=
  .next (s.withDev fun d => { d with tap := .samplePreload })

/-- CLAMP (R566). -/
def execTapClamp (s : State) : Host.Outcome State Fault Refusal := .next (s.withDev fun d => d.boundary_ .clamp)

/-- HIGHZ (R566). -/
def execTapHighz (s : State) : Host.Outcome State Fault Refusal := .next (s.withDev fun d => d.boundary_ .highz)

/-- EXTEST_PULSE (R566). -/
def execTapExtestPulse (s : State) : Host.Outcome State Fault Refusal := .next (s.withDev fun d => d.boundary_ .extestPulse)

/-- EXTEST_TRAIN (R566). -/
def execTapExtestTrain (s : State) : Host.Outcome State Fault Refusal := .next (s.withDev fun d => d.boundary_ .extestTrain)

/-- INTSCAN (R502, R503). -/
def execTapIntscan (s : State) : Host.Outcome State Fault Refusal := .next (s.withDev Dev.intscan)

/-- BYPASS, and any code Table 20-11 does not list (R565). -/
def execTapBypass (_code : Byte) (s : State) : Host.Outcome State Fault Refusal :=
  .next (s.withDev fun d => { d with tap := .bypass })

end Sys2Proof.Machine
end

