-- ==== Sys2Proof/Machine/HashOps.lean ====
section
/-! DEFINITION. SHA-256 (FIPS 180-4) and RSASSA-PSS verification (RFC 8017) with MGF1 over SHA-256, a 32-byte salt and the trailer
0xBC, as R408 asks for them. Bytes stand in lists, the first byte first. -/
namespace Sys2Proof.Machine

/-! ### SHA-256 -/

/-- The round constants. -/
def shaK : List W32 :=
  [0x428a2f98#32, 0x71374491#32, 0xb5c0fbcf#32, 0xe9b5dba5#32, 0x3956c25b#32, 0x59f111f1#32, 0x923f82a4#32, 0xab1c5ed5#32,
   0xd807aa98#32, 0x12835b01#32, 0x243185be#32, 0x550c7dc3#32, 0x72be5d74#32, 0x80deb1fe#32, 0x9bdc06a7#32, 0xc19bf174#32] ++
  [0xe49b69c1#32, 0xefbe4786#32, 0x0fc19dc6#32, 0x240ca1cc#32, 0x2de92c6f#32, 0x4a7484aa#32, 0x5cb0a9dc#32, 0x76f988da#32,
   0x983e5152#32, 0xa831c66d#32, 0xb00327c8#32, 0xbf597fc7#32, 0xc6e00bf3#32, 0xd5a79147#32, 0x06ca6351#32, 0x14292967#32] ++
  [0x27b70a85#32, 0x2e1b2138#32, 0x4d2c6dfc#32, 0x53380d13#32, 0x650a7354#32, 0x766a0abb#32, 0x81c2c92e#32, 0x92722c85#32,
   0xa2bfe8a1#32, 0xa81a664b#32, 0xc24b8b70#32, 0xc76c51a3#32, 0xd192e819#32, 0xd6990624#32, 0xf40e3585#32, 0x106aa070#32] ++
  [0x19a4c116#32, 0x1e376c08#32, 0x2748774c#32, 0x34b0bcb5#32, 0x391c0cb3#32, 0x4ed8aa4a#32, 0x5b9cca4f#32, 0x682e6ff3#32,
   0x748f82ee#32, 0x78a5636f#32, 0x84c87814#32, 0x8cc70208#32, 0x90befffa#32, 0xa4506ceb#32, 0xbef9a3f7#32, 0xc67178f2#32]

/-- The eight working words. -/
structure ShaSt where
  a : W32 := 0x6a09e667#32
  b : W32 := 0xbb67ae85#32
  c : W32 := 0x3c6ef372#32
  d : W32 := 0xa54ff53a#32
  e : W32 := 0x510e527f#32
  f : W32 := 0x9b05688c#32
  g : W32 := 0x1f83d9ab#32
  h : W32 := 0x5be0cd19#32
  deriving DecidableEq, Repr

/-- One round with its constant and message word. -/
def ShaSt.round (s : ShaSt) (k w : W32) : ShaSt :=
  let s1 := s.e.rotateRight 6 ^^^ s.e.rotateRight 11 ^^^ s.e.rotateRight 25
  let ch := (s.e &&& s.f) ^^^ (~~~s.e &&& s.g)
  let t1 := s.h + s1 + ch + k + w
  let s0 := s.a.rotateRight 2 ^^^ s.a.rotateRight 13 ^^^ s.a.rotateRight 22
  let maj := (s.a &&& s.b) ^^^ (s.a &&& s.c) ^^^ (s.b &&& s.c)
  { a := t1 + (s0 + maj), b := s.a, c := s.b, d := s.c, e := s.d + t1, f := s.e, g := s.f, h := s.g }

/-- The next word of the message schedule, from the words so far, newest first. -/
def shaNext (ws : List W32) : W32 :=
  let at_ := fun (i : Nat) => (ws[i]?).getD 0
  let x := at_ 14
  let y := at_ 1
  let s0 := x.rotateRight 7 ^^^ x.rotateRight 18 ^^^ (x >>> 3)
  let s1 := y.rotateRight 17 ^^^ y.rotateRight 19 ^^^ (y >>> 10)
  at_ 15 + s0 + at_ 6 + s1

/-- `n` more words of the schedule, newest first. -/
def shaMore : Nat → List W32 → List W32
  | 0, ws => ws
  | n + 1, ws => shaMore n (shaNext ws :: ws)

/-- A big-endian number from its bytes. -/
def beNat (bs : List Byte) : Nat := bs.foldl (fun a b => a * 256 + b.toNat) 0

/-- The `n` big-endian bytes of a number. -/
def beBytes (n v : Nat) : List Byte := (leBytes n v).reverse

/-- `n` words of four bytes each, big-endian. -/
def beWords : Nat → List Byte → List W32
  | 0, _ => []
  | n + 1, bs => BitVec.ofNat 32 (beNat (bs.take 4)) :: beWords n (bs.drop 4)

/-- The state after one block of 64 bytes. -/
def ShaSt.block (s : ShaSt) (bs : List Byte) : ShaSt :=
  let ws := (shaMore 48 (beWords 16 bs).reverse).reverse
  let t := (shaK.zip ws).foldl (fun (x : ShaSt) kw => x.round kw.1 kw.2) s
  { a := s.a + t.a, b := s.b + t.b, c := s.c + t.c, d := s.d + t.d, e := s.e + t.e, f := s.f + t.f, g := s.g + t.g, h := s.h + t.h }

/-- `n` blocks. -/
def ShaSt.blocks : Nat → ShaSt → List Byte → ShaSt
  | 0, s, _ => s
  | n + 1, s, bs => ShaSt.blocks n (s.block (bs.take 64)) (bs.drop 64)

/-- A message with its padding. -/
def shaPad (m : List Byte) : List Byte :=
  m ++ [0x80#8] ++ List.replicate ((119 - m.length % 64) % 64) 0 ++ beBytes 8 (8 * m.length)

/-- SHA-256 of a message, 32 bytes. -/
def sha256 (m : List Byte) : List Byte :=
  let p := shaPad m
  let s := ShaSt.blocks (p.length / 64) {} p
  ([s.a, s.b, s.c, s.d, s.e, s.f, s.g, s.h].map (fun w => beBytes 4 w.toNat)).flatten

/-! ### RSASSA-PSS -/

/-- x^e mod n, over `k` bits of e, lowest first. -/
def modPow (n : Nat) : Nat → Nat → Nat → Nat → Nat
  | 0, _, _, acc => acc
  | k + 1, x, e, acc => modPow n k (x * x % n) (e / 2) (if e % 2 = 1 then acc * x % n else acc)

/-- `n` blocks of MGF1, from counter `c`. -/
def mgf1 (seed : List Byte) : Nat → Nat → List Byte
  | 0, _ => []
  | n + 1, c => sha256 (seed ++ beBytes 4 c) ++ mgf1 seed n (c + 1)

/-- A signature of 384 bytes over a message, under a modulus of 3,072 bits and an exponent, big-endian all.
[DESIGN CHOICE, assumption 95] -/
def pssVerify (modulus expo sig m : List Byte) : Bool :=
  let n := beNat modulus
  let s := beNat sig
  let em := beBytes 384 (modPow n 32 s (beNat expo) 1 % n)
  let masked := em.take 351
  let h := (em.drop 351).take 32
  let db := (masked.zip (mgf1 h 11 0)).map (fun x => x.1 ^^^ x.2)
  let db := match db with | b :: bs => (b &&& 0x7F#8) :: bs | [] => []
  let salt := db.drop 319
  decide (s < n) && (em[383]?).getD 0 == 0xBC#8 && decide ((masked.headD 0).toNat < 128) && (db.take 318).all (· == 0) &&
    (db[318]?).getD 0 == 1#8 && h == sha256 (List.replicate 8 0 ++ sha256 m ++ salt)

end Sys2Proof.Machine
end

