-- ==== Sys2Proof/Machine/MicroOps.lean ====
section
/-! DEFINITION. What the microcode commands share (spec/15_microcode_store.md): user micro-words (R439 to R446), the checks of
Table 15-6, commits (R448) and repairs (R447). -/
namespace Sys2Proof.Machine

/-! ### A routine in progress -/

/-- A scratch register (R439). -/
def Engine.ureg (e : Engine) (k : Nat) : BitVec 64 := tget 0 e.u k

/-- The engine goes on to its next micro-word; each word takes one of the engine's four reads of the tick (R443). -/
def Dev.microNext (d : Dev) (n : Nat) (c : CallSt) : Dev :=
  let e := d.eng n
  d.setEng n { e with reads := e.reads + 1, call := some { c with pc := c.pc + 1 } }

/-- A word of a routine writes a scratch register. -/
def Dev.microSet (d : Dev) (n : Nat) (c : CallSt) (k : Nat) (v : BitVec 64) : Dev :=
  let e := d.eng n
  (d.setEng n { e with u := tset 0 e.u k v }).microNext n c

/-- A faulting word has no effect; the routine keeps its first fault and goes on (R446).
[DESIGN CHOICE, assumption 29] -/
def Dev.microFault (d : Dev) (n : Nat) (c : CallSt) (code : Nat) : Dev :=
  d.microNext n { c with fault := c.fault <|> some (code, c.pc), faults := c.faults + 1 }

/-- The boundary after a routine: its faults are taken (R446), and a held HALT or soft reset waits for the next tick
(R444).
[DESIGN CHOICE, assumption 29] -/
def Dev.microEnd (d : Dev) (n now : Nat) (c : CallSt) : Dev :=
  let d := match c.fault with
    | none => d
    | some (code, pc) =>
      let d := ((d.seErrTaint n (SE_ERR.CALL_FAULT n)).raise 838).satAdd MCS_CNT.FAULTS 1
      if d.bit MCS_FAULT_LO.VALID then d.fset MCS_FAULT_LO.MORE 1
      else
        let d := ((d.flag MCS_FAULT_LO.VALID).fset MCS_FAULT_LO.CODE code).fset MCS_FAULT_LO.OC n
        (d.fset MCS_FAULT_LO.UADDR pc).fset MCS_FAULT_HI.SHOT (d.shot.toNat % 2 ^ 24)
  let e := d.eng n
  let same := (e.plans.getLast?.map (fun p => p.stop == c.stop)).getD false
  let d := d.setEng n { e with reads := e.reads + 1, call := none,
                               heldFrom := if e.haltHeld || e.srstHeld then some d.tk else e.heldFrom }
  if same then d.stepDone n now (c.c + c.adv) c.segEnd none else d

/-- The next word of the routine in progress, when the engine may read it now (R443). -/
def Dev.microAt (d : Dev) (n : Nat) : Option (CallSt × MicroWord) :=
  let e := d.eng n
  match e.call with
  | none => none
  | some c => if 4 ≤ e.reads ∨ !d.domOn n then none else some (c, d.microWord c.pc)

/-- Read the next word of a routine when it is the kind wanted: a skipped word does nothing, a word with an uncorrectable
error ends the routine with fault 3 (R446), another word has its effect `f`.
[DESIGN CHOICE, assumption 32] -/
def Dev.microRead (d : Dev) (n now : Nat) (want : MicroWord → Bool) (f : CallSt → MicroWord → Dev) : Dev :=
  match d.microAt n with
  | none => d
  | some (c, w) =>
    if !want w then d
    else if c.skip then d.microNext n { c with skip := false }
    else if d.mcBad.contains (n / 48, c.pc) then
      d.microEnd n now { c with fault := c.fault <|> some (3, c.pc), faults := c.faults + 1 }
    else f c w

/-- A word that writes U[D] from two registers, U[A] and U[B], and IMM (Table 15-3). -/
def Dev.microAlu (d : Dev) (n now uop : Nat) (f : BitVec 64 → BitVec 64 → BitVec 64 → BitVec 64) : Dev :=
  d.microRead n now (fun w => w.uop == uop) fun c w =>
    let e := d.eng n
    d.microSet n c w.d (f (e.ureg w.a) (e.ureg w.b) (BitVec.ofNat 64 w.imm))

/-- A word that may skip the next one (Table 15-3). -/
def Dev.microSkip (d : Dev) (n now uop : Nat) (f : BitVec 64 → BitVec 64 → Bool) : Dev :=
  d.microRead n now (fun w => w.uop == uop) fun c w =>
    let e := d.eng n
    d.microNext n { c with skip := f (e.ureg w.a) (e.ureg w.b) }

/-- A PUT into the build register (Table 15-3). -/
def CmdFields.putField (f : CmdFields) (sel : Nat) (v : BitVec 64) : CmdFields :=
  let x := v.toNat
  match sel with
  | 0 => { f with freq := BitVec.ofNat 48 x }
  | 1 => { f with phase := BitVec.ofNat 32 x }
  | 2 => { f with amp0 := BitVec.ofNat 18 x }
  | 3 => { f with amp1 := BitVec.ofNat 18 x }
  | 4 => { f with shape := x % 256 }
  | 5 => { f with drag := BitVec.ofNat 18 x }
  | 6 => { f with dur := x % 2 ^ 24 }
  | 7 => { f with tone := x % 16 }
  | 8 => { f with offs := x % 32 }
  | 9 => { f with interp := bitAt x 0 }
  | 10 => { f with frameApply := bitAt x 0 }
  | 11 => { f with pmode := x % 4 }
  | _ => f

/-- An ISSUE of the build register (R442, R446): its faults, a full queue that stalls the routine, or its command. -/
def Dev.microIssue (d : Dev) (n now imm : Nat) : Dev :=
  d.microRead n now (fun w => w.uop == uopIssue && w.imm == imm) fun c w =>
    let step := c.c + w.dt
    let build := (d.eng n).build
    if 64 < build.shape ∨ d.toneCount n ≤ build.tone then d.microFault n c 1
    else if c.stop ≤ step then d.microFault n c 2
    else if !d.queueRoom n build.tone then d
    else (d.enqueue n now { step := step, play := imm == 0, strobe := c.strobe, fields := build }).microNext n c

/-! ### Staging and commits -/

/-- A bit of MCS_ERR is set. -/
def Dev.mcsErr (d : Dev) (f : Fld) : Dev := d.flag f

/-- The staging word at ADDR, and the advance of ADDR after an access of MCS_UDATA. -/
def Dev.mcsAdvance (d : Dev) : Dev := d.fset MCS_UADDR.ADDR (d.fget MCS_UADDR.ADDR + 4)

/-- A write of MCS_UDATA (R448). -/
def Dev.wrMcsData (d : Dev) (v : W32) : Dev :=
  let a := d.fget MCS_UADDR.ADDR
  let d := if d.bit MCS_UCTL.BUSY then d else d.wrLe (stagingBase + a) 4 v.toNat
  d.mcsAdvance

/-- A write of MCS_UADDR; bits [1:0] stay 0. -/
def Dev.wrMcsAddr (d : Dev) (v : W32) : Dev := d.setReg MCS_UADDR.off (v &&& 0x7FFC#32)

/-- A write of a staged routine-table entry, dropped while a commit runs (R448).
[DESIGN CHOICE, assumption 29] -/
def Dev.wrMcsUrt (d : Dev) (r : Nat) (v : W32) : Dev :=
  if d.bit MCS_UCTL.BUSY then d else d.setReg (MCS_URT.off r) (v &&& 0x807F3FFF#32)

/-- A write of MCS_FAULT_LO: clearing VALID also clears MORE. -/
def Dev.wrMcsFault (d : Dev) (v : W32) : Dev :=
  let d := d.writeCodes MCS_FAULT_LO.off v
  if d.bit MCS_FAULT_LO.VALID then d else d.fset MCS_FAULT_LO.MORE 0

/-- A routine-table entry: START and LEN, when valid. -/
def urtEntry (w : W32) : Option (Nat × Nat) :=
  if (MCS_URT.VALID 0).of w = 1 then some ((MCS_URT.START 0).of w, (MCS_URT.LEN 0).of w) else none

/-- Entry `r` fails the first check of Table 15-6. -/
def urtBad (t : List (Nat × Nat × Nat)) (x : Nat × Nat × Nat) : Bool :=
  let (r, st, len) := x
  decide (st < userBase) || len == 0 || decide (64 < len) || decide (16384 < st + len) ||
  t.any (fun y => y.1 != r && decide (st < y.2.1 + y.2.2) && decide (y.2.1 < st + len))

/-- Whether Table 15-3 defines an operation. -/
def uopDefined (u : Nat) : Bool := decide (u ≤ 0x0A) || decide (0x10 ≤ u ∧ u ≤ 0x12) || decide (0x18 ≤ u ∧ u ≤ 0x1A) || u == 0x3F

/-- The first failure of Table 15-6 over a routine table and its micro-words, in the order of its causes: CAUSE and INDEX.
`word a` is the micro-word at micro-address `a`.
[DESIGN CHOICE, assumption 29] -/
def userCheck (tab : List (Nat × Nat × Nat)) (word : Nat → MicroWord) : Option (Nat × Nat) :=
  let addrs := (List.range 2048).map (· + userBase)
  let lasts := tab.map (fun x => x.2.1 + x.2.2 - 1)
  let find := fun (c : Nat) (p : Nat → Bool) (l : List Nat) => (l.find? p).map (fun a => (c, a))
  ((tab.find? (urtBad tab)).map (fun x => (0, x.1))) <|>
  (find 1 (fun a => (word a).uop != uopRet) lasts) <|>
  (find 2 (fun a => !uopDefined (word a).uop) addrs) <|>
  (find 3 (fun a => (word a).zero != 0 || ((word a).uop == uopIssue && decide (1 < (word a).imm))) addrs) <|>
  (find 4 (fun a => ((word a).uop == uopGet && decide (8 < (word a).sel)) ||
                    ((word a).uop == uopPut && decide (11 < (word a).sel))) addrs) <|>
  (find 5 (fun a => [uopSkipz, uopSkipnz, uopSkiplt].contains (word a).uop)
    (tab.flatMap (fun x => if x.2.2 = 1 then [x.2.1] else [x.2.1 + x.2.2 - 2, x.2.1 + x.2.2 - 1])))

/-- The staged routine table: entry, START and LEN. -/
def Dev.stagedTable (d : Dev) : List (Nat × Nat × Nat) :=
  (List.range 64).filterMap (fun r => (urtEntry (d.reg (MCS_URT.off r))).map (fun x => (r, x.1, x.2)))

/-- A staged micro-word. -/
def Dev.stagedWord (d : Dev) (a : Nat) : MicroWord := .ofNat (d.rdLe (stagingBase + 16 * (a - userBase)) 16)

/-- The user partition and the routine table take the staged ones; an error in a word that is written anew is gone. -/
def Dev.userCopy (d : Dev) : Dev :=
  let keep := d.mem.filter (fun e => !(decide (mcBase + 16 * userBase ≤ e.1) && decide (e.1 < mcBase + 0x40000)))
  let new := (d.mem.filter (fun e => decide (stagingBase ≤ e.1) && decide (e.1 < stagingBase + 0x8000))).map
    (fun e => (e.1 - stagingBase + mcBase + 16 * userBase, e.2))
  let d : Dev := { d with mem := new.foldl (fun m e => tset (memDefault e.1) m e.1 e.2) keep
                          urt := (List.range 64).foldl (fun t r => tset 0 t r (d.reg (MCS_URT.off r))) []
                          mcBad := d.mcBad.filter (fun e => decide (e.2 < userBase)) }
  d.fset MCS_VER.NROUT d.stagedTable.length

/-- A write of MCS_UCTL (R448). -/
def Dev.wrMcsCtl (d : Dev) (v : W32) : Dev :=
  if MCS_UCTL.COMMIT.of v = 0 then d
  else match d.mode with
    | .park | .calibrate | .relay | .safe =>
      if d.bit MCS_UCTL.BUSY then d else ({ d with ucommit := some d.tk } : Dev).fset MCS_UCTL.BUSY 1
    | _ => d.mcsErr MCS_ERR.UMODE

/-- A commit ends (R448). -/
def Dev.userCommit (d : Dev) : Dev :=
  match d.ucommit with
  | none => d
  | some _ =>
    let d := ({ d with ucommit := none } : Dev).fset MCS_UCTL.BUSY 0
    match userCheck d.stagedTable d.stagedWord with
    | some (cause, i) =>
      (((d.mcsErr MCS_ERR.UBAD).flag MCS_UERR.VALID).fset MCS_UERR.CAUSE cause).fset MCS_UERR.INDEX i
    | none => ((d.userCopy).fset MCS_VER.USRC 1).wrapInc MCS_VER.UGEN

/-- An uncorrectable error of a micro-word in a quarter's copy (`rewrite` false), and what follows within 64 tk: the word is rewritten from
a copy without error, or no copy reads clean (R447).
[DESIGN CHOICE, assumption 32] -/
def Dev.microRepair (d : Dev) (q a : Nat) (rewrite : Bool) : Dev :=
  if !rewrite then { d with mcBad := if d.mcBad.contains (q, a) then d.mcBad else d.mcBad ++ [(q, a)] }
  else if !d.mcBad.contains (q, a) then d
  else if (List.range 4).any (fun k => !d.mcBad.contains (k, a)) then
    ({ d with mcBad := d.mcBad.filter (· != (q, a)) } : Dev).satAdd MCS_CNT.REPAIRS 1
  else (d.mcsErr MCS_ERR.UNREPAIRED).raise 838

/-! ### Scratch registers -/

/-- A write of SE_UREGk_LO or SE_UREGk_HI (k counted from U8): ignored unless the engine is IDLE, PRIMED or ENDED. -/
def Dev.wrUreg (d : Dev) (n k : Nat) (hi : Bool) (v : W32) : Dev :=
  let e := d.eng n
  if e.still then
    let x := (e.ureg (8 + k)).toNat
    let y := if hi then v.toNat * 2 ^ 32 + x % 2 ^ 32 else x / 2 ^ 32 * 2 ^ 32 + v.toNat
    d.setEng n { e with u := tset 0 e.u (8 + k) (BitVec.ofNat 64 y) }
  else d

/-- A read of SE_UREGk_LO: the low half, the high half copied into the shadow. -/
def Dev.rdUregLo (d : Dev) (n k : Nat) : W32 × Dev :=
  let e := d.eng n
  let x := (e.ureg (8 + k)).toNat
  (BitVec.ofNat 32 x, d.setEng n { e with ureadHi := tset 0 e.ureadHi k (BitVec.ofNat 32 (x / 2 ^ 32)) })

end Sys2Proof.Machine
end

