-- ==== Sys2Proof/Machine/Microcode.lean ====
section
/-! DEFINITION. Meanings of the microcode commands (spec/15_microcode_store.md). A micro-word command has its effect when the
next word of the channel's routine is of that kind and may be read now (R443). -/
namespace Sys2Proof.Machine

/-- STAGING_WRITE: a write of MCS_UDATA (R448). -/
def execStagingWrite (v : W32) (s : State) : Host.Outcome State Fault Refusal := .next (s.withDev fun d => d.wrMcsData v)

/-- STAGING_READ: a read of MCS_UDATA; ADDR advances. -/
def execStagingRead (s : State) : Host.Outcome State Fault Refusal :=
  .next (s.withDev fun d =>
    (d.ret32 (BitVec.ofNat 32 (d.rdLe (stagingBase + d.fget MCS_UADDR.ADDR) 4))).mcsAdvance)

/-- MICROCODE_COMMIT: a write of MCS_UCTL (R448). -/
def execMicrocodeCommit (v : W32) (s : State) : Host.Outcome State Fault Refusal := .next (s.withDev fun d => d.wrMcsCtl v)

/-- MICROCODE_COMMIT_DONE (R448). -/
def execMicrocodeCommitDone (s : State) : Host.Outcome State Fault Refusal := .next (s.withDev Dev.userCommit)

/-- NOP (Table 15-3). -/
def execUNop (oc : OcId) (s : State) : Host.Outcome State Fault Refusal :=
  .next (s.withDev fun d => d.microRead oc.val s.clk.now.toNat (fun w => w.uop == uopNop) fun c _ => d.microNext oc.val c)

/-- LDI (Table 15-3). -/
def execULdi (oc : OcId) (s : State) : Host.Outcome State Fault Refusal :=
  .next (s.withDev fun d => d.microAlu oc.val s.clk.now.toNat uopLdi fun _ _ imm => imm)

/-- ADD (Table 15-3). -/
def execUAdd (oc : OcId) (s : State) : Host.Outcome State Fault Refusal :=
  .next (s.withDev fun d => d.microAlu oc.val s.clk.now.toNat uopAdd fun a b _ => a + b)

/-- SUB (Table 15-3). -/
def execUSub (oc : OcId) (s : State) : Host.Outcome State Fault Refusal :=
  .next (s.withDev fun d => d.microAlu oc.val s.clk.now.toNat uopSub fun a b _ => a - b)

/-- AND (Table 15-3). -/
def execUAnd (oc : OcId) (s : State) : Host.Outcome State Fault Refusal :=
  .next (s.withDev fun d => d.microAlu oc.val s.clk.now.toNat uopAnd fun a b _ => a &&& b)

/-- OR (Table 15-3). -/
def execUOr (oc : OcId) (s : State) : Host.Outcome State Fault Refusal :=
  .next (s.withDev fun d => d.microAlu oc.val s.clk.now.toNat uopOr fun a b _ => a ||| b)

/-- XOR (Table 15-3). -/
def execUXor (oc : OcId) (s : State) : Host.Outcome State Fault Refusal :=
  .next (s.withDev fun d => d.microAlu oc.val s.clk.now.toNat uopXor fun a b _ => a ^^^ b)

/-- SHL (Table 15-3). -/
def execUShl (oc : OcId) (s : State) : Host.Outcome State Fault Refusal :=
  .next (s.withDev fun d => d.microAlu oc.val s.clk.now.toNat uopShl fun a b _ => a <<< (b.toNat % 64))

/-- SHR (Table 15-3). -/
def execUShr (oc : OcId) (s : State) : Host.Outcome State Fault Refusal :=
  .next (s.withDev fun d => d.microAlu oc.val s.clk.now.toNat uopShr fun a b _ => a >>> (b.toNat % 64))

/-- ADDI (Table 15-3). -/
def execUAddi (oc : OcId) (s : State) : Host.Outcome State Fault Refusal :=
  .next (s.withDev fun d => d.microAlu oc.val s.clk.now.toNat uopAddi fun a _ imm => a + imm)

/-- MUL (Table 15-3). -/
def execUMul (oc : OcId) (s : State) : Host.Outcome State Fault Refusal :=
  .next (s.withDev fun d => d.microAlu oc.val s.clk.now.toNat uopMul fun a b _ => a * b)

/-- GET (Table 15-4, R440). -/
def execUGet (oc : OcId) (s : State) : Host.Outcome State Fault Refusal :=
  .next (s.withDev fun d => d.microRead oc.val s.clk.now.toNat (fun w => w.uop == uopGet) fun c w =>
    d.microSet oc.val c w.d (BitVec.ofNat 64 ((c.src[w.sel]?).getD 0)))

/-- PUT (Table 15-3). -/
def execUPut (oc : OcId) (s : State) : Host.Outcome State Fault Refusal :=
  .next (s.withDev fun d => d.microRead oc.val s.clk.now.toNat (fun w => w.uop == uopPut) fun c w =>
    let e := d.eng oc.val
    (d.setEng oc.val { e with build := e.build.putField w.sel (e.ureg w.a) }).microNext oc.val c)

/-- ISSUE of a PLAY (R442). -/
def execUIssuePlay (oc : OcId) (s : State) : Host.Outcome State Fault Refusal :=
  .next (s.withDev fun d => d.microIssue oc.val s.clk.now.toNat 0)

/-- ISSUE of a SETF (R442). -/
def execUIssueSetf (oc : OcId) (s : State) : Host.Outcome State Fault Refusal :=
  .next (s.withDev fun d => d.microIssue oc.val s.clk.now.toNat 1)

/-- SKIPZ (Table 15-3). -/
def execUSkipz (oc : OcId) (s : State) : Host.Outcome State Fault Refusal :=
  .next (s.withDev fun d => d.microSkip oc.val s.clk.now.toNat uopSkipz fun a _ => a == 0)

/-- SKIPNZ (Table 15-3). -/
def execUSkipnz (oc : OcId) (s : State) : Host.Outcome State Fault Refusal :=
  .next (s.withDev fun d => d.microSkip oc.val s.clk.now.toNat uopSkipnz fun a _ => a != 0)

/-- SKIPLT (Table 15-3). -/
def execUSkiplt (oc : OcId) (s : State) : Host.Outcome State Fault Refusal :=
  .next (s.withDev fun d => d.microSkip oc.val s.clk.now.toNat uopSkiplt fun a b => a.slt b)

/-- RET (R444, R446). -/
def execURet (oc : OcId) (s : State) : Host.Outcome State Fault Refusal :=
  .next (s.withDev fun d => d.microRead oc.val s.clk.now.toNat (fun w => w.uop == uopRet) fun c _ =>
    d.microEnd oc.val s.clk.now.toNat c)

/-- MICROWORD_REPAIR: the error of a word, or its rewriting (R447). -/
def execMicrowordRepair (q : QuarterId) (addr : Fin 16384) (rewrite : Bool) (s : State) : Host.Outcome State Fault Refusal :=
  .next (s.withDev fun d => d.microRepair q.val addr.val rewrite)

/-- UREG_LO_READ: with the domain off the read returns 0 and is recorded (R571). -/
def execUregLoRead (oc : OcId) (k : Fin 8) (s : State) : Host.Outcome State Fault Refusal :=
  .next (s.withDev fun d =>
    if d.domOn oc.val then let (v, d) := d.rdUregLo oc.val k.val; d.ret32 v
    else (d.mapErr 2 (SE_UREG_LO.off oc.val k.val)).ret32 0)

end Sys2Proof.Machine
end

