-- ==== Sys2Proof/Machine/ToneOps.lean ====
section
/-! DEFINITION. Tone synthesis (R135 to R159) and the noise-shaped flux path (R183, R184): the envelope and phase of a tone,
the scaled sum of one tick, and the DAC codes of one tick from the ticks still in the pipeline. `now` is the timeline value. -/
namespace Sys2Proof.Machine

/-! ### Rates and delays, Table 04-1 -/

/-- Tone samples per tick, K. -/
def Dev.toneK (d : Dev) (n : Nat) : Nat := if d.ocMode n = .dense then 2 else 4

/-- Whether the channel plays noise-shaped flux (R183). -/
def Dev.shaped (d : Dev) (n : Nat) : Bool := d.ocMode n == .precise && d.fget (OC_CFG.ROLE n) == 2

/-- Delay of the interpolation filter in ticks. -/
def Dev.filterDelay (d : Dev) (n : Nat) : Nat := match d.ocMode n with | .dense => 20 | .swift => 4 | _ => 12

/-- Pipeline delay D (Table 04-1, R184). -/
def Dev.pipe (d : Dev) (n : Nat) : Nat :=
  match d.ocMode n with | .dense => 29 | .swift => 7 | _ => if d.shaped n then 22 else 21

/-! ### Envelopes -/

/-- Point `i` of shape `s` of quarter `q`, its index clamped (R147, R148). -/
def Dev.shapePoint (d : Dev) (q s : Nat) (i : Int) : Int :=
  let i := if i < 0 then 0 else if 1023 < i then 1023 else i.toNat
  sext 18 (d.rdLe (bar2Base + 0x4000000 + 0x40000 * q + 4 * (1024 * (s - 1) + i)) 4)

/-- A rational number: numerator and positive denominator. -/
abbrev Ratio := Int × Nat

/-- The in-phase envelope and its derivative de/du before rounding (R146, R148, R150), at u = U / 2³². -/
def Dev.envRatio (d : Dev) (q : Nat) (f : CmdFields) (u : Nat) : Ratio × Ratio :=
  let a0 := sext 18 f.amp0.toNat
  let da := sext 18 f.amp1.toNat - a0
  let U : Int := u
  if f.shape = 0 then
    if f.interp then
      ((a0 * 2 ^ 96 + da * (3 * U ^ 2 * 2 ^ 32 - 2 * U ^ 3), 2 ^ 96), (da * 6 * U * (2 ^ 32 - U), 2 ^ 64))
    else ((a0 * 2 ^ 32 + da * U, 2 ^ 32), (da, 1))
  else
    let i : Int := 1023 * U / 2 ^ 32
    let r : Int := 1023 * U % 2 ^ 32
    let p := fun k : Int => d.shapePoint q f.shape (i + k)
    -- g = G / gD and dg/dx = H / hD
    let (G, gD, H, hD) : Int × Nat × Int × Nat :=
      if f.interp then
        let b := 2 * p (-1) - 5 * p 0 + 4 * p 1 - p 2
        let c := 3 * p 0 - p (-1) - 3 * p 1 + p 2
        (2 * p 0 * 2 ^ 96 + r * (p 1 - p (-1)) * 2 ^ 64 + r ^ 2 * b * 2 ^ 32 + r ^ 3 * c, 2 ^ 97,
         (p 1 - p (-1)) * 2 ^ 64 + 2 * r * b * 2 ^ 32 + 3 * r ^ 2 * c, 2 ^ 65)
      else (p 0 * 2 ^ 32 + r * (p 1 - p 0), 2 ^ 32, p 1 - p 0, 1)
    let a := a0 * 2 ^ 32 + da * U
    ((a * G, 2 ^ 32 * gD * 131072),
     (da * G * 2 ^ 32 * hD + a * 1023 * H * gD, 2 ^ 32 * gD * hD * 131072))

/-- The complex envelope e + jq at offset τ into a command (R145 to R151). -/
def Dev.envelope (d : Dev) (q : Nat) (f : CmdFields) (tau : Nat) : Int × Int :=
  let len := 32 * f.dur
  if len ≤ tau then (0, 0)
  else
    let (e, s) := d.envRatio q f (tau * 2 ^ 32 / len)
    (clipInt 131071 (roundDiv e.1 e.2),
     clipInt 131071 (roundDiv (sext 18 f.drag.toNat * s.1) (s.2 * f.dur * 16384)))

/-! ### Tones -/

/-- The phase word of a command after its Pauli frame, X in bit 1 and Z in bit 0 (R124). -/
def framePhase (frame : Nat) (p : BitVec 32) : BitVec 32 :=
  (if bitAt frame 1 then -p else p) + (if bitAt frame 0 then 0x80000000#32 else 0#32)

/-- A command applies the updates of its phase mode at tone sample `m` (Table 04-2), unless it has done so. -/
def ToneSt.update (t : ToneSt) (x : Fired) (m : Nat) : ToneSt :=
  let f := x.cmd.fields
  let p := match x.cmd.frame with | some b => framePhase b f.phase | none => f.phase
  if !x.upd then t
  else { t with
    f := f.freq
    a := (match f.pmode with | 1 => f.freq * BitVec.ofNat 48 m | 2 => 0 | _ => t.a)
    o := if f.pmode = 3 then t.o + p else p }

/-- A command governs from its first governed tone sample, index `m`, on: its updates (Table 04-2) and its envelope (R140). -/
def ToneSt.apply (t : ToneSt) (x : Fired) (m : Nat) : ToneSt :=
  let f := x.cmd.fields
  let t := t.update x m
  if x.envelope then { t with env := if f.dur = 0 then none else some ⟨x.p0, f⟩ } else t

/-- The fired commands at position `P`, in program order: those whose position has come govern; one whose position is still to come
applies its updates now when a later one governs already, so that the later one determines the output (R96, R141), and keeps its
envelope for its own position; the others wait. -/
def ToneSt.govern (P m : Nat) : List Fired → ToneSt → ToneSt
  | [], t => t
  | x :: xs, t =>
    if x.p0 ≤ P then ToneSt.govern P m xs (t.apply x m)
    else if xs.any (fun y => decide (y.p0 ≤ P)) then
      ToneSt.govern P m xs { t.update x m with fired := t.fired ++ [{ x with upd := false }] }
    else ToneSt.govern P m xs { t with fired := t.fired ++ [x] }

/-- One tone sample at position `P` with index `m`: fired commands take over, θ is formed, A advances (R138, R139, R152).
[DESIGN CHOICE, assumption 55] -/
def Dev.toneSample (d : Dev) (q : Nat) (t : ToneSt) (P m : Nat) : (Int × Int) × ToneSt :=
  let t := ToneSt.govern P m t.fired { t with fired := [] }
  let th := (BitVec.ofNat 32 (t.a.toNat / 65536) + t.o).toNat / 4096
  let (e, qd) := match t.env with
    | some x => d.envelope q x.fields (P - x.p0)
    | none => (0, 0)
  let c := cosTab 131071 th
  let s := sinTab 131071 th
  ((roundDiv (e * c - qd * s) 131072, roundDiv (e * s + qd * c) 131072), { t with a := t.a + t.f })

/-- The exact sum of the tones at one sample, and the tones after it (R153). -/
def Dev.sumTones (d : Dev) (n q P m : Nat) : List (Nat × ToneSt) → (Int × Int) × List (Nat × ToneSt)
  | [] => ((0, 0), [])
  | (i, t) :: ts =>
    let (s, t') := d.toneSample q t P m
    let (r, ts') := d.sumTones n q P m ts
    ((if i < d.toneCount n then (r.1 + s.1, r.2 + s.2) else r), (i, t') :: ts')

/-- The sums of samples `j` on of one tick. -/
def Dev.tickSums (d : Dev) (n now : Nat) (k : Nat) : Nat → List (Nat × ToneSt) → List (Int × Int) × List (Nat × ToneSt)
  | 0, ts => ([], ts)
  | j + 1, ts =>
    let i := k - (j + 1)
    let (s, ts) := d.sumTones n (n / 48) (32 * now + 32 / k * i) (k * now + i) ts
    let (ss, ts) := d.tickSums n now k j ts
    (s :: ss, ts)

/-- One sample of queue mode: the next word, or 0 when the queue is empty (R177, R181); the flag tells an empty queue. -/
def Dev.queueSample (d : Dev) (n : Nat) : (Int × Int) × Bool × Dev :=
  let rd := d.fget (OC_QPTR.RD n)
  if rd = d.fget (OC_QPTR.WR n) then ((0, 0), true, d)
  else
    let w := d.rdLe (stepAddr n 0 + 4 * rd) 4
    ((4 * sext 16 (bits w 15 0), 4 * sext 16 (bits w 31 16)), false, d.fset (OC_QPTR.RD n) ((rd + 1) % 65536))

/-- The samples of one tick of queue mode, whether any found the queue empty. -/
def Dev.queueTick (d : Dev) (n : Nat) : Nat → List (Int × Int) × Bool × Dev
  | 0 => ([], false, d)
  | k + 1 =>
    let (s, b, d) := d.queueSample n
    let (ss, b', d) := d.queueTick n k
    (s :: ss, b || b', d)

/-- The idle DAC code; −32,768 acts as −32,767 (OC_IDLE). -/
def Dev.idleCode (d : Dev) (n : Nat) : Int := clipInt 32767 (sext 16 (d.fget (OC_IDLE.CODE n)))

/-- Whether a sample of this firing tick is idle under R161. -/
def Dev.idleNow (d : Dev) (n : Nat) : Bool :=
  d.fget (OC_CFG.ROLE n) == 2 &&
  (if d.bit (OC_QCTL.EN n) then !d.bit (OC_QCTL.RUN n)
   else match (d.eng n).mode with
    | .idle | .primed | .ended | .starving => true
    | _ => false)

/-- A bit of TS_STAT is set; it raises the channel-fault source (R377). -/
def Dev.tsStat (d : Dev) (n : Nat) (f : Fld) : Dev := d.flagRaise f (2 * n + 1)

/-- The tone sums of this firing tick enter the pipeline (R138 to R153, R161, R168, R181); a starving engine's tones play at
amplitude 0 (R109), and so do those of an IDLE engine, where what HALT left in the queues fires without envelope (R132).
[DESIGN CHOICE, assumptions 54, 104] -/
def Dev.synth (d : Dev) (n now : Nat) : Dev :=
  let k := d.toneK n
  let queue := d.bit (OC_QCTL.EN n)
  let (ss, under, d) : List (Int × Int) × Bool × Dev :=
    let (ss, ts) := d.tickSums n now k k (d.oc n).tones
    let quiet := (d.eng n).mode == .idle && !queue
    let ts := if quiet then ts.map (fun e => (e.1, e.2.bare)) else ts
    let d := d.setOc n { d.oc n with tones := ts.filter (fun e => e.2 != {}) }
    if queue then (if d.bit (OC_QCTL.RUN n) then d.queueTick n k else (List.replicate k (0, 0), false, d))
    else (if (d.eng n).mode = .starving ∨ quiet = true then List.replicate k (0, 0) else ss, false, d)
  let scale : Int := (TS_CFG.SCALE n).of (d.inForce (TS_CFG.off n))
  let (den, lim) : Nat × Int := if d.shaped n then (2048, 2097151) else (32768, 131071)
  let raw := ss.map (fun s => (roundDiv (s.1 * scale) den, roundDiv (s.2 * scale) den))
  let y := raw.map (fun s => (clipInt lim s.1, clipInt lim s.2))
  let d := if raw = y then d else
    let d := (d.tsStat n (TS_STAT.SUMCLIP n)).satAdd (TS_CLIPCNT.SUM n) 1
    if d.bit (TS_CFG.CLIP_TAINT n) then d.setTaint else d
  let d := if under then ((d.satAdd (OC_CNT.QUNDER_TK n) 1).ocErr n (OC_ERR.QUNDER n)).setTaint else d
  let yt : YTick := ⟨y, if d.idleNow n then some (d.idleCode n) else none,
    d.bit (OC_STATUS.M_LOAD n) || d.bit (OC_STATUS.M_NOLOAD n)⟩
  d.setOc n { d.oc n with ys := (yt :: (d.oc n).ys).take 52 }

/-! ### From sums to codes -/

/-- The entry of a firing tick `i` ticks ago; nothing played before the list begins. -/
def yAt (ys : List YTick) (i : Nat) : YTick := (ys[i]?).getD {}

/-- The complex samples of a filter's span around the firing tick `i` ticks ago, newest first. -/
def yWindow (ys : List YTick) (i fd k : Nat) : List (Int × Int) :=
  ((List.range (2 * fd + 1)).map (fun j =>
    (let y := (yAt ys (i - fd + j)).y; (if y.isEmpty then List.replicate k (0, 0) else y).reverse))).flatten

/-- One output sample of the interpolation filter before its clip (R154); a span of zeros gives 0.
[DESIGN CHOICE, assumption 12] -/
def interpSample (fd : Nat) (win : List (Int × Int)) (s : Nat) : Int × Int :=
  if win.all (fun y => y == (0, 0)) then (0, 0) else Config.interp fd win s

/-- Mixer outputs v of the firing tick `i` ticks ago, and whether the filter clipped (R154, R155). -/
def Dev.mixTick (d : Dev) (n now i : Nat) : List Int × Bool :=
  let fd := d.filterDelay n
  let win := yWindow (d.oc n).ys i fd (d.toneK n)
  let lim : Int := if d.shaped n then 2097151 else 131071
  let raw := (List.range 32).map (fun s => interpSample fd win s)
  let z := raw.map (fun p => (clipInt lim p.1, clipInt lim p.2))
  let f := d.forceAt (d.tk - i)
  let car : Nat := forceFld f (TS_CARRIER_LO.CAR_LO n) + 2 ^ 32 * forceFld f (TS_CARRIER_HI.CAR_HI n)
  let cph := forceFld f (TS_CPHASE.CPHASE n)
  let v := if d.fget (OC_CFG.ROLE n) = 2 then z.map (·.1)
    else z.zipIdx.map (fun zs =>
      let m : Int := 32 * ((now : Int) - (i : Int)) + (zs.2 : Int)
      let phi := ((((car : Int) * m) % 2 ^ 48).toNat / 65536 + cph) % 2 ^ 32 / 4096
      roundDiv (zs.1.1 * cosTab 131071 phi - zs.1.2 * sinTab 131071 phi) 131072)
  (v, raw != z)

/-- Equalizer output before its clip (R156): `v` holds the ticks before, of and after the sample's tick, 32 samples each. -/
def eqSample (h : List Int) (v : List Int) (s : Nat) : Int :=
  roundDiv (((List.range 32).map (fun k => (h[k]?).getD 0 * (v[32 + s + 8 - k]?).getD 0)).foldl (· + ·) 0) 65536

/-- The error-feedback quantiser of R183 over the samples of a tick; a held sample clears the feedback. -/
def shapeCodes (hold : Bool) : List Int → Int → Int → List (Int × Bool) × Int × Int
  | [], e1, e2 => ([], e1, e2)
  | w :: ws, e1, e2 =>
    let u := w - 2 * e1 + e2
    let r := roundDiv u 64
    let c := clipInt 32767 r
    let e := clipInt 32 (64 * c - u)
    let (e1', e2') := if hold then (0, 0) else (e, e1)
    let (cs, a, b) := shapeCodes hold ws e1' e2'
    ((c, r != c) :: cs, a, b)

/-- Whether the output switch mutes the samples at the DAC input on this tick: a load's mute acts D ticks after its firing tick,
the other causes at once (R165, R168). Until the first sample reaches it the switch stands as it did. -/
def Dev.switchMuted (d : Dev) (n : Nat) : Bool :=
  ((((d.oc n).ys[d.pipe n]?).map (·.lmute)).getD (d.oc n).swMute) || d.bit (OC_STATUS.M_SHORT n) || d.bit (OC_STATUS.M_MODE n) || d.bit (OC_STATUS.M_SETTLE n)

/-- Currents sunk into OCn_P and OCn_M for a DAC code at the DAC input, in µA / 65,536 (R162), both into the dump while the switch
mutes or a self-test slice steers them there (R165, R496). -/
def Dev.legCurrents (d : Dev) (n : Nat) (c : Int) : Int × Int :=
  if d.switchMuted n || d.inSlice n then (0, 0)
  else ((d.fullScale n : Int) * (32768 + c), (d.fullScale n : Int) * (32768 - c))

/-- The 32 codes at the DAC input on this tick (R156, R157, R161, R183). -/
def Dev.dacTick (d : Dev) (n now : Nat) : Dev :=
  let D := d.pipe n
  let ys := (d.oc n).ys
  let (v0, clip) := d.mixTick n now D
  let wide : Int := if d.shaped n then 2097151 else 131071
  let raw :=
    if d.ocMode n = .swift then v0
    else
      let f := d.forceAt (d.tk - D)
      let h := (List.range 32).map (fun k => sext 18 (forceFld f (TS_EQ.COEF n k)))
      let v := (d.mixTick n now (D + 1)).1 ++ v0 ++ (d.mixTick n now (D - 1)).1
      (List.range 32).map (eqSample h v)
  let w := if d.ocMode n = .swift then raw else raw.map (clipInt wide)
  let d := if clip then d.tsStat n (TS_STAT.IPCLIP n) else d
  let d := if raw != w then d.tsStat n (TS_STAT.EQCLIP n) else d
  let yt := yAt ys D
  let muted := d.switchMuted n
  let x := d.oc n
  let (cs, e1, e2) : List (Int × Bool) × Int × Int :=
    if d.shaped n then shapeCodes (muted || yt.idle.isSome) w x.e1 x.e2
    else (w.map (fun a => let r := roundDiv a 4; (clipInt 32767 r, r != clipInt 32767 r)), x.e1, x.e2)
  let d := if cs.any (·.2) && yt.idle.isNone then (d.tsStat n (TS_STAT.DACCLIP n)).satAdd (TS_CLIPCNT.DAC n) 1 else d
  let codes := match yt.idle with | some c => List.replicate 32 c | none => cs.map (·.1)
  d.setOc n { d.oc n with codes := codes, past := ((d.oc n).codes :: (d.oc n).past).take 17, e1 := e1, e2 := e2,
                          sumSq := (d.oc n).sumSq + (if muted || d.inSlice n then 0 else (codes.map (fun c => (c * c).toNat)).foldl (· + ·) (0 : Nat)) }

/-- The 32 codes whose samples leave for the balls on this tick: those at the DAC input TRIM_TK ticks and TRIM_S samples before, so
that a load that moves the trim repeats or drops samples on its commit tick (R176). TRIM_F moves the instants within a sample.
[DESIGN CHOICE, assumption 12] -/
def Dev.ballCodes (d : Dev) (n : Nat) : List Int :=
  let x := d.oc n
  let w := d.reg (OC_INFORCE.off n)
  let back := 32 * (OC_INFORCE.TRIM_TK n).of w + (OC_INFORCE.TRIM_S n).of w
  let played := ((x.codes :: x.past).map (fun c => if c.isEmpty then List.replicate 32 0 else c.reverse)).flatten
  ((List.range 32).map (fun s => (played[back + (31 - s)]?).getD 0))

/-- Timeline instant at the balls of sample `s` of the codes that enter the DAC on tick `t` (R176), in 1/2048 tk (0.78125 ps), leaving
the analog delay of Table 05-5 aside.
[DESIGN CHOICE, assumption 12] -/
def Dev.ballInstant (d : Dev) (n t s : Nat) : Nat :=
  let w := d.reg (OC_INFORCE.off n)
  2048 * (t + (OC_INFORCE.TRIM_TK n).of w) + 64 * (s + (OC_INFORCE.TRIM_S n).of w) + (OC_INFORCE.TRIM_F n).of w

/-! ### Register writes -/

/-- A write of TS_CFG: SCALE is staged, CLIP_TAINT acts on the next tick (R158). -/
def Dev.wrTsCfg (d : Dev) (n : Nat) (v : W32) : Dev :=
  let keep := (TS_CFG.CLIP_TAINT n).of (d.reg (TS_CFG.off n))
  let d := d.stage n (TS_CFG.off n) ((TS_CFG.CLIP_TAINT n).put (v &&& 0x8000FFFF#32) keep)
  d.lateReg (TS_CFG.CLIP_TAINT n) ((TS_CFG.CLIP_TAINT n).of v)

/-- A write of a staged tone-synthesis register (R158). -/
def Dev.wrTs (d : Dev) (n : Nat) (r : TsReg) (v : W32) : Dev :=
  match r with
  | .cfg => d.wrTsCfg n v
  | .cphase => d.stage n (TS_CPHASE.off n) v
  | .eq k => d.stage n (TS_EQ.off n k.val) (v &&& 0x3FFFF#32)

end Sys2Proof.Machine
end

