-- ==== Sys2Proof/Machine/Tone.lean ====
section
/-! DEFINITION. Meanings of the tone-synthesis commands (spec/04_tone_synthesis.md). -/
namespace Sys2Proof.Machine

/-- The BAR0 offset of a staged tone-synthesis register. -/
def tsOff (n : Nat) : TsReg → Nat
  | .cfg => TS_CFG.off n
  | .cphase => TS_CPHASE.off n
  | .eq k => TS_EQ.off n k.val

/-- TS_STAGED_WRITE (R158). -/
def execTsStagedWrite (oc : OcId) (r : TsReg) (v : W32) (s : State) : Host.Outcome State Fault Refusal :=
  .next (s.withDev fun d => d.ocWrite oc.val (tsOff oc.val r) fun d => d.wrTs oc.val r v)

/-- CARRIER_LO_WRITE (R159). -/
def execCarrierLoWrite (oc : OcId) (v : W32) (s : State) : Host.Outcome State Fault Refusal :=
  .next (s.withDev fun d => d.ocWrite oc.val (TS_CARRIER_LO.off oc.val) fun d => d.stageLo (TS_CARRIER_LO.off oc.val) v)

/-- CARRIER_HI_WRITE (R159). -/
def execCarrierHiWrite (oc : OcId) (v : W32) (s : State) : Host.Outcome State Fault Refusal :=
  .next (s.withDev fun d => d.ocWrite oc.val (TS_CARRIER_HI.off oc.val) fun d =>
    d.stageHi oc.val (TS_CARRIER_LO.off oc.val) (TS_CARRIER_HI.off oc.val) (v &&& 0xFFFF#32))

/-- SHAPE_LIBRARY_WRITE: it takes effect on the next tick (R149). -/
def execShapeLibraryWrite (q : QuarterId) (off : Fin 0x40000) (bytes : List Byte) (s : State) :
    Host.Outcome State Fault Refusal :=
  .next (s.withDev fun d =>
    let a := bar2Base + 0x4000000 + 0x40000 * q.val + off.val
    (d.lateBytes a (bytes.take (0x40000 - off.val))).dmaStands a bytes.length)

end Sys2Proof.Machine
end

