-- ==== Sys2Proof/Machine/RegAccess.lean ====
section
/-! DEFINITION. Register accesses (R15 to R20, R36, R40, R571): every register's own write rule, reached by the offset of the
write, and what every register reads as. -/
namespace Sys2Proof.Machine

/-! ### GLB (chapters 01 and 18) -/

/-- A write of GLB_SHOT_LO: staged in PARK, ignored elsewhere (R36). -/
def Dev.wrShotLo (d : Dev) (v : W32) : Dev := if d.mode = .park then { d with shotLo := some v } else d

/-- A write of GLB_SHOT_HI: in PARK it commits both halves, a low half not staged being 0 (R36). -/
def Dev.wrShotHi (d : Dev) (v : W32) : Dev :=
  if d.mode = .park then
    { d with shot := BitVec.ofNat 48 (GLB_SHOT_HI.SHOT_HI.of v * 2 ^ 32 + (d.shotLo.getD 0).toNat), shotLo := none }
  else d

/-- A read of GLB_SHOT_LO, with the shadow of GLB_SHOT_HI (R36). -/
def Dev.rdShotLo (d : Dev) : W32 × Dev :=
  (BitVec.ofNat 32 d.shot.toNat, { d with shotHiShadow := BitVec.ofNat 16 (d.shot.toNat / 2 ^ 32) })

/-- A write of GLB_QMODE: in LOAD and PARK, and by the loader during the re-application of R515. -/
def Dev.wrQmode (d : Dev) (a : Auth) (v : W32) : Dev :=
  if d.mode = .load ∨ d.mode = .park ∨ (a = .loader ∧ d.warm = true) then d.writeCodes GLB_QMODE.off v else d

/-! ### Channel windows -/

/-- A write of OC_IDLE acts on the samples fired from the next tick on (R161).
[DESIGN CHOICE, assumption 17] -/
def Dev.wrIdle (d : Dev) (n : Nat) (v : W32) : Dev := d.lateReg (OC_IDLE.CODE n) ((OC_IDLE.CODE n).of v)

/-- A write of register `r` of the window of OC `n` (chapters 03, 04, 05 and 15). -/
def Dev.ocReg (d : Dev) (n r : Nat) (v : W32) (now : Nat) (open_ : Bool) (loader : Bool := false) : Dev :=
  let off := OC_CFG.off n + r
  if off = OC_CFG.off n then d.wrOcCfg n v now open_
  else if off = OC_LOAD.off n then d.wrOcLoad n v now
  else if off = OC_IDLE.off n then d.wrIdle n v
  else if off = OC_QCTL.off n then d.wrQctl n v loader
  else if off = OC_QPTR.off n then d.wrQptr n v
  else if off = TS_CFG.off n then d.wrTs n .cfg v
  else if off = TS_CARRIER_LO.off n then d.stageLo off v
  else if off = TS_CARRIER_HI.off n then d.stageHi n (TS_CARRIER_LO.off n) off (v &&& 0xFFFF#32)
  else if off = TS_CPHASE.off n then d.wrTs n .cphase v
  else if TS_EQ.off n 0 ≤ off ∧ off < TS_EQ.off n 32 then d.wrTs n (.eq (Fin.ofNat 32 ((off - TS_EQ.off n 0) / 4))) v
  else if off = SE_CTRL.off n then d.wrSeCtrl n v now
  else if off = SE_FRAME.off n then { d with frameWr := tput d.frameWr n v }
  else if SE_UREG_LO.off n 0 ≤ off ∧ off < SE_UREG_LO.off n 8 then
    d.wrUreg n ((off - SE_UREG_LO.off n 0) / 8) (decide (off % 8 = 4)) v
  else if SE_SEG_LO.off n 0 ≤ off ∧ off < SE_SEG_LO.off n 256 then
    let s := (off - SE_SEG_LO.off n 0) / 8
    if off % 8 = 0 then d.segLoWrite n s v loader else d.segHiWrite n s v
  else (d.preCommit n now).writeCodes off v open_

/-- The staged register of an IC at an offset of its window (R197). -/
def dtRegAt (r : Nat) : Option DtReg :=
  if r = 0x004 then some .trim
  else if r < 0x200 ∨ 0x600 ≤ r then none
  else
    let k : DtId := Fin.ofNat 16 ((r - 0x200) / 0x40)
    let x := r % 0x40
    if x = 0x00 then some (.freqLo k) else if x = 0x04 then some (.freqHi k) else if x = 0x08 then some (.phase k)
    else if x = 0x0C then some (.cfg k)
    else if x < 0x28 then
      let st : Fin 3 := Fin.ofNat 3 ((x - 0x10) / 8)
      if x % 8 = 0 then some (.cI k st) else some (.cQ k st)
    else none

/-- A write of register `r` of the window of IC `i` (chapter 06). -/
def Dev.icReg (d : Dev) (i r : Nat) (v : W32) (open_ : Bool) : Dev :=
  let off := IC_CFG.off i + r
  if off = IC_CFG.off i then d.wrIcCfg i v
  else if off = IC_RB_CFG.off i then (d.writeCodes off v open_).rbUpdate i
  else if off = IC_RB_RD.off i then d.wrRbRd i v
  else if off = CE_CTRL.off i then d.wrCeCtrl i v
  else match dtRegAt r with
    | some x => d.wrDt i x v
    | none => d.writeCodes off v open_

/-! ### The other windows -/

/-- A write in the TML and NT window (chapter 02). -/
def State.tmlReg (s : State) (off : Nat) (v : W32) (open_ : Bool) : State :=
  if off = TML_CTRL.off then s.wrTmlCtrl v open_
  else if off = NT_SEC_LO.off then s.wrNt .secLo v
  else if off = NT_SEC_HI.off then s.wrNt .secHi v
  else if off = NT_NS.off then s.wrNt .ns v
  else if off = NT_INC_LO.off then s.wrNtInc false v
  else if off = NT_INC_HI.off then s.wrNtInc true v
  else s.withDev fun d =>
    if TML_ACT_LO.off 0 ≤ off ∧ off < TML_ACT_LO.off 16 then
      let n := (off - TML_ACT_LO.off 0) / 16
      if off = TML_ACT_CTL.off n then d.wrActCtl n v s.clk.now.toNat s.clk.timed else d.wrActVal n off v
    else if NT_PG_SEC.off 0 ≤ off ∧ off < NT_PG_SEC.off 4 then
      let n := (off - NT_PG_SEC.off 0) / 16
      if off = NT_PG_CTL.off n then d.wrPgCtl s.clk n v else d.wrPgVal n off v
    else d.writeCodes off v open_

/-- A write in the TDC and MK window (chapter 13). -/
def Dev.mkReg (d : Dev) (off : Nat) (v : W32) (open_ : Bool) : Dev :=
  if off = TDC_RD.off then d.wrTdcRd v
  else if off = MK_OUT_LVL.off then d.wrLvl v
  else if off = CL_CFG.off then d.wrClCfg v
  else if CL_REF_LO.off ≤ off ∧ off ≤ CL_PER_HI.off then d.wrClStage off v
  else if off = CL_COMMIT.off then d.wrClCommit v
  else d.writeCodes off v open_

/-- A write in the RIL window (chapter 12). -/
def Dev.rilReg (d : Dev) (a : Auth) (off : Nat) (v : W32) : Dev :=
  if off = RIL_SWRAISE0.off then d.wrSwRaise false v
  else if off = RIL_SWRAISE1.off then d.wrSwRaise true v
  else if RIL_RL.off 0 ≤ off ∧ off < RIL_RL.off 256 then d.wrRl a ((off - RIL_RL.off 0) / 4) v
  else if RIL_SRC.off 0 ≤ off ∧ off < RIL_SRC.off 1024 then d.wrSrc a ((off - RIL_SRC.off 0) / 4) v
  else if RIL_TASK.off 0 ≤ off ∧ off < RIL_TASK.off 512 then d.wrTask a ((off - RIL_TASK.off 0) / 4) v
  else d.writeCodes off v

/-- A write in the DMA window (chapter 11). -/
def Dev.dmaReg (d : Dev) (a : Auth) (off : Nat) (v : W32) : Dev :=
  if DMA_C_CFG.off 0 ≤ off ∧ off < DMA_C_CFG.off 32 then
    let c := (off - DMA_C_CFG.off 0) / 0x40
    if off = DMA_C_CFG.off c then d.wrDmaCfg a c v
    else if off = DMA_C_CTL.off c then d.wrDmaCtl a c v
    else d.wrDmaReg a c off v
  else d.writeCodes off v

/-- A write in the LNK window (chapter 10). -/
def Dev.lnkReg (d : Dev) (off : Nat) (v : W32) (open_ : Bool) : Dev :=
  if off < LNK_P_CTL.off 0 then d.writeCodes off v open_
  else
    let p := (off - LNK_P_CTL.off 0) / 0x100
    if off = LNK_P_CTL.off p then d.wrLnkCtl p v open_
    else if off = LNK_P_INJ.off p then d.wrInj p v
    else if LNK_PL_STAT.off p 0 ≤ off ∧ off % 0x10 = 4 then d.wrPat p ((off - LNK_PL_STAT.off p 0) / 0x10) v
    else d.writeCodes off v open_

/-- A write in the MCS window (chapter 15). -/
def Dev.mcsReg (d : Dev) (off : Nat) (v : W32) : Dev :=
  if off = MCS_UCTL.off then d.wrMcsCtl v
  else if off = MCS_UADDR.off then d.wrMcsAddr v
  else if off = MCS_UDATA.off then d.wrMcsData v
  else if off = MCS_FAULT_LO.off then d.wrMcsFault v
  else if MCS_URT.off 0 ≤ off then d.wrMcsUrt ((off - MCS_URT.off 0) / 4) v
  else d.writeCodes off v

/-- A write in the SV window (chapter 08). -/
def Dev.svReg (d : Dev) (off : Nat) (v : W32) : Dev :=
  if off = SV_GADDR.off then d.writeCodes off (v &&& ~~~(3#32))
  else if off = SV_GDATA.off then d.wrGdata v
  else if SV_G_CTL.off 0 ≤ off ∧ off < SV_G_CTL.off 16 ∧ off % 8 = 0 then d.wrGraphCtl ((off - SV_G_CTL.off 0) / 8) v
  else if SV_MAP.off 0 ≤ off ∧ sluReserved ((off - SV_MAP.off 0) / 4) = true then d
  else d.writeCodes off v

/-- A write in the SLU window (chapter 07). -/
def Dev.sluReg (d : Dev) (off : Nat) (v : W32) : Dev :=
  if SLU_CISEL.off 0 ≤ off then d.wrRoute (.cisel (Fin.ofNat 3072 ((off - SLU_CISEL.off 0) / 4))) v
  else if SLU_LFWD.off 0 ≤ off then d.wrRoute (.lfwd (Fin.ofNat 256 ((off - SLU_LFWD.off 0) / 4))) v
  else if SLU_SVSEL.off 0 ≤ off then d.wrRoute (.svsel (Fin.ofNat 64 ((off - SLU_SVSEL.off 0) / 4))) v
  else d.writeCodes off v

/-- A write in the ACQ and WP window (chapter 09). -/
def Dev.acqReg (d : Dev) (off : Nat) (v : W32) (now : Nat) : Dev :=
  if off = ACQ_CTL.off then d.wrAcqCtl v now
  else if off = ACQ_ICMASK.off then d.wrIcmask v
  else if off = ACQ_PRD.off then d.wrPrd v
  else if off = ACQ_REC_RD.off then d.wrRecRd v
  else if TU_CTL.off 0 ≤ off then
    let u := (off - TU_CTL.off 0) / 0x20
    if off = TU_CTL.off u then d.wrTuCtl u v now
    else if off = TU_CNT.off u then d.writeCodes off v
    else d.wrTu u off v
  else d.writeCodes off v

/-- A write of SEC_NONCEi, refused while a report is built (R433). -/
def Dev.wrNonce (d : Dev) (off : Nat) (v : W32) : Dev :=
  if d.attesting then d.flag SEC_ERR.BUSY else d.writeCodes off v

/-- ATTEST (R433). -/
def Dev.wrSecCtl (d : Dev) (v : W32) : Dev :=
  if SEC_CTL.ATTEST.of v = 0 then d
  else if d.attesting then d.flag SEC_ERR.BUSY
  else if d.bit SEC_STAT.NOKEY then d.flag SEC_ERR.NOKEY
  else (({ d with attesting := true } : Dev).fset SEC_STAT.BUSY 1).clearMem reportBase 0x300

/-- A program or erase inside the slot the device booted from (R419): none has been booted before the loader has applied one, and in
NOIMAGE every address is open.
[DESIGN CHOICE, assumption 50] -/
def Dev.flashProtected (d : Dev) (op a : Nat) : Bool :=
  (op == 1 || op == 2) && (d.boot.phase == .calibrating || d.boot.phase == .done) && a / 0x4000000 == d.boot.slot

/-- A write of CFG_FLCMD (R419): its W1C bits and OP; GO issues one command, a protected one excepted, and none while one waits
or runs. -/
def Dev.wrFlcmd (d : Dev) (v : W32) : Dev :=
  if d.flash.isSome then d.writeCodes CFG_FLCMD.off ((CFG_FLCMD.OP).put v (d.fget CFG_FLCMD.OP))
  else
    let d := d.writeCodes CFG_FLCMD.off v
    if CFG_FLCMD.GO.of v = 0 then d
    else
      let op := CFG_FLCMD.OP.of v
      let a := d.fget CFG_FLADDR.ADDR
      if d.flashProtected op a then d.flag CFG_ERR.FL_PROT
      else
        let d := ((d.fset CFG_FLCMD.DONE 0).fset CFG_FLCMD.ERR 0).fset CFG_FLCMD.BUSY 1
        { d with flash := some ⟨op, a, d.tk⟩ }

/-- A write of CFG_CTL: REBOOT acts as a pin reset in LOAD, PARK and SAFE, and the host port's link goes down (R417). -/
def State.wrCfgCtl (s : State) (v : W32) : State :=
  if CFG_CTL.REBOOT.of v = 1 ∧ (s.dev.mode = .load ∨ s.dev.mode = .park ∨ s.dev.mode = .safe) then
    (s.pinReset 7).withDev fun d => d.hostLink false 0 0 {}
  else s

/-- A write in the CFG and SEC window (chapter 14). -/
def State.cfgReg (s : State) (off : Nat) (v : W32) : State :=
  if off = CFG_CTL.off then s.wrCfgCtl v
  else s.withDev fun d =>
    if off = CFG_FLCMD.off then d.wrFlcmd v
    else if off = CFG_NVADDR.off then d.writeCodes off (v &&& ~~~(3#32))
    else if off = SEC_CTL.off then d.wrSecCtl v
    else if SEC_NONCE.off 0 ≤ off ∧ off < SEC_NONCE.off 8 then d.wrNonce off v
    else d.writeCodes off v

/-- A write in the GLB window. -/
def State.glbReg (s : State) (a : Auth) (off : Nat) (v : W32) : State :=
  if off = GLB_RST.off then s.wrReset v
  else s.withDev fun d =>
    if off = GLB_SHOT_LO.off then d.wrShotLo v
    else if off = GLB_SHOT_HI.off then d.wrShotHi v
    else if off = GLB_MODE.off then d.wrMode s.clk v
    else if off = GLB_QMODE.off then d.wrQmode a v
    else if GLB_PWROC.off 0 ≤ off ∧ off ≤ GLB_PWRIC.off then d.wrPower ((off - GLB_PWROC.off 0) / 4) v
    else d.writeCodes off v

/-- A write in the THM and HL, CAL, BST and BBX windows (chapters 16, 17 and 19). -/
def Dev.monReg (d : Dev) (off : Nat) (v : W32) (now : Nat) (open_ : Bool) : Dev :=
  if off = THM_LIM.off then d.wrThmLim v
  else if HL_ST_CFG.off 0 ≤ off ∧ off < HL_ST_CFG.off 8 ∧ off % 16 = 0 then d.wrTau ((off - HL_ST_CFG.off 0) / 16) v
  else if off = CAL_CTL.off then d.wrCalCtl v now
  else if off = BST_FUSE.off then d.wrFuse v
  else if off = BBX_CTL.off then d.wrBbxCtl v
  else if off = BBX_NOTE.off then d.wrNote v
  else if off = BBX_SAFE.off then d.wrSafe v
  else d.writeCodes off v open_

/-! ### Relay slots (R343) -/

/-- A slot ends with a status (R345). -/
def Dev.slotEnd (d : Dev) (k status : Nat) : Dev :=
  ((d.fset (PCI_RLY_CTL.STATUS k) status).fset (PCI_RLY_CTL.STATE k) (if status ≤ 1 then 2 else 3))

/-- A VC2 flit (Table 10-5): TYPE, route bits in place, TAG, byte enables, address word, data and status. -/
def relayWord (type route tag be addr data status : Nat) : BitVec 256 :=
  BitVec.ofNat 256 (2 * 2 ^ 254 + type * 2 ^ 250 + route + tag * 2 ^ 148 + be * 2 ^ 144 + addr * 2 ^ 112 + data * 2 ^ 80 + status * 2 ^ 72)

/-- The READ or WRITE flit of a slot (R343, R344).
[DESIGN CHOICE, assumption 20] -/
def Dev.relayFlit (d : Dev) (k : Nat) : BitVec 256 :=
  relayWord (if d.bit (PCI_RLY_CTL.OP k) then 2 else 1)
    (routeBits (d.fget (PCI_RLY_ROUTE1.RLEN k)) (d.fget (PCI_RLY_ROUTE0.E0_9 k)) (d.fget (PCI_RLY_ROUTE1.E10_13 k)))
    (d.fget (PCI_RLY_CTL.SEQ k) * 16 + k) (d.fget (PCI_RLY_CTL.BE k)) (d.reg (PCI_RLY_ADDR.off k)).toNat
    (if d.bit (PCI_RLY_CTL.OP k) then (d.reg (PCI_RLY_DATA.off k)).toNat else 0) 0

/-- Whether the origin refuses a route (status 0x03 of Table 11-4): an entry above 5, or its first port not UP. -/
def Dev.relayRefused (d : Dev) (f : BitVec 256) : Bool :=
  decide (14 < rtLen f) || (List.range (rtLen f)).any (fun i => decide (5 < rtEntry f i)) ||
    (decide (0 < rtLen f) && !d.portUp (rtEntry f 0))

/-- A write of PCI_RLYs_CTL (R343).
[DESIGN CHOICE, assumption 20] -/
def Dev.wrRelay (d : Dev) (k : Nat) (v : W32) : Dev :=
  let d := d.writeCodes (PCI_RLY_CTL.off k) v
  if (PCI_RLY_CTL.GO k).of v = 0 ∨ d.fget (PCI_RLY_CTL.STATE k) = 1 then d
  else
    let d := (d.wrapInc (PCI_RLY_CTL.SEQ k)).fset (PCI_RLY_CTL.STATE k) 1
    let f := d.relayFlit k
    if d.relayRefused f then d.slotEnd k 3
    else ({ d with rlyTk := tput d.rlyTk k d.tk } : Dev).routeOut 7 f

/-! ### Memories in BAR0 -/

/-- The memories behind BAR0 that are only read: the stamp ring (R388), the record ring (R291), the sediment ring (R525), the
attestation report (R433). -/
def bar0Readable (off : Nat) : Bool :=
  bar0Writable off || (decide (0x38000 ≤ off) && decide (off < 0x3C000)) || (decide (0x1008000 ≤ off) && decide (off < 0x100A000)) ||
    (decide (bbxBase ≤ off) && decide (off < bbxBase + 0x4000)) || (decide (reportBase ≤ off) && decide (off < reportBase + 0x300))

/-- The PBA (R337). -/
def inPba (off : Nat) : Bool := decide (0xB9000 ≤ off) && decide (off < 0xB9020)

/-- The public modulus and exponent of the identity key (R432). -/
def inIdentity (off : Nat) : Bool := decide (0x19000 ≤ off) && decide (off < 0x19184)

/-- Their bytes, big-endian. -/
def identityBytes : List Byte :=
  (leBytes 384 Config.identityModulus).reverse ++ (leBytes 4 Config.identityExponent.toNat).reverse

/-- A write of a word of a BAR0 memory; of the vector control word of an MSI-X entry only the mask bit exists. -/
def Dev.bar0MemWrite (d : Dev) (off : Nat) (v : W32) : Dev :=
  if msixBase ≤ off ∧ off < msixBase + 0x1000 ∧ off % 16 = 12 then d.wrLe off 4 (v.toNat % 2) else d.wrLe off 4 v.toNat

/-- Whether no register and no memory stands at a BAR0 offset (R40). -/
def bar0Reserved (off : Nat) : Bool := (regRow? off).isNone && !bar0Readable off && !inPba off && !inIdentity off

/-- The channel domain that a BAR0 offset belongs to: a register of an OC or IC window that is no strobe-group register (R190,
R571). -/
def domainAt (off : Nat) : Option Nat :=
  if gsOffset off then none
  else if OC_CFG.off 0 ≤ off ∧ off < OC_CFG.off 192 then some ((off - OC_CFG.off 0) / 0x10000)
  else if IC_CFG.off 0 ≤ off ∧ off < IC_CFG.off 32 then some (192 + (off - IC_CFG.off 0) / 0x10000)
  else none

/-! ### One aligned 32-bit write -/

/-- A write of a strobe-group register (R174, R175). -/
def Dev.gsReg (d : Dev) (off : Nat) (v : W32) (now : Nat) (timed : Bool) : Dev :=
  let g := (off - OC_CFG.off 0) / 0x10000
  if off = GS_CTL.off g then d.wrGsCtl g v now timed else d.wrGsTime g off v

/-- A write of a register that no channel domain holds, by its window (Table 01-3). -/
def State.blockWrite (s : State) (a : Auth) (open_ : Bool) (off : Nat) (v : W32) : State :=
  let now := s.clk.now.toNat
  if off < 0x10000 then s.glbReg a off v
  else if off < 0x20000 then s.cfgReg off v
  else if off < 0x30000 then s.tmlReg off v open_
  else s.withDev fun d =>
    if off < 0x40000 then d.mkReg off v open_
    else if off < 0x50000 then d.rilReg a off v
    else if off < 0x60000 then d.dmaReg a off v
    else if off < 0xA0000 then d.monReg off v now open_
    else if off < 0xB0000 then d.lnkReg off v open_
    else if off < 0xC0000 then
      if PCI_RLY_CTL.off 0 ≤ off ∧ off % 0x20 = 0x10 then d.wrRelay ((off - PCI_RLY_CTL.off 0) / 0x20) v else d.writeCodes off v open_
    else if off < 0xD0000 then d.mcsReg off v
    else if off < 0xE0000 then d.svReg off v
    else if off < 0xF0000 then d.sluReg off v
    else if off < 0x1000000 then d.gsReg off v now s.clk.timed
    else d.acqReg off v now

/-- A 32-bit write at an aligned BAR0 offset (R16 to R20, R40, R571): a reserved range drops and records it, a domain that is off or
rehydrates drops it; every other register takes it by its own rule. `open_` opens RWL fields to the loader (R17). -/
def State.regWrite (s : State) (a : Auth) (open_ : Bool) (off : Nat) (v : W32) : State :=
  if bar0Writable off then s.withDev fun d => (d.bar0MemWrite off v).dmaStands off 4
  else if bar0Reserved off then s.withDev fun d => d.mapErr 0 off
  else match domainAt off with
    | some n => s.withDev fun d => d.domWrite n 2 off (fun d =>
        if n < 192 then d.ocReg n (off % 0x10000) v s.clk.now.toNat open_ (a == .loader) else d.icReg (n - 192) (off % 0x10000) v open_) (a == .loader)
    | none => if (regRow? off).isNone then s else s.blockWrite a open_ off v

/-! ### One aligned 32-bit read -/

/-- What SE_STATUS reads as; ACTIVE_SEG is free while no segment is in play.
[DEDUCED, assumption 18; DESIGN CHOICE, assumption 102] -/
def Dev.rdSeStatus (d : Dev) (n now : Nat) : W32 × Dev :=
  let e := d.eng n
  let (seg, d) := match e.plans with
    | p :: _ => (p.seg, d)
    | [] => let (x, d) := d.draw; (x.toNat % 256, d)
  let st := match e.mode with
    | .idle => 0 | .primed => 1
    | .running => match e.wait with | some w => if w.c ≤ now then 3 else 2 | none => 2
    | .waiting => 3 | .ended => 4 | .starving => 5
  (BitVec.ofNat 32 (seg * 2 ^ 24 + min 1023 (e.cursor - now) * 2 ^ 14 + d.lead n * 2 ^ 7 + st), d)

/-- What SE_REFILL reads as; OLDEST is free while nothing is pending. -/
def Dev.rdRefill (d : Dev) (n : Nat) : W32 × Dev :=
  match (d.eng n).refill with
  | s :: _ => (BitVec.ofNat 32 (s * 2 ^ 24 + (d.eng n).refill.length), d)
  | [] => let (x, d) := d.draw; (BitVec.ofNat 32 (x.toNat % 256 * 2 ^ 24), d)

/-- A loop counter as SE_LOOPk and CE_LOOPk read it (R123). -/
def loopWord (remain : Nat) : W32 := if remain = 0 then 0 else BitVec.ofNat 32 (2 ^ 31 + remain)

/-- What a register of an OC window reads as. -/
def Dev.ocRead (d : Dev) (n off now : Nat) : W32 × Dev :=
  let e := d.eng n
  if off = SE_STATUS.off n then d.rdSeStatus n now
  else if off = SE_CIVAL.off n then
    (BitVec.ofNat 32 ((List.range 16).foldl (fun a k =>
      let c := tget {} e.ci k
      a + c.fresh.toNat * 2 ^ (16 + k) + c.value.toNat * 2 ^ k) 0), d)
  else if SE_LOOP.off n 0 ≤ off ∧ off < SE_LOOP.off n 4 then (loopWord (tget 0 e.lc ((off - SE_LOOP.off n 0) / 4)), d)
  else if off = SE_REFILL.off n then d.rdRefill n
  else if SE_UREG_LO.off n 0 ≤ off ∧ off < SE_UREG_LO.off n 8 then
    let k := (off - SE_UREG_LO.off n 0) / 8
    if off % 8 = 0 then d.rdUregLo n k else (tget 0 e.ureadHi k, d)
  else (d.readCodes off, d)

/-- What a register of an IC window reads as.
[DEDUCED, assumption 18] -/
def Dev.icRead (d : Dev) (i off now : Nat) : W32 × Dev :=
  let e := tget {} d.ics i
  if off = CE_STATUS.off i then
    let st := match e.mode with | .idle => 0 | .primed => 1 | .running => 2 | .shotwait => 3 | .ended => 4 | .ending => 2
    (BitVec.ofNat 32 (min 1023 (e.cursor - now) * 2 ^ 14 + st), d)
  else if CE_LOOP.off i 0 ≤ off ∧ off < CE_LOOP.off i 2 then (loopWord (tget 0 e.lc ((off - CE_LOOP.off i 0) / 4)), d)
  else (d.readCodes off, d)

/-- A word of the PBA: bit `v` is the pending bit of vector `v`. -/
def Dev.pbaWord (d : Dev) (off : Nat) : W32 :=
  BitVec.ofNat 32 ((List.range 32).foldl (fun a b => if d.pba.contains (8 * (off - 0xB9000) + b) then a + 2 ^ b else a) 0)

/-- What a register that the OTP fills in reads as (R8, R432, R500). -/
def Dev.fusedRead (d : Dev) (off : Nat) : W32 :=
  if off = GLB_ID.off then GLB_ID.RANGE.put (d.readCodes off) d.otp.rangeLX.toNat
  else if off = SEC_STAT.off then SEC_STAT.SVN.put (SEC_STAT.LIFE.put (d.readCodes off) d.otp.provisioned.toNat) d.otp.svn
  else if off = BST_FUSE.off then BST_FUSE.FREE.put (d.readCodes off) d.otp.fuseFree
  else d.readCodes off

/-- A read of CFG_NVDATA returns the eNVM word and advances the address (R428). -/
def Dev.rdNvdata (d : Dev) : W32 × Dev :=
  let a := d.fget CFG_NVADDR.ADDR
  (BitVec.ofNat 32 (d.rdLe (nvBase + a) 4), d.fset CFG_NVADDR.ADDR (a + 4))

/-- A read of MCS_UDATA returns the staging word and advances the address. -/
def Dev.rdMcsData (d : Dev) : W32 × Dev := (BitVec.ofNat 32 (d.rdLe (stagingBase + d.fget MCS_UADDR.ADDR) 4), d.mcsAdvance)

/-- What a register of the device outside the channel domains and the timeline reads as, with the read's own effect. -/
def Dev.blockRead (d : Dev) (a : Auth) (off : Nat) : W32 × Dev :=
  if off = GLB_SHOT_LO.off then d.rdShotLo
  else if off = GLB_SHOT_HI.off then (d.shotHiShadow.setWidth 32, d)
  else if off = GLB_ROUND.off then (d.round, d)
  else if off = CFG_NVDATA.off then d.rdNvdata
  else if off = MCS_UDATA.off then d.rdMcsData
  else if off = SV_GDATA.off then d.rdGdata
  else if off = CL_REF_LO.off then d.rdClRefLo
  else if off = CL_REF_HI.off then (d.cycle.shRefHi, d)
  else if off = CL_PER_LO.off then (d.cycle.shPerLo, d)
  else if off = CL_PER_HI.off then (d.cycle.shPerHi, d)
  else if off = BST_SIG_LO.off then d.rdSigLo a
  else if off = BST_SIG_HI.off then (d.sigHi, d)
  else if a = .host ∧ d.rillHidden off = true then (0, d)
  else if RIL_TASK.off 480 ≤ off ∧ off < RIL_TASK.off 512 then ((RIL_TASK.COAL 0).put (d.readCodes off) 0, d)
  else (d.fusedRead off, d)

/-- A read of a timeline or network-time register that is no plain word (R45, R77, R78). -/
def State.tmlRead (s : State) (off : Nat) : W32 × State :=
  let sh := s.dev.tmlSh
  if off = TML_NOW_LO.off then s.rdNowLo
  else if off = TML_NOW_HI.off then (sh.nowHi, s)
  else if off = NT_SEC_LO.off then s.rdNtSecLo
  else if off = NT_SEC_HI.off then (sh.secHi, s)
  else if off = NT_NS.off then (BitVec.ofNat 32 sh.ns, s)
  else if off = NT_FRAC.off then (BitVec.ofNat 32 (sh.epoch.toNat * 65536 + sh.frac.toNat), s)
  else if off = NT_INC_LO.off then (BitVec.ofNat 32 s.clk.inc.toNat, s)
  else if off = NT_INC_HI.off then (BitVec.ofNat 32 (s.clk.inc.toNat / 2 ^ 32), s)
  else (s.dev.readCodes off, s)

/-- A 32-bit read at an aligned BAR0 offset (R16, R18, R40, R571). -/
def State.regRead (s : State) (a : Auth) (off : Nat) : W32 × State :=
  let dev := fun (x : W32 × Dev) => (x.1, s.withDev fun _ => x.2)
  let d := s.dev
  if bar0Readable off then (BitVec.ofNat 32 (d.rdLe off 4), s)
  else if inPba off then (d.pbaWord off, s)
  else if inIdentity off then (BitVec.ofNat 32 (leNat ((identityBytes.drop (off - 0x19000)).take 4)), s)
  else if (regRow? off).isNone then (0, s.withDev fun d => d.mapErr 0 off)
  else match domainAt off with
    | some n =>
      if !d.domOn n then (0, s.withDev fun d => d.mapErr 2 off)
      else if n < 192 then dev (d.ocRead n off s.clk.now.toNat) else dev (d.icRead (n - 192) off s.clk.now.toNat)
    | none => if 0x20000 ≤ off ∧ off < 0x30000 then s.tmlRead off else dev (d.blockRead a off)

/-! ### Accesses of any width (R19) -/

/-- Bytes of an access. -/
def widthBytes : Width → Nat
  | .w8 => 1 | .w16 => 2 | .w32 => 4 | .w64 => 8

/-- A read of a host access: 64 bits as two reads, lower address first; a narrower one returns the addressed bytes of its aligned
word (R19). A 32-bit or 64-bit read is taken at the naturally aligned address below.
[DEDUCED, assumption 13] -/
def State.busRead (s : State) (a : Auth) (off : Nat) (w : Width) : List Byte × State :=
  match w with
  | .w64 =>
    let (lo, s) := s.regRead a (off / 8 * 8)
    let (hi, s) := s.regRead a (off / 8 * 8 + 4)
    (leBytes 4 lo.toNat ++ leBytes 4 hi.toNat, s)
  | w =>
    let (v, s) := s.regRead a (off / 4 * 4)
    ((leBytes 4 v.toNat).drop (off % 4 / widthBytes w * widthBytes w) |>.take (widthBytes w), s)

/-- A write narrower than 32 bits, or misaligned: ignored (R19), but recorded like any other access (R40, R571). -/
def Dev.narrowWrite (d : Dev) (off : Nat) : Dev :=
  let word := off / 4 * 4
  if bar0Reserved word then d.mapErr 0 off
  else match domainAt word with
    | some n => if d.domOn n then d else d.mapErr 2 off
    | none => d

/-- A write of a host access: 32 bits as it is, 64 bits as two writes, lower address first; a narrower or misaligned one is
ignored, but counts for GLB_MAPERR (R19, R40).
[DEDUCED, assumption 13] -/
def State.busWrite (s : State) (a : Auth) (off : Nat) (w : Width) (v : BitVec 64) : State :=
  let lo := v.setWidth 32
  if off % 4 ≠ 0 then s.withDev fun d => d.narrowWrite off
  else match w with
    | .w32 => s.regWrite a false off lo
    | .w64 => (s.regWrite a false off lo).regWrite a false (off + 4) ((v >>> 32).setWidth 32)
    | .w8 | .w16 => s.withDev fun d => d.narrowWrite off

end Sys2Proof.Machine
end

