-- ==== Sys2Proof/Machine/ImageOps.lean ====
section
/-! DEFINITION. The configuration image in the flash (R406 to R412): its header, its manifest, the checks of both, and what
applying a block writes (R411, R421, R436 to R438). -/
namespace Sys2Proof.Machine

/-- First flash byte of a slot (R406). -/
def slotBase (k : Nat) : Nat := flashBase + 0x4000000 * k

/-- `n` image bytes of slot `k` from an offset. -/
def Dev.img (d : Dev) (k off n : Nat) : List Byte := d.rdBytes (slotBase k + off) n
/-- A little-endian image field. -/
def Dev.imgLe (d : Dev) (k off n : Nat) : Nat := d.rdLe (slotBase k + off) n

/-! ### The header (Table 14-1) -/

/-- Every value of Table 14-1 is in range and every zero field zero (R409), signature and fused counts apart. -/
def Dev.headerInRange (d : Dev) (k : Nat) : Bool :=
  let f := d.imgLe k
  d.img k 0 4 == [0x58#8, 0x4B#8, 0x49#8, 0x4D#8] && f 4 2 == 1 && f 6 2 == 0x4192 && f 8 2 == d.fget GLB_ID.REV &&
    decide (8 ≤ f 10 1 ∧ f 10 1 ≤ 32) && decide (f 11 1 ≤ 3) && decide (f 0x10 4 ≤ 32) &&
    decide (0x480 ≤ f 0x14 4 ∧ f 0x14 4 ≤ 0x4000000) && decide (0x480 ≤ f 0x18 4) && f 0x18 4 % 64 == 0 &&
    decide (1 ≤ f 0x1C 4 ∧ f 0x1C 4 ≤ 16384) && (d.img k 0x40 192).all (· == 0) && (d.img k 0x284 124).all (· == 0) &&
    decide (128 ≤ f 0x100 1) && beNat (d.img k 0x280 4) == 0x10001 && decide (f 0x18 4 + 64 * f 0x1C 4 ≤ f 0x14 4)

/-- The hash of the header's key: bytes 0x100 to 0x283 (R408). -/
def Dev.imageKeyHash (d : Dev) (k : Nat) : List Byte := sha256 (d.img k 0x100 0x184)

/-- Key and signature of a header (R408): any key while the OTP hash is blank. -/
def Dev.headerSigned (d : Dev) (k : Nat) : Bool :=
  (!d.otp.provisioned || d.imageKeyHash k == d.otp.keyHash) &&
    pssVerify (d.img k 0x100 384) (d.img k 0x280 4) (d.img k 0x300 384) (d.img k 0 0x300)

/-- Why a header is not valid, as a CAUSE of CFG_BOOT (R409). -/
def Dev.headerCause (d : Dev) (k : Nat) : Option Nat :=
  if !d.headerInRange k then some 1
  else if !d.headerSigned k then some 2
  else if d.imgLe k 0x10 4 < d.otp.svn then some 3
  else none

/-! ### The manifest (Table 14-2) -/

/-- A manifest entry. -/
structure ManEntry where
  type : Nat
  domain : Nat
  off : Nat
  len : Nat
  target : Nat
  zero : Bool
  hash : List Byte
  deriving DecidableEq, Repr

/-- An entry from its 64 bytes. -/
def ManEntry.ofBytes (bs : List Byte) : ManEntry :=
  let f := fun o n => leNat ((bs.drop o).take n)
  { type := f 0 2, domain := f 2 2, off := f 4 4, len := f 8 4, target := f 12 4, zero := ((bs.drop 16).take 16).all (· == 0)
    hash := (bs.drop 32).take 32 }

/-- The manifest of a slot as the flash holds it. -/
def Dev.manifestBytes (d : Dev) (k : Nat) : List Byte := d.img k (d.imgLe k 0x18 4) (64 * d.imgLe k 0x1C 4)

/-- The entries of a manifest, in order. -/
def manEntries (bs : List Byte) : List ManEntry :=
  (List.range (bs.length / 64)).map (fun i => ManEntry.ofBytes ((bs.drop (64 * i)).take 64))

/-- The manifest the loader keeps (R421).
[DESIGN CHOICE, assumption 50] -/
def Dev.manifest (d : Dev) : List ManEntry := manEntries d.boot.manifest

/-- The block of an entry. -/
def Dev.blockOf (d : Dev) (k : Nat) (e : ManEntry) : List Byte := d.img k e.off e.len

/-- The DOMAIN code of no domain. -/
def noDomain : Nat := 0xFFFF

/-- Ranges of an entry's own fields (Tables 14-2 and 14-3, R412, R436). -/
def ManEntry.ok (e : ManEntry) : Bool :=
  decide (1 ≤ e.type ∧ e.type ≤ 6) && (decide (e.domain < 224) || e.domain == noDomain) && decide (0x480 ≤ e.off) &&
    e.off % 64 == 0 && e.len % 4 == 0 && decide (4 ≤ e.len ∧ e.len ≤ 0x4000000) && e.zero &&
    (match e.type with
      | 2 => decide (e.target < 0x20000000) && e.target % 4 == 0
      | 3 => decide (e.target < 16)
      | 5 => true
      | _ => e.target == 0)

/-- The register records of a REGS block: BAR0 offset and value. -/
def regRecords : Nat → List Byte → List (Nat × W32)
  | 0, _ => []
  | n + 1, bs => (leNat (bs.take 4), BitVec.ofNat 32 (leNat ((bs.drop 4).take 4))) :: regRecords n (bs.drop 8)

/-- The records of a block. -/
def recordsOf (bs : List Byte) : List (Nat × W32) := regRecords (bs.length / 8) bs

/-- A REGS block is in order (R410, R412).
[DESIGN CHOICE, assumption 47] -/
def regsOk (dom : Nat) (bs : List Byte) : Bool :=
  let rs := recordsOf bs
  let doms := rs.filterMap (fun r => domainAt r.1)
  bs.length % 8 == 0 &&
    rs.all (fun r => r.1 % 4 == 0 && decide (r.1 < 0x2000000) && r.1 / 0x10000 != 0x1 && r.1 / 0x10000 != 0xB) &&
    (if dom = noDomain then doms.isEmpty else !doms.isEmpty && doms.all (· == dom))

/-- The parts of BAR2 a range touches. -/
def bar2Parts : Nat → Nat → Nat → List Bar2Part
  | 0, _, _ => []
  | fuel + 1, off, len =>
    if len = 0 then []
    else
      let (p, stop) := bar2Part off
      p :: (if off + len ≤ stop then [] else bar2Parts fuel stop (off + len - stop))

/-- The `width`-byte words that a block from offset `off` of BAR2 touches, in order: each as a number in which a byte the block does
not hold is 0, and whether the block holds the word's top byte, which carries its opcode. -/
def touchedWords (width off : Nat) (bs : List Byte) : List (Nat × Bool) :=
  let pad := off % width
  let bs := List.replicate pad 0 ++ bs
  (List.range ((bs.length + width - 1) / width)).map (fun i =>
    (leNat ((bs.drop (width * i)).take width), decide (width * (i + 1) ≤ bs.length)))

/-- A step word that the loader refuses (R412), by what the block holds of it; `top` tells that the opcode is there.
[DESIGN CHOICE, assumption 47] -/
def stepRefused (w : Nat × Bool) : Bool :=
  let x := StepWord.ofNat w.1
  bits w.1 194 192 != 0 || (w.2 && (!opDefined x.op || (x.op == opPlay && decide (64 < x.fields.shape)) ||
    (x.op == opSync && x.aux % 4 == 3)))

/-- A capture word that the loader refuses (R199, R412).
[DESIGN CHOICE, assumption 47] -/
def captureRefused (w : Nat × Bool) : Bool :=
  bits w.1 107 96 != 0 || bits w.1 27 0 != 0 || (w.2 && !capDefined (CapWord.ofNat w.1).op)

/-- A MEM block is in order (R412).
[DESIGN CHOICE, assumption 47] -/
def memOk (dom target : Nat) (bs : List Byte) : Bool :=
  let parts := bar2Parts 300 target bs.length
  decide (target + bs.length ≤ 0x20000000) &&
    parts.all (fun p => match p with
      | .reserved | .result _ => false
      | .shape _ => dom == noDomain
      | .step n => dom == n && !(touchedWords 32 target bs).any stepRefused
      | .capture i => dom == 192 + i && !(touchedWords 16 target bs).any captureRefused
      | .weight i => dom == 192 + i)

/-! ### MCODE blocks (Table 15-1) -/

/-- Fields of an MCODE header. -/
def mcKind (bs : List Byte) : Nat := leNat ((bs.drop 4).take 2)
def mcLevel (bs : List Byte) : Nat := leNat ((bs.drop 8).take 4)
def mcWords (bs : List Byte) : Nat := leNat ((bs.drop 12).take 4)
def mcRout (bs : List Byte) : Nat := leNat ((bs.drop 16).take 4)

/-- The records of a vendor patch: micro-address and the 16 bytes of its word. -/
def patchRecords (bs : List Byte) : List (Nat × List Byte) :=
  (List.range (mcWords bs)).map (fun i =>
    let r := bs.drop (452 + 20 * i)
    (leNat (r.take 4), (r.drop 4).take 16))

/-- The routine table of a user block. -/
def mcDirectory (bs : List Byte) : List W32 :=
  (List.range (mcRout bs)).map (fun i => BitVec.ofNat 32 (leNat ((bs.drop (64 + 4 * i)).take 4)))

/-- The words of a user block. -/
def mcUser (bs : List Byte) : List Byte := (bs.drop (64 + 4 * mcRout bs)).take (16 * mcWords bs)

/-- An MCODE block is in order (R436 to R438). -/
def Dev.mcodeOk (d : Dev) (bs : List Byte) : Bool :=
  let n := mcWords bs
  let head := bs.take 4 == [0x58#8, 0x4B#8, 0x4D#8, 0x43#8] && ((bs.drop 20).take 44).all (· == 0)
  let base := leNat ((bs.drop 6).take 2)
  head && (match mcKind bs with
    | 0 =>
      base == d.fget MCS_VER.BASE && decide (1 ≤ mcLevel bs ∧ mcLevel bs ≤ 255) && decide (1 ≤ n ∧ n ≤ 4096) && mcRout bs == 0 &&
        bs.length == 452 + 20 * n + 384 && (patchRecords bs).all (fun r => decide (r.1 < userBase)) &&
        beNat (sha256 ((bs.drop 64).take 388)) == Config.patchKeyHash &&
        pssVerify ((bs.drop 64).take 384) ((bs.drop 448).take 4) (bs.drop (452 + 20 * n)) (bs.take (452 + 20 * n))
    | 1 =>
      let tab := (mcDirectory bs).zipIdx.filterMap (fun x => (urtEntry x.1).map (fun e => (x.2, e.1, e.2)))
      let us := mcUser bs
      let word := fun a => MicroWord.ofNat (leNat ((us.drop (16 * (a - userBase))).take 16))
      base == 0 && mcLevel bs == 0 && decide (1 ≤ n ∧ n ≤ 2048) && decide (1 ≤ mcRout bs ∧ mcRout bs ≤ 64) &&
        bs.length == 64 + 4 * mcRout bs + 16 * n && (userCheck tab word).isNone
    | _ => false)

/-! ### Checks of a whole block and of the manifest -/

/-- A PROVISION block is in order (R410, R412). -/
def Dev.provisionOk (d : Dev) (k : Nat) (bs : List Byte) : Bool :=
  let svn := leNat ((bs.drop 32).take 4)
  bs.length == 64 && (bs.drop 36).all (· == 0) && bs.take 32 == d.imageKeyHash k && decide (svn ≤ 32) && decide (svn ≤ d.imgLe k 0x10 4)

/-- The words of a block pass R412.
[DESIGN CHOICE, assumption 46] -/
def Dev.blockOk (d : Dev) (k : Nat) (e : ManEntry) (bs : List Byte) : Bool :=
  match e.type with
  | 1 => regsOk e.domain bs
  | 2 => memOk e.domain e.target bs
  | 3 => e.domain == noDomain
  | 4 => e.domain == noDomain && d.mcodeOk bs
  | 5 => e.domain == noDomain && decide (e.target + e.len ≤ 0x800000)
  | _ => e.domain == noDomain && d.provisionOk k bs

/-- What the manifest as a whole must be (R412, R436): one FW entry, at most one PROVISION entry, at most one MCODE block of each
KIND.
[DESIGN CHOICE, assumption 46] -/
def Dev.wholeOk (d : Dev) (k : Nat) (es : List ManEntry) : Bool :=
  let kinds := (es.filter (fun e => e.type == 4)).map (fun e => mcKind (d.img k e.off 64))
  (es.filter (fun e => e.type == 5)).length == 1 && decide ((es.filter (fun e => e.type == 6)).length ≤ 1) &&
    decide ((kinds.filter (· == 0)).length ≤ 1) && decide ((kinds.filter (· == 1)).length ≤ 1)

/-! ### Applying blocks -/

/-- What an attempt has written (R415): registers and memory ranges. -/
def Dev.noteReg (d : Dev) (off : Nat) : Dev := { d with boot := { d.boot with wroteRegs := insNat off d.boot.wroteRegs } }
def Dev.noteMem (d : Dev) (a n : Nat) : Dev := { d with boot := { d.boot with wroteMem := d.boot.wroteMem ++ [(a, n)] } }

/-- The registers whose RWL fields are open to the loader outside LOAD while it applies an entry (R17): those of the entry's own
channel domain, and all of them in the re-application of R515. -/
def Dev.rwlOpen (d : Dev) (dom off : Nat) : Bool := d.warm || domainAt off == some dom

/-- The records of a REGS block of a domain, each a 32-bit host-port write by the loader (R411, R17). -/
def State.applyRegs (s : State) (dom : Nat) (rs : List (Nat × W32)) : State :=
  rs.foldl (fun s r => (s.regWrite .loader (s.dev.rwlOpen dom r.1) r.1 r.2).withDev fun d => d.noteReg r.1) s

/-- A MEM block (R410), by its memory's own write rule. -/
def Dev.applyMem (d : Dev) (target : Nat) (bs : List Byte) : Dev :=
  (d.bar2Write true true 300 target bs).noteMem (bar2Base + target) bs.length

/-- A GRAPH block fills the listed bytes of a store from offset 0 (R410, Table 08-1). -/
def Dev.applyGraph (d : Dev) (g : Nat) (bs : List Byte) : Dev :=
  let d := bs.zipIdx.foldl (fun (d : Dev) x => if graphListed x.2 then d.wr8 (graphBase g + x.2) x.1 else d) d
  d.noteMem (graphBase g) bs.length

/-- An MCODE block (R437, R438); `hash` is its entry's HASH. -/
def Dev.applyMcode (d : Dev) (hash bs : List Byte) : Dev :=
  if mcKind bs = 0 then
    let d := (patchRecords bs).foldl (fun (d : Dev) r => d.wrBytes (mcBase + 16 * r.1) r.2) d
    let d : Dev := { d with mcChain := sha256 (d.mcChain ++ hash)
                            mcBad := d.mcBad.filter (fun e => !(patchRecords bs).any (fun r => r.1 == e.2)) }
    ((d.fset MCS_VER.PATCH (mcLevel bs)).noteMem mcBase (16 * userBase)).raise 837
  else
    let d := d.clearMem stagingBase 0x8000
    let d := d.wrBytes stagingBase (mcUser bs)
    let d := (List.range 64).foldl (fun (d : Dev) r => d.setReg (MCS_URT.off r) 0) d
    let d := (mcDirectory bs).zipIdx.foldl (fun (d : Dev) x => (d.setReg (MCS_URT.off x.2) (x.1 &&& 0x807F3FFF#32)).noteReg (MCS_URT.off x.2)) d
    let d := d.userCopy
    ((d.fset MCS_VER.USRC 0).noteMem (mcBase + 16 * userBase) 0x8000).noteMem stagingBase 0x8000

/-- Whether an entry is applied in stage 4: those of no domain; the FW block is placed, PROVISION waits for PARK (R421, R413). -/
def State.applyEntry (s : State) (k : Nat) (e : ManEntry) : State :=
  let bs := s.dev.blockOf k e
  match e.type with
  | 1 => s.applyRegs e.domain (recordsOf bs)
  | 2 => s.withDev fun d => d.applyMem e.target bs
  | 3 => s.withDev fun d => d.applyGraph e.target bs
  | 4 => s.withDev fun d => d.applyMcode e.hash bs
  | 5 => s.withDev fun d => (d.wrBytes (mgmtBase + e.target) bs).noteMem (mgmtBase + e.target) bs.length
  | _ => s

/-- Stage 4 over the manifest (R421): entry by entry, each block hashed and checked, those of no domain applied; the CAUSE of the
first failure ends it. -/
def State.stage4 (k : Nat) : List ManEntry → State → State × Option Nat
  | [], s => (s, none)
  | e :: es, s =>
    let bs := s.dev.blockOf k e
    if !e.ok then (s, some 6)
    else
      let good := sha256 bs == e.hash
      let fine := s.dev.blockOk k e bs
      -- a block of registers or memory is applied while it is read; its hash is known at its end
      let s := if e.domain = noDomain ∧ fine = true ∧ (good = true ∨ e.type ≤ 3) then s.applyEntry k e else s
      if !good then (s, some 5) else if !fine then (s, some 6) else State.stage4 k es s

/-- The entries of one domain, applied again in manifest order (R422); `false` when a hash fails. -/
def State.applyDomain (s : State) (k n : Nat) : State × Bool :=
  (s.dev.manifest.filter (fun e => e.domain == n)).foldl (fun (x : State × Bool) e =>
    if !x.2 then x
    else if sha256 (x.1.dev.blockOf k e) != e.hash then (x.1, false)
    else (x.1.applyEntry k e, true)) (s, true)

end Sys2Proof.Machine
end

