-- ==== Sys2Proof/Machine/Relay.lean ====
section
/-! DEFINITION. Meanings of the commands that access registers: the shot counter (R36), writes of a register without a row of its
own (R16), reserved ranges and powered-off domains (R40, R571), and the register relay over VC2 (R343 to R346). -/
namespace Sys2Proof.Machine

/-- SHOT_LO_WRITE (R36). -/
def execShotLoWrite (v : W32) (s : State) : Host.Outcome State Fault Refusal := .next (s.withDev fun d => d.wrShotLo v)

/-- SHOT_HI_WRITE (R36). -/
def execShotHiWrite (v : W32) (s : State) : Host.Outcome State Fault Refusal := .next (s.withDev fun d => d.wrShotHi v)

/-- SHOT_LO_READ (R36). -/
def execShotLoRead (s : State) : Host.Outcome State Fault Refusal :=
  .next (s.withDev fun d => let (v, d) := d.rdShotLo; d.ret32 v)

/-- REGISTER_WRITE (R16 to R20): an access of any width, by the host, the firmware or the loader. -/
def execRegisterWrite (auth : Auth) (off : Fin 0x2000000) (width : Width) (v : BitVec 64) (s : State) :
    Host.Outcome State Fault Refusal := .next (s.busWrite auth off.val width v)

/-- Whether an offset lies in a reserved range of a BAR (Tables 01-3 and 01-4).
[DESIGN CHOICE, assumption 14] -/
def barReserved (bar : Bar) (off : Nat) : Bool :=
  match bar with
  | .bar0 => decide (off < 0x2000000) && bar0Reserved (off / 4 * 4)
  | .bar2 => decide (off < 0x20000000) && (bar2Part off).1 == .reserved

/-- The channel domain an offset of a BAR reaches (R571). -/
def barDomain (bar : Bar) (off : Nat) : Option Nat :=
  match bar with
  | .bar0 => if bar0Reserved (off / 4 * 4) then none else domainAt (off / 4 * 4)
  | .bar2 => (bar2Part off).1.domain

/-- A host access that begins in a range that reaches nothing: a read returns 0 there, and the first access is recorded in
GLB_MAPERR, under a code of its BAR field (R40, R571); of an access that runs on into a range that exists, that part acts (R19).
[DESIGN CHOICE, assumption 14] -/
def State.lostAccess (s : State) (bar : Bar) (code off : Nat) (acc : Access) : State :=
  let s := s.withDev fun d => d.mapErr code off
  match bar, acc with
  | .bar0, .read w => let (bs, s) := s.busRead .host off w; s.withDev fun d => d.retBytes bs
  | .bar0, .write w v => s.busWrite .host off w v
  | .bar2, .read w => s.withDev fun d => let (bs, d) := d.bar2Read true 9 off (widthBytes w); d.retBytes bs
  | .bar2, .write w v => s.withDev fun d =>
    (d.bar2Write true false 9 off (leBytes (widthBytes w) v.toNat)).dmaStands (bar2Base + off) (widthBytes w)

/-- RESERVED_RANGE_ACCESS (R40). -/
def execReservedRangeAccess (bar : Bar) (off : Nat) (acc : Access) (s : State) : Host.Outcome State Fault Refusal :=
  .next (if barReserved bar off then s.lostAccess bar (if bar = .bar0 then 0 else 1) off acc else s)

/-- POWERED_OFF_DOMAIN_ACCESS (R571). -/
def execPoweredOffDomainAccess (bar : Bar) (off : Nat) (acc : Access) (s : State) : Host.Outcome State Fault Refusal :=
  .next (match barDomain bar off with
    | some n => if s.dev.domOn n then s else s.lostAccess bar (if bar = .bar0 then 2 else 3) off acc
    | none => s)

/-! ### The register relay -/

/-- RELAY_GO: a write of PCI_RLYs_CTL (R343). -/
def execRelayGo (slot : Fin 16) (v : W32) (s : State) : Host.Outcome State Fault Refusal :=
  .next (s.withDev fun d => d.wrRelay slot.val v)

/-- Fields of a VC2 flit (Table 10-5). -/
def v2Tag (f : BitVec 256) : Nat := bits f.toNat 157 148
def v2Be (f : BitVec 256) : Nat := bits f.toNat 147 144
def v2Space (f : BitVec 256) : Nat := bits f.toNat 143 142
def v2Off (f : BitVec 256) : Nat := bits f.toNat 141 112 / 4 * 4
def v2Data (f : BitVec 256) : Nat := bits f.toNat 111 80
def v2Status (f : BitVec 256) : Nat := bits f.toNat 79 72

/-- The size of a space of R344; space 3 has none. -/
def spaceSize : Nat → Nat
  | 0 => 0x2000000
  | 1 => 0x20000000
  | 2 => 0x4000000
  | _ => 0

/-- Status of an access that is performed: done, or done in a reserved range (Table 11-4). -/
def relayStatus (f : BitVec 256) : Nat :=
  let res : Bool := match v2Space f with
    | 0 => bar0Reserved (v2Off f)
    | 1 => (bar2Part (v2Off f)).1 == .reserved
    | _ => false
  if res then 1 else 0

/-- The COMPLETION flit of a request: its route, TAG, byte enables and address, with data and a status (R344). -/
def relayReply (f : BitVec 256) (data status : Nat) : BitVec 256 :=
  BitVec.ofNat 256 (putBits (putBits (putBits f.toNat 253 250 3) 111 80 data) 79 72 status)

/-- The port a relayed flit came on, 7 for the device itself (R315). -/
def relayPort : RelayOrigin → Nat
  | .port p => p.val
  | .self => 7

/-- A request of TYPE `ty` is the next one its port has to perform (R346). -/
def Dev.relayDue (d : Dev) (arr : Nat) (f : BitVec 256) (ty : Nat) : Bool :=
  flType f == ty && d.inbox.find? (fun x => x.1 == arr && flVc x.2 == 2 && flType x.2 != 3) == some (arr, f)

/-- The bytes of a word whose byte enables are set come from it, the others are free. -/
def Dev.enabledBytes (d : Dev) (be word : Nat) : Nat × Dev :=
  if be = 15 then (word, d)
  else
    let (x, d) := d.draw
    ((List.range 4).foldl (fun a i => a + (if bitAt be i then word else x.toNat) / 2 ^ (8 * i) % 256 * 2 ^ (8 * i)) 0, d)

/-- A relayed read, as a host access (R344).
[DESIGN CHOICE, assumption 20] -/
def State.relayRead (s : State) (f : BitVec 256) : Nat × State :=
  let (w, s) := match v2Space f with
    | 0 => let (bs, s) := s.busRead .host (v2Off f) .w32; (leNat bs, s)
    | 1 => let (bs, d) := s.dev.bar2Read true 2 (v2Off f) 4; (leNat bs, s.withDev fun _ => d)
    | _ => let (bs, d) := s.dev.poolRead (v2Off f) 4; (leNat bs, s.withDev fun _ => d)
  let (w, d) := s.dev.enabledBytes (v2Be f) w
  (w, s.withDev fun _ => d)

/-- The enabled bytes of a relayed write of a memory, by address. -/
def enabledList (be : Nat) (bs : List Byte) : List (Nat × Byte) :=
  ((List.range 4).zip bs).filter (fun x => bitAt be x.1)

/-- A relayed write of BAR2: a step word takes its bytes in one access, the rest of the word unchanged; other memories take each
enabled byte. -/
def Dev.relayBar2 (d : Dev) (off be : Nat) (bs : List Byte) : Dev :=
  match (bar2Part off).1 with
  | .step _ =>
    let old := d.rdBytes (bar2Base + off) 4
    if be = 0 then d
    else d.bar2Write true false 2 off ((List.range 4).map (fun i => ((if bitAt be i then bs else old)[i]?).getD 0))
  | _ => (enabledList be bs).foldl (fun d x => d.bar2Write true false 2 (off + x.1) [x.2]) d

/-- A relayed write, as a host access (R344): on BAR0 one without all byte enables is narrower than 32 bits (R19, R40).
[DESIGN CHOICE, assumption 20] -/
def State.relayWrite (s : State) (f : BitVec 256) : State :=
  let bs := leBytes 4 (v2Data f)
  match v2Space f with
  | 0 => if v2Be f = 15 then s.regWrite .host false (v2Off f) (BitVec.ofNat 32 (v2Data f)) else s.busWrite .host (v2Off f) .w8 0
  | 1 => s.withDev fun d => (d.relayBar2 (v2Off f) (v2Be f) bs).dmaStands (bar2Base + v2Off f) 4
  | _ => s.withDev fun d =>
    ((enabledList (v2Be f) bs).foldl (fun d x => d.wr8 (bar4Base + v2Off f + x.1) x.2) d).dmaStands (bar4Base + v2Off f) 4

/-- RELAY_READ_EXECUTE (R344, R346). -/
def execRelayReadExecute (origin : RelayOrigin) (flit : BitVec 256) (s : State) : Host.Outcome State Fault Refusal :=
  let arr := relayPort origin
  .next (
    if !s.dev.relayDue arr flit 1 then s
    else if spaceSize (v2Space flit) ≤ v2Off flit then
      s.withDev fun d => (d.inboxTake arr flit).replySend arr (relayReply flit 0 2)
    else
      let s := s.withDev fun d => d.inboxTake arr flit
      let (w, s) := s.relayRead flit
      s.withDev fun d => d.replySend arr (relayReply flit w (relayStatus flit)))

/-- RELAY_WRITE_EXECUTE (R344, R346). -/
def execRelayWriteExecute (origin : RelayOrigin) (flit : BitVec 256) (s : State) : Host.Outcome State Fault Refusal :=
  let arr := relayPort origin
  .next (
    if !s.dev.relayDue arr flit 2 then s
    else if spaceSize (v2Space flit) ≤ v2Off flit then
      s.withDev fun d => (d.inboxTake arr flit).replySend arr (relayReply flit 0 2)
    else
      let s := (s.withDev fun d => d.inboxTake arr flit).relayWrite flit
      s.withDev fun d => d.replySend arr (relayReply flit 0 (relayStatus flit)))

/-- A COMPLETION for slot `k` (R345): its slot ends when the TAG names a BUSY slot and its SEQ; otherwise it is counted late.
[DEDUCED, assumption 77] -/
def Dev.relayDone (d : Dev) (f : BitVec 256) : Dev :=
  let k := v2Tag f % 16
  if d.fget (PCI_RLY_CTL.STATE k) = 1 ∧ d.fget (PCI_RLY_CTL.SEQ k) = v2Tag f / 16 then
    let d : Dev := { d with rlyTk := tdel d.rlyTk k }
    let d := if d.bit (PCI_RLY_CTL.OP k) then d else d.setReg (PCI_RLY_DATA.off k) (BitVec.ofNat 32 (v2Data f))
    d.slotEnd k (v2Status f)
  else d.satAdd PCI_RLY_CFG.LATE 1

/-- RELAY_COMPLETION (R345).
[DEDUCED, assumption 77] -/
def execRelayCompletion (flit : BitVec 256) (s : State) : Host.Outcome State Fault Refusal :=
  .next (s.withDev fun d =>
    match d.inbox.find? (fun x => x.2 == flit && flVc x.2 == 2 && flType x.2 == 3) with
    | some (arr, f) => (d.inboxTake arr f).relayDone f
    | none => d)

/-- RELAY_TIMEOUT (R345). -/
def execRelayTimeout (slot : Fin 16) (s : State) : Host.Outcome State Fault Refusal :=
  .next (s.withDev fun d =>
    let k := slot.val
    if d.fget (PCI_RLY_CTL.STATE k) = 1 ∧ tget 0 d.rlyTk k + max 1 (d.fget PCI_RLY_CFG.TMO) ≤ d.tk then
      ({ d with rlyTk := tdel d.rlyTk k } : Dev).slotEnd k 0xFE
    else d)

end Sys2Proof.Machine
end

