-- ==== Sys2Proof/Machine/BootOps.lean ====
section
/-! DEFINITION. The loader (R405, R411 to R426), the work of the firmware after PARK (R413, R431), host flash commands (R419) and
the attestation report (R433). -/
namespace Sys2Proof.Machine

/-! ### Choosing a slot (R414) -/

/-- A slot marked failed (CFG_BOOT). -/
def Dev.slotFailed (d : Dev) (k : Nat) : Bool := if k = 0 then d.bit CFG_BOOT.FAILA else d.bit CFG_BOOT.FAILB

/-- The cause of a header that is not valid is recorded; the slot is not marked failed by it (assumption 43).
[DESIGN CHOICE, assumption 43] -/
def Dev.headerNote (d : Dev) (k : Nat) : Dev :=
  match d.slotFailed k, d.headerCause k with
  | false, some c => if k = 0 then d.fset CFG_BOOT.CAUSEA c else d.fset CFG_BOOT.CAUSEB c
  | _, _ => d

/-- A slot is a candidate. -/
def Dev.candidate (d : Dev) (k : Nat) : Bool := !d.slotFailed k && (d.headerCause k).isNone

/-- The slot to load: the candidate with the higher SEQ, slot A on a tie. -/
def Dev.chooseSlot (d : Dev) : Option Nat :=
  match d.candidate 0, d.candidate 1 with
  | true, true => some (if d.imgLe 0 0xC 4 < d.imgLe 1 0xC 4 then 1 else 0)
  | true, false => some 0
  | false, true => some 1
  | false, false => none

/-- The boot phase changes. -/
def State.setPhase (s : State) (p : BootPhase) : State := s.withDev fun d => { d with boot := { d.boot with phase := p } }

/-- Stages 3 and 4 (R414, R420, R421): a slot is chosen, its manifest checked and its blocks applied.
[DESIGN CHOICE, assumption 46] -/
def State.bootTry (s : State) : State :=
  let s := s.withDev fun d => (d.headerNote 0).headerNote 1
  match s.dev.chooseSlot with
  | none => (s.withDev fun d => d.fset CFG_STAT.STATE 3).setPhase .noImage
  | some k =>
    let s := s.withDev fun d =>
      let d : Dev := { d with boot := { d.boot with slot := k, wroteRegs := [], wroteMem := [], manifest := d.manifestBytes k } }
      d.fset CFG_STAT.SLOT k
    let es := s.dev.manifest
    if sha256 s.dev.boot.manifest != s.dev.img k 0x20 32 then s.setPhase (.failing 4)
    else if !s.dev.wholeOk k es then s.setPhase (.failing 6)
    else match State.stage4 k es s with
      | (s, some c) => s.setPhase (.failing c)
      | (s, none) => (s.withDev fun d => d.fset CFG_SEQ.SEQ (d.imgLe k 0xC 4)).setPhase .loaded

/-- The bytes 0x000 to 0x03F the probe reads: those of slot A, of slot B when slot A's MAGIC is wrong (R405). -/
def Dev.probeBytes (d : Dev) : List Byte := d.img (if d.img 0 0 4 == [0x58#8, 0x4B#8, 0x49#8, 0x4D#8] then 0 else 1) 0 64

/-- The probe of the flash (R405): `sfdp` tells whether its SFDP tables declare profile 1.0 support, `reread` is what the re-read
of the same 64 bytes in 8D-8D-8D returns. The port runs on at FLCLK and DUMMY of that header, or in the fallback. -/
def Dev.flashProbe (d : Dev) (sfdp : Bool) (reread : BitVec 512) : Dev :=
  let bs := d.probeBytes
  let fast := sfdp && leNat bs == reread.toNat
  let d : Dev := { d with boot := { d.boot with
    flash8d := if fast then some (leNat ((bs.drop 11).take 1), leNat ((bs.drop 10).take 1)) else none } }
  d.fsetB CFG_STAT.SLOWFL (!fast)

/-- A slot is tried after another has failed: FELLBACK and source 833 (R415).
[DESIGN CHOICE, assumption 48] -/
def State.otherSlot (s : State) : State :=
  if s.dev.boot.phase = .noImage then s else s.withDev fun d => (d.fset CFG_STAT.FELLBACK 1).raise 833

/-- BOOT_START: fused repairs (R500), the probe of the flash (R405), and stages 3 and 4; after a watchdog reset in LOAD the attempt
is the one that follows a failure (R415).
[DESIGN CHOICE, assumption 46] -/
def State.bootStart (s : State) (sfdp : Bool) (reread : BitVec 512) : State :=
  if s.dev.boot.phase = .waiting ∧ s.dev.mode = .load ∧ s.dev.vauxLost = false ∧ s.dev.heat.shutdown = none then
    let s := s.withDev fun d =>
      let d := d.otp.repairs.foldl (fun (d : Dev) w => d.repairAct (bits w.toNat 29 26) (bits w.toNat 25 16) (bits w.toNat 15 0)) d
      d.flashProbe sfdp reread
    if s.dev.boot.fellBack then s.bootTry.otherSlot else s.bootTry
  else s

/-! ### A failed attempt (R415) -/

/-- The code of a failure (CFG_BOOT). -/
def bootCauseCode : BootCause → Nat
  | .header => 1 | .signature => 2 | .svn => 3 | .manifestHash => 4 | .blockHash => 5 | .blockCheck => 6 | .flash => 7
  | .firmware => 8 | .watchdog => 9

/-- An attempt fails with a cause: its writes are undone, the slot is marked, and the loader goes on as from stage 3; source 833 when
it starts the other slot.
[DESIGN CHOICE, assumption 48] -/
def State.bootFail (s : State) (cause : Nat) : State :=
  let s := s.bootUndo.withDev fun d => d.slotFail d.boot.slot cause
  s.bootTry.otherSlot

/-- BOOT_ATTEMPT_FAIL: the failure found, the flash or the firmware not answering, or the watchdog (R415, R516).
[DESIGN CHOICE, assumption 49] -/
def State.bootAttemptFail (s : State) (cause : BootCause) : State :=
  match cause with
  | .watchdog => s.dogReset
  | .flash => if s.dev.boot.phase = .loaded ∨ s.dev.boot.phase = .calibrating then s.bootFail 7 else s
  | .firmware => if s.dev.boot.phase = .loaded ∨ s.dev.boot.phase = .calibrating then s.bootFail 8 else s
  | c => if s.dev.boot.phase = .failing (bootCauseCode c) then s.bootFail (bootCauseCode c) else s

/-! ### Stages 5 to 7 -/

/-- The blocks of every domain the manifest names, domain by domain, re-read and hashed (R421); a hash that fails ends it. What
would reach a domain that GLB_PWR keeps off is dropped. -/
def State.applyDomains (s : State) (k : Nat) : State × Bool :=
  let es := s.dev.manifest
  let ds := (List.range 224).filter (fun n => es.any (fun e => e.domain == n))
  ds.foldl (fun (x : State × Bool) n => if x.2 then x.1.applyDomain k n else x) (s, true)

/-- BOOT_LOAD_DONE (R421, R44, R475, R484, R486, R500): CALIBRATE; the count starts; domains powered and written; repairs, sets and
boot calibration. -/
def State.bootLoadDone (s : State) : State :=
  if s.dev.boot.phase = .loaded ∧ s.dev.mode = .load ∧ s.dev.dogWait = false then
    let s := s.setPhase .calibrating
    let s := s.withDev fun d => (d.enterMode .calibrate s.clk.now.toNat).fset CFG_STAT.STATE 1
    let s := s.setClk { s.clk with starting := true }
    let (s, ok) := s.applyDomains s.dev.boot.slot
    if !ok then s.setPhase (.failing 5)
    else s.withDev fun d =>
      let d := d.repairsAgain.showSets
      (({ d with calAsk := List.range calGroups, calQ := List.range calGroups, calTk := d.tk } : Dev).calBusy).ledgerInit
  else s

/-- BOOT_PARK (R420): boot calibration has ended.
[DESIGN CHOICE, assumption 50] -/
def Dev.bootPark (d : Dev) (now : Nat) : Dev :=
  if d.boot.phase = .calibrating ∧ d.calQ = [] ∧ (d.mode = .calibrate ∨ d.mode = .park) then
    let d := if d.mode = .calibrate then d.enterMode .park now else d
    ({ d.fset CFG_STAT.STATE 2 with boot := { d.boot with phase := .done } } : Dev).raise 832
  else d

/-- The manifest entry of a type in the slot booted from. -/
def Dev.bootedEntry (d : Dev) (type : Nat) : Option ManEntry := d.manifest.find? (fun e => e.type == type)

/-- PROVISION_FUSE (R413): the key hash while the OTP's is blank, and a higher SVN. -/
def Dev.provisionFuse (d : Dev) (ok : Bool) : Dev :=
  if d.boot.phase = .done ∧ d.boot.provDone = false then
    let d : Dev := { d with boot := { d.boot with provDone := true } }
    match d.bootedEntry 6 with
    | none => d
    | some e =>
      let bs := d.blockOf d.boot.slot e
      let svn := leNat ((bs.drop 32).take 4)
      if d.otp.provisioned && decide (svn ≤ d.otp.svn) then d
      else if !ok then d.flag SEC_ERR.FUSE
      else { d with otp := { d.otp with
               provisioned := true, keyHash := if d.otp.provisioned then d.otp.keyHash else bs.take 32, svn := max svn d.otp.svn } }
  else d

/-- A page of the shutdown log: 256 pages from 0x08_1000 (R427, assumption 44).
[DESIGN CHOICE, assumption 44] -/
def logPage (i : Nat) : Nat := nvBase + 0x81000 + 64 * (i % 256)

/-- SHUTDOWN_LOG_COPY (R431). -/
def Dev.shutdownLogCopy (d : Dev) : Dev :=
  if d.boot.phase = .done ∧ d.boot.logDone = false then
    let d := (List.range 64).foldl (fun (d : Dev) i =>
      let bs := d.rdBytes (shutdownPage i) 64
      if bs.all (· == 0xFF) then d
      else
        let d := (d.wrBytes (logPage d.logNext) bs).clearMem (shutdownPage i) 64
        { d with logNext := d.logNext + 1 }) d
    { d with boot := { d.boot with logDone := true } }
  else d

/-! ### Rehydration (R422 to R426) -/

/-- A domain's rehydration fails (R425). -/
def Dev.rehyFail (d : Dev) (n : Nat) : Dev :=
  let d := d.domainDefault n
  let d : Dev := { d with rehyQ := d.rehyQ.drop 1 }
  let d := (d.fset CFG_REHY.ACTIVE 0).flag CFG_ERR.REHY_FAIL
  let d := (d.flag CFG_REHY.FVALID).fset CFG_REHY.FDOM n
  d.raise (if n < 192 then 2 * n + 1 else 385 + 2 * (n - 192))

/-- DOMAIN_REHYDRATE: the first domain of the queue is re-read and written, unless the flash does not answer.
[DESIGN CHOICE, assumption 94] -/
def State.rehydrate (s : State) (n : Nat) (answers : Bool) : State :=
  if s.dev.rehyQ.head? = some n ∧ s.dev.bit CFG_REHY.ACTIVE = false then
    let b := s.dev.boot
    let s := s.withDev fun d => (d.fset CFG_REHY.ACTIVE 1).fset CFG_REHY.DOMAIN n
    let (s, ok) := s.applyDomain b.slot n
    let s := s.withDev fun d => { d with boot := b }
    if ok && answers then s else s.withDev fun d => d.rehyFail n
  else s

/-- REHYDRATION_COMPLETE: an engine's refill list is rebuilt on the next tick (R106).
[DEDUCED, assumption 23; DESIGN CHOICE, assumption 94] -/
def Dev.rehydrated (d : Dev) (n : Nat) : Dev :=
  if d.rehyQ.head? = some n ∧ d.bit CFG_REHY.ACTIVE = true then
    let d : Dev := { d with rehyQ := d.rehyQ.drop 1 }
    let d := d.fset CFG_REHY.ACTIVE 0
    let d := if n < 192 then
        let e := d.eng n
        (d.setEng n { e with rebuild := some (d.tk + 1) }).flag (OC_STATUS.REHYDRATED n)
      else d.flag (IC_STATUS.REHYDRATED (n - 192))
    d.raise 834
  else d

/-- GRAPH_RELOAD (R426): the graph's image entry goes into its store again; without one it stays empty. -/
def State.graphReload (s : State) (g : Nat) : State :=
  if (s.dev.graph g).lost then
    let s := s.withDev fun d => d.setGraph g { d.graph g with lost := false }
    let b := s.dev.boot
    match s.dev.manifest.find? (fun e => e.type == 3 && e.target == g) with
    | none => s
    | some e =>
      let bs := s.dev.blockOf b.slot e
      s.withDev fun d => if sha256 bs == e.hash then { d.applyGraph g bs with boot := b } else d
  else s

/-- WARM_RESET_COMPLETE (R515): REGS, MEM and GRAPH entries again, in manifest order; then PARK, or SAFE while a cause is present.
[DESIGN CHOICE, assumption 49] -/
def State.warmComplete (s : State) : State :=
  if s.dev.warm ∧ s.dev.ramp = [] ∧ s.dev.rehyQ = [] then
    let b := s.dev.boot
    let s := (s.dev.manifest.filter (fun e => decide (1 ≤ e.type ∧ e.type ≤ 3))).foldl (fun (s : State) e =>
      if sha256 (s.dev.blockOf b.slot e) == e.hash then s.applyEntry b.slot e else s) s
    s.withDev fun d =>
      let d : Dev := { d with warm := false, boot := b }
      let d := d.fset GLB_MODE.BUSY 0
      if d.mode = .safe ∧ d.fget BBX_SAFE.PRESENT ≠ 0 then d else d.enterMode .park s.clk.now.toNat
  else s

/-! ### Host flash commands (R419) -/

/-- The loader reads the flash for a boot or a rehydration. -/
def Dev.loaderBusy (d : Dev) : Bool :=
  d.warm || !d.rehyQ.isEmpty || (match d.boot.phase with | .waiting | .loaded | .failing _ => true | _ => false)

/-- A host flash command completes. A page program clears bits of the flash alone, as NOR flash does (assumption 45); a command that
has waited for a boot is refused if it now lies in the slot booted from.
[PRESUMED, assumption 45; DESIGN CHOICE, assumption 50] -/
def Dev.flashDone (d : Dev) (status : Byte) : Dev :=
  match d.flash with
  | none => d
  | some c =>
    if d.loaderBusy then d
    else if d.flashProtected c.op c.addr then (({ d with flash := none } : Dev).fset CFG_FLCMD.BUSY 0).flag CFG_ERR.FL_PROT
    else
      let d : Dev := { d with flash := none }
      let d := match c.op with
        | 0 => d.wrBytes flBufBase (d.rdBytes (flashBase + c.addr) 256)
        | 1 =>
          let a := flashBase + c.addr / 256 * 256
          d.wrBytes a ((d.rdBytes flBufBase 256).zipWith (· &&& ·) (d.rdBytes a 256))
        | 2 => d.clearMem (flashBase + c.addr / 4096 * 4096) 4096
        | _ => d.wr8 flBufBase status
      (d.fset CFG_FLCMD.BUSY 0).flag CFG_FLCMD.DONE

/-- A host flash command that the flash does not complete within 500 ms.
[DESIGN CHOICE, assumption 50] -/
def Dev.flashTimeout (d : Dev) : Dev :=
  match d.flash with
  | none => d
  | some c =>
    if d.loaderBusy ∨ d.tk < c.tk + 312500000 then d
    else ((({ d with flash := none } : Dev).fset CFG_FLCMD.BUSY 0).flag CFG_FLCMD.ERR).flag CFG_ERR.FL_ERR

/-! ### Attestation (R433, Table 14-6) -/

/-- `n` free bytes.
[DESIGN CHOICE, assumption 90] -/
def Dev.freeBytes (d : Dev) : Nat → List Byte × Dev
  | 0 => ([], d)
  | n + 1 =>
    let (x, d) := d.draw
    let (bs, d) := d.freeBytes n
    (x.setWidth 8 :: bs, d)

/-- The fields that describe the booted image, M_HDR, M_MAN and M_FW; with no image booted they are free. -/
def Dev.imageMeasures (d : Dev) : List Byte × Dev :=
  let k := d.boot.slot
  match d.boot.phase, d.bootedEntry 5 with
  | .calibrating, some e | .done, some e => (sha256 (d.img k 0 0x480) ++ d.img k 0x20 32 ++ e.hash, d)
  | _, _ => d.freeBytes 96

/-- The report is written and signed (R433).
[DESIGN CHOICE, assumption 50] -/
def Dev.attestDone (d : Dev) (now : BitVec 64) : Dev :=
  if d.attesting then
    let d : Dev := { d with attesting := false, reports := d.reports + 1 }
    let nonce := ((List.range 8).map (fun i => leBytes 4 (d.reg (SEC_NONCE.off i)).toNat)).flatten
    let (img, d) := d.imageMeasures
    let body := [0x58#8, 0x4B#8, 0x41#8, 0x52#8] ++ leBytes 2 1 ++ leBytes 2 0x4192 ++ leBytes 2 (d.fget GLB_ID.REV) ++
      leBytes 1 d.otp.provisioned.toNat ++ leBytes 1 (d.fget CFG_STAT.SLOT + 2 * d.fget CFG_STAT.FELLBACK) ++
      leBytes 4 (d.fget CFG_SEQ.SEQ) ++ leBytes 4 d.otp.svn ++ leBytes 4 d.reports ++ leBytes 8 now.toNat ++ nonce ++ img ++
      d.mcChain ++ sha256 (Config.otpWords d.otp.keyHash d.otp.svn (d.otp.repairs.map (·.toNat))) ++ sha256 identityBytes ++ List.replicate 128 0
    let d := d.wrBytes reportBase (body ++ beBytes 384 (Config.identitySign body))
    ((d.fset SEC_STAT.BUSY 0).flag SEC_STAT.READY).raise 835
  else d

end Sys2Proof.Machine
end

