-- ==== Sys2Proof/Machine/Boot.lean ====
section
/-! DEFINITION. Meanings of the commands of the image, the boot, rehydration, the flash and attestation
(spec/14_configuration_image_and_boot.md), with the end of a warm reset (R515). -/
namespace Sys2Proof.Machine

/-- BOOT_START (R405, R414, R420). -/
def execBootStart (s : State) (sfdp : Bool := true) (reread : BitVec 512 := 0) : Host.Outcome State Fault Refusal :=
  .next (s.bootStart sfdp reread)

/-- BOOT_ATTEMPT_FAIL (R415). -/
def execBootAttemptFail (cause : BootCause) (s : State) : Host.Outcome State Fault Refusal := .next (s.bootAttemptFail cause)

/-- BOOT_LOAD_DONE (R421). -/
def execBootLoadDone (s : State) : Host.Outcome State Fault Refusal := .next s.bootLoadDone

/-- BOOT_PARK (R420). -/
def execBootPark (s : State) : Host.Outcome State Fault Refusal := .next (s.withDev fun d => d.bootPark s.clk.now.toNat)

/-- REBOOT: a write of CFG_CTL (R417).
[DESIGN CHOICE, assumption 50] -/
def execReboot (v : W32) (s : State) : Host.Outcome State Fault Refusal := .next (s.wrCfgCtl v)

/-- FLASH_READ: a write of CFG_FLCMD (R419). -/
def execFlashRead (v : W32) (s : State) : Host.Outcome State Fault Refusal := .next (s.withDev fun d => d.wrFlcmd v)

/-- FLASH_PROGRAM: a write of CFG_FLCMD (R419). -/
def execFlashProgram (v : W32) (s : State) : Host.Outcome State Fault Refusal := .next (s.withDev fun d => d.wrFlcmd v)

/-- FLASH_ERASE: a write of CFG_FLCMD (R419). -/
def execFlashErase (v : W32) (s : State) : Host.Outcome State Fault Refusal := .next (s.withDev fun d => d.wrFlcmd v)

/-- FLASH_READ_STATUS: a write of CFG_FLCMD (R419). -/
def execFlashReadStatus (v : W32) (s : State) : Host.Outcome State Fault Refusal := .next (s.withDev fun d => d.wrFlcmd v)

/-- FLASH_COMMAND_DONE (R419). -/
def execFlashCommandDone (status : Byte) (s : State) : Host.Outcome State Fault Refusal :=
  .next (s.withDev fun d => d.flashDone status)

/-- FLASH_COMMAND_TIMEOUT (R419). -/
def execFlashCommandTimeout (s : State) : Host.Outcome State Fault Refusal := .next (s.withDev Dev.flashTimeout)

/-- DOMAIN_REHYDRATE (R422, R425). -/
def execDomainRehydrate (dom : DomainId) (answers : Bool) (s : State) : Host.Outcome State Fault Refusal :=
  .next (s.rehydrate dom.val answers)

/-- REHYDRATION_COMPLETE (R422). -/
def execRehydrationComplete (dom : DomainId) (s : State) : Host.Outcome State Fault Refusal :=
  .next (s.withDev fun d => d.rehydrated dom.val)

/-- GRAPH_RELOAD (R426). -/
def execGraphReload (g : GraphId) (s : State) : Host.Outcome State Fault Refusal := .next (s.graphReload g.val)

/-- WARM_RESET_COMPLETE (R515). -/
def execWarmResetComplete (s : State) : Host.Outcome State Fault Refusal := .next s.warmComplete

/-- PROVISION_FUSE (R413). -/
def execProvisionFuse (ok : Bool) (s : State) : Host.Outcome State Fault Refusal :=
  .next (s.withDev fun d => d.provisionFuse ok)

/-- SHUTDOWN_LOG_COPY (R431). -/
def execShutdownLogCopy (s : State) : Host.Outcome State Fault Refusal := .next (s.withDev Dev.shutdownLogCopy)

/-- NVDATA_READ: a read of CFG_NVDATA (R428). -/
def execNvdataRead (s : State) : Host.Outcome State Fault Refusal :=
  .next (s.withDev fun d => let (v, d) := d.rdNvdata; d.ret32 v)

/-- ATTEST: a write of SEC_CTL (R433). -/
def execAttest (v : W32) (s : State) : Host.Outcome State Fault Refusal := .next (s.withDev fun d => d.wrSecCtl v)

/-- ATTEST_DONE (R433). -/
def execAttestDone (s : State) : Host.Outcome State Fault Refusal := .next (s.withDev fun d => d.attestDone s.clk.now)

end Sys2Proof.Machine
end

