-- ==== Sys2Proof/Machine/Heat.lean ====
section
/-! DEFINITION. Meanings of the heat and supply commands (spec/16_heat_supply_and_cryostat_ledger.md) that change the device
alone. -/
namespace Sys2Proof.Machine

/-- PFAIL (R469, R558): shorter than 200 ns it is ignored, from 400 ns it acts. -/
def execPfail (widthNs : Nat) (s : State) : Host.Outcome State Fault Refusal :=
  .next (s.withDev fun d => let (acts, d) := d.pinActs widthNs 200 400; if acts then d.pfail s.clk else d)

/-- RAIL_EXCURSION (R468, R543). -/
def execRailExcursion (_rail : Fin 11) (durNs : Nat) (s : State) : Host.Outcome State Fault Refusal :=
  .next (s.withDev fun d => d.railOut durNs)

/-- DROOP_DETECT (R466, R467). -/
def execDroopDetect (mv : Nat) (s : State) : Host.Outcome State Fault Refusal := .next (s.withDev fun d => d.droop mv)

/-- DROOP_STRETCH_END (R466). -/
def execDroopStretchEnd (s : State) : Host.Outcome State Fault Refusal := .next (s.withDev Dev.droopEnd)

/-- SLOT_HOLD_DECISION (R133, R460, R474). -/
def execSlotHoldDecision (slot : BitVec 64) (s : State) : Host.Outcome State Fault Refusal :=
  .next (s.withDev fun d => d.slotDecide slot.toNat s.clk.now.toNat)

/-- THROTTLE_LEVEL_DOWN (R457, R458). -/
def execThrottleLevelDown (s : State) : Host.Outcome State Fault Refusal := .next (s.withDev Dev.levelDown)

/-- SHUTDOWN_RECORD (R464). -/
def execShutdownRecord (s : State) : Host.Outcome State Fault Refusal := .next (s.withDev Dev.shutdownRecord)

/-- NOSLOT_CHECK (R462). -/
def execNoslotCheck (s : State) : Host.Outcome State Fault Refusal := .next (s.withDev Dev.noslot)

/-- THM_LIM_WRITE (R455). -/
def execThmLimWrite (v : W32) (s : State) : Host.Outcome State Fault Refusal := .next (s.withDev fun d => d.wrThmLim v)

/-- LEDGER_STEP (R470 to R473). -/
def execLedgerStep (s : State) : Host.Outcome State Fault Refusal := .next (s.withDev Dev.ledgerStep)

/-- TAU_WRITE (R472). -/
def execTauWrite (st : Fin 8) (v : W32) (s : State) : Host.Outcome State Fault Refusal :=
  .next (s.withDev fun d => d.wrTau st.val v)

end Sys2Proof.Machine
end

