-- ==== Sys2Proof/Machine/Marker.lean ====
section
/-! DEFINITION. Meanings of the marker, stamper and cycle-lock commands (spec/13_markers_stamps_cycle_lock.md). -/
namespace Sys2Proof.Machine

/-- MARKER_EDGE (R381 to R383). -/
def execMarkerEdge (k : Fin 16) (rising : Bool) (frac : BitVec 10) (s : State) : Host.Outcome State Fault Refusal :=
  .next (s.withDev fun d => d.mkEdge k.val rising frac.toNat s.clk.now.toNat)

/-- MARKER_EDGE_REGISTER (R384). -/
def execMarkerEdgeRegister (s : State) : Host.Outcome State Fault Refusal :=
  .next (s.withDev fun d => d.mkRegisterDue s.clk.now.toNat)

/-- STAMP_RD_WRITE (R389). -/
def execStampRdWrite (v : W32) (s : State) : Host.Outcome State Fault Refusal := .next (s.withDev fun d => d.wrTdcRd v)

/-- CYCLE_EDGE_MISSING: the deadline of the expected reference edge has come, and no edge is still to be registered on this
tick (R398). -/
def execCycleEdgeMissing (s : State) : Host.Outcome State Fault Refusal :=
  .next (s.withDev fun d =>
    match d.clDeadline with
    | some t =>
      if t ≤ s.clk.now.toNat && d.edges.all (fun e => !(decide (e.due ≤ d.tk) && d.clReference e.k e.rising))
      then (d.flag CL_ERR.MISSING).clDrop [] else d
    | none => d)

/-- CYCLE_WINDOW_START: a quiet window starts on this tick (R399). -/
def execCycleWindowStart (w : Fin 4) (s : State) : Host.Outcome State Fault Refusal :=
  .next (s.withDev fun d => if d.nextWindow w.val s.clk.now.toNat = some s.clk.now.toNat then d.raise (692 + w.val) else d)

/-- CYCLE_HOLD_COMMIT: a write of CL_COMMIT (R401). -/
def execCycleHoldCommit (v : W32) (s : State) : Host.Outcome State Fault Refusal := .next (s.withDev fun d => d.wrClCommit v)

/-- CL_REF_LO_READ. -/
def execClRefLoRead (s : State) : Host.Outcome State Fault Refusal :=
  .next (s.withDev fun d => let (v, d) := d.rdClRefLo; d.ret32 v)

end Sys2Proof.Machine
end

