-- ==== Sys2Proof/Machine/Output.lean ====
section
/-! DEFINITION. Meanings of the output-channel commands (spec/05_output_channels.md). -/
namespace Sys2Proof.Machine

/-- RANGE_CHANGE: a write of OC_CFG (R169, R170). -/
def execRangeChange (oc : OcId) (v : W32) (s : State) : Host.Outcome State Fault Refusal :=
  .next (s.withDev fun d => d.ocWrite oc.val (OC_CFG.off oc.val) fun d => d.wrOcCfg oc.val v s.clk.now.toNat)

/-- SETTLE_END (R171). -/
def execSettleEnd (oc : OcId) (s : State) : Host.Outcome State Fault Refusal := .next (s.withDev fun d => d.settleEnd oc.val)

/-- LOAD_STAGE: a write of OC_LOAD (R172). -/
def execLoadStage (oc : OcId) (v : W32) (s : State) : Host.Outcome State Fault Refusal :=
  .next (s.withDev fun d => d.ocWrite oc.val (OC_LOAD.off oc.val) fun d => d.wrOcLoad oc.val v s.clk.now.toNat)

/-- Whether the timeline admits a timed request: LOCKED or HOLDOVER (R54). -/
def State.timed (s : State) : Bool := s.clk.tstate == .locked || s.clk.tstate == .holdover

/-- STROBE_NOW: a write of GS_CTL (R174). -/
def execStrobeNow (g : Fin 16) (v : W32) (s : State) : Host.Outcome State Fault Refusal :=
  .next (s.withDev fun d => d.wrGsCtl g.val v s.clk.now.toNat s.timed)

/-- STROBE_ARM: a write of GS_CTL that sets ARM (R175). -/
def execStrobeArm (g : Fin 16) (v : W32) (s : State) : Host.Outcome State Fault Refusal :=
  .next (s.withDev fun d => d.wrGsCtl g.val v s.clk.now.toNat s.timed)

/-- TIMELINE_STROBE (R175). -/
def execTimelineStrobe (g : Fin 16) (s : State) : Host.Outcome State Fault Refusal :=
  .next (s.withDev fun d => d.timelineStrobe g.val s.clk.now.toNat)

/-- QUEUE_ENABLE: a write of OC_QCTL (R178). -/
def execQueueEnable (oc : OcId) (v : W32) (s : State) : Host.Outcome State Fault Refusal :=
  .next (s.withDev fun d => d.ocWrite oc.val (OC_QCTL.off oc.val) fun d => d.wrQctl oc.val v)

/-- QUEUE_START: a write of OC_QCTL (R179). -/
def execQueueStart (oc : OcId) (v : W32) (s : State) : Host.Outcome State Fault Refusal :=
  .next (s.withDev fun d => d.ocWrite oc.val (OC_QCTL.off oc.val) fun d => d.wrQctl oc.val v)

/-- QUEUE_STOP: a write of OC_QCTL (R179). -/
def execQueueStop (oc : OcId) (v : W32) (s : State) : Host.Outcome State Fault Refusal :=
  .next (s.withDev fun d => d.ocWrite oc.val (OC_QCTL.off oc.val) fun d => d.wrQctl oc.val v)

/-- QUEUE_WR_WRITE: a write of OC_QPTR (R180). -/
def execQueueWrWrite (oc : OcId) (v : W32) (s : State) : Host.Outcome State Fault Refusal :=
  .next (s.withDev fun d => d.ocWrite oc.val (OC_QPTR.off oc.val) fun d => d.wrQptr oc.val v)

/-- SHORT_DETECT (R186, R187): a channel whose domain is off drives no leg. -/
def execShortDetect (oc : OcId) (s : State) : Host.Outcome State Fault Refusal :=
  .next (s.withDev fun d => if d.domOn oc.val then d.shortDetect oc.val else d)

end Sys2Proof.Machine
end

