-- ==== Sys2Proof/Machine/Readout.lean ====
section
/-! DEFINITION. Meanings of the read-out commands (spec/06_readout_chains.md). -/
namespace Sys2Proof.Machine

/-- DT_STAGED_WRITE (R197). -/
def execDtStagedWrite (ic : IcId) (r : DtReg) (v : W32) (s : State) : Host.Outcome State Fault Refusal :=
  .next (s.withDev fun d => d.icWrite ic.val (dtOff ic.val r) fun d => d.wrDt ic.val r v)

/-- CE_PRIME: a write of CE_CTRL (R200). -/
def execCePrime (ic : IcId) (v : W32) (s : State) : Host.Outcome State Fault Refusal :=
  .next (s.withDev fun d => d.icWrite ic.val (CE_CTRL.off ic.val) fun d => d.wrCeCtrl ic.val v)

/-- CE_START (R200). -/
def execCeStart (g : Fin 16) (s : State) : Host.Outcome State Fault Refusal :=
  .next (s.withDev fun d => d.ceStart g.val s.clk.now.toNat)

/-- CE_HALT: a write of CE_CTRL (R204). -/
def execCeHalt (ic : IcId) (v : W32) (s : State) : Host.Outcome State Fault Refusal :=
  .next (s.withDev fun d => d.icWrite ic.val (CE_CTRL.off ic.val) fun d => d.wrCeCtrl ic.val v)

/-- IC_SOFT_RESET: a write of IC_CFG (R204). -/
def execIcSoftReset (ic : IcId) (v : W32) (s : State) : Host.Outcome State Fault Refusal :=
  .next (s.withDev fun d => d.icWrite ic.val (IC_CFG.off ic.val) fun d => d.wrIcCfg ic.val v)

/-- WINDOW (R205, R207). -/
def execWindow (ic : IcId) (s : State) : Host.Outcome State Fault Refusal :=
  .next (s.withDev fun d => d.ceRead ic.val s.clk.now.toNat capWindow fun d w => d.ceWindow ic.val s.clk.now.toNat w)

/-- CE_IDLE (R199). -/
def execCeIdle (ic : IcId) (s : State) : Host.Outcome State Fault Refusal :=
  .next (s.withDev fun d => d.ceRead ic.val s.clk.now.toNat capIdle fun d w => d.ceNext ic.val w.adv)

/-- CE_LOOP (R199, R123). -/
def execCeLoop (ic : IcId) (s : State) : Host.Outcome State Fault Refusal :=
  .next (s.withDev fun d => d.ceRead ic.val s.clk.now.toNat capLoop fun d w => d.ceLoop ic.val w)

/-- JUMP (R199). -/
def execJump (ic : IcId) (s : State) : Host.Outcome State Fault Refusal :=
  .next (s.withDev fun d => d.ceRead ic.val s.clk.now.toNat capJump fun d w => d.ceGo ic.val w.target (d.ic ic.val).cursor)

/-- SHOTWAIT: the engine holds until a shot boundary (R202). -/
def execShotwait (ic : IcId) (s : State) : Host.Outcome State Fault Refusal :=
  .next (s.withDev fun d => d.ceRead ic.val s.clk.now.toNat capShotwait fun d w =>
    let d := d.ceNext ic.val 0
    d.setIc ic.val { d.ic ic.val with mode := .shotwait, waitAdv := w.adv })

/-- SHOTWAIT_RELEASE: a shot boundary falls on this tick, at or after the cursor (R202). -/
def execShotwaitRelease (ic : IcId) (s : State) : Host.Outcome State Fault Refusal :=
  .next (s.withDev fun d =>
    let e := d.ic ic.val
    let b := s.clk.now.toNat
    if e.mode = .shotwait ∧ d.shotTk = some d.tk ∧ e.cursor ≤ b then
      d.setIc ic.val { e with mode := .running, cursor := b + max e.waitAdv 8 }
    else d)

/-- END: no further word is read; queued windows complete and the engine becomes ENDED (R204). -/
def execCeEnd (ic : IcId) (s : State) : Host.Outcome State Fault Refusal :=
  .next (s.withDev fun d => d.ceRead ic.val s.clk.now.toNat capEnd fun d _ =>
    let d := d.ceNext ic.val 0
    (d.setIc ic.val { d.ic ic.val with mode := .ending }).ceFinish ic.val)

/-- BADWORD: the word executes as IDLE (R203). -/
def execBadword (ic : IcId) (s : State) : Host.Outcome State Fault Refusal :=
  .next (s.withDev fun d =>
    if !d.ceMayRead ic.val s.clk.now.toNat then d
    else
      let w := d.capWord ic.val (d.ic ic.val).pos
      match d.capBad ic.val w with
      | none => d
      | some dt =>
        let d := d.ceNext ic.val w.adv
        (d.icErr ic.val (if dt then IC_ERR.BADDT ic.val else IC_ERR.BADWORD ic.val)).setTaint)

/-- WINDOW_OPEN (R206). -/
def execWindowOpen (ic : IcId) (dt : DtId) (s : State) : Host.Outcome State Fault Refusal :=
  .next (s.withDev fun d => d.windowOpen ic.val dt.val s.clk.now.toNat)

/-- WINDOW_END (R205). -/
def execWindowEnd (ic : IcId) (dt : DtId) (s : State) : Host.Outcome State Fault Refusal :=
  .next (s.withDev fun d => d.windowEnd ic.val dt.val s.clk.now.toNat)

/-- RESULT_EMIT (R215). -/
def execResultEmit (ic : IcId) (dt : DtId) (s : State) : Host.Outcome State Fault Refusal :=
  .next (s.withDev fun d => d.resultEmit ic.val dt.val s.clk.now.toNat)

/-- RESULT_BUFFER_READ (R218): with the domain off the read returns 0 and is recorded (R571). -/
def execResultBufferRead (ic : IcId) (off : Fin 0x80000) (len : Nat) (s : State) : Host.Outcome State Fault Refusal :=
  .next (s.withDev fun d =>
    if d.domOn (192 + ic.val) then
      let (bs, d) := d.rbRead ic.val off.val len
      d.retBytes bs
    else (d.mapErr 3 (0x8000000 + 0x80000 * ic.val + off.val)).retBytes (List.replicate len 0))

/-- RESULT_BUFFER_WRITE_DROP: nothing is written and no error recorded (R217); an access to a domain that is off or rehydrates
is reported as such (R571, R424). -/
def execResultBufferWriteDrop (ic : IcId) (off : Fin 0x80000) (_bytes : List Byte) (s : State) :
    Host.Outcome State Fault Refusal :=
  .next (s.withDev fun d => d.domWrite (192 + ic.val) 3 (0x8000000 + 0x80000 * ic.val + off.val) id)

/-- RB_RD_WRITE (R219). -/
def execRbRdWrite (ic : IcId) (v : W32) (s : State) : Host.Outcome State Fault Refusal :=
  .next (s.withDev fun d => d.icWrite ic.val (IC_RB_RD.off ic.val) fun d => d.wrRbRd ic.val v)

/-- WEIGHT_WRITE: it takes effect on the next tick (R208). -/
def execWeightWrite (ic : IcId) (off : Fin 0x10000) (bytes : List Byte) (s : State) : Host.Outcome State Fault Refusal :=
  .next (s.withDev fun d => d.domWrite (192 + ic.val) 3 (0x6000000 + 0x10000 * ic.val + off.val) fun d =>
    (d.lateBytes (weightBase ic.val + off.val) (bytes.take (0x10000 - off.val))).dmaStands (weightBase ic.val + off.val) bytes.length)

end Sys2Proof.Machine
end

