-- ==== Sys2Proof/Machine/Sieve.lean ====
section
/-! DEFINITION. Meanings of the sieve commands (spec/08_sieve_decoder.md) and of ROUND_BOUNDARY (R32, R246). -/
namespace Sys2Proof.Machine

/-- ROUND_BOUNDARY (R32, R246). -/
def execRoundBoundary (s : State) : Host.Outcome State Fault Refusal := .next (s.withDev fun d => d.roundBoundary s.clk.now.toNat)

/-- SIEVE_RECORD_INTAKE (R233, R253). -/
def execSieveRecordIntake (s : State) : Host.Outcome State Fault Refusal :=
  .next (s.withDev fun d =>
    match d.arrived (fun k => match k with | .sieve _ => true | _ => false) with
    | some (t, d) => match t.sink with | .sieve src => d.sieveIntake src t.word | _ => d
    | none => d)

/-- ROUND_CLOSE_TIMEOUT (R256, R257). -/
def execRoundCloseTimeout (g : GraphId) (s : State) : Host.Outcome State Fault Refusal :=
  .next (s.withDev fun d => d.closeTimeout g.val)

/-- DECODE_START (R258, R263). -/
def execDecodeStart (g : GraphId) (s : State) : Host.Outcome State Fault Refusal :=
  .next (s.withDev fun d => d.decodeStart g.val)

/-- DECODE_COMMIT (R259 to R262). -/
def execDecodeCommit (g : GraphId) (s : State) : Host.Outcome State Fault Refusal :=
  .next (s.withDev fun d => d.decodeCommit g.val)

/-- SIEVE_OUTPUT_ISSUE (R266, R267). -/
def execSieveOutputIssue (s : State) : Host.Outcome State Fault Refusal := .next (s.withDev Dev.outputIssue)

/-- CONDITION_OUTPUT_ISSUE (R268). -/
def execConditionOutputIssue (k : Fin 64) (s : State) : Host.Outcome State Fault Refusal :=
  .next (s.withDev fun d => d.conditionIssue k.val)

/-- DONE_SEND (R269). -/
def execDoneSend (g : GraphId) (s : State) : Host.Outcome State Fault Refusal := .next (s.withDev fun d => d.doneSend g.val)

/-- OPEN_RECEIVE (R271): the message's TYPE decides. -/
def execOpenReceive (p : PortId) (msg : BitVec 64) (s : State) : Host.Outcome State Fault Refusal :=
  .next (s.withDev fun d => d.sieveDeliver p.val msg)

/-- DONE_RECEIVE (R271). -/
def execDoneReceive (p : PortId) (msg : BitVec 64) (s : State) : Host.Outcome State Fault Refusal :=
  .next (s.withDev fun d => d.sieveDeliver p.val msg)

/-- FLIP_RECEIVE (R272). -/
def execFlipReceive (p : PortId) (msg : BitVec 64) (s : State) : Host.Outcome State Fault Refusal :=
  .next (s.withDev fun d => d.sieveDeliver p.val msg)

/-- SIEVE_TYPE3_RECEIVE (R270). -/
def execSieveType3Receive (p : PortId) (msg : BitVec 64) (s : State) : Host.Outcome State Fault Refusal :=
  .next (s.withDev fun d => d.sieveDeliver p.val msg)

/-- GRAPH_STORE_WRITE (R248). -/
def execGraphStoreWrite (v : W32) (s : State) : Host.Outcome State Fault Refusal := .next (s.withDev fun d => d.wrGdata v)

/-- GRAPH_STORE_READ (R248). -/
def execGraphStoreRead (s : State) : Host.Outcome State Fault Refusal :=
  .next (s.withDev fun d => let (v, d) := d.rdGdata; d.ret32 v)

/-- GRAPH_ENABLE: a write of SV_Gg_CTL (R251). -/
def execGraphEnable (g : GraphId) (v : W32) (s : State) : Host.Outcome State Fault Refusal :=
  .next (s.withDev fun d => d.wrGraphCtl g.val v)

/-- GRAPH_ENABLE_CHECK_DONE (R251). -/
def execGraphEnableCheckDone (g : GraphId) (s : State) : Host.Outcome State Fault Refusal :=
  .next (s.withDev fun d => d.graphCheckDone g.val)

/-- GRAPH_DISABLE: a write of SV_Gg_CTL (R252). -/
def execGraphDisable (g : GraphId) (v : W32) (s : State) : Host.Outcome State Fault Refusal :=
  .next (s.withDev fun d => d.wrGraphCtl g.val v)

/-- TILE_RELEASE (R252). -/
def execTileRelease (g : GraphId) (s : State) : Host.Outcome State Fault Refusal :=
  .next (s.withDev fun d => d.tileRelease g.val)

/-- ROTATION_START (R273). -/
def execRotationStart (s : State) : Host.Outcome State Fault Refusal := .next (s.withDev Dev.rotationStart)

/-- ROTATION_COPY_DONE (R273, R274). -/
def execRotationCopyDone (s : State) : Host.Outcome State Fault Refusal := .next (s.withDev Dev.rotationCopyDone)

/-- TILE_FAIL (R274). -/
def execTileFail (tile : Fin 17) (storeLost : Bool) (s : State) : Host.Outcome State Fault Refusal :=
  .next (s.withDev fun d => d.tileFail tile.val storeLost)

end Sys2Proof.Machine
end

