-- ==== Sys2Proof/Machine/Sluice.lean ====
section
/-! DEFINITION. Meanings of the sluice commands (spec/07_sluice_and_feedback.md), and the condition event of the step engines
(R116), which the sluice delivers. -/
namespace Sys2Proof.Machine

/-- COLLECTOR_TAKE (R225). -/
def execCollectorTake (s : State) : Host.Outcome State Fault Refusal := .next (s.withDev Dev.collectorTake)

/-- ROUTING_WRITE (R231). -/
def execRoutingWrite (r : RouteReg) (v : W32) (s : State) : Host.Outcome State Fault Refusal :=
  .next (s.withDev fun d => d.wrRoute r v)

/-- LINK_QUEUE_ENTRY: an event forwarded to port `p` reaches its decision queue (R238). -/
def execLinkQueueEntry (p : PortId) (s : State) : Host.Outcome State Fault Refusal :=
  .next (s.withDev fun d =>
    match d.arrived (fun k => match k with | .link q _ => q == p.val | _ => false) with
    | some (t, d) => match t.sink with | .link q m => d.decisionPush q m | _ => d
    | none => d)

/-- FRAME_UPDATE_APPLY (R234). -/
def execFrameUpdateApply (s : State) : Host.Outcome State Fault Refusal :=
  .next (s.withDev fun d =>
    match d.arrived (fun k => match k with | .frame _ => true | _ => false) with
    | some (t, d) => match t.sink with | .frame u => d.frameApply s.clk.now.toNat u | _ => d
    | none => d)

/-- RECEIVE_KIND0_RESULT (R237): the message's KIND field decides. -/
def execReceiveKind0Result (p : PortId) (msg : BitVec 96) (s : State) : Host.Outcome State Fault Refusal :=
  .next (s.withDev fun d => d.decisionDeliver p.val msg)

/-- RECEIVE_KIND1_FRAME (R237). -/
def execReceiveKind1Frame (p : PortId) (msg : BitVec 96) (s : State) : Host.Outcome State Fault Refusal :=
  .next (s.withDev fun d => d.decisionDeliver p.val msg)

/-- RECEIVE_RESERVED_KIND (R237). -/
def execReceiveReservedKind (p : PortId) (msg : BitVec 96) (s : State) : Host.Outcome State Fault Refusal :=
  .next (s.withDev fun d => d.decisionDeliver p.val msg)

/-- CONDITION_EVENT: an event selected by CIk of an engine reaches it (R116, R229, R230). -/
def execConditionEvent (oc : OcId) (ci : Fin 16) (s : State) : Host.Outcome State Fault Refusal :=
  .next (s.withDev fun d =>
    match d.arrived (fun k => match k with | .ci n j _ => n == oc.val && j == ci.val | _ => false) with
    | some (t, d) => match t.sink with | .ci n j sel => d.ciDeliver n j s.clk.now.toNat sel t.word | _ => d
    | none => d)

end Sys2Proof.Machine
end

