-- ==== Sys2Proof/Machine/StepEngine.lean ====
section
/-! DEFINITION. Meanings of the step-engine commands (spec/03_step_engines.md). A step command has its effect when the engine
may read a step of that kind now (R93); otherwise nothing changes. -/
namespace Sys2Proof.Machine

/-- PLAY (R92, R95, R140). -/
def execPlay (oc : OcId) (s : State) : Host.Outcome State Fault Refusal :=
  .next (s.withDev fun d0 => d0.readStep oc.val s.clk.now.toNat (fun w => w.op == opPlay)
    fun d _ w => d0.cmdStep d oc.val s.clk.now.toNat w)

/-- SETF (R92, R95, R140). -/
def execSetf (oc : OcId) (s : State) : Host.Outcome State Fault Refusal :=
  .next (s.withDev fun d0 => d0.readStep oc.val s.clk.now.toNat (fun w => w.op == opSetf)
    fun d _ w => d0.cmdStep d oc.val s.clk.now.toNat w)

/-- IDLE (R92). -/
def execIdleStep (oc : OcId) (s : State) : Host.Outcome State Fault Refusal :=
  .next (s.withDev fun d => d.readStep oc.val s.clk.now.toNat (fun w => w.op == opIdle)
    fun d _ w => d.simpleStep oc.val s.clk.now.toNat w id)

/-- UNDEFINED_OPCODE (R90). -/
def execUndefinedOpcode (oc : OcId) (s : State) : Host.Outcome State Fault Refusal :=
  .next (s.withDev fun d => d.badStep oc.val s.clk.now.toNat)

/-- WAIT (R120). -/
def execWaitStep (oc : OcId) (s : State) : Host.Outcome State Fault Refusal :=
  .next (s.withDev fun d => d.readStep oc.val s.clk.now.toNat (fun w => w.op == opWait)
    fun d _ w => d.waitRead oc.val s.clk.now.toNat w)

/-- WAIT_RESUME (R120). -/
def execWaitResume (oc : OcId) (s : State) : Host.Outcome State Fault Refusal :=
  .next (s.withDev fun d => d.waitResume oc.val s.clk.now.toNat)

/-- WAIT_TIMEOUT (R120). -/
def execWaitTimeout (oc : OcId) (s : State) : Host.Outcome State Fault Refusal :=
  .next (s.withDev fun d => d.waitTimeout oc.val s.clk.now.toNat)

/-- BRANCH (R112, R573). -/
def execBranchStep (oc : OcId) (s : State) : Host.Outcome State Fault Refusal :=
  .next (s.withDev fun d => d.readStep oc.val s.clk.now.toNat (fun w => w.op == opBranch)
    fun d p w => d.branchRead oc.val s.clk.now.toNat p w)

/-- BRANCH_DECISION (R113). -/
def execBranchDecision (oc : OcId) (s : State) : Host.Outcome State Fault Refusal :=
  .next (s.withDev fun d => d.branchDecide oc.val s.clk.now.toNat)

/-- LOOP_STEP_LEVEL (R122, R123). -/
def execLoopStepLevel (oc : OcId) (s : State) : Host.Outcome State Fault Refusal :=
  .next (s.withDev fun d => d.readStep oc.val s.clk.now.toNat (fun w => w.op == opLoop && !bitAt w.aux 2)
    fun d p w => d.loopRead oc.val s.clk.now.toNat p w)

/-- LOOP_SEGMENT_LEVEL (R122, R123, R573). -/
def execLoopSegmentLevel (oc : OcId) (s : State) : Host.Outcome State Fault Refusal :=
  .next (s.withDev fun d => d.readStep oc.val s.clk.now.toNat (fun w => w.op == opLoop && bitAt w.aux 2)
    fun d p w => d.loopRead oc.val s.clk.now.toNat p w)

/-- CALL (R441). -/
def execCallStep (oc : OcId) (s : State) : Host.Outcome State Fault Refusal :=
  .next (s.withDev fun d => d.readStep oc.val s.clk.now.toNat (fun w => w.op == opCall)
    fun d p w => d.callRead oc.val s.clk.now.toNat p w)

/-- FRAME_SET (R125). -/
def execFrameSet (oc : OcId) (s : State) : Host.Outcome State Fault Refusal :=
  .next (s.withDev fun d => d.readStep oc.val s.clk.now.toNat (fun w => w.op == opFrame && w.aux / 4 % 4 == 0)
    fun d _ w => d.frameRead oc.val s.clk.now.toNat w)

/-- FRAME_XOR (R125). -/
def execFrameXor (oc : OcId) (s : State) : Host.Outcome State Fault Refusal :=
  .next (s.withDev fun d => d.readStep oc.val s.clk.now.toNat (fun w => w.op == opFrame && w.aux / 4 % 4 == 1)
    fun d _ w => d.frameRead oc.val s.clk.now.toNat w)

/-- FRAME_CLEAR_ALL (R125). -/
def execFrameClearAll (oc : OcId) (s : State) : Host.Outcome State Fault Refusal :=
  .next (s.withDev fun d => d.readStep oc.val s.clk.now.toNat (fun w => w.op == opFrame && w.aux / 4 % 4 == 2)
    fun d _ w => d.frameRead oc.val s.clk.now.toNat w)

/-- MARKONLY (R91). -/
def execMarkonly (oc : OcId) (s : State) : Host.Outcome State Fault Refusal :=
  .next (s.withDev fun d => d.readStep oc.val s.clk.now.toNat (fun w => w.op == opMark)
    fun d _ w => d.simpleStep oc.val s.clk.now.toNat w id)

/-- SYNC_ABSOLUTE (R133). -/
def execSyncAbsolute (oc : OcId) (s : State) : Host.Outcome State Fault Refusal :=
  .next (s.withDev fun d => d.readStep oc.val s.clk.now.toNat (fun w => w.op == opSync && w.aux % 4 == 0)
    fun d _ w => d.syncAbsolute oc.val s.clk.now.toNat w)

/-- SYNC_CYCLE_WINDOW (R133, R400). -/
def execSyncCycleWindow (oc : OcId) (s : State) : Host.Outcome State Fault Refusal :=
  .next (s.withDev fun d => d.readStep oc.val s.clk.now.toNat (fun w => w.op == opSync && w.aux % 4 == 1)
    fun d _ w => d.syncWindow oc.val s.clk.now.toNat w)

/-- SYNC_SHOT_SLOT (R133). -/
def execSyncShotSlot (oc : OcId) (s : State) : Host.Outcome State Fault Refusal :=
  .next (s.withDev fun d => d.readStep oc.val s.clk.now.toNat (fun w => w.op == opSync && w.aux % 4 == 2)
    fun d _ w => d.syncSlot oc.val s.clk.now.toNat w)

/-- END (R131). -/
def execEndStep (oc : OcId) (s : State) : Host.Outcome State Fault Refusal :=
  .next (s.withDev fun d => d.readStep oc.val s.clk.now.toNat (fun w => w.op == opEnd) fun d _ _ => d.endRead oc.val)

/-- TONE_COMMAND_FIRE (R92, R128). -/
def execToneCommandFire (oc : OcId) (tone : Fin 16) (s : State) : Host.Outcome State Fault Refusal :=
  .next (s.withDev fun d => d.fireDue oc.val tone.val s.clk.now.toNat)

/-- CHECK_TICK (R107). -/
def execCheckTick (oc : OcId) (s : State) : Host.Outcome State Fault Refusal :=
  .next (s.withDev fun d => d.checkTick oc.val s.clk.now.toNat)

/-- SEGMENT_BOUNDARY (R108, R109). -/
def execSegmentBoundary (oc : OcId) (s : State) : Host.Outcome State Fault Refusal :=
  .next (s.withDev fun d => d.boundaryNow oc.val s.clk.now.toNat false)

/-- STARVATION_END (R109). -/
def execStarvationEnd (oc : OcId) (s : State) : Host.Outcome State Fault Refusal :=
  .next (s.withDev fun d => d.boundaryNow oc.val s.clk.now.toNat true)

/-- SE_PRIME: a write of SE_CTRL (R129). -/
def execSePrime (oc : OcId) (v : W32) (s : State) : Host.Outcome State Fault Refusal :=
  .next (s.withDev fun d => d.ocWrite oc.val (SE_CTRL.off oc.val) fun d => d.wrSeCtrl oc.val v s.clk.now.toNat)

/-- SE_HALT: a write of SE_CTRL (R132). -/
def execSeHalt (oc : OcId) (v : W32) (s : State) : Host.Outcome State Fault Refusal :=
  .next (s.withDev fun d => d.ocWrite oc.val (SE_CTRL.off oc.val) fun d => d.wrSeCtrl oc.val v s.clk.now.toNat)

/-- ENGINE_START (R130). -/
def execEngineStart (g : Fin 16) (s : State) : Host.Outcome State Fault Refusal :=
  .next (s.withDev fun d => d.engineStart g.val s.clk.now.toNat)

/-- SEG_REQUEST_LOADING: a write of SE_SEGs_LO (R102). -/
def execSegRequestLoading (oc : OcId) (seg : Fin 256) (v : W32) (s : State) : Host.Outcome State Fault Refusal :=
  .next (s.withDev fun d => d.ocWrite oc.val (SE_SEG_LO.off oc.val seg.val) fun d => d.segLoWrite oc.val seg.val v)

/-- SEG_REQUEST_VALID: a write of SE_SEGs_LO (R104). -/
def execSegRequestValid (oc : OcId) (seg : Fin 256) (v : W32) (s : State) : Host.Outcome State Fault Refusal :=
  .next (s.withDev fun d => d.ocWrite oc.val (SE_SEG_LO.off oc.val seg.val) fun d => d.segLoWrite oc.val seg.val v)

/-- SEG_REQUEST_EMPTY: a write of SE_SEGs_LO (R102). -/
def execSegRequestEmpty (oc : OcId) (seg : Fin 256) (v : W32) (s : State) : Host.Outcome State Fault Refusal :=
  .next (s.withDev fun d => d.ocWrite oc.val (SE_SEG_LO.off oc.val seg.val) fun d => d.segLoWrite oc.val seg.val v)

/-- SEG_REWRITE_FIELDS: a write of SE_SEGs_LO (R102). -/
def execSegRewriteFields (oc : OcId) (seg : Fin 256) (v : W32) (s : State) : Host.Outcome State Fault Refusal :=
  .next (s.withDev fun d => d.ocWrite oc.val (SE_SEG_LO.off oc.val seg.val) fun d => d.segLoWrite oc.val seg.val v)

/-- SEG_HI_WRITE (R103). -/
def execSegHiWrite (oc : OcId) (seg : Fin 256) (v : W32) (s : State) : Host.Outcome State Fault Refusal :=
  .next (s.withDev fun d => d.ocWrite oc.val (SE_SEG_HI.off oc.val seg.val) fun d => d.segHiWrite oc.val seg.val v)

/-- STEP_STORE_WRITE (R105). -/
def execStepStoreWrite (oc : OcId) (off : Fin 0x40000) (bytes : List Byte) (s : State) : Host.Outcome State Fault Refusal :=
  .next (s.withDev fun d => d.domWrite oc.val 3 (0x40000 * oc.val + off.val) fun d =>
    (d.stepStore oc.val off.val bytes).dmaStands (bar2Base + 0x40000 * oc.val + off.val) bytes.length)

/-- REFILL_LIST_REBUILD (R106). -/
def execRefillListRebuild (oc : OcId) (s : State) : Host.Outcome State Fault Refusal :=
  .next (s.withDev fun d => d.refillRebuild oc.val)

/-- OC_SOFT_RESET: a write of OC_CFG (R134). -/
def execOcSoftReset (oc : OcId) (v : W32) (s : State) : Host.Outcome State Fault Refusal :=
  .next (s.withDev fun d => d.ocWrite oc.val (OC_CFG.off oc.val) fun d => d.wrOcCfg oc.val v s.clk.now.toNat)

/-- Values of a unit that move into force on the tick after their writing (R158). -/
def Staged.goes (u : Nat) (x : Staged) : Bool := x.unit == u && x.go == some true

/-- STAGED_VALUE_COMMIT: values that the engines let move into force on the tick after their writing do so (R158, R197, R401, R484); a
shot boundary moves them itself. -/
def execStagedValueCommit (target : StageTarget) (s : State) : Host.Outcome State Fault Refusal :=
  .next (s.withDev fun d =>
    match target with
    | .oc n => d.commitStaged (Staged.goes n.val)
    | .ic i => d.commitStaged (Staged.goes (icUnit i.val))
    | .cycleHold => if d.cycle.pendGo = some true then d.cycleCommit else d
    | .group g => if (d.calStaged.find? (fun e => e.1 == g.val)).any (fun e => e.2.go == some true) then d.calCommit g.val else d)

end Sys2Proof.Machine
end

