-- ==== Sys2Proof/Machine/Task.lean ====
section
/-! DEFINITION. The firing of the clocked task inputs (R366, R367, Tables 12-1 and 12-2). -/
namespace Sys2Proof.Machine

/-- What a task writes to a register: its word with one field replaced, no W1C bit cleared and no other strobe given (R366). -/
def Dev.fieldWord (d : Dev) (f : Fld) (x : Nat) : W32 :=
  match regRow? f.off with
  | some r => f.put (d.reg f.off &&& ~~~(BitVec.ofNat 32 (r.w1c ||| r.w1p))) x
  | none => f.put (d.reg f.off) x

/-- A task writes one field of a register, by the authority that owns it (R366).
[DESIGN CHOICE, assumption 21] -/
def State.taskWrite (s : State) (a : Auth) (f : Fld) (x : Nat) : State := s.regWrite a false f.off (s.dev.fieldWord f x)

/-- Task input 288 + n: ARM and ASAP set, CODE and ARG kept (Table 12-2). -/
def State.taskArm (s : State) (n : Nat) : State :=
  let w := (TML_ACT_CTL.ARM n).put (s.dev.fieldWord (TML_ACT_CTL.ASAP n) 1) 1
  s.regWrite .host false (TML_ACT_CTL.off n) w

/-- The authority that owns DMA channel `c` (R347). -/
def dmaAuth (c : Nat) : Auth := if c < 28 then .host else .firmware

/-- A firmware interrupt or a secure input fires; while the controller restarts, or is off, it is lost (R536). -/
def Dev.fwTask (d : Dev) (i : Nat) : Dev :=
  if i < 416 then (if d.ctlRestart.isSome then d else { d with fwIrq := insNat (i - 352) d.fwIrq })
  else { d with secIn := insNat (i - 448) d.secIn }

/-- The action of task input `i` (Table 12-2). -/
def State.taskAction (s : State) (i : Nat) : State :=
  if i < 192 then s.taskWrite .host (SE_CTRL.HALT i) 1
  else if i < 224 then s.taskWrite .host (CE_CTRL.HALT (i - 192)) 1
  else if i < 256 then s.taskWrite (dmaAuth (i - 224)) (DMA_C_CTL.START (i - 224)) 1
  else if i < 288 then s.taskWrite (dmaAuth (i - 256)) (DMA_C_CTL.STOP (i - 256)) 1
  else if i < 304 then s.taskArm (i - 288)
  else if i < 320 then s.taskWrite .host (GS_CTL.NOW (i - 304)) 1
  else if i < 336 then s.withDev fun d => { d with rillLines := insNat (i - 320) d.rillLines }
  else if i < 344 then s.taskWrite .host (TU_CTL.ARM (i - 336)) 1
  else if i = 344 then s.taskWrite .host ACQ_CTL.RUN 0
  else if i = 345 then s.withDev fun d => d.bbxAdd .mark 0 (d.fget BBX_MARKARG.ARG)
  else if i = 346 then s.wakeUp .task
  else if i = 347 then s.withDev fun d => d.safeArise 2
  else if i < 352 then s
  else if i < 416 then s.withDev fun d => d.fwTask i
  else if i < 422 then s.taskWrite .host (LNK_P_CTL.SRST (i - 416)) 1
  else if i < 448 then s
  else s.withDev fun d => d.fwTask i

/-- A task input beyond its register. -/
def Dev.task (d : Dev) (i : Nat) : TaskSt := tget {} d.tasks i
def Dev.setTask (d : Dev) (i : Nat) (t : TaskSt) : Dev := { d with tasks := tset {} d.tasks i t }

/-- The period of the untimed clocks in sixteenths of a tick: Table 16-3 by the throttle level, and the eighths of a droop (R379, R459,
R466). -/
def Dev.untimedPeriod (d : Dev) : Nat :=
  (match d.fget THM_STAT.LEVEL with | 0 => 2 | 1 => 3 | 2 => 4 | 3 => 6 | _ => 8) * (8 + d.heat.stretch)

/-- The task inputs clocked by the DMA or the management clock (Table 12-2). -/
def taskUntimed (i : Nat) : Bool := (decide (224 ≤ i) && decide (i < 288)) || (decide (352 ≤ i) && decide (i < 416)) || decide (448 ≤ i)

/-- An event of arrival `a` is in the synchroniser cycle that the one of arrival `first` began (R366, R367).
[DESIGN CHOICE, assumption 21] -/
def Dev.taskSame (d : Dev) (i first a : Nat) : Bool :=
  if taskUntimed i then decide (16 * a < 16 * first + d.untimedPeriod) else a == first

/-- The synchroniser cycle that arrival `first` began has ended and its firing may come: on the tick 2 tk after the source event at the
earliest (R366, R368).
[DESIGN CHOICE, assumption 21] -/
def Dev.taskDue (d : Dev) (i first : Nat) : Bool :=
  if taskOnXtal i then decide (first < d.xtal)
  else if taskUntimed i then decide (16 * first + d.untimedPeriod ≤ 16 * d.tk)
  else decide (first + 2 ≤ d.tk)

/-- A clocked task input fires once for the events `took`, starts its re-arm time, and leaves the others waiting; COAL counts the events
beyond the first (R366, R367). -/
def State.taskGo (s : State) (i took : Nat) : State :=
  let t := s.dev.task i
  (s.withDev fun d => (d.satAdd (RIL_TASK.COAL i) (took - 1)).setTask i
    { arr := t.arr.drop took, rearming := true, firedAt := d.tk }).taskAction i

/-- The end of a synchroniser cycle in which task input `i` has sampled an event (R366); events of a block without power are
discarded (R376). Inputs 480 to 511 are not clocked (R369).
[DESIGN CHOICE, assumption 21] -/
def State.taskFire (s : State) (i : Nat) : State :=
  let t := s.dev.task i
  match t.arr with
  | [] => s
  | a :: _ =>
    if 480 ≤ i ∨ taskReserved i = true ∨ t.rearming = true then s
    else if !s.dev.taskPowered i then s.withDev fun d => d.setTask i { t with arr := [] }
    else if s.dev.taskDue i a then s.taskGo i (t.arr.takeWhile (fun b => s.dev.taskSame i a b)).length
    else s

/-- The re-arm time of a task input has passed (Table 12-2): 10 tk, 40 ns on the crystal, and 10 cycles of the untimed clocks, which
lengthen with the throttle level and with a droop (R379, R459, R466).
[DESIGN CHOICE, assumption 21] -/
def Dev.rearmed (d : Dev) (i : Nat) : Bool :=
  let e := d.tk - (d.task i).firedAt
  if taskOnXtal i then decide (25 ≤ e)
  else if taskUntimed i then decide (10 * d.untimedPeriod ≤ 16 * e)
  else decide (10 ≤ e)

/-- A task input is re-armed; the events that have reached it by then make one further firing (R367).
[DESIGN CHOICE, assumption 21] -/
def State.taskRearm (s : State) (i : Nat) : State :=
  let t := s.dev.task i
  if t.rearming && s.dev.rearmed i then
    let s := s.withDev fun d => d.setTask i { t with rearming := false }
    let took := (t.arr.takeWhile (fun a => s.dev.taskDue i a)).length
    if took = 0 ∨ 480 ≤ i ∨ !s.dev.taskPowered i then s.taskFire i else s.taskGo i took
  else s

end Sys2Proof.Machine
end

