-- ==== Sys2Proof/Machine/TaskFire.lean ====
section
/-! DEFINITION. Meanings of the commands of clocked task inputs (spec/12_rill_event_network.md, R526, R534). -/
namespace Sys2Proof.Machine

/-- TASK_FIRE (R366). -/
def execTaskFire (i : TaskId) (s : State) : Host.Outcome State Fault Refusal := .next (s.taskFire i.val)

/-- TASK_REARM (R367). -/
def execTaskRearm (i : TaskId) (s : State) : Host.Outcome State Fault Refusal := .next (s.taskRearm i.val)

/-- MARK_ENTRY: task input 345 fires (Table 12-2, R526). -/
def execMarkEntry (s : State) : Host.Outcome State Fault Refusal := .next (s.taskFire 345)

/-- REQUEST_SAFE: task input 347 fires (Table 12-2, R534). -/
def execRequestSafe (s : State) : Host.Outcome State Fault Refusal := .next (s.taskFire 347)

end Sys2Proof.Machine
end

