-- ==== Sys2Proof/Machine/TickOps.lean ====
section
/-! DEFINITION. What a tick and a cycle of the always-on crystal do (R44, R76, R81): the work that ends the present tick, the count,
and the work that begins the next one. `now` is the timeline value. -/
namespace Sys2Proof.Machine

/-! ### The end of a tick -/

/-- A powered output channel fires its samples and drives its DAC (R137 to R157), in the running modes (R168). -/
def Dev.ocTick (d : Dev) (now n : Nat) : Dev := if d.domOn n && d.mode.running then (d.synth n now).dacTick n now else d

/-- A powered input channel takes its samples (R192 to R196). -/
def Dev.icTick (d : Dev) (now : Nat) (adc : List AdcTick) (i : Nat) : Dev :=
  if d.domOn (192 + i) then d.adcTick i now (icCodes adc i) else d

/-- Host writes of SE_FRAME act after the tick's other updates of the register.
[DESIGN CHOICE, assumption 17] -/
def Dev.frameWrites (d : Dev) (now : Nat) : Dev :=
  d.frameWr.foldl (fun d e => d.frameSet e.1 now ((SE_FRAME.FRAME e.1).of e.2)) { d with frameWr := [] }

/-- The frames of a channel as tick `t` left them (R124). -/
def Dev.frameAt (d : Dev) (n t : Nat) : Nat :=
  (((d.oc n).frHist.filter (fun e => decide (t < e.1))).getLast?.map (·.2)).getD (d.fget (SE_FRAME.FRAME n))

/-- A queued command of tone `t` takes its frame bits as its read tick, BRANCH_LEAD before its step tick, left them (R124, R126). -/
def Dev.capture (d : Dev) (n t now : Nat) (c : Cmd) : Cmd :=
  let lead := d.lead n
  if c.fields.frameApply && c.frame.isNone && decide (c.step ≤ now + lead) then
    { c with frame := some (d.frameAt n (c.step - lead) / 2 ^ (2 * t) % 4) }
  else c

/-- The commands of a channel take their frame bits (R124). -/
def Dev.frameCapture (d : Dev) (now n : Nat) : Dev :=
  let x := d.oc n
  d.setOc n { x with tones := x.tones.map (fun e => (e.1, { e.2 with queue := e.2.queue.map (d.capture n e.1 now) })) }

/-- Marker edges registered on an earlier tick enter the sluice, in ascending input (R222, R228, Table 07-1).
[DEDUCED, assumption 22] -/
def Dev.markerIntake (d : Dev) : Dev :=
  (d.mkIntake.filter (fun e => decide (e.1 < d.tk))).foldl
    (fun d e => d.intake (512 + e.2.1) (4096 + e.2.1) (d.markerRecord e.2.1 e.2.2))
    { d with mkIntake := d.mkIntake.filter (fun e => !decide (e.1 < d.tk)) }

/-- Register fields and memory bytes written in this tick that act on the next one. -/
def Dev.lateWrites (d : Dev) : Dev :=
  let d := d.lateRegs.foldl (fun d e => d.fset e.1 e.2) { d with lateRegs := [] }
  d.lateMem.foldl (fun d e => d.wr8 e.1 e.2) { d with lateMem := [] }

/-- What holds for one tick alone (R20, R93, R174, R201, R363, R394). -/
def Dev.forgetTick (d : Dev) : Dev :=
  { d with
    raised := [], w1cNow := [], gsDone := [], rillLines := [], lvlNow := [], dmaTick := []
    ocs := (d.ocs.map (fun e => (e.1, { e.2 with eng := { e.2.eng with reads := 0, frXor := 0 } }))).filter (fun e => e.2 != {})
    ics := (d.ics.map (fun e => (e.1, { e.2 with reads := 0 }))).filter (fun e => e.2 != {}) }

/-- The sediment entries of the tick are written, and a freeze of this tick takes the ring (R527, R529). In SLEEP an entry bears
network time (Table 19-1).
[DESIGN CHOICE, assumption 93] -/
def Dev.sediment (d : Dev) (c : Clock) : Dev :=
  let sleep := d.mode == .sleep
  let time := if sleep then c.nt.sec.toNat * 1000000000 + c.nt.ns else c.now.toNat
  (d.bbxFlush (if sleep then 1 else 4) (time % 2 ^ 64) c.tsus sleep).freezeSnap c

/-- The work of the tick that ends.
[DESIGN CHOICE, assumptions 8, 33] -/
def Dev.endTick (d : Dev) (c : Clock) (adc : List AdcTick) : Dev :=
  let now := c.now.toNat
  let d := (List.range 192).foldl (fun d n => d.ocTick now n) d
  let d := (List.range 32).foldl (fun d i => d.icTick now adc i) d
  let d := d.witTick now adc
  let d := (d.ocs.map (·.1)).foldl (fun d n => d.frameCapture now n) (d.frameWrites now)
  let d := (d.markerIntake.stampFlush.mkoTick now)
  let d := (d.sieve.graphs.map (·.1)).foldl Dev.decLate d
  (((d.safeAll now).sediment c).labelKeep now).lateWrites.forgetTick.dmaServe 1

/-! ### The beginning of a tick -/

/-- A step that set SHOT makes this tick a shot boundary (R30, R127). -/
def Dev.shotsDue (d : Dev) (now n : Nat) : Dev :=
  let e := d.eng n
  if e.shots.any (fun t => decide (t ≤ now)) then
    (d.setEng n { e with shots := e.shots.filter (fun t => !decide (t ≤ now)) }).shotBoundary now
  else d

/-- A calibration group is still: the engine or engines R484 names are IDLE, PRIMED or ENDED. -/
def Dev.groupStill (d : Dev) (g : Nat) : Bool := if g < 224 then d.unitStill g else d.allStill

/-- On the tick after their writing, staged values learn whether they move into force on it (R158, R197, R401, R484). -/
def Dev.judge (d : Dev) : Dev :=
  let d := d.stagedJudge
  let y := d.cycle
  let d : Dev := if y.pend.isSome && y.pendGo.isNone && decide (y.pendAt < d.tk)
    then { d with cycle := { y with pendGo := some d.allStill } } else d
  { d with calStaged := d.calStaged.map (fun e =>
      if e.2.go.isNone && decide (e.2.at_ < d.tk) then (e.1, { e.2 with go := some (d.groupStill e.1) }) else e) }

/-- What begins a tick in one step engine: held HALT and soft reset (R444), FRAME operations (R125), run-ahead reaching a boundary
(R107) and a step that would fall at or after the end tick (R99).
[DESIGN CHOICE, assumption 9] -/
def Dev.engineTick (d : Dev) (now n : Nat) : Dev :=
  let d := (d.heldNow now n).frameDue n now
  (d.openNext n now).overrunCheck n now

/-- The work that begins tick `now`: engines, shot boundaries, strobes asked for on the tick before (R174), and actions armed with
ASAP on it (R72).
[DESIGN CHOICE, assumptions 9, 33] -/
def Dev.beginTick (d : Dev) (now : Nat) : Dev :=
  let ns := d.ocs.map (·.1)
  let d := ns.foldl (fun d n => d.engineTick now n) d.dmaSense
  let d := ns.foldl (fun d n => d.shotsDue now n) d
  let soon := d.gsSoon
  let d : Dev := { d with gsSoon := [], asapDue := d.asapNew.foldl (fun l n => insNat n l) d.asapDue, asapNew := [] }
  (soon.foldl (fun d g => d.groupStrobe g now) d).judge

/-! ### The clock -/

/-- The count and network time advance by one tick; an increment committed on the tick before takes its place (R44, R74, R76). A
count that starts begins at 0. -/
def Clock.advance (c : Clock) : Clock :=
  let inc := c.incNext.getD c.inc
  { c with
    now := if c.starting then 0 else c.now + 1
    counting := true, starting := false
    inc := inc, incNext := none
    nt := c.nt.add inc.toNat }

/-- One tick (R44): it passes only while the timeline counts, or is to start.
[DESIGN CHOICE, assumption 8] -/
def State.tick (s : State) (adc : List AdcTick) : State :=
  if s.clk.counting || s.clk.starting then
    let d := s.dev.endTick s.clk adc
    let c := s.clk.advance
    { s with clk := c, dev := ({ d with tk := d.tk + 1 } : Dev).beginTick c.now.toNat }
  else s

/-- One cycle of the always-on crystal (R81, R371, R527): while the timeline does not count, it carries network time and what
waits for the end of a tick.
[DESIGN CHOICE, assumption 10] -/
def State.crystal (s : State) : State :=
  if s.dev.vauxLost then s
  else
    let s := s.withDev fun d => { d with xtal := d.xtal + 1 }
    if s.clk.counting then s
    else
      let inc := s.clk.incNext.getD s.clk.inc
      let d := ((((s.dev.safeAll 0).sediment s.clk).lateWrites.frameWrites 0).forgetTick).dmaServe 25
      { s with clk := { s.clk with nt := s.clk.nt.add (25 * inc.toNat), inc := inc, incNext := none }
               dev := ({ d.dmaSense with tk := d.tk + 25 } : Dev).judge }

end Sys2Proof.Machine
end

