-- ==== Sys2Proof/Machine/Tick.lean ====
section
/-! DEFINITION. Meanings of the clock commands: one tick, and one cycle of the always-on crystal. -/
namespace Sys2Proof.Machine

/-- TICK (R44): `adc` holds the sample codes of the tick that ends. -/
def execTick (adc : List AdcTick) (s : State) : Host.Outcome State Fault Refusal := .next (s.tick adc)

/-- CRYSTAL_CYCLE (R371). -/
def execCrystalCycle (s : State) : Host.Outcome State Fault Refusal := .next s.crystal

end Sys2Proof.Machine
end

