-- ==== Sys2Proof/Machine/Timeline.lean ====
section
/-! DEFINITION. Meanings of the timeline commands (spec/02_timeline.md, and R320 of spec/10_link_ports.md). A command that
stands for an event changes nothing when the state says that event is not due. -/
namespace Sys2Proof.Machine

/-- NOW_LO_READ (R45). -/
def execNowLoRead (s : State) : Host.Outcome State Fault Refusal :=
  .next (let (v, s) := s.rdNowLo; s.withDev fun d => d.ret32 v)

/-- WELLHEAD_START: a write of TML_CTRL (R51). -/
def execWellheadStart (v : W32) (s : State) : Host.Outcome State Fault Refusal := .next (s.wrTmlCtrl v)

/-- TIMEBEAT_EDGE (R48, R51, R56, R66). -/
def execTimebeatEdge (frac : BitVec 10) (s : State) : Host.Outcome State Fault Refusal :=
  .next (if s.clk.counting then s.timebeat frac.toNat else s)

/-- TIMEBEAT_MISSING (R48). -/
def execTimebeatMissing (s : State) : Host.Outcome State Fault Refusal := .next s.beatMissing

/-- REALIGN: a write of TML_CTRL (R66). -/
def execRealign (v : W32) (s : State) : Host.Outcome State Fault Refusal := .next (s.wrTmlCtrl v)

/-- SYNC_FLIT_RECEIVE on a trained port (R50, R53, R55). -/
def execSyncFlitReceive (p : PortId) (frac : BitVec 10) (xid : BitVec 8) (hops : BitVec 4) (suspect : Bool) (s : State) :
    Host.Outcome State Fault Refusal :=
  .next (if s.clk.counting && s.dev.portUp p.val
    then s.syncReceive p.val (s.dev.arrival p.val frac.toNat) xid hops suspect else s)

/-- FOLLOW_FLIT_RECEIVE on a trained port (R56, R57, R79, R80). -/
def execFollowFlitReceive (p : PortId) (f : FollowFlit) (s : State) : Host.Outcome State Fault Refusal :=
  .next (if s.clk.counting && s.dev.portUp p.val then s.followReceive p.val f else s)

/-- SYNC_SEND (R320). -/
def execSyncSend (p : PortId) (frac : BitVec 10) (s : State) : Host.Outcome State Fault Refusal := .next (s.syncSend p.val frac)

/-- FOLLOW_SEND (R320). -/
def execFollowSend (p : PortId) (s : State) : Host.Outcome State Fault Refusal := .next (s.followSend p.val)

/-- DREQ_SEND (R60, R320). -/
def execDreqSend (p : PortId) (frac : BitVec 10) (s : State) : Host.Outcome State Fault Refusal := .next (s.dreqSend p.val frac)

/-- DREQ_RECEIVE (R50, R320). -/
def execDreqReceive (p : PortId) (frac : BitVec 10) (xid : BitVec 8) (s : State) : Host.Outcome State Fault Refusal :=
  .next (s.dreqReceive p.val (s.dev.arrival p.val frac.toNat) xid)

/-- DRESP_RECEIVE (R60). -/
def execDrespReceive (p : PortId) (xid : BitVec 8) (t4 : BitVec 74) (s : State) : Host.Outcome State Fault Refusal :=
  .next (if s.dev.portUp p.val then s.drespReceive p.val xid t4 else s)

/-- SYNC_LOST (R61, R63). -/
def execSyncLost (s : State) : Host.Outcome State Fault Refusal := .next s.syncLost

/-- UP_PRI_RETURN (R67). -/
def execUpPriReturn (s : State) : Host.Outcome State Fault Refusal := .next s.upPriReturn

/-- ACTION_ARM: a write of TML_ACTn_CTL (R71 to R73). -/
def execActionArm (n : Fin 16) (v : W32) (s : State) : Host.Outcome State Fault Refusal :=
  .next (s.withDev fun d => d.wrActCtl n.val v s.clk.now.toNat s.clk.timed)

/-- ACTION_CANCEL: a write of TML_ACTn_CTL (R73). -/
def execActionCancel (n : Fin 16) (v : W32) (s : State) : Host.Outcome State Fault Refusal :=
  .next (s.withDev fun d => d.wrActCtl n.val v s.clk.now.toNat s.clk.timed)

/-- ACT_NONE: codes 0 and 6 to 15 (Table 02-5). -/
def execActNone (n : Fin 16) (s : State) : Host.Outcome State Fault Refusal :=
  .next (s.actFire n.val (fun k => k == 0 || decide (6 ≤ k)) fun s _ => s)

/-- ACT_RAISE_SOFTWARE_SOURCE: code 1 (Table 02-5). -/
def execActRaiseSoftwareSource (n : Fin 16) (s : State) : Host.Outcome State Fault Refusal :=
  .next (s.actFire n.val (· == 1) fun s a => s.withDev fun d => d.raise (960 + a % 64))

/-- ACT_SET_MARKER: code 2 (Table 02-5, R74, R394). -/
def execActSetMarker (n : Fin 16) (s : State) : Host.Outcome State Fault Refusal :=
  .next (s.actFire n.val (· == 2) fun s a => s.withDev fun d => d.lvlAction (a % 16) (bitAt a 4))

/-- ACT_RELEASE_START_GROUP: code 3 (Table 02-5, R130, R200). -/
def execActReleaseStartGroup (n : Fin 16) (s : State) : Host.Outcome State Fault Refusal :=
  .next (s.actFire n.val (· == 3) fun s a =>
    s.withDev fun d => (d.releaseStep (a % 16) s.clk.now.toNat).releaseCe (a % 16) s.clk.now.toNat)

/-- ACT_APPLY_NETWORK_TIME: code 4 (R78). -/
def execActApplyNetworkTime (n : Fin 16) (s : State) : Host.Outcome State Fault Refusal :=
  .next (s.actFire n.val (· == 4) fun s _ => s.ntApply)

/-- ACT_COMMIT_NT_INC: code 5 (R77). -/
def execActCommitNtInc (n : Fin 16) (s : State) : Host.Outcome State Fault Refusal :=
  .next (s.actFire n.val (· == 5) fun s _ => s.ntIncCommit)

/-- NT_INC_STAGE (R77). -/
def execNtIncStage (hi : Bool) (v : W32) (s : State) : Host.Outcome State Fault Refusal := .next (s.wrNtInc hi v)

/-- NT_TIME_STAGE (R78). -/
def execNtTimeStage (part : NtPart) (v : W32) (s : State) : Host.Outcome State Fault Refusal := .next (s.wrNt part v)

/-- NT_SEC_LO_READ (R78). -/
def execNtSecLoRead (s : State) : Host.Outcome State Fault Refusal :=
  .next (let (v, s) := s.rdNtSecLo; s.withDev fun d => d.ret32 v)

/-- PG_ARM: a write of NT_PGn_CTL (R83, R84, R86). -/
def execPgArm (n : Fin 4) (v : W32) (s : State) : Host.Outcome State Fault Refusal :=
  .next (s.withDev fun d => d.wrPgCtl s.clk n.val v)

/-- PG_DISARM: a write of NT_PGn_CTL (R87). -/
def execPgDisarm (n : Fin 4) (v : W32) (s : State) : Host.Outcome State Fault Refusal :=
  .next (s.withDev fun d => d.wrPgCtl s.clk n.val v)

/-- PG_PULSE_RISE (R82). -/
def execPgPulseRise (n : Fin 4) (s : State) : Host.Outcome State Fault Refusal := .next (s.withDev fun d => d.pgRise s.clk n.val)

/-- PG_PULSE_FALL (R82). -/
def execPgPulseFall (n : Fin 4) (s : State) : Host.Outcome State Fault Refusal := .next (s.withDev fun d => d.pgFall n.val)

end Sys2Proof.Machine
end

