-- ==== Sys2Proof/Machine/Dispatch.lean ====
section
/-! DEFINITION. What each command does: one arm for each row of the table of commands. -/
namespace Sys2Proof.Machine

/-- The effect of a command on everything but the queue of waiting commands. -/
def exec (i : Instr) (s : State) : Host.Outcome State Fault Refusal :=
  match i with
  | .powerOn strap => Sys2Proof.Machine.execPowerOn strap s
  | .pinReset widthNs => Sys2Proof.Machine.execPinReset widthNs s
  | .watchdogExpiry => Sys2Proof.Machine.execWatchdogExpiry s
  | .warmReset v => Sys2Proof.Machine.execWarmReset v s
  | .warmResetComplete => Sys2Proof.Machine.execWarmResetComplete s
  | .functionLevelReset => Sys2Proof.Machine.execFunctionLevelReset s
  | .perst asserted => Sys2Proof.Machine.execPerst asserted s
  | .pfail widthNs => Sys2Proof.Machine.execPfail widthNs s
  | .railExcursion rail durNs => Sys2Proof.Machine.execRailExcursion rail durNs s
  | .droopDetect mv => Sys2Proof.Machine.execDroopDetect mv s
  | .droopStretchEnd => Sys2Proof.Machine.execDroopStretchEnd s
  | .tick adc => Sys2Proof.Machine.execTick adc s
  | .crystalCycle => Sys2Proof.Machine.execCrystalCycle s
  | .shotLoWrite v => Sys2Proof.Machine.execShotLoWrite v s
  | .shotHiWrite v => Sys2Proof.Machine.execShotHiWrite v s
  | .shotLoRead => Sys2Proof.Machine.execShotLoRead s
  | .nowLoRead => Sys2Proof.Machine.execNowLoRead s
  | .registerWrite auth off width v => Sys2Proof.Machine.execRegisterWrite auth off width v s
  | .reservedRangeAccess bar off acc => Sys2Proof.Machine.execReservedRangeAccess bar off acc s
  | .poweredOffDomainAccess bar off acc => Sys2Proof.Machine.execPoweredOffDomainAccess bar off acc s
  | .roundBoundary => Sys2Proof.Machine.execRoundBoundary s
  | .wellheadStart v => Sys2Proof.Machine.execWellheadStart v s
  | .timebeatEdge frac => Sys2Proof.Machine.execTimebeatEdge frac s
  | .timebeatMissing => Sys2Proof.Machine.execTimebeatMissing s
  | .realign v => Sys2Proof.Machine.execRealign v s
  | .syncFlitReceive p frac xid hops suspect => Sys2Proof.Machine.execSyncFlitReceive p frac xid hops suspect s
  | .followFlitReceive p f => Sys2Proof.Machine.execFollowFlitReceive p f s
  | .syncSend p frac => Sys2Proof.Machine.execSyncSend p frac s
  | .followSend p => Sys2Proof.Machine.execFollowSend p s
  | .dreqSend p frac => Sys2Proof.Machine.execDreqSend p frac s
  | .dreqReceive p frac xid => Sys2Proof.Machine.execDreqReceive p frac xid s
  | .drespReceive p xid t4 => Sys2Proof.Machine.execDrespReceive p xid t4 s
  | .syncLost => Sys2Proof.Machine.execSyncLost s
  | .upPriReturn => Sys2Proof.Machine.execUpPriReturn s
  | .actionArm n v => Sys2Proof.Machine.execActionArm n v s
  | .actionCancel n v => Sys2Proof.Machine.execActionCancel n v s
  | .actNone n => Sys2Proof.Machine.execActNone n s
  | .actRaiseSoftwareSource n => Sys2Proof.Machine.execActRaiseSoftwareSource n s
  | .actSetMarker n => Sys2Proof.Machine.execActSetMarker n s
  | .actReleaseStartGroup n => Sys2Proof.Machine.execActReleaseStartGroup n s
  | .actApplyNetworkTime n => Sys2Proof.Machine.execActApplyNetworkTime n s
  | .actCommitNtInc n => Sys2Proof.Machine.execActCommitNtInc n s
  | .ntIncStage hi v => Sys2Proof.Machine.execNtIncStage hi v s
  | .ntTimeStage part v => Sys2Proof.Machine.execNtTimeStage part v s
  | .ntSecLoRead => Sys2Proof.Machine.execNtSecLoRead s
  | .pgArm n v => Sys2Proof.Machine.execPgArm n v s
  | .pgDisarm n v => Sys2Proof.Machine.execPgDisarm n v s
  | .pgPulseRise n => Sys2Proof.Machine.execPgPulseRise n s
  | .pgPulseFall n => Sys2Proof.Machine.execPgPulseFall n s
  | .play oc => Sys2Proof.Machine.execPlay oc s
  | .setf oc => Sys2Proof.Machine.execSetf oc s
  | .idleStep oc => Sys2Proof.Machine.execIdleStep oc s
  | .undefinedOpcode oc => Sys2Proof.Machine.execUndefinedOpcode oc s
  | .waitStep oc => Sys2Proof.Machine.execWaitStep oc s
  | .waitResume oc => Sys2Proof.Machine.execWaitResume oc s
  | .waitTimeout oc => Sys2Proof.Machine.execWaitTimeout oc s
  | .branchStep oc => Sys2Proof.Machine.execBranchStep oc s
  | .branchDecision oc => Sys2Proof.Machine.execBranchDecision oc s
  | .loopStepLevel oc => Sys2Proof.Machine.execLoopStepLevel oc s
  | .loopSegmentLevel oc => Sys2Proof.Machine.execLoopSegmentLevel oc s
  | .callStep oc => Sys2Proof.Machine.execCallStep oc s
  | .frameSet oc => Sys2Proof.Machine.execFrameSet oc s
  | .frameXor oc => Sys2Proof.Machine.execFrameXor oc s
  | .frameClearAll oc => Sys2Proof.Machine.execFrameClearAll oc s
  | .markonly oc => Sys2Proof.Machine.execMarkonly oc s
  | .syncAbsolute oc => Sys2Proof.Machine.execSyncAbsolute oc s
  | .syncCycleWindow oc => Sys2Proof.Machine.execSyncCycleWindow oc s
  | .syncShotSlot oc => Sys2Proof.Machine.execSyncShotSlot oc s
  | .slotHoldDecision slot => Sys2Proof.Machine.execSlotHoldDecision slot s
  | .endStep oc => Sys2Proof.Machine.execEndStep oc s
  | .toneCommandFire oc tone => Sys2Proof.Machine.execToneCommandFire oc tone s
  | .checkTick oc => Sys2Proof.Machine.execCheckTick oc s
  | .segmentBoundary oc => Sys2Proof.Machine.execSegmentBoundary oc s
  | .starvationEnd oc => Sys2Proof.Machine.execStarvationEnd oc s
  | .sePrime oc v => Sys2Proof.Machine.execSePrime oc v s
  | .seHalt oc v => Sys2Proof.Machine.execSeHalt oc v s
  | .engineStart g => Sys2Proof.Machine.execEngineStart g s
  | .segRequestLoading oc seg v => Sys2Proof.Machine.execSegRequestLoading oc seg v s
  | .segRequestValid oc seg v => Sys2Proof.Machine.execSegRequestValid oc seg v s
  | .segRequestEmpty oc seg v => Sys2Proof.Machine.execSegRequestEmpty oc seg v s
  | .segRewriteFields oc seg v => Sys2Proof.Machine.execSegRewriteFields oc seg v s
  | .segHiWrite oc seg v => Sys2Proof.Machine.execSegHiWrite oc seg v s
  | .stepStoreWrite oc off bytes => Sys2Proof.Machine.execStepStoreWrite oc off bytes s
  | .refillListRebuild oc => Sys2Proof.Machine.execRefillListRebuild oc s
  | .conditionEvent oc ci => Sys2Proof.Machine.execConditionEvent oc ci s
  | .ocSoftReset oc v => Sys2Proof.Machine.execOcSoftReset oc v s
  | .tsStagedWrite oc r v => Sys2Proof.Machine.execTsStagedWrite oc r v s
  | .carrierLoWrite oc v => Sys2Proof.Machine.execCarrierLoWrite oc v s
  | .carrierHiWrite oc v => Sys2Proof.Machine.execCarrierHiWrite oc v s
  | .stagedValueCommit target => Sys2Proof.Machine.execStagedValueCommit target s
  | .shapeLibraryWrite q off bytes => Sys2Proof.Machine.execShapeLibraryWrite q off bytes s
  | .rangeChange oc v => Sys2Proof.Machine.execRangeChange oc v s
  | .settleEnd oc => Sys2Proof.Machine.execSettleEnd oc s
  | .loadStage oc v => Sys2Proof.Machine.execLoadStage oc v s
  | .strobeNow g v => Sys2Proof.Machine.execStrobeNow g v s
  | .strobeArm g v => Sys2Proof.Machine.execStrobeArm g v s
  | .timelineStrobe g => Sys2Proof.Machine.execTimelineStrobe g s
  | .queueEnable oc v => Sys2Proof.Machine.execQueueEnable oc v s
  | .queueStart oc v => Sys2Proof.Machine.execQueueStart oc v s
  | .queueStop oc v => Sys2Proof.Machine.execQueueStop oc v s
  | .queueWrWrite oc v => Sys2Proof.Machine.execQueueWrWrite oc v s
  | .shortDetect oc => Sys2Proof.Machine.execShortDetect oc s
  | .dtStagedWrite ic r v => Sys2Proof.Machine.execDtStagedWrite ic r v s
  | .cePrime ic v => Sys2Proof.Machine.execCePrime ic v s
  | .ceStart g => Sys2Proof.Machine.execCeStart g s
  | .ceHalt ic v => Sys2Proof.Machine.execCeHalt ic v s
  | .icSoftReset ic v => Sys2Proof.Machine.execIcSoftReset ic v s
  | .window ic => Sys2Proof.Machine.execWindow ic s
  | .ceIdle ic => Sys2Proof.Machine.execCeIdle ic s
  | .ceLoop ic => Sys2Proof.Machine.execCeLoop ic s
  | .jump ic => Sys2Proof.Machine.execJump ic s
  | .shotwait ic => Sys2Proof.Machine.execShotwait ic s
  | .shotwaitRelease ic => Sys2Proof.Machine.execShotwaitRelease ic s
  | .ceEnd ic => Sys2Proof.Machine.execCeEnd ic s
  | .badword ic => Sys2Proof.Machine.execBadword ic s
  | .windowOpen ic dt => Sys2Proof.Machine.execWindowOpen ic dt s
  | .windowEnd ic dt => Sys2Proof.Machine.execWindowEnd ic dt s
  | .resultEmit ic dt => Sys2Proof.Machine.execResultEmit ic dt s
  | .resultBufferRead ic off len => Sys2Proof.Machine.execResultBufferRead ic off len s
  | .resultBufferWriteDrop ic off bytes => Sys2Proof.Machine.execResultBufferWriteDrop ic off bytes s
  | .rbRdWrite ic v => Sys2Proof.Machine.execRbRdWrite ic v s
  | .weightWrite ic off bytes => Sys2Proof.Machine.execWeightWrite ic off bytes s
  | .collectorTake => Sys2Proof.Machine.execCollectorTake s
  | .routingWrite r v => Sys2Proof.Machine.execRoutingWrite r v s
  | .linkQueueEntry p => Sys2Proof.Machine.execLinkQueueEntry p s
  | .frameUpdateApply => Sys2Proof.Machine.execFrameUpdateApply s
  | .receiveKind0Result p msg => Sys2Proof.Machine.execReceiveKind0Result p msg s
  | .receiveKind1Frame p msg => Sys2Proof.Machine.execReceiveKind1Frame p msg s
  | .receiveReservedKind p msg => Sys2Proof.Machine.execReceiveReservedKind p msg s
  | .sieveRecordIntake => Sys2Proof.Machine.execSieveRecordIntake s
  | .roundCloseTimeout g => Sys2Proof.Machine.execRoundCloseTimeout g s
  | .decodeStart g => Sys2Proof.Machine.execDecodeStart g s
  | .decodeCommit g => Sys2Proof.Machine.execDecodeCommit g s
  | .sieveOutputIssue => Sys2Proof.Machine.execSieveOutputIssue s
  | .conditionOutputIssue k => Sys2Proof.Machine.execConditionOutputIssue k s
  | .doneSend g => Sys2Proof.Machine.execDoneSend g s
  | .openReceive p msg => Sys2Proof.Machine.execOpenReceive p msg s
  | .doneReceive p msg => Sys2Proof.Machine.execDoneReceive p msg s
  | .flipReceive p msg => Sys2Proof.Machine.execFlipReceive p msg s
  | .sieveType3Receive p msg => Sys2Proof.Machine.execSieveType3Receive p msg s
  | .graphStoreWrite v => Sys2Proof.Machine.execGraphStoreWrite v s
  | .graphStoreRead => Sys2Proof.Machine.execGraphStoreRead s
  | .graphEnable g v => Sys2Proof.Machine.execGraphEnable g v s
  | .graphEnableCheckDone g => Sys2Proof.Machine.execGraphEnableCheckDone g s
  | .graphDisable g v => Sys2Proof.Machine.execGraphDisable g v s
  | .tileRelease g => Sys2Proof.Machine.execTileRelease g s
  | .rotationStart => Sys2Proof.Machine.execRotationStart s
  | .rotationCopyDone => Sys2Proof.Machine.execRotationCopyDone s
  | .tileFail tile storeLost => Sys2Proof.Machine.execTileFail tile storeLost s
  | .graphReload g => Sys2Proof.Machine.execGraphReload g s
  | .acqRun v => Sys2Proof.Machine.execAcqRun v s
  | .icmaskWrite v => Sys2Proof.Machine.execIcmaskWrite v s
  | .poolPeriodWrite => Sys2Proof.Machine.execPoolPeriodWrite s
  | .triggerArm u v => Sys2Proof.Machine.execTriggerArm u v s
  | .triggerDisarm u v => Sys2Proof.Machine.execTriggerDisarm u v s
  | .triggerDecision u => Sys2Proof.Machine.execTriggerDecision u s
  | .lateTrigger u => Sys2Proof.Machine.execLateTrigger u s
  | .linkTriggerReceive p trig => Sys2Proof.Machine.execLinkTriggerReceive p trig s
  | .captureWindowTrunc u => Sys2Proof.Machine.execCaptureWindowTrunc u s
  | .captureRecordWrite u => Sys2Proof.Machine.execCaptureRecordWrite u s
  | .recRdWrite v => Sys2Proof.Machine.execRecRdWrite v s
  | .prdWrite v => Sys2Proof.Machine.execPrdWrite v s
  | .poolStreamRead off len => Sys2Proof.Machine.execPoolStreamRead off len s
  | .portEnable p v => Sys2Proof.Machine.execPortEnable p v s
  | .laneAligned p lane logical inverted slip => Sys2Proof.Machine.execLaneAligned p lane logical inverted slip s
  | .trainTimeout p => Sys2Proof.Machine.execTrainTimeout p s
  | .rxTrainBlock p payload => Sys2Proof.Machine.execRxTrainBlock p payload s
  | .rxAlignBlock p lane payload instant => Sys2Proof.Machine.execRxAlignBlock p lane payload instant s
  | .rxIdleBlock p lane => Sys2Proof.Machine.execRxIdleBlock p lane s
  | .linkModeChangeRequest p => Sys2Proof.Machine.execLinkModeChangeRequest p s
  | .modeReqRepeat p => Sys2Proof.Machine.execModeReqRepeat p s
  | .rxModeReq p payload => Sys2Proof.Machine.execRxModeReq p payload s
  | .rxModeSet p payload => Sys2Proof.Machine.execRxModeSet p payload s
  | .linkModeSwitch p => Sys2Proof.Machine.execLinkModeSwitch p s
  | .laneLossDetect p lane => Sys2Proof.Machine.execLaneLossDetect p lane s
  | .laneDropRepeat p => Sys2Proof.Machine.execLaneDropRepeat p s
  | .rxLaneDrop p payload => Sys2Proof.Machine.execRxLaneDrop p payload s
  | .rxLaneSwitch p payload => Sys2Proof.Machine.execRxLaneSwitch p payload s
  | .laneReadySend p lane => Sys2Proof.Machine.execLaneReadySend p lane s
  | .rxLaneReady p payload => Sys2Proof.Machine.execRxLaneReady p payload s
  | .duplicatedFlitReceive p lower upper => Sys2Proof.Machine.execDuplicatedFlitReceive p lower upper s
  | .stripedFlitError p flit => Sys2Proof.Machine.execStripedFlitError p flit s
  | .nakRepeat p => Sys2Proof.Machine.execNakRepeat p s
  | .nakReceive p ack => Sys2Proof.Machine.execNakReceive p ack s
  | .replayTimeout p => Sys2Proof.Machine.execReplayTimeout p s
  | .fecCodeword p lane codeword => Sys2Proof.Machine.execFecCodeword p lane codeword s
  | .badFlit p flit => Sys2Proof.Machine.execBadFlit p flit s
  | .routeForward p flit => Sys2Proof.Machine.execRouteForward p flit s
  | .returnForward p flit => Sys2Proof.Machine.execReturnForward p flit s
  | .patWrite p lane v => Sys2Proof.Machine.execPatWrite p lane v s
  | .injectFlit p v => Sys2Proof.Machine.execInjectFlit p v s
  | .injectLaneDrop p v => Sys2Proof.Machine.execInjectLaneDrop p v s
  | .portSoftReset p v => Sys2Proof.Machine.execPortSoftReset p v s
  | .relayGo slot v => Sys2Proof.Machine.execRelayGo slot v s
  | .relayReadExecute origin flit => Sys2Proof.Machine.execRelayReadExecute origin flit s
  | .relayWriteExecute origin flit => Sys2Proof.Machine.execRelayWriteExecute origin flit s
  | .relayCompletion flit => Sys2Proof.Machine.execRelayCompletion flit s
  | .relayTimeout slot => Sys2Proof.Machine.execRelayTimeout slot s
  | .dmaStart auth c v => Sys2Proof.Machine.execDmaStart auth c v s
  | .dmaStop auth c v => Sys2Proof.Machine.execDmaStop auth c v s
  | .dmaAbort auth c v => Sys2Proof.Machine.execDmaAbort auth c v s
  | .descriptorFetch c hostData => Sys2Proof.Machine.execDescriptorFetch c hostData s
  | .dmaRequestSeen c => Sys2Proof.Machine.execDmaRequestSeen c s
  | .dmaReadReturn c status hostData => Sys2Proof.Machine.execDmaReadReturn c status hostData s
  | .dmaDescriptorComplete c => Sys2Proof.Machine.execDmaDescriptorComplete c s
  | .dmaNoresp c => Sys2Proof.Machine.execDmaNoresp c s
  | .lateCompletion tag => Sys2Proof.Machine.execLateCompletion tag s
  | .remoteOutReceive p flit => Sys2Proof.Machine.execRemoteOutReceive p flit s
  | .remoteBackReceive flit => Sys2Proof.Machine.execRemoteBackReceive flit s
  | .msixMessageSend vec => Sys2Proof.Machine.execMsixMessageSend vec s
  | .guardWindowEnd => Sys2Proof.Machine.execGuardWindowEnd s
  | .taskFire k => Sys2Proof.Machine.execTaskFire k s
  | .taskRearm k => Sys2Proof.Machine.execTaskRearm k s
  | .relayTask k => Sys2Proof.Machine.execRelayTask k s
  | .markEntry => Sys2Proof.Machine.execMarkEntry s
  | .requestSafe => Sys2Proof.Machine.execRequestSafe s
  | .rillRouteWrite auth r v => Sys2Proof.Machine.execRillRouteWrite auth r v s
  | .rilSrcWrite auth src v => Sys2Proof.Machine.execRilSrcWrite auth src v s
  | .rilTaskWrite auth k v => Sys2Proof.Machine.execRilTaskWrite auth k v s
  | .softwareRaise hi v => Sys2Proof.Machine.execSoftwareRaise hi v s
  | .markerEdge k rising frac => Sys2Proof.Machine.execMarkerEdge k rising frac s
  | .markerEdgeRegister => Sys2Proof.Machine.execMarkerEdgeRegister s
  | .stampRdWrite v => Sys2Proof.Machine.execStampRdWrite v s
  | .cycleEdgeMissing => Sys2Proof.Machine.execCycleEdgeMissing s
  | .cycleWindowStart w => Sys2Proof.Machine.execCycleWindowStart w s
  | .cycleHoldCommit v => Sys2Proof.Machine.execCycleHoldCommit v s
  | .clRefLoRead => Sys2Proof.Machine.execClRefLoRead s
  | .bootStart sfdp reread => Sys2Proof.Machine.execBootStart s sfdp reread
  | .bootAttemptFail cause => Sys2Proof.Machine.execBootAttemptFail cause s
  | .bootLoadDone => Sys2Proof.Machine.execBootLoadDone s
  | .bootPark => Sys2Proof.Machine.execBootPark s
  | .reboot v => Sys2Proof.Machine.execReboot v s
  | .flashRead v => Sys2Proof.Machine.execFlashRead v s
  | .flashProgram v => Sys2Proof.Machine.execFlashProgram v s
  | .flashErase v => Sys2Proof.Machine.execFlashErase v s
  | .flashReadStatus v => Sys2Proof.Machine.execFlashReadStatus v s
  | .flashCommandDone status => Sys2Proof.Machine.execFlashCommandDone status s
  | .flashCommandTimeout => Sys2Proof.Machine.execFlashCommandTimeout s
  | .domainPowerWrite j v => Sys2Proof.Machine.execDomainPowerWrite j v s
  | .domainPowerUp d => Sys2Proof.Machine.execDomainPowerUp d s
  | .domainRehydrate d answers => Sys2Proof.Machine.execDomainRehydrate d answers s
  | .rehydrationComplete d => Sys2Proof.Machine.execRehydrationComplete d s
  | .provisionFuse ok => Sys2Proof.Machine.execProvisionFuse ok s
  | .shutdownLogCopy => Sys2Proof.Machine.execShutdownLogCopy s
  | .frameErase => Sys2Proof.Machine.execFrameErase s
  | .nvdataRead => Sys2Proof.Machine.execNvdataRead s
  | .attest v => Sys2Proof.Machine.execAttest v s
  | .attestDone => Sys2Proof.Machine.execAttestDone s
  | .stagingWrite v => Sys2Proof.Machine.execStagingWrite v s
  | .microcodeCommit v => Sys2Proof.Machine.execMicrocodeCommit v s
  | .microcodeCommitDone => Sys2Proof.Machine.execMicrocodeCommitDone s
  | .uNop oc => Sys2Proof.Machine.execUNop oc s
  | .uLdi oc => Sys2Proof.Machine.execULdi oc s
  | .uAdd oc => Sys2Proof.Machine.execUAdd oc s
  | .uSub oc => Sys2Proof.Machine.execUSub oc s
  | .uAnd oc => Sys2Proof.Machine.execUAnd oc s
  | .uOr oc => Sys2Proof.Machine.execUOr oc s
  | .uXor oc => Sys2Proof.Machine.execUXor oc s
  | .uShl oc => Sys2Proof.Machine.execUShl oc s
  | .uShr oc => Sys2Proof.Machine.execUShr oc s
  | .uAddi oc => Sys2Proof.Machine.execUAddi oc s
  | .uMul oc => Sys2Proof.Machine.execUMul oc s
  | .uGet oc => Sys2Proof.Machine.execUGet oc s
  | .uPut oc => Sys2Proof.Machine.execUPut oc s
  | .uIssuePlay oc => Sys2Proof.Machine.execUIssuePlay oc s
  | .uIssueSetf oc => Sys2Proof.Machine.execUIssueSetf oc s
  | .uSkipz oc => Sys2Proof.Machine.execUSkipz oc s
  | .uSkipnz oc => Sys2Proof.Machine.execUSkipnz oc s
  | .uSkiplt oc => Sys2Proof.Machine.execUSkiplt oc s
  | .uRet oc => Sys2Proof.Machine.execURet oc s
  | .microwordRepair q addr rewrite => Sys2Proof.Machine.execMicrowordRepair q addr rewrite s
  | .sensorSample counts powers => Sys2Proof.Machine.execSensorSample counts powers s
  | .throttleLevelDown => Sys2Proof.Machine.execThrottleLevelDown s
  | .shutdownRecord => Sys2Proof.Machine.execShutdownRecord s
  | .shutdownPowerDown => Sys2Proof.Machine.execShutdownPowerDown s
  | .autorestart => Sys2Proof.Machine.execAutorestart s
  | .noslotCheck => Sys2Proof.Machine.execNoslotCheck s
  | .thmLimWrite v => Sys2Proof.Machine.execThmLimWrite v s
  | .ledgerStep => Sys2Proof.Machine.execLedgerStep s
  | .tauWrite st v => Sys2Proof.Machine.execTauWrite st v s
  | .calRun v => Sys2Proof.Machine.execCalRun v s
  | .calibrationComplete g plausible => Sys2Proof.Machine.execCalibrationComplete g plausible s
  | .calStepDeadline g calStep => Sys2Proof.Machine.execCalStepDeadline g calStep s
  | .calRecompute g => Sys2Proof.Machine.execCalRecompute g s
  | .calStore v => Sys2Proof.Machine.execCalStore v s
  | .calSetCommitted => Sys2Proof.Machine.execCalSetCommitted s
  | .subconverterExchange ic => Sys2Proof.Machine.execSubconverterExchange ic s
  | .capacitorExchange src => Sys2Proof.Machine.execCapacitorExchange src s
  | .gapWindowStart k => Sys2Proof.Machine.execGapWindowStart k s
  | .selftestSlice row => Sys2Proof.Machine.execSelftestSlice row s
  | .sliceComplete row fault => Sys2Proof.Machine.execSliceComplete row fault s
  | .sliceAbandon row => Sys2Proof.Machine.execSliceAbandon row s
  | .gapViolation d => Sys2Proof.Machine.execGapViolation d s
  | .pllFailover q => Sys2Proof.Machine.execPllFailover q s
  | .repairFuse v => Sys2Proof.Machine.execRepairFuse v s
  | .bstSigLoRead auth => Sys2Proof.Machine.execBstSigLoRead auth s
  | .modeRequest v => Sys2Proof.Machine.execModeRequest v s
  | .modeLeaveRunning => Sys2Proof.Machine.execModeLeaveRunning s
  | .modeEntryComplete => Sys2Proof.Machine.execModeEntryComplete s
  | .safeEntry cause => Sys2Proof.Machine.execSafeEntry cause s
  | .safeAck v => Sys2Proof.Machine.execSafeAck v s
  | .wake cause => Sys2Proof.Machine.execWake cause s
  | .noteWrite v => Sys2Proof.Machine.execNoteWrite v s
  | .freezeStart cause => Sys2Proof.Machine.execFreezeStart cause s
  | .freezeComplete => Sys2Proof.Machine.execFreezeComplete s
  | .lockstepMismatch => Sys2Proof.Machine.execLockstepMismatch s
  | .controllerRestartDone ok => Sys2Proof.Machine.execControllerRestartDone ok s
  | .smbPage acc => Sys2Proof.Machine.execSmbPage acc s
  | .smbReadVin => Sys2Proof.Machine.execSmbReadVin s
  | .smbReadIin => Sys2Proof.Machine.execSmbReadIin s
  | .smbReadPin => Sys2Proof.Machine.execSmbReadPin s
  | .smbReadTemperature1 => Sys2Proof.Machine.execSmbReadTemperature1 s
  | .smbReadTemperature2 => Sys2Proof.Machine.execSmbReadTemperature2 s
  | .smbMfrMode => Sys2Proof.Machine.execSmbMfrMode s
  | .smbMfrWake data => Sys2Proof.Machine.execSmbMfrWake data s
  | .smbUnknownCommand code acc => Sys2Proof.Machine.execSmbUnknownCommand code acc s
  | .smbTimeout lowMs => Sys2Proof.Machine.execSmbTimeout lowMs s
  | .smbRefresh rails => Sys2Proof.Machine.execSmbRefresh rails s
  | .tapExtest => Sys2Proof.Machine.execTapExtest s
  | .tapIdcode => Sys2Proof.Machine.execTapIdcode s
  | .tapSamplePreload => Sys2Proof.Machine.execTapSamplePreload s
  | .tapClamp => Sys2Proof.Machine.execTapClamp s
  | .tapHighz => Sys2Proof.Machine.execTapHighz s
  | .tapExtestPulse => Sys2Proof.Machine.execTapExtestPulse s
  | .tapExtestTrain => Sys2Proof.Machine.execTapExtestTrain s
  | .tapIntscan => Sys2Proof.Machine.execTapIntscan s
  | .tapBypass code => Sys2Proof.Machine.execTapBypass code s
  | .slot p rx => Sys2Proof.Machine.execSlot p s rx
  | .pllRelock q => Sys2Proof.Machine.execPllRelock q s
  | .vauxLoss => Sys2Proof.Machine.execVauxLoss s
  | .uregLoRead oc k => Sys2Proof.Machine.execUregLoRead oc k s
  | .stagingRead => Sys2Proof.Machine.execStagingRead s
  | .patternCheckerSync p lane => Sys2Proof.Machine.execPatternCheckerSync p lane s
  | .hostPortLinkChange up speed width cfg => Sys2Proof.Machine.execHostPortLinkChange up speed width s cfg

end Sys2Proof.Machine
end

