-- ==== Sys2Proof/Safety.lean ====
section
/-! DEFINITION. The words that claims use: a sound state, a run, a command that completes, and what a command leaves alone. -/
namespace Sys2Proof.Safety

open Sys2Proof.Machine

/-! ### Sound states and runs -/

/-- A sound clock: network time holds less than a second's nanoseconds (R76), a staged number of nanoseconds too (R78), and while the
tick does not run the count reads 0 (R44). -/
def clockOk (c : Clock) : Prop :=
  c.nt.ns < 1000000000 ∧ (∀ n, c.stNs = some n → n < 1000000000) ∧ (c.counting = false → c.now = 0)

/-- A sound state: its clock is sound, and its memory and its registers stand in canonical form. -/
def sound (s : State) : Prop :=
  clockOk s.clk ∧ Memory.wf s.dev.mem = true ∧ Registers.wf s.dev.regs = true

/-- The states a run from `s` passes through: steps that answer a next state. -/
inductive Reaches : State → State → Prop where
  | here (s : State) : Reaches s s
  | there (s t u : State) : Reaches s t → step t = Host.Outcome.next u → Reaches s u

/-! ### Completion -/

/-- Command `c` answers a next state on `s`, and that state has property `P`. -/
def completes (c : Instr) (s : State) (P : State → Prop) : Prop := ∃ t, exec c s = Host.Outcome.next t ∧ P t

/-! ### Frames -/

/-- The clock and the queue of waiting commands are as before. -/
def devOnly (s t : State) : Prop := t.clk = s.clk ∧ t.pending = s.pending

/-- Every byte of every memory reads as before. -/
def memSame (s t : State) : Prop := ∀ a, t.dev.rd8 a = s.dev.rd8 a

/-- Every byte outside `n` bytes from `a` on reads as before. -/
def memOutside (s t : State) (a n : Nat) : Prop := ∀ x, x < a ∨ a + n ≤ x → t.dev.rd8 x = s.dev.rd8 x

/-- Every register but those listed holds what it held. -/
def regsSame (s t : State) (but : List Nat) : Prop := ∀ off, off ∉ but → t.dev.reg off = s.dev.reg off

/-- A register of the rill network: what an event that travels on a rill may write (HIT, EN, GUARDED, the error registers). -/
def inRill (off : Nat) : Prop := 0x40000 ≤ off ∧ off < 0x50000

/-- Every register but those listed and those of the rill network holds what it held: the frame of a command that raises events. -/
def regsSameEv (s t : State) (but : List Nat) : Prop := ∀ off, off ∉ but → ¬ inRill off → t.dev.reg off = s.dev.reg off

/-- The device without what raising an event touches (R363 to R375): the registers, the events and W1C bits of this tick, the
sediment entries that wait, the pending MSI-X vectors, the task inputs and the guard counts. -/
def noEvents (d : Dev) : Dev :=
  { d with regs := [], w1cNow := [], raised := [], bbx := [], pba := [], tasks := [], guardCnt := [] }

/-- `e` differs from `d` at most in what raising an event touches, and of the registers in those of the rill network alone. -/
def eventsOnly (d e : Dev) : Prop := noEvents e = noEvents d ∧ ∀ off, ¬ inRill off → e.reg off = d.reg off

/-- Nothing but registers changes, and of them only those listed. -/
def onlyRegs (s t : State) (but : List Nat) : Prop := t = { s with dev := { s.dev with regs := t.dev.regs } } ∧ regsSame s t but

/-- Nothing changes but the event network and the registers listed. -/
def onlyRegsEv (s t : State) (but : List Nat) : Prop := devOnly s t ∧ noEvents t.dev = noEvents s.dev ∧ regsSameEv s t but

/-- The shot in flight is tainted by something of this tick (R111). -/
def tainted (s t : State) : Prop := t.dev.taint = true ∧ t.dev.taintTk = some s.dev.tk

/-- The channels but one are as before. -/
def ocsSame (s t : State) (n : Nat) : Prop := ∀ m, m ≠ n → t.dev.oc m = s.dev.oc m
def icsSame (s t : State) (i : Nat) : Prop := ∀ j, j ≠ i → t.dev.ic j = s.dev.ic j

end Sys2Proof.Safety
end

