-- ==== Sys2Proof/Certificates/Slice0/Obligations.lean ====
section
/-! DEFINITION. The statements for the provers. A completion statement says on which states a command has its own effect, and what
the next state then holds; frames say what stays. -/

open Sys2Proof Sys2Proof.Machine Sys2Proof.Safety

/-! ### The block -/

/-- The command at the front of the queue has its effect on the state with the rest of the queue; with no command waiting the block
idles (the model's choice, assumption 6). -/
def Obligations.StepTakesTheFrontCommand : Prop :=
  (∀ (c : Instr) (rest : List Instr) (s : State), s.pending = c :: rest → step s = exec c { s with pending := rest }) ∧
  (∀ s : State, s.pending = [] → step s = .next s)

/-- Every command answers a next state on every state and leaves the queue of waiting commands as it was. -/
def Obligations.CommandsAnswerAndKeepTheQueue : Prop :=
  ∀ (c : Instr) (s : State), completes c s fun t => t.pending = s.pending

/-- A step keeps the clock sound: network time below a second's nanoseconds (R76), a staged number of nanoseconds too (R78), and the
count at 0 while the tick does not run (R44). -/
def Obligations.StepKeepsTheClockSound : Prop :=
  ∀ s t : State, clockOk s.clk → step s = .next t → clockOk t.clk

/-- The state after reset: sound, in LOAD, nothing waiting, every register at the value of its table, the tick stopped, the shot and
round counters at 0, and the RESET entry of power-on waiting for the sediment record. -/
def Obligations.ResetState : Prop :=
  sound State.reset ∧ State.reset.dev.mode = .load ∧ State.reset.pending = [] ∧
  (∀ off, State.reset.dev.reg off = regReset off) ∧ (∀ a, State.reset.dev.rd8 a = memDefault a) ∧
  State.reset.clk.counting = false ∧ State.reset.clk.tstate = .free ∧ State.reset.dev.shot = 0 ∧ State.reset.dev.round = 0 ∧
  State.reset.dev.bbx = [⟨.reset, 0, 0⟩] ∧ State.reset.dev.mode = Mode.ofCode (GLB_MODE.CUR.of (regReset GLB_MODE.off))

/-- The commands whose effect may reach the clock: ticks and crystal cycles, the timeline and network-time commands, resets, boot and
mode entries, and the commands that write a register of their own choice or fire a task. -/
def clockCommand : Instr → Bool
  | .tick _ | .crystalCycle | .vauxLoss | .pinReset _ | .watchdogExpiry | .freezeComplete | .freezeStart _ | .warmReset _
  | .warmResetComplete | .reboot _ | .wake _ | .smbMfrWake _ | .autorestart | .shutdownPowerDown | .sensorSample _ _
  | .bootStart _ _ | .bootAttemptFail _ | .bootLoadDone | .domainRehydrate .. | .graphReload _ | .modeEntryComplete
  | .wellheadStart _ | .timebeatEdge _ | .realign _ | .syncFlitReceive _ _ _ _ _ | .followFlitReceive _ _ | .syncSend _ _
  | .followSend _ | .dreqSend _ _ | .slot _ _ | .dreqReceive _ _ _ | .drespReceive _ _ _ | .syncLost | .upPriReturn
  | .actApplyNetworkTime _ | .actCommitNtInc _ | .ntIncStage _ _ | .ntTimeStage _ _
  | .registerWrite _ _ _ _ | .relayWriteExecute _ _ | .relayReadExecute _ _ | .taskFire _ | .taskRearm _ => true
  | _ => false

/-- Every other command leaves the timeline value, the state of the timeline block, network time and its increment, and every sync
exchange as they were. -/
def Obligations.OtherCommandsKeepTheClock : Prop :=
  ∀ (c : Instr) (s t : State), clockCommand c = false → exec c s = .next t → t.clk = s.clk

/-! ### The timeline (chapter 02) -/

/-- A tick adds 1 to the count and the increment in force to network time, and leaves the state of the timeline block alone (R44,
R76). While the tick does not run, a crystal cycle adds 25 increments and leaves the count (R81); the tick that follows a stopped
count starts it at 0. -/
def Obligations.TickAndCrystal : Prop :=
  (∀ (adc : List AdcTick) (s : State), s.clk.counting = true → s.clk.starting = false → s.clk.incNext = none →
    completes (.tick adc) s fun t =>
      t.clk.now = s.clk.now + 1 ∧ t.clk.counting = true ∧ t.clk.tstate = s.clk.tstate ∧
      t.clk.nt.units % (2 ^ 64 * ntSecond) = (s.clk.nt.units + s.clk.inc.toNat) % (2 ^ 64 * ntSecond) ∧
      t.clk.inc = s.clk.inc ∧ t.dev.xtal = s.dev.xtal ∧ t.pending = s.pending) ∧
  (∀ (adc : List AdcTick) (s : State), s.clk.starting = true →
    completes (.tick adc) s fun t => t.clk.now = 0 ∧ t.clk.counting = true ∧ t.clk.starting = false) ∧
  (∀ s : State, s.dev.vauxLost = false → s.clk.counting = false → s.clk.incNext = none →
    completes .crystalCycle s fun t =>
      t.dev.xtal = s.dev.xtal + 1 ∧ t.clk.now = s.clk.now ∧ t.clk.counting = false ∧ t.clk.starting = s.clk.starting ∧
      t.clk.nt.units % (2 ^ 64 * ntSecond) = (s.clk.nt.units + 25 * s.clk.inc.toNat) % (2 ^ 64 * ntSecond) ∧
      t.clk.inc = s.clk.inc ∧ t.pending = s.pending)

/-- A read of TML_NOW_LO and of NT_SEC_LO returns the low word and fills the shadows that the other words of one instant read from
(R45, R78); a read changes no register and no memory. A write of NT_INC_LO or NT_INC_HI, of NT_SEC_LO, NT_SEC_HI or NT_NS stages its
part alone (R77, R78): nothing in force and nothing of the device changes. -/
def Obligations.TimelineAndNetworkTime : Prop :=
  (∀ s : State, completes .nowLoRead s fun t =>
    t.dev.rdata = leBytes 4 (s.clk.now.toNat % 2 ^ 32) ∧
    (t.regRead .host TML_NOW_HI.off).1 = BitVec.ofNat 32 (s.clk.now.toNat / 2 ^ 32) ∧
    devOnly s t ∧ regsSame s t [] ∧ memSame s t) ∧
  (∀ s : State, completes .ntSecLoRead s fun t =>
    t.dev.rdata = leBytes 4 (s.clk.nt.sec.toNat % 2 ^ 32) ∧
    (t.regRead .host NT_SEC_HI.off).1 = BitVec.ofNat 32 (s.clk.nt.sec.toNat / 2 ^ 32) ∧
    (t.regRead .host NT_NS.off).1 = BitVec.ofNat 32 s.clk.nt.ns ∧
    devOnly s t ∧ regsSame s t [] ∧ memSame s t) ∧
  (∀ (v : W32) (s : State), completes (.ntIncStage false v) s fun t => t = { s with clk := { s.clk with stIncLo := some v } }) ∧
  (∀ (v : W32) (s : State), completes (.ntIncStage true v) s fun t =>
    t = { s with clk := { s.clk with stIncHi := some (v.setWidth 8) } }) ∧
  (∀ (v : W32) (s : State), completes (.ntTimeStage .secLo v) s fun t => t = { s with clk := { s.clk with stSecLo := some v } }) ∧
  (∀ (v : W32) (s : State), completes (.ntTimeStage .secHi v) s fun t => t = { s with clk := { s.clk with stSecHi := some v } }) ∧
  (∀ (v : W32) (s : State), completes (.ntTimeStage .ns v) s fun t =>
    t = { s with clk := { s.clk with stNs := some (min 999999999 (v.toNat % 2 ^ 30)) } })

/-- Entry `n` fires now with code `k`: the tick runs, the entry is due, no lower-numbered one is, and CODE holds `k`. -/
def fires (n k : Nat) (s : State) : Prop :=
  s.clk.counting = true ∧ s.dev.actTurn n s.clk.now.toNat = true ∧ s.dev.fget (TML_ACT_CTL.CODE n) = k ∧ s.dev.mode ≠ .sleep

/-- What every firing leaves in its entry (R72): ARM 0, FIRED 1, DONE the low half of the firing tick. -/
def firedEntry (n : Nat) (s t : State) : Prop :=
  t.dev.fget (TML_ACT_CTL.ARM n) = 0 ∧ t.dev.fget (TML_ACT_CTL.FIRED n) = 1 ∧
  t.dev.fget (TML_ACT_DONE.DONE n) = s.clk.now.toNat % 2 ^ 32 ∧ t.pending = s.pending

/-- R71: an entry armed on a value below now + MIN_LEAD is not executed: ARM reads 0, DROPPED and TML_ERR.LATE read 1. One armed on
now + MIN_LEAD itself stays armed; an armed entry fires on its value and not before. -/
def Obligations.LateActionDropped : Prop :=
  (∀ (n : Fin 16) (v : W32) (s : State), s.dev.fget (TML_ACT_CTL.ARM n) = 0 → s.clk.timed = true →
    (TML_ACT_CTL.ARM n).of v = 1 → (TML_ACT_CTL.CANCEL n).of v = 0 → (TML_ACT_CTL.ASAP n).of v = 0 →
    s.dev.actValue n < s.clk.now.toNat + 64 →
    completes (.actionArm n v) s fun t =>
      t.dev.fget (TML_ACT_CTL.ARM n) = 0 ∧ t.dev.fget (TML_ACT_CTL.DROPPED n) = 1 ∧ t.dev.fget TML_ERR.LATE = 1 ∧
      devOnly s t ∧ regsSameEv s t [TML_ACT_CTL.off n, TML_ERR.off] ∧ memSame s t) ∧
  (∀ (n : Fin 16) (v : W32) (s : State), s.dev.fget (TML_ACT_CTL.ARM n) = 0 → s.clk.timed = true →
    (TML_ACT_CTL.ARM n).of v = 1 → (TML_ACT_CTL.CANCEL n).of v = 0 → (TML_ACT_CTL.ASAP n).of v = 0 →
    s.dev.actValue n = s.clk.now.toNat + 64 →
    completes (.actionArm n v) s fun t =>
      t.dev.fget (TML_ACT_CTL.ARM n) = 1 ∧ t.dev.actValue n = s.dev.actValue n ∧ devOnly s t ∧
      regsSame s t [TML_ACT_CTL.off n] ∧ memSame s t) ∧
  (∀ (n : Fin 16) (s : State), s.clk.counting = true → s.dev.mode ≠ .sleep → s.dev.fget (TML_ACT_CTL.ARM n) = 1 →
    s.dev.fget (TML_ACT_CTL.ASAP n) = 0 → s.dev.fget (TML_ACT_CTL.CODE n) = 0 →
    (∀ k, k < n.val → s.dev.fget (TML_ACT_CTL.ARM k) = 0) →
    completes (.actNone n) s fun t =>
      (s.dev.actValue n = s.clk.now.toNat → firedEntry n s t) ∧ (s.clk.now.toNat < s.dev.actValue n → t = s))

/-- An entry of the timed-action table that is not armed takes CODE and ARG and is armed: without ASAP on a value at or after now +
MIN_LEAD (R71), with ASAP for the next tick (R72). CANCEL clears ARM (R73). An entry that fires does what its code says (Table 02-5),
and its entry says that it has fired. -/
def Obligations.TimedActions : Prop :=
  (∀ (n : Fin 16) (v : W32) (s : State), s.dev.fget (TML_ACT_CTL.ARM n) = 0 → s.clk.timed = true →
    (TML_ACT_CTL.ARM n).of v = 1 → (TML_ACT_CTL.CANCEL n).of v = 0 → (TML_ACT_CTL.ASAP n).of v = 0 →
    s.clk.now.toNat + 64 ≤ s.dev.actValue n →
    completes (.actionArm n v) s fun t =>
      t.dev.fget (TML_ACT_CTL.ARM n) = 1 ∧ t.dev.fget (TML_ACT_CTL.CODE n) = (TML_ACT_CTL.CODE n).of v ∧
      t.dev.fget (TML_ACT_CTL.ARG n) = (TML_ACT_CTL.ARG n).of v ∧ t.dev.asapNew = s.dev.asapNew ∧
      devOnly s t ∧ regsSame s t [TML_ACT_CTL.off n] ∧ memSame s t) ∧
  (∀ (n : Fin 16) (v : W32) (s : State), s.dev.fget (TML_ACT_CTL.ARM n) = 0 → s.clk.timed = true →
    (TML_ACT_CTL.ARM n).of v = 1 → (TML_ACT_CTL.CANCEL n).of v = 0 → (TML_ACT_CTL.ASAP n).of v = 1 →
    completes (.actionArm n v) s fun t =>
      t.dev.fget (TML_ACT_CTL.ARM n) = 1 ∧ n.val ∈ t.dev.asapNew ∧ devOnly s t ∧ regsSame s t [TML_ACT_CTL.off n] ∧ memSame s t) ∧
  (∀ (n : Fin 16) (v : W32) (s : State), s.dev.fget (TML_ACT_CTL.ARM n) = 1 → (TML_ACT_CTL.CANCEL n).of v = 1 →
    completes (.actionCancel n v) s fun t =>
      t.dev.fget (TML_ACT_CTL.ARM n) = 0 ∧ n.val ∉ t.dev.asapNew ∧ n.val ∉ t.dev.asapDue ∧
      devOnly s t ∧ regsSame s t [TML_ACT_CTL.off n] ∧ memSame s t) ∧
  (∀ (n : Fin 16) (k : Nat) (s : State), (k = 0 ∨ 6 ≤ k) → fires n k s →
    completes (.actNone n) s fun t => firedEntry n s t ∧ t.clk = s.clk ∧ memSame s t ∧
      regsSameEv s t [TML_ACT_CTL.off n, TML_ACT_DONE.off n]) ∧
  (∀ (n : Fin 16) (s : State), fires n 1 s →
    completes (.actRaiseSoftwareSource n) s fun t => firedEntry n s t ∧ t.clk = s.clk ∧ memSame s t ∧
      960 + s.dev.fget (TML_ACT_CTL.ARG n) % 64 ∈ t.dev.raised ∧ regsSameEv s t [TML_ACT_CTL.off n, TML_ACT_DONE.off n]) ∧
  (∀ (n : Fin 16) (s : State), fires n 2 s →
    completes (.actSetMarker n) s fun t => firedEntry n s t ∧ t.clk = s.clk ∧ memSame s t ∧
      bitAt (t.dev.fget MK_OUT_LVL.LVL) (s.dev.fget (TML_ACT_CTL.ARG n) % 16) = bitAt (s.dev.fget (TML_ACT_CTL.ARG n)) 4 ∧
      regsSameEv s t [TML_ACT_CTL.off n, TML_ACT_DONE.off n, MK_OUT_LVL.off]) ∧
  (∀ (n : Fin 16) (oc : OcId) (s : State), fires n 3 s → (s.dev.eng oc).mode = .primed → (s.dev.eng oc).plans = [] →
    s.dev.fget (SE_CTRL.GROUP oc) = s.dev.fget (TML_ACT_CTL.ARG n) % 16 →
    completes (.actReleaseStartGroup n) s fun t => firedEntry n s t ∧ t.clk = s.clk ∧ memSame s t ∧
      (t.dev.eng oc).cursor = s.clk.now.toNat + 64 ∧ (t.dev.eng oc).mode = .primed ∧
      (t.dev.eng oc).plans.map (·.seg) = [(s.dev.eng oc).entry] ∧ (t.dev.eng oc).group = s.dev.fget (TML_ACT_CTL.ARG n) % 16 ∧
      regsSameEv s t [TML_ACT_CTL.off n, TML_ACT_DONE.off n]) ∧
  (∀ (n : Fin 16) (s : State), fires n 4 s →
    completes (.actApplyNetworkTime n) s fun t => firedEntry n s t ∧ memSame s t ∧
      t.clk.nt.frac = 0 ∧ t.clk.nt.ns = s.clk.stNs.getD s.clk.nt.ns ∧ t.clk.now = s.clk.now ∧ t.clk.inc = s.clk.inc ∧
      t.clk.nt.sec = s.clk.stSecHi.getD ((s.clk.nt.sec >>> 32).setWidth 32) ++ s.clk.stSecLo.getD (s.clk.nt.sec.setWidth 32) ∧
      t.clk.stSecLo = none ∧ t.clk.stSecHi = none ∧ t.clk.stNs = none ∧
      t.clk.epoch = if s.dev.wellhead then s.clk.epoch + 1 else s.clk.epoch) ∧
  (∀ (n : Fin 16) (s : State), fires n 5 s →
    completes (.actCommitNtInc n) s fun t => firedEntry n s t ∧ memSame s t ∧ t.clk.inc = s.clk.inc ∧ t.clk.now = s.clk.now ∧
      t.clk.incNext = some (s.clk.stIncHi.getD ((s.clk.inc >>> 32).setWidth 8) ++ s.clk.stIncLo.getD (s.clk.inc.setWidth 32)) ∧
      t.clk.stIncLo = none ∧ t.clk.stIncHi = none ∧ regsSameEv s t [TML_ACT_CTL.off n, TML_ACT_DONE.off n])

/-- A pulse generator is armed, one-shot or periodic, late or not, disarmed, and pulses (R82 to R84, R87): of its first occurrence in
nanoseconds, and of network time 64 tk on, the seconds above 2³² are apart. A pulse that a disarm left high lasts its WIDTH (the model's
reading, assumption 35). -/
def Obligations.PulseGenerators : Prop :=
  (∀ (n : Fin 4) (v : W32) (s : State), s.dev.fget (NT_PG_CTL.ARM n) = 0 → (NT_PG_CTL.ARM n).of v = 1 → s.clk.timed = true →
    s.dev.fget (NT_PG_PERIOD.PERIOD n) = 0 →
    completes (.pgArm n v) s fun t =>
      let low := s.dev.pgLimit s.clk % pgWrap
      let base := (s.dev.pgLimit s.clk - low) / 2 ^ 32
      (low ≤ s.dev.pgT n * 2 ^ 32 →
        t.dev.fget (NT_PG_CTL.ARM n) = 1 ∧ (t.dev.pg n).next = some (base + s.dev.pgT n) ∧ regsSame s t [NT_PG_CTL.off n]) ∧
      (s.dev.pgT n * 2 ^ 32 < low →
        t.dev.fget (NT_PG_CTL.ARM n) = 0 ∧ t.dev.fget TML_ERR.PG_LATE = 1 ∧ (t.dev.pg n).next = none ∧
        regsSameEv s t [NT_PG_CTL.off n, TML_ERR.off]) ∧ devOnly s t ∧ memSame s t) ∧
  (∀ (n : Fin 4) (v : W32) (s : State), s.dev.fget (NT_PG_CTL.ARM n) = 0 → (NT_PG_CTL.ARM n).of v = 1 → s.clk.timed = true →
    s.dev.fget (NT_PG_PERIOD.PERIOD n) ≠ 0 → 32 * max 1 ((NT_PG_CTL.WIDTH n).of v) ≤ 10 * s.dev.fget (NT_PG_PERIOD.PERIOD n) →
    completes (.pgArm n v) s fun t =>
      let low := s.dev.pgLimit s.clk % pgWrap
      let base := (s.dev.pgLimit s.clk - low) / 2 ^ 32
      let per := s.dev.fget (NT_PG_PERIOD.PERIOD n)
      t.dev.fget (NT_PG_CTL.ARM n) = 1 ∧
      (∃ k, (t.dev.pg n).next = some (base + s.dev.pgT n + k * per) ∧ low ≤ (s.dev.pgT n + k * per) * 2 ^ 32 ∧
        (k ≠ 0 → (s.dev.pgT n + (k - 1) * per) * 2 ^ 32 < low ∧ t.dev.fget TML_ERR.PG_LATE = 1)) ∧
      regsSameEv s t [NT_PG_CTL.off n, TML_ERR.off] ∧ devOnly s t ∧ memSame s t) ∧
  (∀ (n : Fin 4) (v : W32) (s : State), s.dev.fget (NT_PG_CTL.ARM n) = 1 → (NT_PG_CTL.ARM n).of v = 0 →
    completes (.pgDisarm n v) s fun t =>
      t.dev.fget (NT_PG_CTL.ARM n) = 0 ∧ (t.dev.pg n).next = none ∧ (t.dev.pg n).fallAt = (s.dev.pg n).fallAt ∧
      t.dev.fget (NT_PG_CTL.WIDTH n) = s.dev.fget (NT_PG_CTL.WIDTH n) ∧ devOnly s t ∧ regsSame s t [NT_PG_CTL.off n] ∧ memSame s t) ∧
  (∀ (n : Fin 4) (o : Nat) (s : State), (s.dev.pg n).next = some o → s.dev.fget (NT_PG_CTL.ARM n) = 1 → s.clk.counting = true →
    ntReached s.clk.nt.units o = true →
    completes (.pgPulseRise n) s fun t =>
      (t.dev.pg n).fallAt =
        some (max ((s.dev.pg n).fallAt.getD 0) (s.dev.tk + max 1 (s.dev.fget (NT_PG_CTL.WIDTH n)))) ∧
      t.dev.fget (NT_PG_CTL.FIRED n) = 1 ∧ devOnly s t ∧ regsSameEv s t [NT_PG_CTL.off n] ∧ memSame s t) ∧
  (∀ (n : Fin 4) (e : Nat) (s : State), (s.dev.pg n).fallAt = some e → e ≤ s.dev.tk →
    completes (.pgPulseFall n) s fun t =>
      (t.dev.pg n).fallAt = none ∧ (t.dev.pg n).next = (s.dev.pg n).next ∧
      ((s.dev.pg n).next = none → t.dev.fget (NT_PG_CTL.ARM n) = 0) ∧
      devOnly s t ∧ regsSame s t [NT_PG_CTL.off n] ∧ memSame s t)

/-- R48: once aligned, the device never moves its count because of TIMEBEAT, and an edge off the beat grid, or a missing one, raises
BEAT_ERR. -/
def Obligations.TimebeatMovesNothing : Prop :=
  (∀ (f : BitVec 10) (s : State), s.clk.counting = true → s.clk.aligned = true → s.clk.startPend = false → s.clk.acq = none →
    completes (.timebeatEdge f) s fun t =>
      t.clk.now = s.clk.now ∧ t.clk.tstate = s.clk.tstate ∧ t.clk.counting = true ∧
      (s.clk.now.toNat % 320 ≠ 0 → t.dev.fget TML_ERR.BEAT_ERR = 1)) ∧
  (∀ s : State, s.clk.counting = true → s.clk.aligned = true → s.clk.now.toNat % 320 = 0 → s.clk.lastBeat ≠ some s.dev.tk →
    completes .timebeatMissing s fun t =>
      t.dev.fget TML_ERR.BEAT_ERR = 1 ∧ devOnly s t ∧ regsSameEv s t [TML_ERR.off] ∧ memSame s t)

/-- Sync exchanges (R50, R55, R60, R320): a usable SYNC takes a FREE follower to ACQUIRE; SYNC, FOLLOW, DREQ and DRESP flits join the
VC0 queue in their turn, a FOLLOW 16 slots after its SYNC has left; a DREQ is answered with its arrival stamp, and a DRESP gives the mean path delay of its port. -/
def Obligations.SyncExchanges : Prop :=
  (∀ (p : PortId) (f : BitVec 10) (xid : BitVec 8) (h : BitVec 4) (su : Bool) (s : State),
    s.clk.counting = true → s.dev.portUp p = true → s.dev.wellhead = false → s.dev.upCandidate p = true → h ≠ 15 →
    s.dev.fget (TML_HOP.VALID p) = 1 → s.clk.tstate = .free → (∀ q, (s.clk.port q).lastUsable = none) →
    bitAt (s.dev.fget TDC_CTL.SYNC) p = false →
    completes (.syncFlitReceive p f xid h su) s fun t =>
      t.clk.tstate = .acquire ∧ t.clk.active = BitVec.ofNat 3 p ∧ t.clk.suspectRx = su ∧ t.clk.now = s.clk.now ∧
      (t.clk.port p).lastUsable = some (s.dev.tk, su) ∧ t.pending = s.pending ∧
      (t.clk.port p).wait.map (·.1) = some xid ∧ regsSameEv s t [TML_STATUS.off] ∧ memSame s t) ∧
  (∀ (p : PortId) (f : BitVec 10) (s : State), s.clk.timed = true → s.clk.counting = true → s.dev.portUp p = true →
    s.clk.active.toNat ≠ p → (s.clk.port p).sentAt = none →
    completes (.syncSend p f) s fun t =>
      (t.clk.port p).syncFrac = f ∧
      (t.dev.link p).vc0q =
        (s.dev.link p).vc0q ++ [⟨BitVec.ofNat 256 (2 ^ 250 + (s.clk.port p).txXid.toNat * 2 ^ 216), 0⟩] ∧
      (t.clk.port p).sentAt = some s.dev.tk ∧ (t.clk.port p).txXid = (s.clk.port p).txXid + 1 ∧
      (t.clk.port p).sent = (s.clk.port p).sent ∧ t.clk.now = s.clk.now ∧ t.clk.nt = s.clk.nt ∧ t.pending = s.pending ∧ regsSame s t [] ∧ memSame s t) ∧
  (∀ (p : PortId) (xid : BitVec 8) (v : BitVec 74) (n : BitVec 110) (s : State),
    (s.clk.port p).sent = some (xid, v, n) → (s.clk.port p).leftAt + 7 ≤ s.dev.tk → s.dev.portUp p = true →
    completes (.followSend p) s fun t =>
      (t.clk.port p).sent = none ∧ (t.clk.port p).follow = some ⟨xid, v, n, s.clk.hops, s.clk.tsus, s.clk.epoch⟩ ∧
      (t.dev.link p).vc0q.length = (s.dev.link p).vc0q.length + 1 ∧ t.clk.now = s.clk.now ∧ t.pending = s.pending ∧
      regsSame s t [] ∧ memSame s t) ∧
  (∀ (p : PortId) (f : BitVec 10) (s : State), (s.clk.port p).dreqDue = true → s.dev.portUp p = true → s.dev.wellhead = false →
    completes (.dreqSend p f) s fun t =>
      (t.clk.port p).dreqFrac = f ∧
      (t.clk.port p).dreqDue = false ∧ (t.clk.port p).dreqXid = some (s.clk.port p).rxXid ∧ (t.dev.link p).vc0q.length = (s.dev.link p).vc0q.length + 1 ∧
      t.clk.now = s.clk.now ∧ t.pending = s.pending ∧ regsSame s t [] ∧ memSame s t) ∧
  (∀ (p : PortId) (f : BitVec 10) (xid : BitVec 8) (s : State), s.dev.portUp p = true →
    completes (.dreqReceive p f xid) s fun t =>
      (t.clk.port p).resp = some (xid, BitVec.ofNat 74 (s.stampOf (s.dev.arrival p f.toNat))) ∧
      (t.dev.link p).vc0q.length = (s.dev.link p).vc0q.length + 1 ∧ t.clk.now = s.clk.now ∧ t.pending = s.pending ∧
      regsSame s t [] ∧ memSame s t)

/-- R60: the mean path delay of a port is half of (t4 − t1) − (t3 − t2), an exact half rounded upward, cut to 0 to 2²² − 1. -/
def Obligations.MeanPathDelay : Prop :=
  ∀ (p : PortId) (xid : BitVec 8) (t4 : BitVec 74) (s : State), s.dev.portUp p = true → (s.clk.port p).dreqXid = some xid →
    completes (.drespReceive p xid t4) s fun t =>
      let x := s.clk.port p
      let m : Int := (stampDiff t4.toNat x.t1 - ((x.t3 : Int) - (x.t2 : Int)) + 1) / 2
      t.dev.fget (TML_MEAN.VALID p) = 1 ∧ (t.dev.fget (TML_MEAN.MEAN p) : Int) = max 0 (min (2 ^ 22 - 1) m) ∧
      (t.clk.port p).dreqXid = none ∧ t.clk.now = s.clk.now ∧ t.pending = s.pending ∧ regsSame s t [TML_MEAN.off p] ∧ memSame s t

/-- A FOLLOW completes the SYNC it belongs to. In LOCKED, on the active port, it is verified (R57): within ALIGN_TOL the device stays
LOCKED, beyond it the device enters HOLDOVER with MISMATCH; the residual stands in TML_RESID and the count does not move. -/
def Obligations.FollowVerifies : Prop :=
  ∀ (p : PortId) (f : FollowFlit) (a own : Nat) (s : State),
    s.clk.counting = true → s.dev.portUp p = true → s.dev.wellhead = false → s.dev.upCandidate p = true → f.hops ≠ 15 →
    s.dev.fget (TML_HOP.VALID p) = 1 → (s.clk.port p).wait = some (f.xid, a, own) → s.clk.active.toNat = p →
    s.clk.tstate = .locked → s.clk.realignPend = none →
    completes (.followFlitReceive p f) s fun t =>
      let r := stampDiff (s.acqOf p a f).e (s.stampOf a)
      t.dev.fget TML_RESID.RESID = satInt 32 r ∧ t.clk.now = s.clk.now ∧ (t.clk.port p).wait = none ∧
      t.clk.tstate = (if r.natAbs ≤ s.dev.alignTol * 1024 then .locked else .holdover) ∧
      (s.dev.alignTol * 1024 < r.natAbs → t.dev.fget TML_ERR.MISMATCH = 1) ∧ t.pending = s.pending ∧ memSame s t

/-- A wellhead starts its timeline (R51): START waits for a TIMEBEAT edge, which sets the count to TML_START rounded down to a
multiple of 320 and enters LOCKED. REALIGN on a follower waits for a usable SYNC (R66). The active upstream port has delivered no
SYNC for 4 sync periods (R61): SYNC_LOST is raised, in ACQUIRE too; with no other port to switch to the device enters HOLDOVER (R63),
and a calibrated other port that delivers SYNC flits becomes the active one. After 64 sync periods of usable SYNC flits the device
returns to UP_PRI (R67). -/
def Obligations.CountAndUpstream : Prop :=
  (∀ (v : W32) (s : State), s.dev.mode ≠ .load → s.dev.wellhead = true → s.clk.tstate ≠ .locked → TML_CTRL.START.of v = 1 →
    TML_CTRL.REALIGN.of v = 0 →
    completes (.wellheadStart v) s fun t =>
      t.clk = { s.clk with startPend := true } ∧ t.pending = s.pending ∧ regsSame s t [TML_CTRL.off, TML_STATUS.off] ∧ memSame s t) ∧
  (∀ (f : BitVec 10) (s : State), s.clk.counting = true → s.clk.startPend = true → s.dev.fget TDC_CTL.TB = 0 →
    completes (.timebeatEdge f) s fun t =>
      t.clk.tstate = .locked ∧ t.clk.hops = 0 ∧ t.clk.startPend = false ∧
      t.clk.now = BitVec.ofNat 64 ((s.dev.fget TML_START_LO.START_LO + 2 ^ 32 * s.dev.fget TML_START_HI.START_HI) / 320 * 320) ∧
      t.clk.nt = s.clk.nt ∧ t.pending = s.pending ∧ regsSameEv s t [TML_STATUS.off] ∧ memSame s t) ∧
  (∀ (v : W32) (s : State), s.dev.mode ≠ .load → s.dev.mode.realigns = true → s.dev.wellhead = false → s.clk.timed = true →
    TML_CTRL.REALIGN.of v = 1 →
    completes (.realign v) s fun t =>
      t.clk = { s.clk with realignPend := some s.dev.tk } ∧ t.pending = s.pending ∧
      regsSame s t [TML_CTRL.off, TML_STATUS.off] ∧ memSame s t) ∧
  (∀ (p : PortId) (e : Nat) (s : State), s.dev.wellhead = false → s.clk.timed = true → s.clk.active.toNat = p →
    (s.clk.port p).lastSync = some e → e + 4 * s.dev.syncPeriod ≤ s.dev.tk →
    completes .syncLost s fun t =>
      t.dev.fget TML_ERR.SYNC_LOST = 1 ∧ t.clk.now = s.clk.now ∧ t.pending = s.pending ∧ memSame s t ∧
      (6 ≤ s.dev.upOther p → t.clk.tstate = .holdover ∧ t.clk.active = s.clk.active) ∧
      (∀ q : PortId, s.dev.upOther p = q → q ≠ p → s.dev.fget (TML_HOP.VALID q) = 1 →
        (s.clk.port q).lastGood = some s.dev.tk → (s.clk.port q).lastUsable = none →
        t.clk.active = BitVec.ofNat 3 q ∧ t.clk.tstate = s.clk.tstate)) ∧
  (∀ (p : PortId) (e : Nat) (s : State), s.dev.wellhead = false → s.clk.tstate = .acquire → s.clk.active.toNat = p →
    (s.clk.port p).lastSync = some e → e + 4 * s.dev.syncPeriod ≤ s.dev.tk → 6 ≤ s.dev.upOther p →
    completes .syncLost s fun t =>
      t.dev.fget TML_ERR.SYNC_LOST = 1 ∧ t.clk.tstate = .acquire ∧ t.clk.now = s.clk.now ∧ t.pending = s.pending ∧ memSame s t) ∧
  (∀ (p q : PortId) (r : Nat) (s : State), s.dev.wellhead = false → s.clk.timed = true → s.dev.fget TML_CTRL.UP_PRI = p →
    s.dev.fget TML_CTRL.UP_ALT = q → p ≠ q → s.clk.active.toNat = q → (s.clk.port p).lastUsable = some (s.dev.tk, false) →
    (s.clk.port p).runStart = some r → max r s.clk.altSince + 64 * s.dev.syncPeriod ≤ s.dev.tk →
    s.dev.fget (TML_HOP.VALID p) = 1 →
    completes .upPriReturn s fun t =>
      t.clk.active = BitVec.ofNat 3 p ∧ t.clk.tstate = s.clk.tstate ∧ t.clk.now = s.clk.now ∧ t.clk.altSince = s.dev.tk ∧
      t.pending = s.pending ∧ regsSameEv s t [TML_STATUS.off] ∧ memSame s t)


/-! ### Steps (chapter 03) -/

/-- Engine `n` may read a step now, and that step is `w` of the plan `p`, one that does not execute as IDLE (R90, R93). `d` is the
device once the engine has opened its next segment where run-ahead lets it (R107, R115). -/
def reads (n : Nat) (s : State) (d : Dev) (p : Plan) (w : StepWord) : Prop :=
  d = s.dev.openNext n s.clk.now.toNat ∧ d.readable n s.clk.now.toNat = some p ∧ w = d.stepWord n (d.eng n).pos ∧
  d.stepBad n p w = none

/-- What reading a step leaves alone: the clock, the queue, every memory, every other channel, and every register outside the rill
network but SE_ERR. -/
def stepFrame (n : Nat) (s t : State) (d : Dev) : Prop :=
  devOnly s t ∧ memSame s t ∧ ocsSame s t n ∧ regsSameEv (s.withDev fun _ => d) t [SE_ERR.off n]

/-- What follows a step that advances the cursor (R92, R98, R99): one more read, the next step's index, the cursor, and whether the
segment's reading is over. -/
def stepOn (n : Nat) (s t : State) (d : Dev) (p : Plan) (w : StepWord) : Prop :=
  (t.dev.eng n).cursor = (d.eng n).cursor + w.adv ∧ (t.dev.eng n).pos = (d.eng n).pos + 1 ∧
  (t.dev.eng n).reads = (d.eng n).reads + 1 ∧
  ((t.dev.eng n).plans.getLast?).map (·.readDone) =
    some (w.segEnd || decide (d.segLast n p.seg ≤ (d.eng n).pos) ||
      (decide ((d.eng n).cursor + w.adv ≤ s.clk.now.toNat + 512) && decide (p.stop ≤ (d.eng n).cursor + w.adv))) ∧
  stepFrame n s t d

/-- A FRAME step of operation `op` (R125): it waits for its step tick, or acts at once when it is read on it, as `f` says, on the
frames that a sluice update of the tick has not changed yet (R126). -/
def frameStep (n op : Nat) (f : Nat → Nat → Nat → Nat) (s t : State) (d : Dev) (p : Plan) (w : StepWord) : Prop :=
  let fr := d.fget (SE_FRAME.FRAME n)
  let x := (d.eng n).frXor
  (s.clk.now.toNat < (d.eng n).cursor → (∀ g ∈ (d.eng n).frameOps, s.clk.now.toNat < g.step) →
    (t.dev.eng n).frameOps = (d.eng n).frameOps ++ [⟨(d.eng n).cursor, op, w.fields.tone, w.aux % 4⟩] ∧ stepOn n s t d p w) ∧
  ((d.eng n).cursor ≤ s.clk.now.toNat → (d.eng n).frameOps = [] →
    (t.dev.eng n).frameOps = [] ∧
    t.dev.fget (SE_FRAME.FRAME n) = Nat.xor (f (Nat.xor fr x) w.fields.tone (w.aux % 4)) x % 2 ^ 32 ∧
    (t.dev.eng n).cursor = (d.eng n).cursor + w.adv ∧ (t.dev.eng n).pos = (d.eng n).pos + 1 ∧
    devOnly s t ∧ memSame s t ∧ ocsSame s t n ∧ regsSameEv (s.withDev fun _ => d) t [SE_FRAME.off n, SE_ERR.off n])

/-- Steps that issue something (R91, R92, R94, R95, R125, R140): PLAY and SETF enter the queue of their tone, a FRAME operation acts
on its step tick, a mark rises on it, and the cursor advances by ADV; on its step tick the head of a tone's queue leaves the queue
and fires at its place within the tick, unless it waits for a strobe (R128, R139, R141). -/
def Obligations.IssuingSteps : Prop :=
  (∀ (oc : OcId) (s : State) (d : Dev) (p : Plan) (w : StepWord), reads oc s d p w → w.op = opPlay →
    d.queueRoom oc w.fields.tone = true → s.clk.now.toNat + 2 ≤ (d.eng oc).cursor →
    completes (.play oc) s fun t =>
      (t.dev.tone oc w.fields.tone).queue = (d.tone oc w.fields.tone).queue ++ [⟨(d.eng oc).cursor, true, w.strobe, w.fields, none⟩] ∧
      stepOn oc s t d p w) ∧
  (∀ (oc : OcId) (s : State) (d : Dev) (p : Plan) (w : StepWord), reads oc s d p w → w.op = opSetf →
    d.queueRoom oc w.fields.tone = true → s.clk.now.toNat + 2 ≤ (d.eng oc).cursor →
    completes (.setf oc) s fun t =>
      (t.dev.tone oc w.fields.tone).queue = (d.tone oc w.fields.tone).queue ++ [⟨(d.eng oc).cursor, false, w.strobe, w.fields, none⟩] ∧
      stepOn oc s t d p w) ∧
  (∀ (oc : OcId) (s : State) (d : Dev) (p : Plan) (w : StepWord), reads oc s d p w → w.op = opIdle →
    completes (.idleStep oc) s fun t => (∀ k, t.dev.tone oc k = d.tone oc k) ∧ stepOn oc s t d p w) ∧
  (∀ (oc : OcId) (s : State) (d : Dev) (p : Plan) (w : StepWord), reads oc s d p w → w.op = opMark →
    completes (.markonly oc) s fun t =>
      (t.dev.eng oc).marks = (d.eng oc).marks ++ [((d.eng oc).cursor, (d.eng oc).cursor + max 1 w.fields.dur)] ∧
      (∀ k, t.dev.tone oc k = d.tone oc k) ∧ stepOn oc s t d p w) ∧
  (∀ (oc : OcId) (s : State) (d : Dev) (p : Plan) (w : StepWord), reads oc s d p w → w.op = opFrame → w.aux / 4 % 4 = 0 →
    completes (.frameSet oc) s fun t => frameStep oc 0 (fun fr tone v => fr - fr / 4 ^ tone % 4 * 4 ^ tone + v * 4 ^ tone) s t d p w) ∧
  (∀ (oc : OcId) (s : State) (d : Dev) (p : Plan) (w : StepWord), reads oc s d p w → w.op = opFrame → w.aux / 4 % 4 = 1 →
    completes (.frameXor oc) s fun t => frameStep oc 1 (fun fr tone v => Nat.xor fr (v * 4 ^ tone)) s t d p w) ∧
  (∀ (oc : OcId) (s : State) (d : Dev) (p : Plan) (w : StepWord), reads oc s d p w → w.op = opFrame → w.aux / 4 % 4 = 2 →
    completes (.frameClearAll oc) s fun t => frameStep oc 2 (fun _ _ _ => 0) s t d p w) ∧
  (∀ (oc : OcId) (tone : Fin 16) (c : Cmd) (rest : List Cmd) (s : State), (s.dev.tone oc tone).queue = c :: rest → c.strobe = false →
    c.step ≤ s.clk.now.toNat →
    completes (.toneCommandFire oc tone) s fun t =>
      let old := (s.dev.tone oc tone).fired
      (t.dev.tone oc tone).queue = rest ∧
      (t.dev.tone oc tone).fired =
        (if c.play then old.map (fun f => if f.p0 / 32 = s.clk.now.toNat then { f with envelope := false } else f) else old) ++
          [⟨32 * s.clk.now.toNat + c.fields.offs, c.play, c, true⟩] ∧
      (∀ k, k ≠ tone.val → t.dev.tone oc k = s.dev.tone oc k) ∧ t.dev.eng oc = s.dev.eng oc ∧
      devOnly s t ∧ memSame s t ∧ ocsSame s t oc ∧ regsSame s t []) ∧
  (∀ (oc : OcId) (tone : Fin 16) (c : Cmd) (s : State), (s.dev.tone oc tone).queue = [c] → c.strobe = true →
    completes (.toneCommandFire oc tone) s fun t => t = s)

/-- Steps that turn the reading (R112, R122, R123, R131, R440, R441): a BRANCH sets the condition of the segment's end, a LOOP counts
its counter and jumps to a step or to a segment, END ends the schedule, CALL enters its micro-routine with its arguments in
U0 and U1 and its own fields in the build register. -/
def Obligations.TurningSteps : Prop :=
  (∀ (oc : OcId) (s : State) (d : Dev) (p : Plan) (w : StepWord), reads oc s d p w → w.op = opBranch →
    s.clk.now.toNat + 64 ≤ p.stop →
    completes (.branchStep oc) s fun t =>
      ((t.dev.eng oc).plans.getLast?).map (fun q => (q.jump, q.branch, q.branched)) =
        some (none, some ⟨w.cond, w.target % 256, none⟩, true) ∧
      stepOn oc s t d p w) ∧
  (∀ (oc : OcId) (s : State) (d : Dev) (p : Plan) (w : StepWord), reads oc s d p w → w.op = opLoop → bitAt w.aux 2 = false →
    completes (.loopStepLevel oc) s fun t =>
      let r := loopCount (tget 0 (d.eng oc).lc (w.aux % 4)) w.cond
      tget 0 (t.dev.eng oc).lc (w.aux % 4) = r.1 ∧ (t.dev.eng oc).cursor = (d.eng oc).cursor + w.adv ∧
      (t.dev.eng oc).pos = (if r.2 then w.target else (d.eng oc).pos + 1) ∧ stepFrame oc s t d) ∧
  (∀ (oc : OcId) (s : State) (d : Dev) (p : Plan) (w : StepWord), reads oc s d p w → w.op = opLoop → bitAt w.aux 2 = true →
    s.clk.now.toNat + 64 ≤ p.stop →
    completes (.loopSegmentLevel oc) s fun t =>
      let r := loopCount (tget 0 (d.eng oc).lc (w.aux % 4)) w.cond
      tget 0 (t.dev.eng oc).lc (w.aux % 4) = r.1 ∧
      ((t.dev.eng oc).plans.getLast?).map (fun q => (q.jump, q.branch)) =
        some (if r.2 then (some (w.target % 256), none) else (p.jump, p.branch)) ∧ stepOn oc s t d p w) ∧
  (∀ (oc : OcId) (s : State) (d : Dev) (p : Plan) (w : StepWord), reads oc s d p w → w.op = opEnd →
    completes (.endStep oc) s fun t =>
      ((t.dev.eng oc).plans.getLast?).map (fun q => (q.ended, q.readDone)) = some (true, true) ∧
      (t.dev.eng oc).cursor = (d.eng oc).cursor ∧ stepFrame oc s t d) ∧
  (∀ (oc : OcId) (s : State) (d : Dev) (p : Plan) (w : StepWord), reads oc s d p w → w.op = opCall →
    completes (.callStep oc) s fun t =>
      ((t.dev.eng oc).call).map (fun c => (c.pc, c.c, c.stop, c.adv)) = some (w.target, (d.eng oc).cursor, p.stop, w.adv) ∧
      (t.dev.eng oc).build = w.fields ∧
      tget 0 (t.dev.eng oc).u 0 = BitVec.ofNat 64 w.cond ∧ tget 0 (t.dev.eng oc).u 1 = BitVec.ofNat 64 w.aux ∧
      (∀ k, 2 ≤ k → k < 8 → tget 0 (t.dev.eng oc).u k = 0) ∧ (t.dev.eng oc).cursor = (d.eng oc).cursor ∧ stepFrame oc s t d)

/-- A WAIT (R120), a WAIT that resumes or times out, and the SYNCs (R133) complete: a WAIT holds the cursor from its step tick on, an
event from c − BRANCH_LEAD to c + DUR for which its condition is true resumes it, and without one it times out; a SYNC moves the
cursor to an absolute tick, to the next quiet window, or to the first slot that is not held back, and the segment's end moves by the
hold. Steps that cannot have their effect execute as IDLE and taint the shot in flight: an undefined opcode or a tone the mode does
not have (R90), a BRANCH or segment-level LOOP read after the check tick of its segment's end (R573), a SYNC to a tick already behind
the cursor or to a quiet window that is not predicted (R133), a PLAY whose step tick is less than 2 tk away (R95). -/
def Obligations.WaitsAndIdles : Prop :=
  (∀ (oc : OcId) (s : State) (d : Dev) (p : Plan) (w : StepWord), reads oc s d p w → w.op = opWait →
    completes (.waitStep oc) s fun t =>
      let c := (d.eng oc).cursor
      let dur := if w.fields.dur = 0 then 16777215 else w.fields.dur
      ((t.dev.eng oc).wait).map (fun x => (x.c, x.dur, x.cond, x.taint, x.adv, x.segEnd)) =
        some (c, dur, w.cond, bitAt w.aux 0, w.adv, w.segEnd) ∧
      (w.cond < 32 → (((t.dev.eng oc).wait).map (·.hit)) =
        some (((tget {} (d.eng oc).ci (w.cond % 16)).evs.reverse.find? fun e =>
          decide (c ≤ e.1 + d.lead oc) && decide (e.1 ≤ c + dur) && (e.2 != bitAt w.cond 4)).map (·.1))) ∧
      (t.dev.eng oc).cursor = c ∧ (t.dev.eng oc).pos = (d.eng oc).pos ∧ stepFrame oc s t d) ∧
  (∀ (oc : OcId) (s : State) (d : Dev) (p : Plan) (w : StepWord), reads oc s d p w → w.op = opSync → w.aux % 4 = 0 →
    (d.eng oc).cursor ≤ w.value →
    completes (.syncAbsolute oc) s fun t =>
      (t.dev.eng oc).cursor = w.value ∧ (t.dev.eng oc).pos = (d.eng oc).pos + 1 ∧
      ((t.dev.eng oc).plans.getLast?).map (·.stop) = some (p.stop + (w.value - (d.eng oc).cursor)) ∧ stepFrame oc s t d) ∧
  (∀ (oc : OcId) (s : State) (d : Dev) (p : Plan) (w : StepWord) (v : Nat), reads oc s d p w → w.op = opSync → w.aux % 4 = 1 →
    d.nextWindow (w.aux / 4 % 4) (d.eng oc).cursor = some v →
    completes (.syncCycleWindow oc) s fun t =>
      (t.dev.eng oc).cursor = v ∧ (t.dev.eng oc).pos = (d.eng oc).pos + 1 ∧
      ((t.dev.eng oc).plans.getLast?).map (·.stop) = some (p.stop + (v - (d.eng oc).cursor)) ∧ stepFrame oc s t d) ∧
  (∀ (oc : OcId) (s : State) (d : Dev) (p : Plan) (w : StepWord), reads oc s d p w → w.op = opSync → w.aux % 4 = 2 →
    completes (.syncShotSlot oc) s fun t =>
      (∀ i v, v = w.value + i * w.fields.dur → (d.eng oc).cursor ≤ v →
        (∀ j, j < i → (d.eng oc).cursor ≤ w.value + j * w.fields.dur →
          tget none s.dev.slots (w.value + j * w.fields.dur) = some true) →
        (tget none s.dev.slots v = none →
          (t.dev.eng oc).slot = some ⟨v, w.fields.dur⟩ ∧ (t.dev.eng oc).cursor = (d.eng oc).cursor) ∧
        (tget none s.dev.slots v = some false →
          (t.dev.eng oc).slot = none ∧ (t.dev.eng oc).cursor = v ∧
          ((t.dev.eng oc).plans.getLast?).map (·.stop) = some (p.stop + (v - (d.eng oc).cursor)))) ∧
      stepFrame oc s t d) ∧
  (∀ (oc : OcId) (s : State) (w : WaitSt) (p : Plan) (e : Nat), (s.dev.eng oc).wait = some w →
    (s.dev.eng oc).plans.getLast? = some p → w.hit = some e →
    completes (.waitResume oc) s fun t =>
      let cur := max w.c (e + s.dev.lead oc)
      (t.dev.eng oc).cursor = cur + w.adv ∧ (t.dev.eng oc).pos = (s.dev.eng oc).pos + 1 ∧ (t.dev.eng oc).wait = none ∧
      ((t.dev.eng oc).plans.getLast?).map (·.stop) = some (p.stop + (cur - w.c)) ∧ stepFrame oc s t s.dev) ∧
  (∀ (oc : OcId) (s : State) (w : WaitSt) (p : Plan), (s.dev.eng oc).wait = some w →
    (s.dev.eng oc).plans.getLast? = some p → w.hit = none → w.c + w.dur ≤ s.clk.now.toNat →
    completes (.waitTimeout oc) s fun t =>
      t.dev.fget (SE_ERR.WAIT_TO oc) = 1 ∧
      t.dev.fget (SE_CNT1.WAIT_TIMEOUTS oc) = min 255 (s.dev.fget (SE_CNT1.WAIT_TIMEOUTS oc) + 1) ∧
      (t.dev.eng oc).cursor = w.c + w.dur + w.adv ∧ (t.dev.eng oc).pos = (s.dev.eng oc).pos + 1 ∧ (t.dev.eng oc).wait = none ∧
      ((t.dev.eng oc).plans.getLast?).map (·.stop) = some (p.stop + w.dur) ∧ (w.taint = true → tainted s t) ∧
      devOnly s t ∧ memSame s t ∧ ocsSame s t oc ∧ regsSameEv s t [SE_ERR.off oc, SE_CNT1.off oc]) ∧
  (∀ (oc : OcId) (s : State) (d : Dev) (p : Plan) (w : StepWord) (tone : Bool), d = s.dev.openNext oc s.clk.now.toNat →
    d.readable oc s.clk.now.toNat = some p → w = d.stepWord oc (d.eng oc).pos → d.stepBad oc p w = some tone →
    completes (.undefinedOpcode oc) s fun t =>
      t.dev.fget (if tone then SE_ERR.BADTONE oc else SE_ERR.BADOP oc) = 1 ∧ tainted s t ∧ stepOn oc s t d p w) ∧
  (∀ (oc : OcId) (s : State) (d : Dev) (p : Plan) (w : StepWord), reads oc s d p w → w.op = opBranch →
    p.stop < s.clk.now.toNat + 64 →
    completes (.branchStep oc) s fun t => t.dev.fget (SE_ERR.CTRL_LATE oc) = 1 ∧ tainted s t ∧ stepOn oc s t d p w) ∧
  (∀ (oc : OcId) (s : State) (d : Dev) (p : Plan) (w : StepWord), reads oc s d p w → w.op = opLoop → bitAt w.aux 2 = true →
    p.stop < s.clk.now.toNat + 64 →
    completes (.loopSegmentLevel oc) s fun t =>
      t.dev.fget (SE_ERR.CTRL_LATE oc) = 1 ∧ tainted s t ∧ (t.dev.eng oc).lc = (d.eng oc).lc ∧ stepOn oc s t d p w) ∧
  (∀ (oc : OcId) (s : State) (d : Dev) (p : Plan) (w : StepWord), reads oc s d p w → w.op = opSync → w.aux % 4 = 0 →
    w.value < (d.eng oc).cursor →
    completes (.syncAbsolute oc) s fun t =>
      t.dev.fget (SE_ERR.SYNC_LATE oc) = 1 ∧ tainted s t ∧ (t.dev.eng oc).cursor = (d.eng oc).cursor ∧ stepFrame oc s t d) ∧
  (∀ (oc : OcId) (s : State) (d : Dev) (p : Plan) (w : StepWord), reads oc s d p w → w.op = opSync → w.aux % 4 = 1 →
    d.nextWindow (w.aux / 4 % 4) (d.eng oc).cursor = none →
    completes (.syncCycleWindow oc) s fun t =>
      t.dev.fget (SE_ERR.SYNC_LATE oc) = 1 ∧ tainted s t ∧ (t.dev.eng oc).cursor = (d.eng oc).cursor ∧ stepFrame oc s t d) ∧
  (∀ (oc : OcId) (s : State) (d : Dev) (p : Plan) (w : StepWord), reads oc s d p w → w.op = opPlay →
    d.queueRoom oc w.fields.tone = true → (d.eng oc).cursor < s.clk.now.toNat + 2 →
    completes (.play oc) s fun t =>
      t.dev.fget (SE_ERR.CMD_LATE oc) = 1 ∧ tainted s t ∧ (∀ k, t.dev.tone oc k = d.tone oc k) ∧ stepOn oc s t d p w)

/-! ### Engine decisions, boundaries, segments (chapter 03) -/

/-- A BRANCH is decided BRANCH_LEAD before its boundary (R112, R113, R116, R118): a fresh condition with the wanted value selects the
TARGET, anything else NEXT. A condition not fresh counts in NO_COND and reads as 0. (COND above 31 and a DUR not above BRANCH_LEAD break a
must of R112 and R115: there the choice is a free value, assumptions 5 and 26.) -/
def Obligations.BranchDecided : Prop :=
  ∀ (oc : OcId) (s : State) (p : Plan) (b : BranchSt) (c : CiSt), (s.dev.eng oc).plans = [p] → p.branch = some b →
    b.chosen = none → p.stop ≤ s.clk.now.toNat + s.dev.lead oc → b.cond < 32 →
    s.dev.lead oc < s.dev.segDur oc p.seg → c = tget {} (s.dev.eng oc).ci (b.cond % 16) →
    completes (.branchDecision oc) s fun t =>
      let fresh := c.fresh && decide (c.at_ + s.dev.lead oc ≤ p.stop)
      let take := (fresh && c.value) != bitAt b.cond 4
      (t.dev.eng oc).plans = [{ p with branch := some { b with chosen := some (if take then b.target else s.dev.segNext oc p.seg) } }] ∧
      (fresh = true → (tget {} (t.dev.eng oc).ci (b.cond % 16)).fresh = false ∧ regsSame s t []) ∧
      (fresh = false → t.dev.fget (SE_CNT0.NO_COND oc) = min 65535 (s.dev.fget (SE_CNT0.NO_COND oc) + 1)) ∧
      devOnly s t ∧ memSame s t ∧ ocsSame s t oc ∧ regsSame s t [SE_CNT0.off oc]

/-- The check tick of a boundary (R107): a VALID candidate is armed, one that is neither armed nor VALID is absent for good. -/
def Obligations.CheckTickArms : Prop :=
  ∀ (oc : OcId) (s : State) (p : Plan), (s.dev.eng oc).plans = [p] → p.checked = false → p.ended = false →
    p.stop ≤ s.clk.now.toNat + 64 →
    completes (.checkTick oc) s fun t =>
      (∃ q, (t.dev.eng oc).plans = [q] ∧ q.seg = p.seg ∧ q.start = p.start ∧ q.stop = p.stop ∧ q.checked = true ∧
        ∀ c, c ∈ s.dev.candidates oc p → c ≠ p.seg → c ∉ p.absent →
          (c ∈ q.absent ↔ s.dev.segState oc c ≠ segArmed ∧ s.dev.segState oc c ≠ segValid)) ∧
      (∀ c, c ∈ s.dev.candidates oc p → c ≠ p.seg → c ∉ p.absent → c ∉ p.armed → s.dev.segState oc c = segValid →
        t.dev.segState oc c = segArmed) ∧
      devOnly s t ∧ memSame s t ∧ ocsSame s t oc ∧ regsSame s t ((s.dev.candidates oc p).map (SE_SEG_LO.off oc))

/-- A boundary whose next segment run-ahead has opened (R98, R101, R108): that segment becomes ACTIVE, the one that ended retires, or
returns to VALID with RETAIN. A boundary that ends a starved pass retires nothing (R109). -/
def Obligations.BoundaryStartsTheNext : Prop :=
  (∀ (oc : OcId) (s : State) (p q : Plan) (rest : List Plan), (s.dev.eng oc).plans = p :: q :: rest → (s.dev.eng oc).mode = .running →
    p.starved = false → p.ended = false → q.starved = false → p.stop ≤ s.clk.now.toNat →
    (∀ b, p.branch = some b → b.chosen ≠ none) → q.seg ≠ p.seg →
    completes (.segmentBoundary oc) s fun t =>
      (t.dev.eng oc).plans = q :: rest ∧ (t.dev.eng oc).mode = .running ∧ (t.dev.eng oc).cursor = (s.dev.eng oc).cursor ∧
      devOnly s t ∧
      (s.dev.fget (SE_SEG_LO.SHOTB oc q.seg) = 0 ∨ (p.seg < 256 ∧ q.seg < 256) →
        t.dev.segState oc q.seg = segActive ∧
        t.dev.segState oc p.seg = (if s.dev.fget (SE_SEG_LO.RETAIN oc p.seg) = 0 then segRetired else segValid)) ∧
      (s.dev.fget (SE_SEG_LO.SHOTB oc q.seg) = 0 →
        memSame s t ∧ ocsSame s t oc ∧ t.dev.shot = s.dev.shot ∧
        regsSameEv s t (SE_SEG_LO.off oc q.seg :: SE_SEG_LO.off oc p.seg :: p.armed.map (SE_SEG_LO.off oc))) ∧
      (s.dev.fget (SE_SEG_LO.SHOTB oc q.seg) = 1 → s.dev.shotTk ≠ some s.dev.tk → t.dev.shot = s.dev.shot + 1 ∧ t.dev.round = 0)) ∧
  (∀ (oc : OcId) (s : State) (p q : Plan) (rest : List Plan), (s.dev.eng oc).plans = p :: q :: rest → (s.dev.eng oc).mode = .starving →
    p.starved = true → p.ended = false → q.starved = false → p.stop ≤ s.clk.now.toNat →
    (∀ b, p.branch = some b → b.chosen ≠ none) →
    completes (.starvationEnd oc) s fun t =>
      (t.dev.eng oc).plans = q :: rest ∧ (t.dev.eng oc).mode = .running ∧
      (s.dev.fget (SE_SEG_LO.SHOTB oc q.seg) = 0 ∨ q.seg < 256 → t.dev.segState oc q.seg = segActive) ∧
      (t.dev.oc oc).starved = (p.start, p.stop) :: (s.dev.oc oc).starved ∧ devOnly s t ∧
      (s.dev.fget (SE_SEG_LO.SHOTB oc q.seg) = 0 →
        memSame s t ∧ ocsSame s t oc ∧ regsSameEv s t (SE_SEG_LO.off oc q.seg :: p.armed.map (SE_SEG_LO.off oc))))

/-- R109: with the selected segment absent the engine starves: STARVE and FALLBACK are set, STARVES counts, LASTSTARVE names the
segment, the shot is tainted, and the engine plays idle output for the segment's duration. -/
def Obligations.AbsentSegmentStarves : Prop :=
  ∀ (oc : OcId) (s : State) (p : Plan), (s.dev.eng oc).plans = [p] → (s.dev.eng oc).mode = .running → p.starved = false →
    p.ended = false → p.readDone = true → p.branch = none → p.jump = none → p.stop ≤ s.clk.now.toNat →
    (s.dev.eng oc).wait = none → (s.dev.eng oc).slot = none → s.dev.segNext oc p.seg ≠ p.seg →
    s.dev.segNext oc p.seg ∈ p.absent → s.dev.fget (SE_SEG_LO.SHOTB oc (s.dev.segNext oc p.seg)) = 0 →
    completes (.segmentBoundary oc) s fun t =>
      let q := s.dev.segNext oc p.seg
      (t.dev.eng oc).mode = .starving ∧ (t.dev.eng oc).cursor = p.stop ∧
      ((t.dev.eng oc).plans.map fun x => (x.seg, x.starved, x.start, x.stop)) =
        [(q, true, p.stop, p.stop + max 1 (s.dev.segDur oc q))] ∧
      t.dev.fget (SE_ERR.STARVE oc) = 1 ∧ t.dev.fget (SE_SEG_LO.FALLBACK oc q) = 1 ∧
      t.dev.fget (SE_CNT1.STARVES oc) = min 65535 (s.dev.fget (SE_CNT1.STARVES oc) + 1) ∧
      t.dev.fget (SE_LASTSTARVE.SEG oc) = q ∧ t.dev.fget (SE_LASTSTARVE.SHOT oc) = s.dev.shot.toNat % 2 ^ 24 ∧
      tainted s t ∧ devOnly s t ∧ memSame s t

/-- PRIME arms the ENTRY segment of an idle or ended engine in a running mode (R129); a start group's engines start on their start
tick (R130); HALT and soft reset stop an engine that runs no routine: no segment is left ARMED or ACTIVE (R132, R134). Host writes of
a segment entry (R102 to R104, Table 03-4): an allowed move takes STATE and the fields of the word, FALLBACK stays the device's, and
no other register changes. -/
def Obligations.EnginesAndSegments : Prop :=
  (∀ (oc : OcId) (v : W32) (s : State), s.dev.domOn oc = true → s.dev.rehydrating oc = false → s.dev.mode.running = true →
    ((s.dev.eng oc).mode = .idle ∨ (s.dev.eng oc).mode = .ended) → s.dev.fget (OC_QCTL.EN oc) = 0 →
    (SE_CTRL.PRIME oc).of v = 1 → (SE_CTRL.HALT oc).of v = 0 → s.dev.segState oc ((SE_CTRL.ENTRY oc).of v) = segValid →
    completes (.sePrime oc v) s fun t =>
      (t.dev.eng oc).mode = .primed ∧ (t.dev.eng oc).plans = [] ∧ (t.dev.eng oc).entry = (SE_CTRL.ENTRY oc).of v ∧
      t.dev.segState oc ((SE_CTRL.ENTRY oc).of v) = segArmed ∧
      t.dev.fget (SE_CTRL.ENTRY oc) = (SE_CTRL.ENTRY oc).of v ∧ t.dev.fget (SE_CTRL.GROUP oc) = (SE_CTRL.GROUP oc).of v ∧
      devOnly s t ∧ memSame s t ∧ ocsSame s t oc ∧
      regsSame s t [SE_CTRL.off oc, SE_SEG_LO.off oc ((SE_CTRL.ENTRY oc).of v)]) ∧
  (∀ (oc : OcId) (v : W32) (s : State), s.dev.domOn oc = true → s.dev.rehydrating oc = false → (s.dev.eng oc).call = none →
    (s.dev.eng oc).heldFrom = none → (SE_CTRL.PRIME oc).of v = 0 → (SE_CTRL.HALT oc).of v = 1 →
    completes (.seHalt oc v) s fun t =>
      (t.dev.eng oc).mode = .idle ∧ (t.dev.eng oc).plans = [] ∧ (t.dev.eng oc).wait = none ∧ (t.dev.eng oc).lc = [] ∧
      (∀ c, c ∈ s.dev.segsInUse oc → s.dev.segState oc c = segArmed ∨ s.dev.segState oc c = segActive →
        t.dev.segState oc c = segValid) ∧
      devOnly s t ∧ memSame s t ∧ ocsSame s t oc ∧
      regsSame s t (SE_CTRL.off oc :: (s.dev.segsInUse oc).map (SE_SEG_LO.off oc))) ∧
  (∀ (oc : OcId) (g : Fin 16) (p : Plan) (rest : List Plan) (s : State), (s.dev.eng oc).mode = .primed →
    (s.dev.eng oc).plans = p :: rest → p.start ≤ s.clk.now.toNat → (s.dev.eng oc).group = g →
    (∀ (m : Nat) (q : Plan) (l : List Plan), (s.dev.eng m).plans = q :: l → q.seg < 256) →
    completes (.engineStart g) s fun t =>
      (t.dev.eng oc).mode = .running ∧ (t.dev.eng oc).plans = p :: rest ∧ t.dev.segState oc p.seg = segActive ∧ devOnly s t) ∧
  (∀ (oc : OcId) (v : W32) (s : State), s.dev.domOn oc = true → s.dev.rehydrating oc = false → (s.dev.eng oc).call = none →
    (s.dev.eng oc).heldFrom = none → (OC_CFG.SRST oc).of v = 1 → (OC_CFG.GAIN oc).of v = (OC_CFG.GAIN oc).of (s.dev.reg (OC_CFG.off oc)) →
    completes (.ocSoftReset oc v) s fun t =>
      t.dev.eng oc = { rebuild := some (s.dev.tk + 1) } ∧ (t.dev.oc oc).tones = [] ∧
      t.dev.fget (OC_STATUS.M_SHORT oc) = 0 ∧ devOnly s t ∧ memSame s t ∧ ocsSame s t oc ∧
      (∀ off, (off < OC_CFG.off oc ∨ OC_CFG.off (oc.val + 1) ≤ off) → t.dev.reg off = s.dev.reg off)) ∧
  (∀ (oc : OcId) (k : Nat) (s : State), (s.dev.eng oc).rebuild = some k → k ≤ s.dev.tk →
    completes (.refillListRebuild oc) s fun t =>
      (t.dev.eng oc).rebuild = none ∧
      (t.dev.eng oc).refill = (s.dev.segsInUse oc).filter (fun g => s.dev.segState oc g == segRetired) ∧
      devOnly s t ∧ memSame s t ∧ ocsSame s t oc ∧ regsSame s t []) ∧
  (∀ (oc : OcId) (g : Fin 256) (v : W32) (s : State), s.dev.domOn oc = true → s.dev.rehydrating oc = false →
    s.dev.fget (OC_QCTL.EN oc) = 0 → (SE_SEG_LO.STATE oc g).of v = segLoading →
    (s.dev.segState oc g = segEmpty ∨ s.dev.segState oc g = segRetired) →
    completes (.segRequestLoading oc g v) s fun t =>
      t.dev.segState oc g = segLoading ∧ t.dev.segStart oc g = (SE_SEG_LO.START oc g).of v ∧
      t.dev.fget (SE_SEG_LO.LENM1 oc g) = (SE_SEG_LO.LENM1 oc g).of v ∧
      t.dev.fget (SE_SEG_LO.FALLBACK oc g) = s.dev.fget (SE_SEG_LO.FALLBACK oc g) ∧
      (s.dev.segState oc g = segRetired → g.val ∉ (t.dev.eng oc).refill) ∧
      devOnly s t ∧ memSame s t ∧ ocsSame s t oc ∧ regsSame s t [SE_SEG_LO.off oc g]) ∧
  (∀ (oc : OcId) (g : Fin 256) (v : W32) (s : State), s.dev.domOn oc = true → s.dev.rehydrating oc = false →
    s.dev.fget (OC_QCTL.EN oc) = 0 → (SE_SEG_LO.STATE oc g).of v = segValid → s.dev.segState oc g = segLoading →
    (SE_SEG_LO.START oc g).of v + (SE_SEG_LO.LENM1 oc g).of v ≤ 8191 → 1 ≤ s.dev.segDur oc g →
    completes (.segRequestValid oc g v) s fun t =>
      t.dev.segState oc g = segValid ∧ t.dev.segStart oc g = (SE_SEG_LO.START oc g).of v ∧
      t.dev.fget (SE_SEG_LO.LENM1 oc g) = (SE_SEG_LO.LENM1 oc g).of v ∧
      t.dev.fget (SE_SEG_LO.FALLBACK oc g) = s.dev.fget (SE_SEG_LO.FALLBACK oc g) ∧ onlyRegs s t [SE_SEG_LO.off oc g]) ∧
  (∀ (oc : OcId) (g : Fin 256) (v : W32) (s : State), s.dev.domOn oc = true → s.dev.rehydrating oc = false →
    (SE_SEG_LO.STATE oc g).of v = segEmpty →
    (s.dev.segState oc g = segEmpty ∨ s.dev.segState oc g = segLoading ∨ s.dev.segState oc g = segValid ∨
      s.dev.segState oc g = segRetired) →
    completes (.segRequestEmpty oc g v) s fun t =>
      t.dev.segState oc g = segEmpty ∧ (s.dev.segState oc g = segRetired → g.val ∉ (t.dev.eng oc).refill) ∧
      devOnly s t ∧ memSame s t ∧ ocsSame s t oc ∧ regsSame s t [SE_SEG_LO.off oc g]) ∧
  (∀ (oc : OcId) (g : Fin 256) (v : W32) (s : State), s.dev.domOn oc = true → s.dev.rehydrating oc = false →
    s.dev.fget (OC_QCTL.EN oc) = 0 → (SE_SEG_LO.STATE oc g).of v = s.dev.segState oc g →
    (s.dev.segState oc g = segEmpty ∨ s.dev.segState oc g = segLoading ∨ s.dev.segState oc g = segRetired) →
    completes (.segRewriteFields oc g v) s fun t =>
      t.dev.segState oc g = s.dev.segState oc g ∧ t.dev.segStart oc g = (SE_SEG_LO.START oc g).of v ∧
      t.dev.fget (SE_SEG_LO.SHOTB oc g) = (SE_SEG_LO.SHOTB oc g).of v ∧
      t.dev.fget (SE_SEG_LO.RETAIN oc g) = (SE_SEG_LO.RETAIN oc g).of v ∧ onlyRegs s t [SE_SEG_LO.off oc g]) ∧
  (∀ (oc : OcId) (g : Fin 256) (v : W32) (s : State), s.dev.domOn oc = true → s.dev.rehydrating oc = false →
    (s.dev.segState oc g = segEmpty ∨ s.dev.segState oc g = segLoading ∨ s.dev.segState oc g = segRetired) →
    completes (.segHiWrite oc g v) s fun t => t.dev.reg (SE_SEG_HI.off oc g) = v ∧ onlyRegs s t [SE_SEG_HI.off oc g]) ∧
  (∀ (oc : OcId) (g : Fin 256) (v : W32) (s : State), s.dev.domOn oc = true → s.dev.rehydrating oc = false →
    s.dev.segState oc g ≠ segEmpty → s.dev.segState oc g ≠ segLoading → s.dev.segState oc g ≠ segRetired →
    completes (.segHiWrite oc g v) s fun t =>
      t.dev.reg (SE_SEG_HI.off oc g) = s.dev.reg (SE_SEG_HI.off oc g) ∧ t.dev.fget (SE_ERR.SEGSTATE oc) = 1 ∧
      onlyRegsEv s t [SE_ERR.off oc, SE_ERRSEG.off oc])

/-- No byte of the `n` from `a` on has been written by DMA on this tick (R340). -/
def dmaOutside (s : State) (a n : Nat) : Prop := ∀ e ∈ s.dev.dmaTick, e.1 < a ∨ a + n ≤ e.1

/-- A write of the step store lays its bytes down where no word is protected (R88, R105), and is dropped where its word stands in a
segment that is VALID, ARMED or ACTIVE: WPROT is set and the word named. A byte that DMA wrote on the same tick stands (R340). -/
def Obligations.StepStoreWrites : Prop :=
  (∀ (oc : OcId) (off : Fin 0x40000) (bytes : List Byte) (s : State), s.dev.domOn oc = true → s.dev.rehydrating oc = false →
    bytes ≠ [] → off.val + bytes.length ≤ 0x40000 → (∀ i, s.dev.wordProtected oc i = false) →
    dmaOutside s (bar2Base + 0x40000 * oc.val + off.val) bytes.length →
    completes (.stepStoreWrite oc off bytes) s fun t =>
      t.dev.rdBytes (bar2Base + 0x40000 * oc.val + off.val) bytes.length = bytes ∧ devOnly s t ∧
      memOutside s t (bar2Base + 0x40000 * oc.val + off.val) bytes.length ∧ ocsSame s t oc) ∧
  (∀ (oc : OcId) (off : Fin 0x40000) (b : Byte) (s : State), s.dev.domOn oc = true → s.dev.rehydrating oc = false →
    s.dev.wordProtected oc (off.val / 32) = true → dmaOutside s (bar2Base + 0x40000 * oc.val + off.val) 1 →
    completes (.stepStoreWrite oc off [b]) s fun t =>
      t.dev.fget (SE_ERR.WPROT oc) = 1 ∧ t.dev.fget (SE_ERRSEG.STEP oc) = off.val / 32 ∧
      onlyRegsEv s t [SE_ERR.off oc, SE_ERRSEG.off oc]) ∧
  (∀ (oc : OcId) (off : Fin 0x40000) (b b' : Byte) (s : State), s.dev.domOn oc = true → s.dev.rehydrating oc = false →
    s.dev.dmaTick = [(bar2Base + 0x40000 * oc.val + off.val, b')] →
    completes (.stepStoreWrite oc off [b]) s fun t =>
      t.dev.rd8 (bar2Base + 0x40000 * oc.val + off.val) = b' ∧ devOnly s t ∧
      memOutside s t (bar2Base + 0x40000 * oc.val + off.val) 1 ∧ ocsSame s t oc)

/-- A soft reset returns SE_ERR and the counters, of class E, to default and leaves registers of class D alone (R134, R516). -/
def Obligations.SoftResetClassE : Prop :=
  ∀ (oc : OcId) (v : W32) (s : State), s.dev.domOn oc = true → s.dev.rehydrating oc = false → (s.dev.eng oc).call = none →
    (s.dev.eng oc).heldFrom = none → (OC_CFG.SRST oc).of v = 1 → (OC_CFG.GAIN oc).of v = (OC_CFG.GAIN oc).of (s.dev.reg (OC_CFG.off oc)) →
    completes (.ocSoftReset oc v) s fun t =>
      t.dev.reg (SE_ERR.off oc) = 0 ∧ t.dev.reg (SE_CNT0.off oc) = 0 ∧ t.dev.reg (SE_CNT1.off oc) = 0 ∧
      t.dev.reg (SE_CTRL.off oc) = s.dev.reg (SE_CTRL.off oc) ∧ t.dev.reg (OC_LOAD.off oc) = s.dev.reg (OC_LOAD.off oc)

/-! ### Staged values, output channels, strobe groups, queue mode (chapters 04 and 05) -/

/-- A host write reaches output channel `n`: its domain is on and does not rehydrate (R424, R571). -/
def ocOpen (n : Nat) (s : State) : Prop := s.dev.domOn n = true ∧ s.dev.rehydrating n = false

/-- Nothing of channel `n` is still to happen on this tick before a register write of it: no strobe of its group that would commit a load
(R170), no end of settling (R171). -/
def ocQuiet (n : Nat) (s : State) : Prop :=
  s.dev.strobeDue (s.dev.fget (OC_CFG.GROUP n)) s.clk.now.toNat = false ∧ ∀ k ∈ (s.dev.oc n).settle, s.dev.tk < k

/-- A host write reaches input channel `i` (R424, R571). -/
def icOpen (i : Nat) (s : State) : Prop := s.dev.domOn (192 + i) = true ∧ s.dev.rehydrating (192 + i) = false

/-- What staging leaves alone: the values in force, the values staged for other registers, the clock, the queue, the memories and the
channels. -/
def stageFrame (s t : State) (but : List Nat) : Prop :=
  devOnly s t ∧ memSame s t ∧ t.dev.force = s.dev.force ∧ t.dev.ocs = s.dev.ocs ∧ t.dev.ics = s.dev.ics ∧ regsSame s t but ∧
  (∀ x, x.off ∉ but → (x ∈ t.dev.staged ↔ x ∈ s.dev.staged))

/-- Writes of staged registers (R158, R159, R197): the register reads the value from now on, it waits as the only one staged for that
register, PENDING reads 1, and nothing comes into force. The low half of a two-register value waits for its high half. A staged value
comes into force on the tick after its writing when the engine of its channel is still on that tick, which is what `go` holds (R158,
R197). -/
def Obligations.StagedValues : Prop :=
  (∀ (oc : OcId) (v : W32) (s : State), ocOpen oc s →
    completes (.tsStagedWrite oc .cphase v) s fun t =>
      t.dev.reg (TS_CPHASE.off oc) = v ∧ (∀ x, x ∈ t.dev.staged ∧ x.off = TS_CPHASE.off oc ↔ x = ⟨oc, TS_CPHASE.off oc, v, s.dev.tk, none⟩) ∧
      t.dev.fget (TS_STAT.PENDING oc) = 1 ∧ stageFrame s t [TS_CPHASE.off oc, TS_STAT.off oc]) ∧
  (∀ (oc : OcId) (v : W32) (s : State), ocOpen oc s →
    completes (.tsStagedWrite oc .cfg v) s fun t =>
      t.dev.fget (TS_CFG.SCALE oc) = (TS_CFG.SCALE oc).of v ∧
      t.dev.fget (TS_CFG.CLIP_TAINT oc) = s.dev.fget (TS_CFG.CLIP_TAINT oc) ∧
      t.dev.fget (TS_STAT.PENDING oc) = 1 ∧ stageFrame s t [TS_CFG.off oc, TS_STAT.off oc]) ∧
  (∀ (oc : OcId) (k : Fin 32) (v : W32) (s : State), ocOpen oc s →
    completes (.tsStagedWrite oc (.eq k) v) s fun t =>
      t.dev.fget (TS_EQ.COEF oc k) = (TS_EQ.COEF oc k).of v ∧
      t.dev.fget (TS_STAT.PENDING oc) = 1 ∧ stageFrame s t [TS_EQ.off oc k, TS_STAT.off oc]) ∧
  (∀ (oc : OcId) (v : W32) (s : State), ocOpen oc s →
    completes (.carrierLoWrite oc v) s fun t =>
      t.dev.reg (TS_CARRIER_LO.off oc) = v ∧ TS_CARRIER_LO.off oc ∈ t.dev.loWrites ∧ t.dev.staged = s.dev.staged ∧
      stageFrame s t [TS_CARRIER_LO.off oc]) ∧
  (∀ (oc : OcId) (v : W32) (s : State), ocOpen oc s →
    completes (.carrierHiWrite oc v) s fun t =>
      let l := if TS_CARRIER_LO.off oc ∈ s.dev.loWrites then s.dev.reg (TS_CARRIER_LO.off oc) else s.dev.inForce (TS_CARRIER_LO.off oc)
      t.dev.fget (TS_CARRIER_HI.CAR_HI oc) = (TS_CARRIER_HI.CAR_HI oc).of v ∧ t.dev.reg (TS_CARRIER_LO.off oc) = l ∧
      (∀ x, x ∈ t.dev.staged ∧ x.off = TS_CARRIER_LO.off oc ↔ x = ⟨oc, TS_CARRIER_LO.off oc, l, s.dev.tk, none⟩) ∧
      t.dev.fget (TS_STAT.PENDING oc) = 1 ∧
      stageFrame s t [TS_CARRIER_LO.off oc, TS_CARRIER_HI.off oc, TS_STAT.off oc]) ∧
  (∀ (ic : IcId) (k : Fin 16) (v : W32) (s : State), icOpen ic s →
    completes (.dtStagedWrite ic (.phase k) v) s fun t =>
      t.dev.reg (DT_PHASE.off ic k) = v ∧ t.dev.fget (IC_STATUS.PENDING ic) = 1 ∧
      (∀ x, x ∈ t.dev.staged ∧ x.off = DT_PHASE.off ic k ↔ x = ⟨192 + ic.val, DT_PHASE.off ic k, v, s.dev.tk, none⟩) ∧
      stageFrame s t [DT_PHASE.off ic k, IC_STATUS.off ic]) ∧
  (∀ (ic : IcId) (k : Fin 16) (v : W32) (s : State), icOpen ic s →
    completes (.dtStagedWrite ic (.freqLo k) v) s fun t =>
      t.dev.reg (DT_FREQ_LO.off ic k) = v ∧ t.dev.staged = s.dev.staged ∧ stageFrame s t [DT_FREQ_LO.off ic k]) ∧
  (∀ (oc : OcId) (x : Staged) (s : State), x.go = some true → x ∈ s.dev.staged → x.unit = oc → x.at_ < s.dev.tk →
    (∀ y, y ∈ s.dev.staged → y.off = x.off → y = x) →
    completes (.stagedValueCommit (.oc oc)) s fun t =>
      t.dev.inForce x.off = x.val ∧ x ∉ t.dev.staged ∧
      (∀ y, y ∈ s.dev.staged → y.unit ≠ oc → y ∈ t.dev.staged) ∧ devOnly s t ∧ memSame s t ∧ t.dev.ocs = s.dev.ocs ∧
      (∀ off, (∀ y, y ∈ s.dev.staged → y.unit = oc → y.off ≠ off) → t.dev.inForce off = s.dev.inForce off) ∧
      regsSame s t [TS_STAT.off oc]) ∧
  (∀ (ic : IcId) (x : Staged) (s : State), x.go = some true → x ∈ s.dev.staged → x.unit = icUnit ic →
    x.at_ < s.dev.tk → (∀ y, y ∈ s.dev.staged → y.off = x.off → y = x) →
    completes (.stagedValueCommit (.ic ic)) s fun t =>
      t.dev.inForce x.off = x.val ∧ x ∉ t.dev.staged ∧ devOnly s t ∧ memSame s t ∧ t.dev.ics = s.dev.ics ∧
      regsSame s t [IC_STATUS.off ic])

/-- The bytes among the `n` from `a` on that DMA has written on this tick (R340). -/
def dmaWithin (s : State) (a n : Nat) : List (Nat × Byte) := s.dev.dmaTick.filter fun e => !decide (e.1 < a ∨ a + n ≤ e.1)

/-- A shape-library write and a weight write reach their memory on the next tick (R149, R208), what DMA wrote to the same bytes on
this tick behind it (R340): nothing reads differently now. A range change is accepted on a muted channel alone (R169 to R171): it
mutes for 256 tk with M_SETTLE, and SETTLE_END unmutes; on a channel that is not muted GAIN stays and RANGE_BUSY is set. -/
def Obligations.LateWritesAndRanges : Prop :=
  (∀ (q : QuarterId) (off : Fin 0x40000) (bytes : List Byte) (s : State), off.val + bytes.length ≤ 0x40000 →
    completes (.shapeLibraryWrite q off bytes) s fun t =>
      t.dev.lateMem = s.dev.lateMem ++
        (List.range bytes.length).zipWith (fun i b => (bar2Base + 0x4000000 + 0x40000 * q.val + off.val + i, b)) bytes ++
        dmaWithin s (bar2Base + 0x4000000 + 0x40000 * q.val + off.val) bytes.length ∧
      devOnly s t ∧ memSame s t ∧ regsSame s t []) ∧
  (∀ (ic : IcId) (off : Fin 0x10000) (bytes : List Byte) (s : State), icOpen ic s → off.val + bytes.length ≤ 0x10000 →
    completes (.weightWrite ic off bytes) s fun t =>
      t.dev.lateMem = s.dev.lateMem ++
        (List.range bytes.length).zipWith (fun i b => (weightBase ic.val + off.val + i, b)) bytes ++
        dmaWithin s (weightBase ic.val + off.val) bytes.length ∧
      devOnly s t ∧ memSame s t ∧ regsSame s t []) ∧
  (∀ (oc : OcId) (v : W32) (s : State), ocOpen oc s → ocQuiet oc s → s.dev.fget (OC_STATUS.MUTED oc) = 1 → (OC_CFG.SRST oc).of v = 0 →
    (OC_CFG.GAIN oc).of v ≠ s.dev.fget (OC_CFG.GAIN oc) →
    completes (.rangeChange oc v) s fun t =>
      t.dev.fget (OC_CFG.GAIN oc) = (OC_CFG.GAIN oc).of v ∧ t.dev.fget (OC_STATUS.M_SETTLE oc) = 1 ∧
      t.dev.fget (OC_STATUS.MUTED oc) = 1 ∧ (t.dev.oc oc).settle = some (s.dev.tk + 256) ∧ t.dev.eng oc = s.dev.eng oc ∧
      devOnly s t ∧ memSame s t ∧ ocsSame s t oc ∧ regsSame s t [OC_CFG.off oc, OC_STATUS.off oc]) ∧
  (∀ (oc : OcId) (v : W32) (s : State), ocOpen oc s → ocQuiet oc s → s.dev.fget (OC_STATUS.MUTED oc) = 0 → (OC_CFG.SRST oc).of v = 0 →
    (OC_CFG.GAIN oc).of v ≠ s.dev.fget (OC_CFG.GAIN oc) →
    completes (.rangeChange oc v) s fun t =>
      t.dev.fget (OC_CFG.GAIN oc) = s.dev.fget (OC_CFG.GAIN oc) ∧ t.dev.fget (OC_ERR.RANGE_BUSY oc) = 1 ∧
      t.dev.ocs = s.dev.ocs ∧ devOnly s t ∧ memSame s t ∧ regsSameEv s t [OC_CFG.off oc, OC_ERR.off oc]) ∧
  (∀ (oc : OcId) (k : Nat) (s : State), (s.dev.oc oc).settle = some k → k ≤ s.dev.tk →
    completes (.settleEnd oc) s fun t =>
      t.dev.fget (OC_STATUS.M_SETTLE oc) = 0 ∧ (t.dev.oc oc).settle = none ∧
      (t.dev.fget (OC_STATUS.MUTED oc) = 1 ↔ s.dev.fget (OC_STATUS.M_SHORT oc) ≠ 0 ∨ s.dev.fget (OC_STATUS.M_MODE oc) ≠ 0 ∨
        s.dev.fget (OC_STATUS.M_LOAD oc) ≠ 0 ∨ s.dev.fget (OC_STATUS.M_NOLOAD oc) ≠ 0) ∧
      devOnly s t ∧ memSame s t ∧ ocsSame s t oc ∧ regsSame s t [OC_STATUS.off oc])

/-- Loads and strobes (R170, R172, R174, R175): a load is staged and leaves the one in force, but for one staged on an earlier tick
that a strobe still to come on this tick commits first; a timeline strobe on its tick counts, disarms a one-shot, and brings the
staged load of a channel of its group into force; NOW strobes on the next tick; a one-shot armed too late is dropped with LATE. Queue
mode (R178 to R180): EN under its conditions, START waits for a strobe, STOP clears RUN on the next tick, WR moves within the free
words; and a leg-current limit that acts sets SHORT and taints the shot (R186, R187). -/
def Obligations.LoadsStrobesQueues : Prop :=
  (∀ (oc : OcId) (v : W32) (w : Nat) (s : State), ocOpen oc s → (s.dev.oc oc).loadAt = some w → w < s.dev.tk →
    s.dev.fget (OC_STATUS.M_SETTLE oc) = 0 → s.dev.strobeDue (s.dev.fget (OC_CFG.GROUP oc)) s.clk.now.toNat = true →
    completes (.loadStage oc v) s fun t =>
      t.dev.reg (OC_INFORCE.off oc) = s.dev.reg (OC_LOAD.off oc) ∧ t.dev.fget (OC_LOAD.MUTE oc) = (OC_LOAD.MUTE oc).of v ∧
      t.dev.fget (OC_STATUS.LOAD_PEND oc) = 1 ∧ (t.dev.oc oc).loadAt = some s.dev.tk ∧ t.dev.eng oc = s.dev.eng oc ∧
      devOnly s t ∧ memSame s t ∧ ocsSame s t oc ∧ regsSame s t [OC_LOAD.off oc, OC_INFORCE.off oc, OC_STATUS.off oc]) ∧
  (∀ (oc : OcId) (v : W32) (s : State), ocOpen oc s → ocQuiet oc s →
    completes (.loadStage oc v) s fun t =>
      t.dev.fget (OC_LOAD.MUTE oc) = (OC_LOAD.MUTE oc).of v ∧ t.dev.fget (OC_LOAD.TRIM_TK oc) = (OC_LOAD.TRIM_TK oc).of v ∧
      t.dev.fget (OC_STATUS.LOAD_PEND oc) = 1 ∧ (t.dev.oc oc).loadAt = some s.dev.tk ∧ t.dev.eng oc = s.dev.eng oc ∧
      devOnly s t ∧ memSame s t ∧ ocsSame s t oc ∧ regsSame s t [OC_LOAD.off oc, OC_STATUS.off oc]) ∧
  (∀ (g : Fin 16) (v : W32) (s : State), (GS_CTL.NOW g).of v = 1 → (GS_CTL.ARM g).of v = 0 →
    completes (.strobeNow g v) s fun t =>
      g.val ∈ t.dev.gsSoon ∧ t.dev.fget (GS_CTL.COUNT g) = s.dev.fget (GS_CTL.COUNT g) ∧ t.dev.ocs = s.dev.ocs ∧
      devOnly s t ∧ memSame s t ∧ regsSame s t [GS_CTL.off g]) ∧
  (∀ (g : Fin 16) (v : W32) (s : State), s.timed = true → s.dev.fget (GS_CTL.ARM g) = 0 → (GS_CTL.ARM g).of v = 1 →
    s.dev.fget (GS_PER.PER g) = 0 →
    completes (.strobeArm g v) s fun t =>
      (s.clk.now.toNat + 64 ≤ s.dev.gsAt g → t.dev.fget (GS_CTL.ARM g) = 1 ∧ tget none t.dev.gsNext g = some (s.dev.gsAt g)) ∧
      (s.dev.gsAt g < s.clk.now.toNat + 64 →
        t.dev.fget (GS_CTL.ARM g) = 0 ∧ t.dev.fget (GS_CTL.LATE g) = 1 ∧ tget none t.dev.gsNext g = none) ∧
      t.dev.ocs = s.dev.ocs ∧ devOnly s t ∧ memSame s t ∧ regsSame s t [GS_CTL.off g]) ∧
  (∀ (g : Fin 16) (a : Nat) (s : State), tget none s.dev.gsNext g = some a → a ≤ s.clk.now.toNat → s.dev.fget (GS_CTL.ARM g) = 1 →
    g.val ∉ s.dev.gsDone →
    completes (.timelineStrobe g) s fun t =>
      t.dev.fget (GS_CTL.COUNT g) = (s.dev.fget (GS_CTL.COUNT g) + 1) % 256 ∧
      t.dev.fget (GS_CTL.ARM g) = (if s.dev.fget (GS_PER.PER g) = 0 then 0 else 1) ∧
      tget none t.dev.gsNext g = (if s.dev.fget (GS_PER.PER g) = 0 then none else some (a + s.dev.fget (GS_PER.PER g))) ∧
      devOnly s t ∧ memSame s t ∧
      ∀ (oc : OcId) (w : Nat), s.dev.fget (OC_CFG.GROUP oc) = g → (s.dev.oc oc).loadAt = some w → w < s.dev.tk →
        s.dev.fget (OC_STATUS.M_SETTLE oc) = 0 →
        t.dev.reg (OC_INFORCE.off oc) = s.dev.reg (OC_LOAD.off oc) ∧ t.dev.fget (OC_STATUS.LOAD_PEND oc) = 0 ∧
        t.dev.fget (OC_STATUS.M_LOAD oc) = (OC_LOAD.MUTE oc).of (s.dev.reg (OC_LOAD.off oc))) ∧
  (∀ (oc : OcId) (v : W32) (s : State), ocOpen oc s → s.dev.fget (OC_QCTL.EN oc) = 0 → (OC_QCTL.EN oc).of v = 1 →
    (OC_QCTL.START oc).of v = 0 → (OC_QCTL.STOP oc).of v = 0 → (s.dev.eng oc).mode = .idle → s.dev.segsInUse oc = [] →
    (s.dev.ocMode oc).queues = true → s.dev.queueChannels.length < 16 →
    completes (.queueEnable oc v) s fun t =>
      t.dev.fget (OC_QCTL.EN oc) = 1 ∧ t.dev.fget (OC_STATUS.QACTIVE oc) = 1 ∧
      onlyRegs s t [OC_QCTL.off oc, OC_STATUS.off oc]) ∧
  (∀ (oc : OcId) (v : W32) (s : State), ocOpen oc s → s.dev.fget (OC_QCTL.EN oc) = 1 → (OC_QCTL.EN oc).of v = 0 →
    (OC_QCTL.START oc).of v = 0 → (OC_QCTL.STOP oc).of v = 0 →
    completes (.queueEnable oc v) s fun t =>
      t.dev.fget (OC_QCTL.EN oc) = 0 ∧ t.dev.fget (OC_QCTL.RUN oc) = 0 ∧ t.dev.fget (OC_STATUS.QACTIVE oc) = 0 ∧
      devOnly s t ∧ memSame s t ∧ ocsSame s t oc ∧ regsSame s t [OC_QCTL.off oc, OC_STATUS.off oc]) ∧
  (∀ (oc : OcId) (v : W32) (s : State), ocOpen oc s → s.dev.fget (OC_QCTL.EN oc) = 1 → (OC_QCTL.EN oc).of v = 1 →
    (OC_QCTL.START oc).of v = 1 → (OC_QCTL.STOP oc).of v = 0 → s.dev.fget (OC_QCTL.RUN oc) = 0 →
    completes (.queueStart oc v) s fun t =>
      (t.dev.oc oc).queueArm = some s.dev.tk ∧ t.dev.eng oc = s.dev.eng oc ∧ devOnly s t ∧ memSame s t ∧ ocsSame s t oc ∧
      regsSame s t []) ∧
  (∀ (oc : OcId) (v : W32) (s : State), ocOpen oc s → s.dev.fget (OC_QCTL.EN oc) = 1 → (OC_QCTL.EN oc).of v = 1 →
    (OC_QCTL.START oc).of v = 0 → (OC_QCTL.STOP oc).of v = 1 →
    completes (.queueStop oc v) s fun t =>
      (t.dev.oc oc).queueArm = none ∧ (OC_QCTL.RUN oc, 0) ∈ t.dev.lateRegs ∧ devOnly s t ∧ memSame s t ∧ ocsSame s t oc ∧
      regsSame s t []) ∧
  (∀ (oc : OcId) (v : W32) (s : State), ocOpen oc s →
    completes (.queueWrWrite oc v) s fun t =>
      let wr := s.dev.fget (OC_QPTR.WR oc)
      let free := 65535 - (wr + 65536 - s.dev.fget (OC_QPTR.RD oc)) % 65536
      let step := ((OC_QPTR.WR oc).of v + 65536 - wr) % 65536
      (step ≤ free → t.dev.fget (OC_QPTR.WR oc) = (OC_QPTR.WR oc).of v ∧ onlyRegs s t [OC_QPTR.off oc]) ∧
      (free < step → t.dev.fget (OC_ERR.QOVER oc) = 1 ∧ t.dev.fget (OC_QPTR.WR oc) = wr ∧ onlyRegsEv s t [OC_ERR.off oc])) ∧
  (∀ (oc : OcId) (s : State), s.dev.domOn oc = true →
    completes (.shortDetect oc) s fun t =>
      t.dev.fget (OC_ERR.SHORT oc) = 1 ∧ tainted s t ∧ (t.dev.oc oc).shortTk = some s.dev.tk ∧
      (s.dev.fget (OC_CFG.SC_MUTE oc) = 1 →
        t.dev.fget (OC_STATUS.M_SHORT oc) = 1 ∧ t.dev.fget (OC_STATUS.MUTED oc) = 1) ∧
      devOnly s t ∧ memSame s t ∧ ocsSame s t oc ∧ regsSameEv s t [OC_ERR.off oc, OC_CNT.off oc, OC_STATUS.off oc])

/-! ### Read-out chains (chapter 06) -/

/-- The capture engine of channel `i` may read a word now, and that word is `w`, one that does not execute as IDLE (R200, R201, R203). -/
def ceReads (i : Nat) (s : State) (w : CapWord) : Prop :=
  s.dev.ceMayRead i s.clk.now.toNat = true ∧ w = s.dev.capWord i (s.dev.ic i).pos ∧ s.dev.capBad i w = none

/-- The engine goes on to the next word with its cursor moved by `adv`. -/
def ceOn (i adv : Nat) (s t : State) : Prop :=
  (t.dev.ic i).pos = ((s.dev.ic i).pos + 1) % 1024 ∧ (t.dev.ic i).cursor = (s.dev.ic i).cursor + adv ∧
  (t.dev.ic i).reads = (s.dev.ic i).reads + 1

/-- What a capture word leaves alone. -/
def ceFrame (i : Nat) (s t : State) : Prop := devOnly s t ∧ memSame s t ∧ icsSame s t i ∧ t.dev.ocs = s.dev.ocs ∧ regsSame s t []

/-- Capture words (Table 06-4, R199, R202, R204, R205). PRIME, start, HALT and soft reset of a capture engine (R200, R204). -/
def Obligations.CaptureEngine : Prop :=
  (∀ (ic : IcId) (w : CapWord) (s : State), ceReads ic s w → w.op = capWindow → (s.dev.dt ic w.dt).queue.length < 4 →
    (s.dev.dt ic w.dt).lastEnd ≤ (s.dev.ic ic).cursor →
    completes (.window ic) s fun t =>
      (t.dev.dt ic w.dt).queue = (s.dev.dt ic w.dt).queue ++
        [{ ts := (s.dev.ic ic).cursor, len := w.lenm1 + 1, wbase := w.wbase,
           probe := if w.probeEn then some w.probe else none, enter := s.clk.now.toNat }] ∧
      (t.dev.dt ic w.dt).lastEnd = (s.dev.ic ic).cursor + w.lenm1 + 1 ∧ ceOn ic w.adv s t ∧ ceFrame ic s t) ∧
  (∀ (ic : IcId) (w : CapWord) (s : State), ceReads ic s w → w.op = capWindow → (s.dev.dt ic w.dt).queue.length < 4 →
    (s.dev.ic ic).cursor < (s.dev.dt ic w.dt).lastEnd →
    completes (.window ic) s fun t =>
      t.dev.fget (IC_ERR.WOVERLAP ic) = 1 ∧ tainted s t ∧ t.dev.dt ic w.dt = s.dev.dt ic w.dt ∧ ceOn ic w.adv s t ∧
      devOnly s t ∧ memSame s t ∧ icsSame s t ic ∧ regsSameEv s t [IC_ERR.off ic]) ∧
  (∀ (ic : IcId) (w : CapWord) (s : State), ceReads ic s w → w.op = capIdle →
    completes (.ceIdle ic) s fun t => (∀ k, t.dev.dt ic k = s.dev.dt ic k) ∧ ceOn ic w.adv s t ∧ ceFrame ic s t) ∧
  (∀ (ic : IcId) (w : CapWord) (s : State), ceReads ic s w → w.op = capLoop →
    completes (.ceLoop ic) s fun t =>
      let r := loopCount (tget 0 (s.dev.ic ic).lc w.lc) w.count
      tget 0 (t.dev.ic ic).lc w.lc = r.1 ∧ (t.dev.ic ic).pos = (if r.2 then w.target else (s.dev.ic ic).pos + 1) % 1024 ∧
      (t.dev.ic ic).cursor = (s.dev.ic ic).cursor ∧ ceFrame ic s t) ∧
  (∀ (ic : IcId) (w : CapWord) (s : State), ceReads ic s w → w.op = capJump →
    completes (.jump ic) s fun t =>
      (t.dev.ic ic).pos = w.target % 1024 ∧ (t.dev.ic ic).cursor = (s.dev.ic ic).cursor ∧ ceFrame ic s t) ∧
  (∀ (ic : IcId) (w : CapWord) (s : State), ceReads ic s w → w.op = capShotwait →
    completes (.shotwait ic) s fun t =>
      (t.dev.ic ic).mode = .shotwait ∧ (t.dev.ic ic).waitAdv = w.adv ∧ ceOn ic 0 s t ∧ ceFrame ic s t) ∧
  (∀ (ic : IcId) (s : State), (s.dev.ic ic).mode = .shotwait → s.dev.shotTk = some s.dev.tk →
    (s.dev.ic ic).cursor ≤ s.clk.now.toNat →
    completes (.shotwaitRelease ic) s fun t =>
      (t.dev.ic ic).mode = .running ∧ (t.dev.ic ic).cursor = s.clk.now.toNat + max (s.dev.ic ic).waitAdv 8 ∧ ceFrame ic s t) ∧
  (∀ (ic : IcId) (w : CapWord) (s : State), ceReads ic s w → w.op = capEnd →
    completes (.ceEnd ic) s fun t =>
      (t.dev.ic ic).mode = (if (s.dev.ic ic).windowsDone then .ended else .ending) ∧ (∀ k, t.dev.dt ic k = s.dev.dt ic k) ∧ ceOn ic 0 s t ∧ ceFrame ic s t) ∧
  (∀ (ic : IcId) (dt : Bool) (s : State), s.dev.ceMayRead ic s.clk.now.toNat = true →
    s.dev.capBad ic (s.dev.capWord ic (s.dev.ic ic).pos) = some dt →
    completes (.badword ic) s fun t =>
      t.dev.fget (if dt then IC_ERR.BADDT ic else IC_ERR.BADWORD ic) = 1 ∧ tainted s t ∧
      ceOn ic (s.dev.capWord ic (s.dev.ic ic).pos).adv s t ∧
      devOnly s t ∧ memSame s t ∧ icsSame s t ic ∧ regsSameEv s t [IC_ERR.off ic]) ∧
  (∀ (ic : IcId) (v : W32) (s : State), icOpen ic s → (CE_CTRL.PRIME ic).of v = 1 → (CE_CTRL.HALT ic).of v = 0 →
    0 < (s.dev.icMode ic).demods → ((s.dev.ic ic).mode = .idle ∨ (s.dev.ic ic).mode = .ended) →
    completes (.cePrime ic v) s fun t =>
      (t.dev.ic ic).mode = .primed ∧ t.dev.fget (CE_CTRL.ENTRY ic) = (CE_CTRL.ENTRY ic).of v ∧
      t.dev.fget (CE_CTRL.GROUP ic) = (CE_CTRL.GROUP ic).of v ∧
      devOnly s t ∧ memSame s t ∧ icsSame s t ic ∧ regsSame s t [CE_CTRL.off ic]) ∧
  (∀ (ic : IcId) (g : Fin 16) (a : Nat) (s : State), (s.dev.ic ic).mode = .primed → (s.dev.ic ic).group = g →
    (s.dev.ic ic).startAt = some a → a ≤ s.clk.now.toNat →
    completes (.ceStart g) s fun t =>
      (t.dev.ic ic).mode = .running ∧ (t.dev.ic ic).pos = (s.dev.ic ic).pos ∧ devOnly s t ∧ memSame s t ∧ regsSame s t [] ∧
      t.dev.ocs = s.dev.ocs ∧ ∀ i, (s.dev.ic i).group ≠ g → t.dev.ic i = s.dev.ic i) ∧
  (∀ (ic : IcId) (v : W32) (s : State), icOpen ic s → (CE_CTRL.PRIME ic).of v = 0 → (CE_CTRL.HALT ic).of v = 1 →
    completes (.ceHalt ic v) s fun t =>
      (t.dev.ic ic).mode = .idle ∧ (t.dev.ic ic).lc = [] ∧
      (∀ k, (t.dev.dt ic k).queue = []) ∧
      (∀ k w, (∃ q, (k, q) ∈ (t.dev.ic ic).dts ∧ w ∈ q.open_) ↔ (∃ q, (k, q) ∈ (s.dev.ic ic).dts ∧ w ∈ q.open_)) ∧
      devOnly s t ∧ memSame s t ∧ icsSame s t ic ∧ regsSame s t [CE_CTRL.off ic]) ∧
  (∀ (ic : IcId) (v : W32) (s : State), icOpen ic s → (IC_CFG.SRST ic).of v = 1 →
    completes (.icSoftReset ic v) s fun t =>
      (t.dev.ic ic).mode = .idle ∧
      (∀ k, (t.dev.dt ic k).queue = [] ∧ (t.dev.dt ic k).open_ = []) ∧
      (∀ k r, (∃ q, (k, q) ∈ (t.dev.ic ic).dts ∧ r ∈ q.results) ↔ (∃ q, (k, q) ∈ (s.dev.ic ic).dts ∧ r ∈ q.results)) ∧
      t.dev.reg (IC_ERR.off ic) = 0 ∧ t.dev.reg (IC_CNT0.off ic) = 0 ∧
      devOnly s t ∧ memSame s t ∧ icsSame s t ic ∧
      ∀ off, (off < IC_CFG.off ic ∨ IC_CFG.off ic + 0x10000 ≤ off) → ¬ inRill off → t.dev.reg off = s.dev.reg off)

/-- The result record (Table 06-5, R34, R209 to R214): it carries its channel and demodulator, 1 in bit 0, SAT and LATE, and from its end
tick, which a late window keeps (R206), the low bits of shot and round, TAINT and TSUS, and the settings in force, by which z is
formed, the nearest centre is its state, the lowest on a tie, and the distance to the other its confidence. -/
def Obligations.ResultRecordFields : Prop :=
  ∀ (d : Dev) (i k now : Nat) (w : Window), i < 32 → k < 16 →
    let r := (d.windowResult i k now w).1
    let f := if now ≤ w.te then d.force else d.forceAt (d.tk - (now - w.te))
    let l := d.labelAt now w.te
    let cfg := forceVal f (DT_CFG.off i k)
    let zi := clipInt 8388607 (zValue w.accI ((DT_CFG.SHIFT i k).of cfg))
    let zq := clipInt 8388607 (zValue w.accQ ((DT_CFG.SHIFT i k).of cfg))
    let dist := fun s => (zi - (centre f i k s).1) ^ 2 + (zq - (centre f i k s).2) ^ 2
    bits r.toNat 63 40 = l.shot % 2 ^ 24 ∧ bits r.toNat 39 24 = l.round % 2 ^ 16 ∧ bits r.toNat 23 19 = i ∧
    bits r.toNat 18 15 = k ∧ bitAt r.toNat 0 = true ∧ bitAt r.toNat 1 = false ∧ bitAt r.toNat 6 = l.taint ∧
    bitAt r.toNat 5 = l.tsus ∧ bitAt r.toNat 4 = w.sat ∧ bitAt r.toNat 3 = w.late ∧
    (now ≤ w.te → l.shot = d.shot.toNat ∧ l.round = d.round.toNat ∧ l.taint = d.taint ∧ l.tsus = d.bit TML_STATUS.TSUS) ∧
    ((DT_CFG.LEAK_EN i k).of cfg = 0 →
      bits r.toNat 14 13 = (if dist 0 ≤ dist 1 then 0 else 1) ∧
      bits r.toNat 12 7 = (if w.te ≤ w.openAt ∨ (w.sat = true ∧ d.bit (IC_CFG.SAT_CONF i) = true) then 0
        else min 63 ((dist 0 - dist 1).natAbs / 2 ^ (DT_CFG.CSHIFT i k).of cfg)))

/-- A window opens on its tick, and late when it entered its queue less than 2 tk before (R206); at its end tick its result is formed
and waits D_R for its emission (R205, R215). Results and the result buffer (R215 to R220, R571): a record is emitted to the collector
and to the buffer, where it takes the next place and WR advances; a read at RD with AUTORD advances RD; a write of the buffer changes
nothing. -/
def Obligations.WindowsAndResults : Prop :=
  (∀ (ic : IcId) (dt : DtId) (w : Window) (ws : List Window) (s : State), (s.dev.dt ic dt).queue = w :: ws →
    w.openAt ≤ s.clk.now.toNat →
    completes (.windowOpen ic dt) s fun t =>
      (t.dev.dt ic dt).queue = ws ∧ (t.dev.dt ic dt).open_ = (s.dev.dt ic dt).open_ ++ [w] ∧
      (w.late = true → t.dev.fget (IC_ERR.WLATE ic) = 1 ∧
        t.dev.fget (IC_CNT1.LATE_WIN ic) = min 65535 (s.dev.fget (IC_CNT1.LATE_WIN ic) + 1)) ∧
      (w.late = false → regsSame s t []) ∧
      devOnly s t ∧ memSame s t ∧ icsSame s t ic ∧ regsSameEv s t [IC_ERR.off ic, IC_CNT1.off ic]) ∧
  (∀ (ic : IcId) (dt : DtId) (w : Window) (ws : List Window) (s : State), (s.dev.dt ic dt).open_ = w :: ws →
    w.doneAt ≤ s.clk.now.toNat →
    completes (.windowEnd ic dt) s fun t =>
      let r := s.dev.windowResult ic dt s.clk.now.toNat w
      (t.dev.dt ic dt).open_ = ws ∧
      (t.dev.dt ic dt).results = (s.dev.dt ic dt).results ++ [⟨w.doneAt + (s.dev.icMode ic).readDelay, r.1⟩] ∧
      (r.2 = true → t.dev.fget (IC_ERR.ZCLIP ic) = 1) ∧
      (t.dev.ic ic).mode = (if (s.dev.ic ic).mode = .ending ∧ (t.dev.ic ic).windowsDone then .ended else (s.dev.ic ic).mode) ∧
      devOnly s t ∧ memSame s t ∧ icsSame s t ic ∧ regsSameEv s t [IC_ERR.off ic]) ∧
  (∀ (ic : IcId) (dt : DtId) (r : ResultWait) (rs : List ResultWait) (s : State), (s.dev.dt ic dt).results = r :: rs →
    r.emit ≤ s.clk.now.toNat → 
    (∀ x, x ∈ (s.dev.ic ic).dts → x.1 < dt → ∀ y, x.2.results.head? = some y → s.clk.now.toNat < y.emit) →
    (∀ c, c ∈ s.dev.colWait → c.ic ≠ ic ∨ c.dt ≠ dt) → s.dev.rbUnread ic < 65536 →
    completes (.resultEmit ic dt) s fun t =>
      (t.dev.dt ic dt).results = rs ∧ (∀ c, c ∈ t.dev.colWait ↔ c = ⟨s.dev.tk, ic, dt, r.word⟩ ∨ c ∈ s.dev.colWait) ∧
      t.dev.rdLe (resultBase ic.val + 8 * (s.dev.fget (IC_RB_WR.WR ic) % 65536)) 8 = r.word.toNat ∧
      t.dev.fget (IC_RB_WR.WR ic) = (s.dev.fget (IC_RB_WR.WR ic) + 1) % 131072 ∧ devOnly s t ∧
      memOutside s t (resultBase ic.val + 8 * (s.dev.fget (IC_RB_WR.WR ic) % 65536)) 8 ∧ icsSame s t ic ∧
      regsSameEv s t [IC_RB_WR.off ic, IC_STATUS.off ic]) ∧
  (∀ (ic : IcId) (off : Fin 0x80000) (len : Nat) (s : State), s.dev.domOn (192 + ic.val) = true → off.val + len ≤ 0x80000 →
    completes (.resultBufferRead ic off len) s fun t =>
      t.dev.rdata = s.dev.rdBytes (resultBase ic.val + off.val) len ∧
      (s.dev.fget (IC_RB_CFG.AUTORD ic) = 1 → off.val = 8 * (s.dev.fget (IC_RB_RD.RD ic) % 65536) →
        t.dev.fget (IC_RB_RD.RD ic) = (s.dev.fget (IC_RB_RD.RD ic) + min (len / 8) (s.dev.rbUnread ic)) % 131072) ∧
      (s.dev.fget (IC_RB_CFG.AUTORD ic) = 0 → regsSame s t []) ∧
      devOnly s t ∧ memSame s t ∧ t.dev.ics = s.dev.ics ∧ regsSameEv s t [IC_RB_RD.off ic, IC_STATUS.off ic]) ∧
  (∀ (ic : IcId) (off : Fin 0x80000) (bytes : List Byte) (s : State), icOpen ic s →
    completes (.resultBufferWriteDrop ic off bytes) s fun t => t = s) ∧
  (∀ (ic : IcId) (v : W32) (s : State), icOpen ic s →
    (s.dev.fget (IC_RB_WR.WR ic) + 131072 - (IC_RB_RD.RD ic).of v) % 131072 ≤ 65536 →
    completes (.rbRdWrite ic v) s fun t =>
      t.dev.fget (IC_RB_RD.RD ic) = (IC_RB_RD.RD ic).of v ∧ onlyRegsEv s t [IC_RB_RD.off ic, IC_STATUS.off ic]) ∧
  (∀ (ic : IcId) (v : W32) (s : State), icOpen ic s →
    65536 < (s.dev.fget (IC_RB_WR.WR ic) + 131072 - (IC_RB_RD.RD ic).of v) % 131072 →
    completes (.rbRdWrite ic v) s fun t =>
      t.dev.fget (IC_RB_RD.RD ic) = s.dev.fget (IC_RB_RD.RD ic) ∧ t.dev.fget (IC_ERR.RB_PTR ic) = 1 ∧
      onlyRegsEv s t [IC_ERR.off ic])

/-! ### The sluice (chapter 07) -/

/-- The first event in transit that has reached a sink chosen by `is` is `x` (R228). -/
def arrives (is : SluSink → Bool) (s : State) (x : Transit) : Prop :=
  s.dev.transit.find? (fun t => decide (t.due ≤ s.dev.tk) && is t.sink) = some x

/-- R230, R116 and R120: an event that reaches a LATCH-mode condition input sets its value and FRESH; a doubtful one is dropped, or
delivers 0, 1 or its value as DOUBT says. One for which the condition of a WAIT on this input is true, from c − BRANCH_LEAD to c + DUR,
is to resume the WAIT and is consumed. -/
def Obligations.ConditionInputs : Prop :=
  ∀ (oc : OcId) (ci : Fin 16) (sel : W32) (x : Transit) (s : State),
    arrives (fun k => match k with | .ci n j _ => n == oc.val && j == ci.val | _ => false) s x → x.sink = .ci oc ci sel →
    s.dev.domOn oc = true → bitAt (s.dev.fget (SE_CICFG.PULSE oc)) ci = false →
    (∀ w ∈ (s.dev.eng oc).wait, w.cond < 32) →
    completes (.conditionEvent oc ci) s fun t =>
      t.dev.transit = s.dev.transit.erase x ∧ devOnly s t ∧ memSame s t ∧ ocsSame s t oc ∧
      match ciValue sel x.word with
      | none => t.dev.fget SLU_CNT0.DOUBT_DROP = min SLU_CNT0.DOUBT_DROP.max (s.dev.fget SLU_CNT0.DOUBT_DROP + 1) ∧
          t.dev.ocs = s.dev.ocs ∧ regsSame s t [SLU_CNT0.off]
      | some v =>
          let now := s.clk.now.toNat
          let hits := fun (w : WaitSt) => w.cond % 16 = ci ∧ w.hit = none ∧ w.c ≤ now + s.dev.lead oc ∧ now ≤ w.c + w.dur ∧
            v ≠ bitAt w.cond 4
          (tget {} (t.dev.eng oc).ci ci).value = v ∧ (tget {} (t.dev.eng oc).ci ci).at_ = now ∧
          (∀ w, (s.dev.eng oc).wait = some w → hits w →
            (t.dev.eng oc).wait = some { w with hit := some now } ∧ (tget {} (t.dev.eng oc).ci ci).fresh = false) ∧
          ((∀ w, (s.dev.eng oc).wait = some w → ¬ hits w) →
            (t.dev.eng oc).wait = (s.dev.eng oc).wait ∧ (tget {} (t.dev.eng oc).ci ci).fresh = true) ∧
          t.dev.fget (SE_CNT1.OVERWRITES oc) =
            (if (tget {} (s.dev.eng oc).ci ci).fresh then min 255 (s.dev.fget (SE_CNT1.OVERWRITES oc) + 1)
             else s.dev.fget (SE_CNT1.OVERWRITES oc)) ∧
          (∀ j, j ≠ ci.val → tget {} (t.dev.eng oc).ci j = tget {} (s.dev.eng oc).ci j) ∧ regsSame s t [SE_CNT1.off oc]

/-- Records travel (R223, R225, R229, R238): the collector takes up to 64 a tick, and each reaches every condition input that selects
its source 11 tk later; a forwarded event joins the decision queue of its port; a received result enters the intake; a received frame
update starts its transit; a reserved KIND is counted and dropped (R237). A frame update that arrives XORs its X and Z bits into its
tone's Pauli frame (R126, R234); a routing write takes effect from the next intake tick, or is refused when its source is reserved
(R231). -/
def Obligations.SluiceAndFrames : Prop :=
  (∀ s : State, s.dev.colTaken ≠ some s.dev.tk → s.dev.sluOn = true →
    completes .collectorTake s fun t =>
      t.dev.colTaken = some s.dev.tk ∧ t.dev.colWait = s.dev.colWait.drop 64 ∧
      (∀ c, c ∈ s.dev.colWait.take 64 → ∀ x, x ∈ s.dev.ciSelected (16 * c.ic + c.dt) →
        ⟨s.dev.tk + 11, 0, .ci (x.1 / 16) (x.1 % 16) x.2, c.word⟩ ∈ t.dev.transit) ∧
      (∀ x, x ∈ s.dev.transit → x ∈ t.dev.transit) ∧
      devOnly s t ∧ memSame s t ∧ t.dev.ocs = s.dev.ocs ∧ t.dev.ics = s.dev.ics ∧ regsSame s t [SLU_WAIT.off]) ∧
  (∀ (p : PortId) (m : BitVec 96) (x : Transit) (s : State),
    arrives (fun k => match k with | .link q _ => q == p.val | _ => false) s x → x.sink = .link p m → s.dev.portUp p = true →
    (tget [] s.dev.decq p).length < 128 →
    completes (.linkQueueEntry p) s fun t =>
      tget [] t.dev.decq p = tget [] s.dev.decq p ++ [m] ∧ t.dev.transit = s.dev.transit.erase x ∧
      (∀ q, q ≠ p.val → tget [] t.dev.decq q = tget [] s.dev.decq q) ∧ devOnly s t ∧ memSame s t ∧ regsSame s t []) ∧
  (∀ (p : PortId) (msg : BitVec 96) (s : State), s.dev.sluOn = true → bits msg.toNat 85 84 = 0 →
    completes (.receiveKind0Result p msg) s fun t =>
      (∀ x, x ∈ s.dev.ciSelected (1024 + bits msg.toNat 95 86) →
        ⟨s.dev.tk + 11, 12288 + p.val, .ci (x.1 / 16) (x.1 % 16) x.2, BitVec.ofNat 64 msg.toNat⟩ ∈ t.dev.transit) ∧
      (∀ x, x ∈ s.dev.transit → x ∈ t.dev.transit) ∧ devOnly s t ∧ memSame s t ∧ regsSame s t []) ∧
  (∀ (p : PortId) (msg : BitVec 96) (s : State), s.dev.sluOn = true → bits msg.toNat 85 84 = 1 → bits msg.toNat 63 56 ≤ 191 →
    completes (.receiveKind1Frame p msg) s fun t =>
      ⟨s.dev.tk + 6, 8192, .frame (BitVec.ofNat 64 msg.toNat), BitVec.ofNat 64 msg.toNat⟩ ∈ t.dev.transit ∧
      (∀ x, x ∈ s.dev.transit → x ∈ t.dev.transit) ∧ devOnly s t ∧ memSame s t ∧ regsSame s t []) ∧
  (∀ (p : PortId) (msg : BitVec 96) (s : State), s.dev.sluOn = true → 2 ≤ bits msg.toNat 85 84 →
    completes (.receiveReservedKind p msg) s fun t =>
      t.dev.fget SLU_ERR.KIND_BAD = 1 ∧
      t.dev.fget SLU_CNT0.KIND_DROP = min SLU_CNT0.KIND_DROP.max (s.dev.fget SLU_CNT0.KIND_DROP + 1) ∧
      onlyRegsEv s t [SLU_ERR.off, SLU_CNT0.off]) ∧
  (∀ (u : BitVec 64) (x : Transit) (s : State), arrives (fun k => match k with | .frame _ => true | _ => false) s x →
    x.sink = .frame u → bits u.toNat 63 56 ≤ 191 → s.dev.domOn (bits u.toNat 63 56) = true →
    bits u.toNat 55 52 < s.dev.toneCount (bits u.toNat 63 56) →
    completes .frameUpdateApply s fun t =>
      let n := bits u.toNat 63 56
      let tone := bits u.toNat 55 52
      (∀ k, k < 16 → k ≠ tone → s.dev.fget (SE_FRAME.FRAME n) / 4 ^ k % 4 = t.dev.fget (SE_FRAME.FRAME n) / 4 ^ k % 4) ∧
      t.dev.fget (SE_FRAME.FRAME n) / 4 ^ tone % 4 = Nat.xor (s.dev.fget (SE_FRAME.FRAME n) / 4 ^ tone % 4) (bits u.toNat 51 50) ∧
      t.dev.transit = s.dev.transit.erase x ∧ devOnly s t ∧ memSame s t ∧ ocsSame s t n ∧ regsSame s t [SE_FRAME.off n]) ∧
  (∀ (c : Fin 3072) (v : W32) (s : State), sluReserved ((SLU_CISEL.SRC c).of v) = false →
    completes (.routingWrite (.cisel c) v) s fun t =>
      t.dev.lateRegs = s.dev.lateRegs ++ [(⟨SLU_CISEL.off c, 31, 0⟩, (v &&& 0xFFFFC7FF#32).toNat)] ∧
      devOnly s t ∧ memSame s t ∧ regsSame s t []) ∧
  (∀ (c : Fin 3072) (v : W32) (s : State), sluReserved ((SLU_CISEL.SRC c).of v) = true →
    completes (.routingWrite (.cisel c) v) s fun t =>
      t.dev.fget SLU_ERR.ROUTE_BAD = 1 ∧ t.dev.lateRegs = s.dev.lateRegs ∧ onlyRegsEv s t [SLU_ERR.off])

/-! ### The sieve (chapter 08) -/

/-- Rounds fill and close (R32, R33, R246, R253 to R257, R271): a declared round boundary advances the round counter, but for one on
the tick of a shot boundary; a record of an open round of the shot in flight counts for its detector; OPEN and DONE messages from a
neighbour count; a round closes on its timeout, with MISSING where something had not come. Decodes (R258, R261, R263, R266 to R269,
R272): a tile takes the oldest closed round; a decode that completes commits, empties its window when final, and lets the oldest
round go when the window is full; up to 8 outputs leave a tick, then condition outputs and DONE messages; a received FLIP puts its
label's frame update before the outputs of the decodes (the place among them is the model's reading, assumption 58). -/
def Obligations.SieveRoundsAndDecodes : Prop :=
  (∀ s : State, s.dev.round.toNat < s.dev.sieve.count →
    s.dev.sieve.base + s.dev.sieve.first + s.dev.round.toNat * s.dev.sieve.period ≤ s.dev.tk →
    s.dev.shotTick s.clk.now.toNat = false →
    completes .roundBoundary s fun t =>
      t.dev.round = s.dev.round + 1 ∧ t.dev.shot = s.dev.shot ∧ devOnly s t ∧ memSame s t ∧ t.dev.ocs = s.dev.ocs ∧
      (s.dev.svOn = false → regsSame s t [])) ∧
  (∀ s : State, s.dev.shotTick s.clk.now.toNat = true → completes .roundBoundary s fun t => t = s) ∧
  (∀ (src : Nat) (x : Transit) (s : State), arrives (fun k => match k with | .sieve _ => true | _ => false) s x →
    x.sink = .sieve src → s.dev.svOn = true → s.dev.fget (SV_MAP.EN src) = 1 → s.dev.fget (SV_MAP.DIFF src) = 0 →
    s.dev.fget (SV_G_CTL.EN (s.dev.fget (SV_MAP.GRAPH src))) = 1 → 1 ≤ recRound x.word → recRound x.word ≤ s.dev.sieve.count →
    recShot x.word = s.dev.shot24 → (s.dev.graph (s.dev.fget (SV_MAP.GRAPH src))).closed < recRound x.word →
    s.dev.fget (SV_MAP.DET src) ∉ ((s.dev.graph (s.dev.fget (SV_MAP.GRAPH src))).openRound (recRound x.word)).seen →
    completes .sieveRecordIntake s fun t =>
      let g := s.dev.fget (SV_MAP.GRAPH src)
      let det := s.dev.fget (SV_MAP.DET src)
      let one := recState x.word == 1 || recState x.word == 2
      (recRound x.word, det, one) ∈ (t.dev.graph g).raws ∧
      (recRound x.word ≤ (t.dev.graph g).closed ∨
        det ∈ ((t.dev.graph g).openRound (recRound x.word)).seen ∧
        (one = true → det ∈ ((t.dev.graph g).openRound (recRound x.word)).vals)) ∧
      devOnly s t ∧ memSame s t ∧ t.dev.ocs = s.dev.ocs ∧ t.dev.shot = s.dev.shot) ∧
  (∀ (g : GraphId) (s : State), s.dev.svOn = true → s.dev.fget (SV_G_CTL.EN g) = 1 →
    (s.dev.graph g).closed + 1 ≤ s.dev.roundsBegun → (s.dev.graph g).closed + 1 ≤ s.dev.sieve.count →
    s.dev.roundTimeout ((s.dev.graph g).closed + 1) ≤ s.dev.tk →
    completes (.roundCloseTimeout g) s fun t =>
      (s.dev.graph g).closed + 1 ≤ (t.dev.graph g).closed ∧
      (0 < s.dev.missingOf g ((s.dev.graph g).openRound ((s.dev.graph g).closed + 1)) true →
        t.dev.fget SV_ERR.MISSING = 1 ∧ tainted s t) ∧
      devOnly s t ∧ memSame s t ∧ t.dev.ocs = s.dev.ocs) ∧
  (∀ (p : PortId) (msg : BitVec 64) (s : State), s.dev.svOn = true → bits msg.toNat 63 62 = 0 →
    s.dev.fget (SV_HMAP.EN p (bits msg.toNat 61 58)) = 1 →
    s.dev.fget (SV_G_CTL.EN (s.dev.fget (SV_HMAP.GRAPH p (bits msg.toNat 61 58)))) = 1 →
    (s.dev.graph (s.dev.fget (SV_HMAP.GRAPH p (bits msg.toNat 61 58)))).closed < bits msg.toNat 57 42 →
    bits msg.toNat 41 18 = s.dev.shot24 →
    bits msg.toNat 17 0 / 32 + s.dev.fget (SV_HMAP.OFFSET p (bits msg.toNat 61 58)) <
      s.dev.gDets (s.dev.fget (SV_HMAP.GRAPH p (bits msg.toNat 61 58))) →
    completes (.openReceive p msg) s fun t =>
      let g := s.dev.fget (SV_HMAP.GRAPH p (bits msg.toNat 61 58))
      let r := bits msg.toNat 57 42
      (r ≤ (t.dev.graph g).closed ∨
        bits msg.toNat 17 0 / 32 + s.dev.fget (SV_HMAP.OFFSET p (bits msg.toNat 61 58)) ∈ ((t.dev.graph g).openRound r).vals ∧
        tget 0 ((t.dev.graph g).openRound r).opens (16 * p.val + bits msg.toNat 61 58) =
          tget 0 ((s.dev.graph g).openRound r).opens (16 * p.val + bits msg.toNat 61 58) + 1) ∧
      devOnly s t ∧ memSame s t ∧ t.dev.ocs = s.dev.ocs) ∧
  (∀ (p : PortId) (msg : BitVec 64) (s : State), s.dev.svOn = true → bits msg.toNat 63 62 = 1 →
    s.dev.fget (SV_HMAP.EN p (bits msg.toNat 61 58)) = 1 →
    s.dev.fget (SV_G_CTL.EN (s.dev.fget (SV_HMAP.GRAPH p (bits msg.toNat 61 58)))) = 1 →
    (s.dev.graph (s.dev.fget (SV_HMAP.GRAPH p (bits msg.toNat 61 58)))).closed < bits msg.toNat 57 42 →
    bits msg.toNat 41 18 = s.dev.shot24 →
    completes (.doneReceive p msg) s fun t =>
      let g := s.dev.fget (SV_HMAP.GRAPH p (bits msg.toNat 61 58))
      let r := bits msg.toNat 57 42
      (r ≤ (t.dev.graph g).closed ∨ (16 * p.val + bits msg.toNat 61 58, bits msg.toNat 17 0) ∈ ((t.dev.graph g).openRound r).dones) ∧
      devOnly s t ∧ memSame s t ∧ t.dev.ocs = s.dev.ocs) ∧
  (∀ (g : GraphId) (q : SvQueued) (qs : List SvQueued) (s : State), (s.dev.graph g).queue = q :: qs → (s.dev.graph g).dec = none →
    (s.dev.graph g).down = false → s.dev.svOn = true → s.dev.fget (SV_G_CTL.EN g) = 1 →
    ((s.dev.graph g).window.map (fun w => w.defs.length)).foldl (· + ·) 0 + q.round.defs.length +
      (s.dev.graph g).toggles.length ≤ 256 →
    completes (.decodeStart g) s fun t =>
      (t.dev.graph g).dec = some ⟨q.round.rho, q.round.shot, q.closeTk, q.final, false, false⟩ ∧ (t.dev.graph g).queue = qs ∧
      (t.dev.graph g).window.getLast?.map (·.rho) = some q.round.rho ∧
      devOnly s t ∧ memSame s t ∧ t.dev.ocs = s.dev.ocs ∧ regsSame s t [SV_G_STAT.off g]) ∧
  (∀ (g : GraphId) (e : SvDec) (s : State), (s.dev.graph g).dec = some e → e.committed = false →
    completes (.decodeCommit g) s fun t =>
      (∀ e', (t.dev.graph g).dec = some e' → e'.committed = true ∧ e'.hi = e.hi) ∧
      (e.final = true → (t.dev.graph g).window = []) ∧
      (e.final = false → e.hi < s.dev.gWin g → (t.dev.graph g).window.map (·.rho) = (s.dev.graph g).window.map (·.rho)) ∧
      (e.final = false → s.dev.gWin g ≤ e.hi →
        (t.dev.graph g).window.map (·.rho) =
          ((s.dev.graph g).window.map (·.rho)).filter (· != e.hi + 1 - s.dev.gWin g)) ∧
      devOnly s t ∧ memSame s t ∧ t.dev.ocs = s.dev.ocs ∧ t.dev.transit = s.dev.transit) ∧
  (∀ s : State, s.dev.sieve.outTk ≠ some s.dev.tk → s.dev.sieve.outq ≠ [] →
    completes .sieveOutputIssue s fun t =>
      t.dev.sieve.outq = s.dev.sieve.outq.drop 8 ∧ t.dev.sieve.outTk = some s.dev.tk ∧
      (∀ o, o ∈ s.dev.sieve.outq.take 8 → o.shot = s.dev.shot24 → ∀ oc tone xz, o.kind = .local_ oc tone xz →
        ⟨s.dev.tk + 6, 8192, .frame (frameUpdate oc tone xz o.shot o.rho), frameUpdate oc tone xz o.shot o.rho⟩ ∈ t.dev.transit) ∧
      devOnly s t ∧ memSame s t ∧ t.dev.ocs = s.dev.ocs) ∧
  (∀ (k : Fin 64) (o : SvoWait) (s : State), s.dev.sluOn = true →
    s.dev.sieve.svo.find? (fun o => o.k == k.val && (o.ready.map (fun t => decide (t ≤ s.dev.tk))).getD false) = some o →
    completes (.conditionOutputIssue k) s fun t =>
      let late := (s.dev.graph o.graph).dec.any fun e => !e.late && decide (s.dev.fget SV_CFG.DEADLINE < s.dev.tk - e.closeTk)
      (late = false → t.dev.sieve.svo = s.dev.sieve.svo.erase o) ∧
      (late = true → t.dev.fget SV_ERR.LATE_DEC = 1) ∧
      (∀ x, x ∈ s.dev.ciSelected (528 + k.val) → ∃ y, y ∈ t.dev.transit ∧ y.due = s.dev.tk + 11 ∧ y.ord = 8192 + k.val ∧
        y.sink = .ci (x.1 / 16) (x.1 % 16) x.2 ∧
        bitAt y.word.toNat 6 = (bitAt o.word.toNat 6 || s.dev.taint) ∧
        bitAt y.word.toNat 3 = (bitAt o.word.toNat 3 || o.late || late)) ∧
      devOnly s t ∧ memSame s t ∧ t.dev.ocs = s.dev.ocs) ∧
  (∀ (g : GraphId) (w : DoneWait) (s : State), s.dev.sieve.dones.find? (fun w => w.graph == g.val) = some w →
    completes (.doneSend g) s fun t =>
      t.dev.sieve.dones = s.dev.sieve.dones.erase w ∧
      (∀ x, x ∈ w.ports → s.dev.portUp x.1 = true → (tget [] s.dev.sieveq x.1).length + w.ports.length ≤ 256 →
        sieveMsg 1 g w.rho w.shot x.2 ∈ tget [] t.dev.sieveq x.1) ∧
      devOnly s t ∧ memSame s t ∧ t.dev.ocs = s.dev.ocs) ∧
  (∀ (p : PortId) (msg : BitVec 64) (oc tone xz : Nat) (s : State), s.dev.svOn = true → bits msg.toNat 63 62 = 2 →
    s.dev.fget (SV_G_CTL.EN (bits msg.toNat 61 58)) = 1 → bits msg.toNat 13 0 < s.dev.gLabels (bits msg.toNat 61 58) →
    entryAcc (s.dev.gEntry (bits msg.toNat 61 58) (bits msg.toNat 13 0)) = some ((0, 16 * oc + tone), (.local_ oc tone 0, xz)) →
    xz ≠ 0 →
    completes (.flipReceive p msg) s fun t =>
      t.dev.sieve.outq = s.dev.sieve.outq.takeWhile (·.graph == 16) ++
        ⟨16, .local_ oc tone xz, bits msg.toNat 41 18, bits msg.toNat 57 42⟩ :: s.dev.sieve.outq.dropWhile (·.graph == 16) ∧
      t.dev.transit = s.dev.transit ∧ devOnly s t ∧ memSame s t ∧ t.dev.ocs = s.dev.ocs ∧ regsSame s t []) ∧
  (∀ (p : PortId) (msg : BitVec 64) (s : State), s.dev.svOn = true → bits msg.toNat 63 62 = 3 →
    completes (.sieveType3Receive p msg) s fun t => t.dev.fget SV_ERR.HMAP = 1 ∧ onlyRegsEv s t [SV_ERR.off])

/-- Graphs and tiles (R244, R248, R251, R252, R273, R274): the store is reached through SV_GADDR and SV_GDATA, an enable is checked before
the graph serves, a disable frees its tile 4 tk later, the spare takes a copy in rotation, and a serving tile may fail. -/
def Obligations.GraphsAndTiles : Prop :=
  (∀ (v : W32) (s : State), s.dev.fget (SV_G_CTL.EN (s.dev.fget SV_GADDR.GRAPH)) = 0 →
    s.dev.fget (SV_G_STAT.BUSY (s.dev.fget SV_GADDR.GRAPH)) = 0 → graphListed (s.dev.fget SV_GADDR.ADDR) = true →
    completes (.graphStoreWrite v) s fun t =>
      t.dev.graphWord (s.dev.fget SV_GADDR.GRAPH) (s.dev.fget SV_GADDR.ADDR) = v.toNat ∧
      t.dev.fget SV_GADDR.ADDR = (s.dev.fget SV_GADDR.ADDR + 4) % 0x100000 ∧ devOnly s t ∧
      memOutside s t (graphBase (s.dev.fget SV_GADDR.GRAPH) + s.dev.fget SV_GADDR.ADDR) 4 ∧ regsSame s t [SV_GADDR.off]) ∧
  (∀ s : State, completes .graphStoreRead s fun t =>
    (graphListed (s.dev.fget SV_GADDR.ADDR) = true →
      t.dev.rdata = leBytes 4 (s.dev.graphWord (s.dev.fget SV_GADDR.GRAPH) (s.dev.fget SV_GADDR.ADDR))) ∧
    t.dev.fget SV_GADDR.ADDR = (s.dev.fget SV_GADDR.ADDR + 4) % 0x100000 ∧ devOnly s t ∧ memSame s t ∧ regsSame s t [SV_GADDR.off]) ∧
  (∀ (g : GraphId) (v : W32) (s : State), s.dev.fget (SV_G_CTL.EN g) = 0 → s.dev.fget (SV_G_STAT.BUSY g) = 0 →
    (SV_G_CTL.EN g).of v = 1 →
    completes (.graphEnable g v) s fun t =>
      (t.dev.graph g).check = true ∧ t.dev.fget (SV_G_STAT.BUSY g) = 1 ∧ t.dev.fget (SV_G_CTL.EN g) = 0 ∧
      t.dev.fget (SV_G_CTL.CHILDREN g) = (SV_G_CTL.CHILDREN g).of v ∧ t.dev.fget (SV_G_CTL.EXPECT g) = (SV_G_CTL.EXPECT g).of v ∧
      devOnly s t ∧ memSame s t ∧ t.dev.ocs = s.dev.ocs ∧ regsSame s t [SV_G_CTL.off g, SV_G_STAT.off g]) ∧
  (∀ (g : GraphId) (k : Nat) (s : State), (s.dev.graph g).check = true → s.dev.graphFault g = none → s.dev.freeTile = some k →
    completes (.graphEnableCheckDone g) s fun t =>
      (t.dev.graph g).check = false ∧ t.dev.fget (SV_G_CTL.EN g) = 1 ∧ t.dev.fget (SV_G_CTL.TILE g) = k ∧
      t.dev.fget (SV_G_STAT.BUSY g) = 0 ∧ devOnly s t ∧ memSame s t ∧ t.dev.ocs = s.dev.ocs ∧
      regsSame s t [SV_G_CTL.off g, SV_G_STAT.off g]) ∧
  (∀ (g : GraphId) (v : W32) (s : State), s.dev.fget (SV_G_CTL.EN g) = 1 → (SV_G_CTL.EN g).of v = 0 →
    completes (.graphDisable g v) s fun t =>
      t.dev.fget (SV_G_CTL.EN g) = 0 ∧ t.dev.fget (SV_G_STAT.BUSY g) = 1 ∧ (t.dev.graph g).freeAt = some (s.dev.tk + 4) ∧
      (t.dev.graph g).window = [] ∧ (t.dev.graph g).queue = [] ∧ (t.dev.graph g).dec = none ∧
      (∀ o, o ∈ t.dev.sieve.outq ↔ o ∈ s.dev.sieve.outq ∧ o.graph ≠ g) ∧ devOnly s t ∧ memSame s t ∧
      t.dev.ocs = s.dev.ocs ∧ regsSame s t [SV_G_CTL.off g, SV_G_STAT.off g, SV_STATUS.off]) ∧
  (∀ (g : GraphId) (k : Nat) (s : State), (s.dev.graph g).freeAt = some k → k ≤ s.dev.tk →
    completes (.tileRelease g) s fun t =>
      t.dev.fget (SV_G_CTL.TILE g) = 31 ∧ t.dev.fget (SV_G_STAT.BUSY g) = 0 ∧ (t.dev.graph g).freeAt = none ∧ devOnly s t ∧
      memSame s t ∧ t.dev.ocs = s.dev.ocs ∧ regsSame s t [SV_G_CTL.off g, SV_G_STAT.off g]) ∧
  (∀ (g : GraphId) (k : Fin 17) (s : State), s.dev.fget (SV_G_CTL.EN g) = 1 → s.dev.fget (SV_G_CTL.TILE g) = k →
    (∀ h : GraphId, h ≠ g → s.dev.fget (SV_G_CTL.EN h) = 0) → s.dev.fget SV_CTRL.ROT_EN = 1 → s.dev.sieve.rot = none →
    s.dev.sieve.rescue = none → s.dev.fget SV_STATUS.SPARE ≠ 31 → s.dev.svOn = true →
    2 ^ min 24 (s.dev.fget SV_CTRL.ROT_EXP) ≤ s.dev.sieve.rotCnt →
    completes .rotationStart s fun t =>
      t.dev.fget SV_STATUS.ROTATING = 1 ∧ t.dev.fget SV_STATUS.ROTG = g ∧ t.dev.sieve.rot = some (g.val, false) ∧
      t.dev.sieve.rotLast = k ∧ devOnly s t ∧ memSame s t ∧ t.dev.ocs = s.dev.ocs ∧ regsSame s t [SV_STATUS.off]) ∧
  (∀ (g : Nat) (s : State), s.dev.sieve.rescue = none → s.dev.sieve.rot = some (g, false) →
    completes .rotationCopyDone s fun t =>
      t.dev.sieve.rot = some (g, true) ∧ t.dev.fget SV_STATUS.ROTATING = 0 ∧ devOnly s t ∧ memSame s t ∧
      t.dev.ocs = s.dev.ocs ∧ regsSame s t [SV_STATUS.off]) ∧
  (∀ (g : Nat) (s : State), s.dev.sieve.rescue = some (g, false) →
    completes .rotationCopyDone s fun t =>
      t.dev.sieve.rescue = some (g, true) ∧ t.dev.fget SV_STATUS.ROTATING = 0 ∧ devOnly s t ∧ memSame s t ∧
      t.dev.ocs = s.dev.ocs ∧ regsSame s t [SV_STATUS.off]) ∧
  (∀ (g : GraphId) (k : Fin 17) (lost : Bool) (s : State), s.dev.fget (SV_G_CTL.EN g) = 1 → s.dev.fget (SV_G_CTL.TILE g) = k →
    (∀ h : GraphId, h ≠ g → s.dev.fget (SV_G_CTL.EN h) = 0) →
    completes (.tileFail k lost) s fun t =>
      t.dev.fget SV_ERR.TILE_FAIL = 1 ∧ bitAt (t.dev.fget SV_STATUS.FAILED) k = true ∧ tainted s t ∧
      (t.dev.graph g).window = [] ∧ (t.dev.graph g).queue = [] ∧ (t.dev.graph g).dec = none ∧
      (lost = false → (t.dev.graph g).down = true ∧ memSame s t ∧
        (s.dev.fget SV_STATUS.SPARE ≠ 31 → s.dev.sieve.rescue = none →
          t.dev.sieve.rescue = some (g.val, false) ∧ t.dev.fget SV_STATUS.ROTATING = 1 ∧ t.dev.fget SV_STATUS.ROTG = g)) ∧
      (lost = true → (t.dev.graph g).lost = true ∧ t.dev.fget (SV_G_CTL.EN g) = 0 ∧ t.dev.fget SV_ERR.GRAPH_LOST = 1 ∧
        memOutside s t (graphBase g.val) 0x100000) ∧ devOnly s t ∧ t.dev.ocs = s.dev.ocs)

/-! ### The witness pool and its triggers (chapter 09) -/

/-- Capture runs in a running mode (R275), its channels are masked (R276), and a complete period is written into the ring (R277 to
R279) unless a floor lies within its lines (R293, R294): then it is dropped, SPILLING and SPILL read 1, and nothing is written.
Trigger units (R282 to R290): arming and disarming, the decision on the evidence of a sample, a late trigger, a link trigger, the
limit of a window. -/
def Obligations.PoolAndTriggers : Prop :=
  (∀ (v : W32) (s : State), s.dev.mode.running = true → ACQ_CTL.RUN.of v = 1 →
    completes (.acqRun v) s fun t =>
      t.dev.fget ACQ_CTL.RUN = 1 ∧ t.dev.fget ACQ_CTL.STREAM = ACQ_CTL.STREAM.of v ∧
      t.dev.fget ACQ_CTL.TDELAY = ACQ_CTL.TDELAY.of v ∧ onlyRegs s t [ACQ_CTL.off]) ∧
  (∀ (v : W32) (s : State), s.dev.fget ACQ_CTL.RUN = 1 → ACQ_CTL.RUN.of v = 0 →
    completes (.acqRun v) s fun t =>
      t.dev.fget ACQ_CTL.RUN = 0 ∧ (∀ u, u < 8 → (t.dev.tu u).evidence = []) ∧ devOnly s t ∧ memSame s t ∧
      t.dev.ics = s.dev.ics ∧ t.dev.wit.ready = s.dev.wit.ready ∧ regsSame s t [ACQ_CTL.off]) ∧
  (∀ (v : W32) (s : State), ((List.range 32).filter (fun i => bitAt v.toNat i)).length ≤ 8 →
    completes (.icmaskWrite v) s fun t => t.dev.fget ACQ_ICMASK.MASK = v.toNat ∧ onlyRegs s t [ACQ_ICMASK.off]) ∧
  (∀ (p : WitPeriod) (rest : List WitPeriod) (s : State), s.dev.wit.ready = p :: rest → p.dueTk ≤ s.dev.tk →
    completes .poolPeriodWrite s fun t =>
      let need := ((p.ics.filter (fun e => s.dev.domOn (192 + e.1))).map (fun e => blockLines e.2)).foldl (· + ·) 0
      let blocked := s.dev.poolFloors.any (fun f => decide (floorDist (s.dev.fget ACQ_STATUS.WR) f ≤ need))
      t.dev.wit.ready = rest ∧ devOnly s t ∧ t.dev.ics = s.dev.ics ∧ t.dev.ocs = s.dev.ocs ∧
      (blocked = false →
        t.dev.fget ACQ_STATUS.WR = (s.dev.fget ACQ_STATUS.WR + need) % poolLines ∧ t.dev.fget ACQ_STATUS.SPILLING = 0 ∧
        memOutside s t bar4Base (64 * poolLines) ∧ regsSame s t [ACQ_STATUS.off]) ∧
      (blocked = true →
        t.dev.fget ACQ_ERR.SPILL = 1 ∧ t.dev.fget ACQ_STATUS.SPILLING = 1 ∧ t.dev.wit.dropped = s.dev.wit.dropped + 1 ∧
        t.dev.fget ACQ_STATUS.WR = s.dev.fget ACQ_STATUS.WR ∧ memSame s t ∧
        regsSameEv s t [ACQ_STATUS.off, ACQ_ERR.off, ACQ_CNT.off])) ∧
  (∀ (u : UnitId) (v : W32) (s : State), s.dev.fget (TU_CTL.ARM u) = 0 → (TU_CTL.ARM u).of v = 1 →
    ((bitAt ((TU_CTL.ENABLE u).of v) condRunt = false ∧ bitAt ((TU_CTL.ENABLE u).of v) condSlew = false) ∨
      sext 12 (s.dev.fget (TU_LEV.LO u)) < sext 12 (s.dev.fget (TU_LEV.HI u))) →
    completes (.triggerArm u v) s fun t =>
      t.dev.fget (TU_CTL.ARM u) = 1 ∧ t.dev.fget (TU_CTL.IC u) = (TU_CTL.IC u).of v ∧
      t.dev.fget (TU_CTL.ENABLE u) = (TU_CTL.ENABLE u).of v ∧ onlyRegs s t [TU_CTL.off u]) ∧
  (∀ (u : UnitId) (v : W32) (s : State), s.dev.fget (TU_CTL.ARM u) = 1 → (TU_CTL.ARM u).of v = 0 →
    completes (.triggerDisarm u v) s fun t =>
      t.dev.fget (TU_CTL.ARM u) = 0 ∧ (t.dev.tu u).evidence = [] ∧
      (t.dev.tu u).windows.map (·.n) = (s.dev.tu u).windows.map (·.n) ∧
      (∀ w, w ∈ (t.dev.tu u).windows → w.s1 ≠ none ∨ w.closeAt ≠ none) ∧
      (∀ x, x ≠ u.val → t.dev.tu x = s.dev.tu x) ∧ devOnly s t ∧ memSame s t ∧ regsSame s t [TU_CTL.off u]) ∧
  (∀ (u : UnitId) (e : TuEvidence) (s : State), (s.dev.tu u).evidence = [e] → e.late = false → e.bit < 6 →
    s.dev.decideTick e.n ≤ s.clk.now.toNat → s.dev.fget (TU_CTL.MODE u) = 0 → s.dev.tuBusy u s.clk.now.toNat = false →
    s.dev.recUnread + (s.dev.wit.units.map (fun x => x.2.windows.length)).foldl (· + ·) 0 + (s.dev.tu u).windows.length < 256 →
    completes (.triggerDecision u) s fun t =>
      (t.dev.tu u).evidence = [] ∧
      (∃ w, w ∈ (t.dev.tu u).windows ∧ w.n = e.n ∧ w.p = e.p ∧ w.cond = 2 ^ e.bit ∧ w.late = false ∧
        w.shot = s.dev.shot.toNat % 2 ^ 24) ∧
      devOnly s t ∧ memSame s t ∧ t.dev.ics = s.dev.ics ∧ regsSameEv s t ((List.range 8).map TU_CNT.off)) ∧
  (∀ (u : UnitId) (e : TuEvidence) (s : State), (s.dev.tu u).evidence.find? (·.late) = some e → e.bit < 6 →
    s.dev.fget (TU_CTL.MODE u) = 0 → s.dev.tuBusy u s.clk.now.toNat = false →
    s.dev.recUnread + (s.dev.wit.units.map (fun x => x.2.windows.length)).foldl (· + ·) 0 + (s.dev.tu u).windows.length < 256 →
    completes (.lateTrigger u) s fun t =>
      (t.dev.tu u).evidence = (s.dev.tu u).evidence.erase e ∧
      (∃ w, w ∈ (t.dev.tu u).windows ∧ w.n = e.n ∧ w.p = e.p ∧ w.cond = 2 ^ e.bit ∧ w.late = true) ∧
      devOnly s t ∧ memSame s t ∧ t.dev.ics = s.dev.ics ∧ regsSameEv s t ((List.range 8).map TU_CNT.off)) ∧
  (∀ (p : PortId) (w : BitVec 64) (s : State),
    completes (.linkTriggerReceive p w) s fun t =>
      (∀ u : UnitId, s.dev.tuOn u condLink = true → s.dev.fget (TU_CTL.LTAG u) = bits w.toNat 63 60 →
        ∃ e, (t.dev.tu u).evidence = (s.dev.tu u).evidence ++ [e] ∧ e.bit = condLink ∧
          e.p = restorePoint (bits w.toNat 59 0) s.clk.now.toNat) ∧
      (∀ u : UnitId, s.dev.fget (TU_CTL.LTAG u) ≠ bits w.toNat 63 60 → t.dev.tu u = s.dev.tu u) ∧
      devOnly s t ∧ memSame s t ∧ regsSame s t []) ∧
  (∀ (u : UnitId) (w : TuWindow) (s : State), w ∈ (s.dev.tu u).windows → w.s1 = none → w.closeAt = none →
    s.dev.limitTick u w ≤ s.clk.now.toNat →
    completes (.captureWindowTrunc u) s fun t =>
      { w with s1 := some (32 * s.dev.limitTick u w), trunc := true, short := false, closeAt := some s.clk.now.toNat } ∈
        (t.dev.tu u).windows ∧
      (t.dev.tu u).windows.length = (s.dev.tu u).windows.length ∧ (∀ x, x ≠ u.val → t.dev.tu x = s.dev.tu x) ∧
      devOnly s t ∧ memSame s t ∧ regsSame s t [])

/-- Capture records and the stream (R291, R292, R295): a due record takes the next entry of the record ring, RD moves within the unread
records, PRD within the unread lines, and a read of BAR4 that begins at PRD advances it under STREAM. -/
def Obligations.RecordsAndStream : Prop :=
  (∀ (u : UnitId) (w : TuWindow) (s : State), (∀ x, x < u.val → ∀ y, y ∈ (s.dev.tu x).windows → s.dev.recordDue s.clk.now.toNat y = false) →
    (s.dev.tu u).windows.find? (s.dev.recordDue s.clk.now.toNat) = some w →
    completes (.captureRecordWrite u) s fun t =>
      t.dev.fget ACQ_REC_WR.WR = (s.dev.fget ACQ_REC_WR.WR + 1) % 512 ∧
      t.dev.rdLe (recEntry (s.dev.fget ACQ_REC_WR.WR)) 8 = w.p / 2048 % 2 ^ 64 ∧
      t.dev.rdLe (recEntry (s.dev.fget ACQ_REC_WR.WR) + 24) 8 = (w.round * 2 ^ 48 + s.dev.wit.seq.toNat * 2 ^ 32 + 1) % 2 ^ 64 ∧
      t.dev.wit.seq = s.dev.wit.seq + 1 ∧ (t.dev.tu u).windows = (s.dev.tu u).windows.erase w ∧ devOnly s t ∧
      memOutside s t (recEntry (s.dev.fget ACQ_REC_WR.WR)) 32 ∧ regsSameEv s t [ACQ_REC_WR.off]) ∧
  (∀ (v : W32) (s : State), (ACQ_REC_RD.RD.of v + 512 - s.dev.fget ACQ_REC_RD.RD) % 512 ≤ s.dev.recUnread →
    completes (.recRdWrite v) s fun t => t.dev.fget ACQ_REC_RD.RD = ACQ_REC_RD.RD.of v ∧ onlyRegs s t [ACQ_REC_RD.off]) ∧
  (∀ (v : W32) (s : State), completes (.prdWrite v) s fun t =>
    let step := (ACQ_PRD.PRD.of v + poolLines - s.dev.fget ACQ_PRD.PRD) % poolLines
    (step ≤ s.dev.prdUnread → t.dev.fget ACQ_PRD.PRD = ACQ_PRD.PRD.of v ∧ onlyRegs s t [ACQ_PRD.off]) ∧
    (s.dev.prdUnread < step → t.dev.fget ACQ_ERR.PRD_BAD = 1 ∧ t.dev.fget ACQ_PRD.PRD = s.dev.fget ACQ_PRD.PRD ∧
      onlyRegsEv s t [ACQ_ERR.off])) ∧
  (∀ (off : Fin 0x4000000) (len : Nat) (s : State), off.val + len ≤ 0x4000000 →
    completes (.poolStreamRead off len) s fun t =>
      t.dev.rdata = s.dev.rdBytes (bar4Base + off.val) len ∧
      (s.dev.fget ACQ_CTL.STREAM = 1 → off.val = 64 * s.dev.fget ACQ_PRD.PRD →
        t.dev.fget ACQ_PRD.PRD = (s.dev.fget ACQ_PRD.PRD + len / 64) % poolLines) ∧
      (s.dev.fget ACQ_CTL.STREAM = 0 → regsSame s t []) ∧ devOnly s t ∧ memSame s t ∧ regsSame s t [ACQ_PRD.off])

/-! ### Link ports (chapter 10) -/

/-- What a command of port `p` leaves alone: the clock, the queue, every memory, the channels, the other ports' state and every register
outside the rill network but those listed. -/
def linkFrame (p : Nat) (s t : State) (but : List Nat) : Prop :=
  devOnly s t ∧ memSame s t ∧ t.dev.ocs = s.dev.ocs ∧ t.dev.ics = s.dev.ics ∧ (∀ q, q ≠ p → t.dev.link q = s.dev.link q) ∧
  regsSameEv s t but

/-- The registers of a port's lanes and its status. -/
def portRegs (p : Nat) : List Nat :=
  [LNK_P_CTL.off p, LNK_P_STAT.off p, LNK_PL_STAT.off p 0, LNK_PL_STAT.off p 1, LNK_PL_STAT.off p 2, LNK_PL_STAT.off p 3]

/-- Enabling, disabling and soft reset of a port (R300, R514): it enters TRAIN or OFF, with nothing aligned and nothing queued.
Training (R301 to R305, R319): a lane whose search has read an ALIGN block is LOCKed and ALIGNED and named in MAP, and two lanes that
read one number both search again; a TRAIN block says what the peer sees; an ALIGN block gives the skew, against logical lane 0 while
it works, and once every aligned lane has one the deskew, above 24 slots with SKEW_BIG; a port with three good lanes comes up in UP3
after 800,000 tk, one with fewer trains anew. -/
def Obligations.PortsStartAndTrain : Prop :=
  (∀ (p : PortId) (v : W32) (s : State), s.dev.linkRuns = true → (LNK_P_CTL.EN p).of v = 1 → (LNK_P_CTL.SRST p).of v = 0 →
    (s.dev.portState p = portOff ∨ s.dev.portState p = portTest) →
    completes (.portEnable p v) s fun t =>
      t.dev.portState p = portTrain ∧ t.dev.fget (LNK_P_CTL.EN p) = 1 ∧ t.dev.link p = { trainTk := s.dev.tk } ∧
      (∀ q, q < 4 → t.dev.fget (LNK_PL_STAT.ALIGNED p q) = 0) ∧ linkFrame p s t (portRegs p)) ∧
  (∀ (p : PortId) (v : W32) (s : State), s.dev.linkRuns = true → (LNK_P_CTL.EN p).of v = 0 → (LNK_P_CTL.SRST p).of v = 0 →
    (∀ q, q < 4 → s.dev.fget (LNK_PL_PAT.GEN p q) = 0 ∧ s.dev.fget (LNK_PL_PAT.CHK p q) = 0) → s.dev.portState p ≠ portOff →
    completes (.portEnable p v) s fun t =>
      t.dev.portState p = portOff ∧ t.dev.fget (LNK_P_STAT.WLANES p) = 0 ∧ tget [] t.dev.decq p = [] ∧
      tget [] t.dev.sieveq p = [] ∧ tget [] t.dev.trigq p = [] ∧ linkFrame p s t (portRegs p)) ∧
  (∀ (p : PortId) (v : W32) (s : State), s.dev.linkRuns = true → (LNK_P_CTL.EN p).of v = 1 → (LNK_P_CTL.SRST p).of v = 1 →
    completes (.portSoftReset p v) s fun t =>
      t.dev.portState p = portTrain ∧ t.dev.link p = { trainTk := s.dev.tk } ∧ t.dev.reg (LNK_P_ERR.off p) = 0 ∧
      t.dev.reg (LNK_P_CNT0.off p) = 0 ∧ t.dev.reg (LNK_P_CNT1.off p) = 0 ∧ devOnly s t ∧ memSame s t ∧ t.dev.ocs = s.dev.ocs) ∧
  (∀ (p : PortId) (lane l : LaneId) (inv : Bool) (slip : Fin 34) (s : State),
    (s.dev.portState p = portTrain ∨ s.dev.portUp p = true) → s.dev.fget (LNK_PL_STAT.ALIGNED p lane) = 0 →
    (s.dev.rxLane p lane).found = some (l.val, inv) → (s.dev.rxLane p lane).slip = slip →
    (∀ x, x < 4 → x ≠ lane.val → s.dev.fget (LNK_PL_STAT.ALIGNED p x) = 0 ∨ s.dev.laneLogical p x ≠ some l.val) →
    completes (.laneAligned p lane l inv slip) s fun t =>
      t.dev.fget (LNK_PL_STAT.LOCK p lane) = 1 ∧ t.dev.fget (LNK_PL_STAT.SLIP p lane) = slip ∧
      t.dev.fget (LNK_PL_STAT.ALIGNED p lane) = 1 ∧ t.dev.laneLogical p lane = some l.val ∧
      bitAt (t.dev.fget (LNK_P_MAP.MAP p)) (4 * lane + 2) = inv ∧ (t.dev.rxLane p lane).clean = 0 ∧
      t.dev.portState p = s.dev.portState p ∧
      linkFrame p s t [LNK_PL_STAT.off p lane, LNK_P_MAP.off p, LNK_P_STAT.off p]) ∧
  (∀ (p : PortId) (lane x l : LaneId) (inv : Bool) (slip : Fin 34) (s : State),
    (s.dev.portState p = portTrain ∨ s.dev.portUp p = true) → s.dev.fget (LNK_PL_STAT.ALIGNED p lane) = 0 →
    (s.dev.rxLane p lane).found = some (l.val, inv) → (s.dev.rxLane p lane).slip = slip → x ≠ lane → s.dev.fget (LNK_PL_STAT.ALIGNED p x) = 1 →
    s.dev.laneLogical p x = some l.val →
    (∀ y, y < 4 → y ≠ lane.val → y ≠ x.val → s.dev.fget (LNK_PL_STAT.ALIGNED p y) = 0 ∨ s.dev.laneLogical p y ≠ some l.val) →
    completes (.laneAligned p lane l inv slip) s fun t =>
      t.dev.fget (LNK_PL_STAT.ALIGNED p lane) = 0 ∧ t.dev.fget (LNK_PL_STAT.ALIGNED p x) = 0 ∧ t.dev.rxLane p lane = {} ∧
      t.dev.rxLane p x = {} ∧ t.dev.portState p = s.dev.portState p ∧
      linkFrame p s t [LNK_PL_STAT.off p lane, LNK_PL_STAT.off p x]) ∧
  (∀ (p : PortId) (s : State), s.dev.portState p = portTrain → (s.dev.link p).trainTk + 800000 ≤ s.dev.tk →
    completes (.trainTimeout p) s fun t =>
      let ok := 3 ≤ lanes4 (s.dev.alignedMask p) ∧ 3 ≤ lanes4 (s.dev.link p).peerOk ∧ (s.dev.link p).peerSelf = false ∧
        s.dev.skewOk p = true
      (ok → t.dev.portState p = portUp3 ∧ t.dev.fget (LNK_P_STAT.WLANES p) = s.dev.alignedMask p % 16 ∧
        (t.dev.link p).txLanes = (s.dev.link p).peerOk ∧ (t.dev.link p).cred2 = 32 ∧ (t.dev.link p).cred3 = 256 ∧
        (t.dev.link p).txMode = (s.dev.linkAllow p && (s.dev.link p).peerProt) ∧
        t.dev.fget (LNK_P_STAT.MODE p) = (s.dev.linkAllow p && (s.dev.link p).peerProt).toNat) ∧
      (¬ ok → t.dev.portState p = portTrain ∧ t.dev.fget (LNK_P_ERR.TRAIN_TO p) = 1 ∧ t.dev.link p = { trainTk := s.dev.tk }) ∧
      linkFrame p s t (LNK_P_ERR.off p :: LNK_P_CNT1.off p :: portRegs p)) ∧
  (∀ (p : PortId) (x : BitVec 64) (s : State), s.dev.portState p = portTrain → bits x.toNat 63 56 = 0x1E →
    bits x.toNat 44 29 ≠ s.dev.fget LNK_NODE.NODE →
    completes (.rxTrainBlock p x) s fun t =>
      t.dev.fget (LNK_P_STAT.PEER_NODE p) = bits x.toNat 44 29 ∧ t.dev.fget (LNK_P_STAT.PEER_PORT p) = bits x.toNat 47 45 ∧
      (t.dev.link p).peerOk = bits x.toNat 53 50 ∧ (t.dev.link p).peerSelf = false ∧
      (t.dev.portState p = portUp4 ↔
        s.dev.alignedMask p = 15 ∧ bits x.toNat 53 50 = 15 ∧ s.dev.skewOk p = true) ∧
      linkFrame p s t [LNK_P_STAT.off p]) ∧
  (∀ (p : PortId) (x : BitVec 64) (s : State), s.dev.portState p = portTrain → bits x.toNat 63 56 = 0x1E →
    bits x.toNat 44 29 = s.dev.fget LNK_NODE.NODE →
    completes (.rxTrainBlock p x) s fun t =>
      t.dev.fget (LNK_P_STAT.PEER_NODE p) = bits x.toNat 44 29 ∧ t.dev.fget (LNK_P_STAT.PEER_PORT p) = bits x.toNat 47 45 ∧
      t.dev.portState p = portTrain ∧ t.dev.fget (LNK_P_ERR.PEER_SELF p) = 1 ∧
      linkFrame p s t [LNK_P_STAT.off p, LNK_P_ERR.off p]) ∧
  (∀ (p : PortId) (lane : LaneId) (x : BitVec 64) (instant : BitVec 16) (s : State), bits x.toNat 63 56 = 0x4B →
    bits x.toNat 31 0 = 0x2D4BB4D2 → s.dev.fget (LNK_PL_STAT.ALIGNED p lane) = 1 →
    s.dev.laneLogical p lane = some (bits x.toNat 55 54) →
    completes (.rxAlignBlock p lane x instant) s fun t =>
      t.dev.rxLane p lane = { s.dev.rxLane p lane with at_ := some instant.toInt } ∧
      (∀ z t0, s.dev.physLane p 0 = some z → z ≠ lane.val → (s.dev.rxLane p z).at_ = some t0 →
        bitAt (s.dev.fget (LNK_P_STAT.WLANES p)) 0 = true →
        t.dev.fget (LNK_PL_STAT.SKEW p lane) = satInt 16 (instant.toInt - t0)) ∧
      (bitAt (s.dev.fget (LNK_P_STAT.WLANES p)) 0 = false →
        ∀ q, q < 4 → t.dev.fget (LNK_PL_STAT.SKEW p q) = s.dev.fget (LNK_PL_STAT.SKEW p q)) ∧
      (∀ n, t.dev.skewSlots p = some n → t.dev.fget (LNK_P_STAT.DESKEW p) = min 31 n ∧
        (24 < n → t.dev.fget (LNK_P_ERR.SKEW_BIG p) = 1 ∧ t.dev.portState p = s.dev.portState p) ∧
        (n ≤ 24 → s.dev.portState p = portTrain → s.dev.alignedMask p = 15 → (s.dev.link p).peerOk = 15 →
          (s.dev.link p).peerSelf = false → t.dev.portState p = portUp4)) ∧
      linkFrame p s t (LNK_P_ERR.off p :: portRegs p)) ∧
  (∀ (p : PortId) (lane : LaneId) (s : State), completes (.rxIdleBlock p lane) s fun t => t = s) ∧
  (∀ (p : PortId) (lane : LaneId) (s : State), s.dev.portState p = portTest →
    patOn (s.dev.fget (LNK_PL_PAT.CHK p lane)) = true → (s.dev.rxLane p lane).agree = true →
    completes (.patternCheckerSync p lane) s fun t =>
      t.dev.fget (LNK_PL_STAT.CHK_LOCK p lane) = 1 ∧ onlyRegs s t [LNK_PL_STAT.off p lane])

/-- The two ends agree on the link mode (R306): a request is sent and repeated after 1,024 slots, answered with what both ends allow,
and this end sends in the new mode from its next slot 0; MODE shows it once this end receives in it too. Losing and regaining lanes
(R322 to R326): a working lane that is lost leaves WLANES and a DROP is sent until it is answered; a DROP is answered with a SWITCH,
and takes the port down when fewer than three lanes are left; a SWITCH names the lanes received; a lane clean for 65,536 blocks is
announced, and a READY is answered with a SWITCH that takes it in. What a SWITCH says holds for the sender once it has left. -/
def Obligations.LinkModesAndLanes : Prop :=
  (∀ (p : PortId) (s : State), s.dev.portUp p = true → s.dev.linkAllow p ≠ (s.dev.link p).told →
    completes (.linkModeChangeRequest p) s fun t =>
      (t.dev.link p).told = s.dev.linkAllow p ∧ (t.dev.link p).reqTk = some s.dev.tk ∧
      (∃ c, c ∈ (t.dev.link p).ctl ∧ c.payload = laneBlock laneModeReq 0 (s.dev.linkAllow p)) ∧ linkFrame p s t []) ∧
  (∀ (p : PortId) (k : Nat) (s : State), s.dev.portUp p = true → (s.dev.link p).reqTk = some k → k + 410 ≤ s.dev.tk →
    completes (.modeReqRepeat p) s fun t =>
      (t.dev.link p).reqTk = some s.dev.tk ∧
      (∃ c, c ∈ (t.dev.link p).ctl ∧ c.payload = laneBlock laneModeReq 0 (s.dev.linkAllow p)) ∧ linkFrame p s t []) ∧
  (∀ (p : PortId) (x : BitVec 64) (s : State), s.dev.portUp p = true → laneOp x laneModeReq = true →
    completes (.rxModeReq p x) s fun t =>
      (t.dev.link p).setMode = some (s.dev.linkAllow p && laneMode x) ∧
      (∃ c, c ∈ (t.dev.link p).ctl ∧ c.payload = laneBlock laneModeSet 0 (s.dev.linkAllow p && laneMode x)) ∧ linkFrame p s t []) ∧
  (∀ (p : PortId) (x : BitVec 64) (s : State), s.dev.portUp p = true → laneOp x laneModeSet = true →
    completes (.rxModeSet p x) s fun t =>
      (t.dev.link p).setMode = some (laneMode x) ∧ (t.dev.link p).reqTk = none ∧ (t.dev.link p).ctl = (s.dev.link p).ctl ∧
      linkFrame p s t []) ∧
  (∀ (p : PortId) (m : Bool) (s : State), s.dev.portUp p = true → (s.dev.link p).setMode = some m → (s.dev.link p).slot = 0 →
    (∀ c ∈ (s.dev.link p).ctl, laneOp c.payload laneModeSet = true → c.left ≠ 3) →
    completes (.linkModeSwitch p) s fun t =>
      (t.dev.link p).txMode = m ∧ (t.dev.link p).setMode = none ∧ t.dev.portState p = s.dev.portState p ∧
      t.dev.fget (LNK_P_STAT.MODE p) = (if (s.dev.link p).rxMode = m then m.toNat else s.dev.fget (LNK_P_STAT.MODE p)) ∧
      linkFrame p s t [LNK_P_STAT.off p]) ∧
  (∀ (p : PortId) (lane l : LaneId) (s : State), (s.dev.rxLane p lane).lost = true → s.dev.portUp p = true →
    s.dev.laneLogical p lane = some l.val → bitAt (s.dev.fget (LNK_P_STAT.WLANES p)) l = true →
    completes (.laneLossDetect p lane) s fun t =>
      t.dev.fget (LNK_P_STAT.WLANES p) = s.dev.fget (LNK_P_STAT.WLANES p) - 2 ^ l.val ∧
      t.dev.fget (LNK_PL_STAT.ALIGNED p lane) = 0 ∧ t.dev.fget (LNK_P_ERR.LANE_LOST p) = 1 ∧
      (t.dev.link p).lost = (s.dev.link p).lost ||| 2 ^ l.val ∧ (t.dev.link p).dropTk = s.dev.tk ∧
      (∃ c, c ∈ (t.dev.link p).ctl ∧ c.payload = laneBlock laneDrop ((s.dev.link p).lost ||| 2 ^ l.val) false) ∧
      linkFrame p s t [LNK_PL_STAT.off p lane, LNK_P_STAT.off p, LNK_P_ERR.off p, LNK_P_CNT1.off p]) ∧
  (∀ (p : PortId) (s : State), s.dev.portUp p = true → (s.dev.link p).lost ≠ 0 → (s.dev.link p).dropTk + 26 ≤ s.dev.tk →
    completes (.laneDropRepeat p) s fun t =>
      (t.dev.link p).dropTk = s.dev.tk ∧ (t.dev.link p).lost = (s.dev.link p).lost ∧
      (∃ c, c ∈ (t.dev.link p).ctl ∧ c.payload = laneBlock laneDrop (s.dev.link p).lost false) ∧ linkFrame p s t []) ∧
  (∀ (p : PortId) (x : BitVec 64) (s : State), s.dev.portUp p = true → laneOp x laneDrop = true → (s.dev.link p).ctl = [] →
    (s.dev.link p).txLanes = 15 →
    completes (.rxLaneDrop p x) s fun t =>
      (3 ≤ lanes4 (15 - laneMask x) →
        (∃ c, c ∈ (t.dev.link p).ctl ∧ c.payload = laneBlock laneSwitch (15 - laneMask x) false) ∧
        t.dev.portState p = s.dev.portState p ∧ regsSame s t []) ∧
      (lanes4 (15 - laneMask x) < 3 →
        t.dev.portState p = portTrain ∧ t.dev.fget (LNK_P_ERR.DOWN p) = 1 ∧ t.dev.link p = { trainTk := s.dev.tk }) ∧
      linkFrame p s t (LNK_P_ERR.off p :: portRegs p)) ∧
  (∀ (p : PortId) (x : BitVec 64) (s : State), s.dev.portUp p = true → laneOp x laneSwitch = true →
    completes (.rxLaneSwitch p x) s fun t =>
      t.dev.fget (LNK_P_STAT.WLANES p) = (laneMask x &&& s.dev.alignedMask p) % 16 ∧
      (t.dev.link p).lost = (s.dev.link p).lost &&& laneMask x ∧
      (t.dev.portState p = portUp4 ↔ (s.dev.link p).txLanes = 15 ∧ laneMask x &&& s.dev.alignedMask p = 15) ∧
      linkFrame p s t [LNK_P_STAT.off p]) ∧
  (∀ (p : PortId) (lane l : LaneId) (s : State), s.dev.portUp p = true → s.dev.laneLogical p lane = some l.val →
    s.dev.fget (LNK_PL_STAT.ALIGNED p lane) = 1 → bitAt (s.dev.fget (LNK_P_STAT.WLANES p)) l = false →
    65536 ≤ (s.dev.rxLane p lane).clean → s.dev.laneSlice p lane = false →
    completes (.laneReadySend p lane) s fun t =>
      (t.dev.rxLane p lane).clean = 0 ∧
      (∃ c, c ∈ (t.dev.link p).ctl ∧ c.payload = laneBlock laneReady (2 ^ l.val) false) ∧ linkFrame p s t []) ∧
  (∀ (p : PortId) (x : BitVec 64) (s : State), s.dev.portUp p = true → laneOp x laneReady = true →
    completes (.rxLaneReady p x) s fun t =>
      (∃ c, c ∈ (t.dev.link p).ctl ∧ c.payload = laneBlock laneSwitch ((s.dev.link p).txNext ||| laneMask x) false) ∧
      linkFrame p s t [])

/-- Flits received (R310 to R314): a duplicated flit is taken from the copy that passes, one lost on both lanes counts in DUP_LOST,
and the messages of a VC1 flit are delivered on that tick; a striped flit that fails or is out of order is answered with one NAK, repeated after 256 slots; a NAK or a stalled ACK starts a
replay; a codeword is corrected or counted. -/
def Obligations.FlitsReceived : Prop :=
  (∀ (p : PortId) (lower upper : BitVec 256) (s : State), s.dev.portUp p = true →
    (crcOk lower = true → flVc lower ≠ 1) → (crcOk lower = false → crcOk upper = true → flVc upper ≠ 1) →
    completes (.duplicatedFlitReceive p lower upper) s fun t =>
      (crcOk lower = true → (t.dev.link p).rxFlit = some lower ∧ (t.dev.link p).rxDup = some (flSeq lower + 1)) ∧
      (crcOk lower = false → crcOk upper = true →
        (t.dev.link p).rxFlit = some upper ∧ (t.dev.link p).rxDup = some (flSeq upper + 1)) ∧
      (crcOk lower = false → crcOk upper = false →
        t.dev.fget (LNK_P_ERR.DUP_LOST p) = 1 ∧ (t.dev.link p).rxFlit = (s.dev.link p).rxFlit) ∧
      linkFrame p s t [LNK_P_ERR.off p, LNK_P_CNT0.off p, LNK_GERR.off]) ∧
  (∀ (p : PortId) (lower upper : BitVec 256) (m : Nat) (s : State), s.dev.portUp p = true → s.dev.sluOn = true →
    crcOk lower = true → flVc lower = 1 → flType lower = 1 → vc1Msgs lower 96 2 = [m] → bits m 85 84 = 1 → bits m 63 56 ≤ 191 →
    completes (.duplicatedFlitReceive p lower upper) s fun t =>
      ⟨s.dev.tk + 6, 8192, .frame (BitVec.ofNat 64 m), BitVec.ofNat 64 m⟩ ∈ t.dev.transit ∧
      (t.dev.link p).rxFlit = some lower ∧ (t.dev.link p).rxDup = some (flSeq lower + 1) ∧
      linkFrame p s t [LNK_P_ERR.off p, LNK_P_CNT0.off p]) ∧
  (∀ (p : PortId) (flit : BitVec 256) (s : State), s.dev.portUp p = true → (s.dev.link p).naking = none →
    (crcOk flit = false ∨ (2 ≤ flVc flit ∧ (flVc flit = 3 → flType flit ≠ 0) ∧ flSeq flit ≠ (s.dev.link p).rxSeq)) →
    completes (.stripedFlitError p flit) s fun t =>
      (t.dev.link p).naking = some s.dev.tk ∧ (t.dev.link p).nakDue = true ∧ (t.dev.link p).rxSeq = (s.dev.link p).rxSeq ∧
      linkFrame p s t []) ∧
  (∀ (p : PortId) (k : Nat) (s : State), s.dev.portUp p = true → (s.dev.link p).naking = some k → k + 103 ≤ s.dev.tk →
    completes (.nakRepeat p) s fun t =>
      (t.dev.link p).naking = some s.dev.tk ∧ (t.dev.link p).nakDue = true ∧ linkFrame p s t []) ∧
  (∀ (p : PortId) (ack : BitVec 10) (u : BitVec 256) (us : List (BitVec 256)) (s : State), s.dev.portUp p = true →
    (s.dev.link p).unacked = u :: us → flSeq u = ack →
    completes (.nakReceive p ack) s fun t =>
      (t.dev.link p).unacked = us ∧ (t.dev.link p).resend = 0 ∧ t.dev.fget (LNK_P_ERR.REPLAY p) = 1 ∧
      linkFrame p s t [LNK_P_ERR.off p, LNK_P_CNT0.off p]) ∧
  (∀ (p : PortId) (s : State), s.dev.portUp p = true → (s.dev.link p).unacked ≠ [] → (s.dev.link p).ackTk + 1639 ≤ s.dev.tk →
    completes (.replayTimeout p) s fun t =>
      (t.dev.link p).unacked = (s.dev.link p).unacked ∧ (t.dev.link p).resend = 0 ∧ (t.dev.link p).ackTk = s.dev.tk ∧
      t.dev.fget (LNK_P_ERR.REPLAY p) = 1 ∧ linkFrame p s t [LNK_P_ERR.off p, LNK_P_CNT0.off p]) ∧
  (∀ (p : PortId) (lane : LaneId) (w : List Byte) (s : State), s.dev.portUp p = true → (s.dev.rxLane p lane).parity = true →
    w.length = 136 →
    completes (.fecCodeword p lane w) s fun t =>
      match rsDecode (w.map (·.toNat)) with
      | none => (t.dev.link p).rxCode = w ∧ t.dev.fget (LNK_P_ERR.FEC_UNCORR p) = 1 ∧
          linkFrame p s t [LNK_P_ERR.off p, LNK_P_CNT1.off p]
      | some (c, fixed) => (t.dev.link p).rxCode = c.map (BitVec.ofNat 8) ∧ (fixed = false → regsSame s t []) ∧
          linkFrame p s t [LNK_P_CNT1.off p]) ∧
  (∀ (p : PortId) (flit : BitVec 256) (s : State), s.dev.portUp p = true → crcOk flit = true → flDefined flit = false →
    completes (.badFlit p flit) s fun t => t.dev.fget LNK_GERR.BADTYPE = 1 ∧ linkFrame p s t [LNK_GERR.off])

/-- Routes (R315 to R317): an outbound flit whose route goes on leaves on the port its entry names, with its arrival port in that
entry and RPOS advanced; at the end of its route it is delivered here; a return flit goes back the way it came. Test features and
slots (R298, R299, R327 to R329): a pattern is set on a port that is not enabled; an error is injected on one that is up; every lane
of an up port sends its ALIGN block in slot 0, and the slot number goes on modulo 1,024; an invalid header of a framed lane counts in
HDR_ERR, and the bits that differ from a locked checker's own pattern count in PERR. -/
def Obligations.RoutesSlotsTests : Prop :=
  (∀ (p e : PortId) (flit : BitVec 256) (s : State), s.dev.stripedOk p flit = true → flVc flit = 2 → flType flit = 1 →
    rtPos flit < rtLen flit → rtPos flit < 14 → rtEntry flit (rtPos flit) = e → s.dev.portUp e = true → e ≠ p →
    completes (.routeForward p flit) s fun t =>
      (t.dev.link e).vc2q = (s.dev.link e).vc2q ++
        [BitVec.ofNat 256 (putBits (putBits flit.toNat (199 - 3 * rtPos flit) (197 - 3 * rtPos flit) p) 203 200 (rtPos flit + 1))] ∧
      (t.dev.link p).rxSeq = (s.dev.link p).rxSeq + 1 ∧ (t.dev.link p).owe2 = (s.dev.link p).owe2 + 1 ∧
      t.dev.inbox = s.dev.inbox ∧ devOnly s t ∧ memSame s t ∧ regsSame s t []) ∧
  (∀ (p : PortId) (flit : BitVec 256) (s : State), s.dev.stripedOk p flit = true → flVc flit = 2 →
    (flType flit = 1 ∨ flType flit = 2) → rtPos flit = rtLen flit →
    completes (.routeForward p flit) s fun t =>
      t.dev.inbox = s.dev.inbox ++ [(p.val, flit)] ∧ (t.dev.link p).rxSeq = (s.dev.link p).rxSeq + 1 ∧ linkFrame p s t []) ∧
  (∀ (p e : PortId) (flit : BitVec 256) (s : State), s.dev.stripedOk p flit = true → flVc flit = 2 → flType flit = 3 →
    1 ≤ rtPos flit → rtEntry flit (rtPos flit - 1) = e → s.dev.portUp e = true → e ≠ p →
    completes (.returnForward p flit) s fun t =>
      (t.dev.link e).vc2q = (s.dev.link e).vc2q ++ [BitVec.ofNat 256 (putBits flit.toNat 203 200 (rtPos flit - 1))] ∧
      (t.dev.link p).rxSeq = (s.dev.link p).rxSeq + 1 ∧ t.dev.inbox = s.dev.inbox ∧ devOnly s t ∧ memSame s t ∧ regsSame s t []) ∧
  (∀ (p : PortId) (flit : BitVec 256) (s : State), s.dev.stripedOk p flit = true → flVc flit = 2 → flType flit = 3 →
    1 ≤ rtPos flit → rtEntry flit (rtPos flit - 1) = 7 →
    completes (.returnForward p flit) s fun t =>
      t.dev.inbox = s.dev.inbox ++ [(p.val, BitVec.ofNat 256 (putBits flit.toNat 203 200 (rtPos flit - 1)))] ∧
      (t.dev.link p).rxSeq = (s.dev.link p).rxSeq + 1 ∧ linkFrame p s t []) ∧
  (∀ (p : PortId) (lane : LaneId) (v : W32) (s : State), s.dev.fget (LNK_P_CTL.EN p) = 0 → s.dev.linkRuns = true →
    patOn ((LNK_PL_PAT.GEN p lane).of v) = true →
    completes (.patWrite p lane v) s fun t =>
      t.dev.fget (LNK_PL_PAT.GEN p lane) = (LNK_PL_PAT.GEN p lane).of v ∧ t.dev.portState p = portTest ∧
      linkFrame p s t (LNK_PL_PAT.off p lane :: portRegs p)) ∧
  (∀ (p : PortId) (v : W32) (s : State), s.dev.portUp p = true → (LNK_P_INJ.FLIT p).of v = 1 →
    completes (.injectFlit p v) s fun t =>
      (t.dev.link p).injFlit = true ∧ t.dev.fget (LNK_P_INJ.EVERY p) = (LNK_P_INJ.EVERY p).of v ∧ linkFrame p s t [LNK_P_INJ.off p]) ∧
  (∀ (p : PortId) (v : W32) (s : State), s.dev.portUp p = true → (LNK_P_INJ.DROP p).of v = 1 →
    completes (.injectLaneDrop p v) s fun t =>
      (t.dev.link p).txForced = (s.dev.link p).txForced ||| 2 ^ (LNK_P_INJ.LANE p).of v ∧ linkFrame p s t [LNK_P_INJ.off p]) ∧
  (∀ (p : PortId) (s : State), s.dev.portUp p = true → (s.dev.link p).slot = 0 → (s.dev.link p).txForced = 0 →
    s.dev.fget (LNK_P_INJ.EVERY p) = 0 → 3 ≤ lanes4 (s.dev.fget (LNK_P_STAT.WLANES p)) →
    completes (.slot p []) s fun t =>
      (t.dev.link p).slot = 1 ∧ (t.dev.link p).marker = (s.dev.link p).marker + 1 ∧
      (∀ l, l < 4 → tget 0 (t.dev.link p).txBlocks l = linkBlock 9 (alignBlock l (s.dev.link p).marker)) ∧
      linkFrame p s t []) ∧
  (∀ (p : PortId) (rx : List LaneRx) (s : State), s.dev.portUp p = true →
    3 ≤ lanes4 (s.dev.fget (LNK_P_STAT.WLANES p)) → (s.dev.link p).vc0q = [] →
    (∀ x ∈ (s.dev.link p).dupA, x.next ≠ 0) →
    (∀ x ∈ (s.dev.link p).dupB, x.next ≠ 0) →
    completes (.slot p rx) s fun t =>
      (t.dev.link p).slot = ((s.dev.link p).slot + 1) % 1024 ∧ linkFrame p s t (portRegs p)) ∧
  (∀ (p : PortId) (r : LaneRx) (s : State), s.dev.portState p = portTrain → r.lock = true →
    (s.dev.rxLane p r.lane).framed = true →
    completes (.slot p [r]) s fun t =>
      t.dev.fget (LNK_PL_STAT.LOCK p r.lane) = 1 ∧
      t.dev.fget (LNK_PL_STAT.HDR_ERR p r.lane) =
        (if ((s.dev.rxLane p r.lane).take (r.syms.map (·.val))).2 then min 127 (s.dev.fget (LNK_PL_STAT.HDR_ERR p r.lane) + 1)
         else s.dev.fget (LNK_PL_STAT.HDR_ERR p r.lane)) ∧
      linkFrame p s t [LNK_PL_STAT.off p r.lane]) ∧
  (∀ (p : PortId) (r : LaneRx) (s : State), s.dev.portState p = portTest → r.lock = true →
    patOn (s.dev.fget (LNK_PL_PAT.CHK p r.lane)) = true → s.dev.fget (LNK_PL_STAT.CHK_LOCK p r.lane) = 1 →
    completes (.slot p [r]) s fun t =>
      let x := s.dev.rxLane p r.lane
      let syms := r.syms.map (·.val)
      let v := pairsNat (if s.dev.bit (LNK_PL_PAT.PRECODE p r.lane) then grayDecode x.prev syms else syms)
      let own := (patPairs (s.dev.fget (LNK_PL_PAT.CHK p r.lane)) 34 x.chk).1
      t.dev.fget (LNK_PL_PERR.ERRS p r.lane) = min (LNK_PL_PERR.ERRS p r.lane).max
        (s.dev.fget (LNK_PL_PERR.ERRS p r.lane) + (List.range 68).countP fun i => bitAt (v ^^^ own) i) ∧
      linkFrame p s t [LNK_PL_STAT.off p r.lane, LNK_PL_PERR.off p r.lane])

/-! ### The host port, DMA and the register relay (chapter 11) -/

/-- What a command outside the channels leaves alone: the clock, the queue, every memory, the channels, and every register outside the
rill network but those listed. -/
def plain (s t : State) (but : List Nat) : Prop :=
  devOnly s t ∧ memSame s t ∧ t.dev.ocs = s.dev.ocs ∧ t.dev.ics = s.dev.ics ∧ regsSameEv s t but

/-- The same for a command of DMA channel `c`: the other channels are as they were. -/
def dmaFrame (c : Nat) (s t : State) (but : List Nat) : Prop :=
  plain s t but ∧ ∀ k, k ≠ c → t.dev.dma k = s.dev.dma k

/-- The same for a command that ends channel `c` with a descriptor in progress, whose local destination bytes become undefined (R355,
R360, R362). -/
def dmaSpoilFrame (c : Nat) (s t : State) (but : List Nat) : Prop :=
  devOnly s t ∧ (∀ a, s.dev.dmaSpoils c a = false → t.dev.rd8 a = s.dev.rd8 a) ∧ t.dev.ocs = s.dev.ocs ∧ t.dev.ics = s.dev.ics ∧
  regsSameEv s t but ∧ ∀ k, k ≠ c → t.dev.dma k = s.dev.dma k

/-- The first waiting OUT or BACK flit of the port a flit came on. -/
def nextBurst (s : State) (arr : Nat) (f : BitVec 256) (ty : Nat) : Prop :=
  s.dev.inbox.find? (fun x => x.1 == arr && flVc x.2 == 3 && flType x.2 == ty) = some (arr, f)

/-- The first waiting request of the port a flit came on, of one TYPE (R346). -/
def nextRequest (s : State) (arr : Nat) (f : BitVec 256) (ty : Nat) : Prop := s.dev.relayDue arr f ty = true

/-- The register relay (R343 to R346): GO sends the slot's access with its SEQ advanced, or ends it with 0x03 when its route cannot be
taken; a relayed access is performed as the host's, its status and data going back on the port it came on; the completion that
names a busy slot and its SEQ ends it, any other counts in LATE; a slot unanswered for TMO ticks ends with 0xFE. -/
def Obligations.RelayedAccesses : Prop :=
  (∀ (k : Fin 16) (v : W32) (s : State), (PCI_RLY_CTL.GO k).of v = 1 → s.dev.fget (PCI_RLY_CTL.STATE k) ≠ 1 →
    completes (.relayGo k v) s fun t =>
      t.dev.fget (PCI_RLY_CTL.SEQ k) = (s.dev.fget (PCI_RLY_CTL.SEQ k) + 1) % 64 ∧
      t.dev.fget (PCI_RLY_CTL.OP k) = (PCI_RLY_CTL.OP k).of v ∧ t.dev.fget (PCI_RLY_CTL.BE k) = (PCI_RLY_CTL.BE k).of v ∧
      (t.dev.relayRefused (t.dev.relayFlit k) = true →
        t.dev.fget (PCI_RLY_CTL.STATE k) = 3 ∧ t.dev.fget (PCI_RLY_CTL.STATUS k) = 3 ∧ t.dev.inbox = s.dev.inbox) ∧
      (t.dev.relayRefused (t.dev.relayFlit k) = false → t.dev.fget (PCI_RLY_CTL.STATE k) = 1 ∧
        (s.dev.fget (PCI_RLY_ROUTE1.RLEN k) = 0 → t.dev.inbox = s.dev.inbox ++ [(7, t.dev.relayFlit k)])) ∧
      plain s t [PCI_RLY_CTL.off k]) ∧
  (∀ (p : PortId) (f : BitVec 256) (n : Nat) (s : State), nextRequest s p f 1 → s.dev.portUp p = true → v2Space f = 1 →
    v2Be f = 15 → n < 192 → v2Off f / 0x40000 = n → s.dev.domOn n = true →
    completes (.relayReadExecute (.port p) f) s fun t =>
      t.dev.inbox = s.dev.inbox.erase (p.val, f) ∧
      (t.dev.link p).vc2q = (s.dev.link p).vc2q ++ [relayReply f (s.dev.rdLe (bar2Base + v2Off f) 4) 0] ∧ linkFrame p s t []) ∧
  (∀ (p : PortId) (f : BitVec 256) (s : State), nextRequest s p f 1 → s.dev.portUp p = true → v2Space f = 0 → v2Be f = 15 →
    v2Off f < 0x2000000 → bar0Reserved (v2Off f) = true →
    completes (.relayReadExecute (.port p) f) s fun t =>
      (t.dev.link p).vc2q = (s.dev.link p).vc2q ++ [relayReply f 0 1] ∧ t.dev.fget GLB_MAPERR.VALID = 1 ∧
      linkFrame p s t [GLB_MAPERR.off]) ∧
  (∀ (p : PortId) (f : BitVec 256) (ty : Nat) (s : State), nextRequest s p f ty → (ty = 1 ∨ ty = 2) → s.dev.portUp p = true →
    spaceSize (v2Space f) ≤ v2Off f →
    completes (if ty = 1 then .relayReadExecute (.port p) f else .relayWriteExecute (.port p) f) s fun t =>
      t.dev.inbox = s.dev.inbox.erase (p.val, f) ∧ (t.dev.link p).vc2q = (s.dev.link p).vc2q ++ [relayReply f 0 2] ∧
      linkFrame p s t []) ∧
  (∀ (p : PortId) (f : BitVec 256) (s : State), nextRequest s p f 2 → s.dev.portUp p = true → v2Space f = 2 →
    v2Off f < 0x4000000 → dmaOutside s (bar4Base + v2Off f) 4 →
    completes (.relayWriteExecute (.port p) f) s fun t =>
      (∀ i, i < 4 → t.dev.rd8 (bar4Base + v2Off f + i) =
        if bitAt (v2Be f) i then BitVec.ofNat 8 (v2Data f / 2 ^ (8 * i)) else s.dev.rd8 (bar4Base + v2Off f + i)) ∧
      (t.dev.link p).vc2q = (s.dev.link p).vc2q ++ [relayReply f 0 0] ∧ devOnly s t ∧ memOutside s t (bar4Base + v2Off f) 4 ∧
      t.dev.ocs = s.dev.ocs ∧ regsSame s t []) ∧
  (∀ (arr : Nat) (f : BitVec 256) (s : State),
    s.dev.inbox.find? (fun x => x.2 == f && flVc x.2 == 2 && flType x.2 == 3) = some (arr, f) →
    completes (.relayCompletion f) s fun t =>
      let k := v2Tag f % 16
      t.dev.inbox = s.dev.inbox.erase (arr, f) ∧
      (s.dev.fget (PCI_RLY_CTL.STATE k) = 1 ∧ s.dev.fget (PCI_RLY_CTL.SEQ k) = v2Tag f / 16 →
        t.dev.fget (PCI_RLY_CTL.STATUS k) = v2Status f ∧
        t.dev.fget (PCI_RLY_CTL.STATE k) = (if v2Status f ≤ 1 then 2 else 3) ∧
        (s.dev.fget (PCI_RLY_CTL.OP k) = 0 → (t.dev.reg (PCI_RLY_DATA.off k)).toNat = v2Data f) ∧
        plain s t [PCI_RLY_CTL.off k, PCI_RLY_DATA.off k]) ∧
      (¬ (s.dev.fget (PCI_RLY_CTL.STATE k) = 1 ∧ s.dev.fget (PCI_RLY_CTL.SEQ k) = v2Tag f / 16) →
        t.dev.fget PCI_RLY_CFG.LATE = min 65535 (s.dev.fget PCI_RLY_CFG.LATE + 1) ∧ plain s t [PCI_RLY_CFG.off])) ∧
  (∀ (k : Fin 16) (s : State), s.dev.fget (PCI_RLY_CTL.STATE k) = 1 →
    tget 0 s.dev.rlyTk k + max 1 (s.dev.fget PCI_RLY_CFG.TMO) ≤ s.dev.tk →
    completes (.relayTimeout k) s fun t =>
      t.dev.fget (PCI_RLY_CTL.STATUS k) = 0xFE ∧ t.dev.fget (PCI_RLY_CTL.STATE k) = 3 ∧ plain s t [PCI_RLY_CTL.off k])

/-- A channel starts, stops and aborts (R355), fetches its descriptor (R350, R351), waits for its request line (R353), moves the
bytes its source returns, on to a memory or into the writes to the host that wait for their turn (R351, R352, R362), and completes:
the chain ends, runs on, or ends at its hop limit (R359). Answers that fail or come late, and remote bursts (R356 to R361): an answer
that has not come within 2,048 tk of its request's issue ends its channel with NORESP, and the tags of its reads stay held; a
completion that comes while such a tag is held is counted, and one that comes after is unexpected; a remote write is performed when
its last flit has come, and its status sent back; the last status a channel waits for lets its descriptor complete. -/
def Obligations.DmaRuns : Prop :=
  (∀ (a : Auth) (c : ChanId) (v : W32) (s : State), (a ≠ .host ∨ c.val < 28) → (DMA_C_CTL.START c).of v = 1 →
    (DMA_C_CTL.STOP c).of v = 0 → (DMA_C_CTL.ABORT c).of v = 0 → s.dev.dmaBusy c = false →
    completes (.dmaStart a c v) s fun t =>
      t.dev.fget (DMA_C_STAT.STATE c) = dmaRun ∧ t.dev.fget (DMA_C_STAT.CAUSE c) = 0 ∧ t.dev.fget (DMA_C_HOPS.HOPS c) = 0 ∧
      t.dev.fget (DMA_C_FADDR_LO.FADDR_LO c) = 0 ∧ t.dev.fget (DMA_C_FADDR_HI.FADDR_HI c) = 0 ∧
      t.dev.fget (DMA_C_FCNT.FCNT c) = 0 ∧ (t.dev.dma c).phase = .fetch ∧
      (t.dev.dma c).addr = s.dev.fget (DMA_C_DESC_LO.DESC_LO c) + 2 ^ 32 * s.dev.fget (DMA_C_DESC_HI.DESC_HI c) ∧
      (t.dev.dma c).local_ = s.dev.bit (DMA_C_CFG.NSP0 c) ∧
      (t.dev.dma c).todo = (if s.dev.bit (DMA_C_CFG.NSP0 c) then [] else [{ addr := (t.dev.dma c).addr, len := 32 }]) ∧
      dmaFrame c s t [DMA_C_STAT.off c, DMA_C_HOPS.off c, DMA_C_FADDR_LO.off c, DMA_C_FADDR_HI.off c, DMA_C_FCNT.off c]) ∧
  (∀ (a : Auth) (c : ChanId) (v : W32) (s : State), (a ≠ .host ∨ c.val < 28) → (DMA_C_CTL.START c).of v = 0 →
    (DMA_C_CTL.STOP c).of v = 1 → (DMA_C_CTL.ABORT c).of v = 0 →
    completes (.dmaStop a c v) s fun t =>
      ((s.dev.dma c).phase = .fetch ∨ (s.dev.dma c).phase = .waitreq →
        t.dev.fget (DMA_C_STAT.STATE c) = dmaStopped ∧ t.dev.dmaBusy c = false) ∧
      ((s.dev.dma c).phase = .read ∨ (s.dev.dma c).phase = .sent ∨ (s.dev.dma c).phase = .back ∨
        (s.dev.dma c).phase = .wrote →
        t.dev.dma c = { s.dev.dma c with stop := true } ∧ t.dev.reg (DMA_C_STAT.off c) = s.dev.reg (DMA_C_STAT.off c)) ∧
      dmaFrame c s t [DMA_C_STAT.off c]) ∧
  (∀ (a : Auth) (c : ChanId) (v : W32) (s : State), (a ≠ .host ∨ c.val < 28) → (DMA_C_CTL.START c).of v = 0 →
    (DMA_C_CTL.STOP c).of v = 0 → (DMA_C_CTL.ABORT c).of v = 1 → s.dev.dmaBusy c = true →
    completes (.dmaAbort a c v) s fun t =>
      t.dev.fget (DMA_C_STAT.STATE c) = dmaFault ∧ t.dev.fget (DMA_C_STAT.CAUSE c) = causeAbort ∧ t.dev.dmaBusy c = false ∧
      t.dev.fget (DMA_C_FADDR_LO.FADDR_LO c) = (s.dev.dma c).addr % 2 ^ 32 ∧
      t.dev.fget (DMA_C_FADDR_HI.FADDR_HI c) = (s.dev.dma c).addr / 2 ^ 32 % 2 ^ 32 ∧
      dmaSpoilFrame c s t [DMA_C_STAT.off c, DMA_C_FADDR_LO.off c, DMA_C_FADDR_HI.off c]) ∧
  (∀ (c : ChanId) (w : BitVec 256) (s : State), (s.dev.dma c).phase = .fetch → (s.dev.dma c).addr % 32 = 0 →
    (if (s.dev.dma c).local_ then (s.dev.dma c).addr + 32 ≤ 0x8000 else (s.dev.dma c).out ≠ []) →
    completes (.descriptorFetch c w) s fun t =>
      let x := Desc.ofNat (if (s.dev.dma c).local_ then s.dev.rdLe (descBase + (s.dev.dma c).addr) 32 else w.toNat)
      (s.dev.descBad c x = true →
        t.dev.fget (DMA_C_STAT.STATE c) = dmaFault ∧ t.dev.fget (DMA_C_STAT.CAUSE c) = causeDescBad ∧ t.dev.dmaBusy c = false) ∧
      (s.dev.descBad c x = false → x.wreq = true →
        t.dev.fget (DMA_C_STAT.STATE c) = dmaWaitreq ∧ (t.dev.dma c).phase = .waitreq ∧ (t.dev.dma c).desc = x) ∧
      (s.dev.descBad c x = false → x.wreq = false → x.ssp ≠ spRemote → x.dsp ≠ spRemote →
        t.dev.fget (DMA_C_STAT.STATE c) = dmaRun ∧ (t.dev.dma c).phase = .read ∧ (t.dev.dma c).desc = x) ∧
      (x.ssp ≠ spRemote → x.dsp ≠ spRemote →
        dmaFrame c s t [DMA_C_STAT.off c, DMA_C_FADDR_LO.off c, DMA_C_FADDR_HI.off c])) ∧
  (∀ (c : ChanId) (s : State), (s.dev.dma c).phase = .waitreq → (s.dev.dma c).lineWas = true →
    s.dev.reqLine (s.dev.fget (DMA_C_CFG.REQ c)) = true →
    (s.dev.dma c).desc.ssp ≠ spRemote → (s.dev.dma c).desc.dsp ≠ spRemote →
    completes (.dmaRequestSeen c) s fun t =>
      t.dev.fget (DMA_C_STAT.STATE c) = dmaRun ∧ (t.dev.dma c).phase = .read ∧ dmaFrame c s t [DMA_C_STAT.off c]) ∧
  (∀ (c : ChanId) (st : CplStatus) (bs : List Byte) (r : HostReq) (s : State), (s.dev.dma c).phase = .read →
    (s.dev.dma c).moved = 0 → (s.dev.dma c).desc.ssp = spHost → (s.dev.dma c).desc.dsp = spLocal →
    lsp (s.dev.dma c).desc.dst = 1 → lspOff (s.dev.dma c).desc.dst + (s.dev.dma c).desc.len ≤ 0x4000000 →
    (s.dev.dma c).out = [r] → bs.length = r.len → ((s.dev.dma c).desc.cut r.addr bs).length = (s.dev.dma c).desc.len →
    completes (.dmaReadReturn c st bs) s fun t =>
      let a := bar4Base + lspOff (s.dev.dma c).desc.dst
      let data := (s.dev.dma c).desc.cut r.addr bs
      (st = .ok → (t.dev.dma c).phase = .wrote ∧ t.dev.rdBytes a data.length = data ∧ memOutside s t a data.length ∧
        devOnly s t ∧ t.dev.ocs = s.dev.ocs ∧ regsSame s t []) ∧
      (st ≠ .ok → t.dev.fget (DMA_C_STAT.STATE c) = dmaFault ∧
        t.dev.fget (DMA_C_STAT.CAUSE c) = (if st = .poisoned then causePoison else causeCplErr) ∧
        dmaSpoilFrame c s t [DMA_C_STAT.off c, DMA_C_FADDR_LO.off c, DMA_C_FADDR_HI.off c])) ∧
  (∀ (c : ChanId) (st : CplStatus) (bs : List Byte) (s : State), (s.dev.dma c).phase = .read → (s.dev.dma c).moved = 0 →
    (s.dev.dma c).out = [] → (s.dev.dma c).desc.ssp = spLocal → (s.dev.dma c).desc.dsp = spHost →
    lsp (s.dev.dma c).desc.src = 2 →
    completes (.dmaReadReturn c st bs) s fun t =>
      t.dev.dma c = { s.dev.dma c with
        moved := (s.dev.dma c).desc.len
        todo := (s.dev.dma c).todo ++ s.dev.hostWrites (s.dev.dma c).desc.dst
          (s.dev.rdBytes (descBase + lspOff (s.dev.dma c).desc.src) (s.dev.dma c).desc.len) } ∧ dmaFrame c s t []) ∧
  (∀ (c : ChanId) (s : State), (s.dev.dma c).phase = .wrote →
    completes (.dmaDescriptorComplete c) s fun t =>
      let x := s.dev.dma c
      let lim := s.dev.fget (DMA_C_HOPLIM.LIMIT c)
      let hops := s.dev.fget (DMA_C_HOPS.HOPS c)
      t.dev.fget (DMA_C_FCNT.FCNT c) = min (2 ^ 32 - 1) (s.dev.fget (DMA_C_FCNT.FCNT c) + x.desc.len) ∧
      (x.stop = true → t.dev.fget (DMA_C_STAT.STATE c) = dmaStopped ∧ t.dev.dmaBusy c = false) ∧
      (x.stop = false → x.desc.last = true → t.dev.fget (DMA_C_STAT.STATE c) = dmaDone ∧ t.dev.dmaBusy c = false) ∧
      (x.stop = false → x.desc.last = false → lim ≠ 0 ∧ hops = lim →
        t.dev.fget (DMA_C_STAT.STATE c) = dmaFault ∧ t.dev.fget (DMA_C_STAT.CAUSE c) = causeLoop) ∧
      (x.stop = false → x.desc.last = false → ¬ (lim ≠ 0 ∧ hops = lim) →
        t.dev.fget (DMA_C_HOPS.HOPS c) = (hops + 1) % 2 ^ 32 ∧ (t.dev.dma c).phase = .fetch ∧
        (t.dev.dma c).addr = x.desc.next ∧ (t.dev.dma c).local_ = x.desc.nsp) ∧
      dmaFrame c s t [DMA_C_STAT.off c, DMA_C_FCNT.off c, DMA_C_HOPS.off c, DMA_C_FADDR_LO.off c, DMA_C_FADDR_HI.off c]) ∧
  (∀ (c : ChanId) (t0 : Nat) (s : State), s.dev.dmaBusy c = true → t0 ∈ (s.dev.dma c).awaits → t0 + 2048 ≤ s.dev.tk →
    completes (.dmaNoresp c) s fun t =>
      t.dev.fget (DMA_C_STAT.STATE c) = dmaFault ∧ t.dev.fget (DMA_C_STAT.CAUSE c) = causeNoresp ∧
      t.dev.lateReads = s.dev.lateReads ++ (s.dev.dma c).out.map (fun r => r.issued) ∧
      dmaSpoilFrame c s t [DMA_C_STAT.off c, DMA_C_FADDR_LO.off c, DMA_C_FADDR_HI.off c]) ∧
  (∀ (tag x : Nat) (xs : List Nat) (s : State), s.dev.lateReads = x :: xs →
    (∀ k ∈ s.dev.lateReads, s.dev.tk < k + Config.cplTimeout s.dev.pci.cplTo) →
    completes (.lateCompletion tag) s fun t =>
      t.dev.lateReads = xs ∧ t.dev.fget DMA_LATECPL.LATE = min 65535 (s.dev.fget DMA_LATECPL.LATE + 1) ∧
      t.dev.dmas = s.dev.dmas ∧ t.dev.pci = s.dev.pci ∧ plain s t [DMA_LATECPL.off]) ∧
  (∀ (tag : Nat) (s : State), s.dev.lateReads = [] →
    completes (.lateCompletion tag) s fun t =>
      AerErr.unexpectedCompletion ∈ t.dev.pci.aer ∧ t.dev.dmas = s.dev.dmas ∧ plain s t []) ∧
  (∀ (p : PortId) (f : BitVec 256) (s : State), nextBurst s p f 1 → v3First f = true →
    bitAt (v3Data f) 83 = false →
    completes (.remoteOutReceive p f) s fun t =>
      t.dev.inbox = s.dev.inbox.erase (p.val, f) ∧
      tget ⟨0, 0, []⟩ t.dev.remotes (32 * p.val + v3Chan f) = ⟨bits (v3Data f) 127 96, bits (v3Data f) 95 84 + 1, []⟩ ∧
      (t.dev.link p).owe3 = (s.dev.link p).owe3 + 1 ∧ linkFrame p s t []) ∧
  (∀ (p : PortId) (f : BitVec 256) (x : RemIn) (s : State), nextBurst s p f 1 →
    v3First f = false → v3Last f = true → s.dev.portUp p = true →
    s.dev.remotes.find? (fun e => e.1 == 32 * p.val + v3Chan f) = some (32 * p.val + v3Chan f, x) → adSpace x.addr = 2 →
    adOff x.addr + x.len ≤ 0x4000000 → x.bytes.length + v3Valid f = x.len →
    completes (.remoteOutReceive p f) s fun t =>
      t.dev.rdBytes (bar4Base + adOff x.addr) x.len = x.bytes ++ v3Bytes f ∧
      (t.dev.link p).vc3q = (s.dev.link p).vc3q ++ [backStatus f 0 true] ∧
      memOutside s t (bar4Base + adOff x.addr) x.len ∧ devOnly s t ∧ t.dev.ocs = s.dev.ocs ∧ regsSame s t []) ∧
  (∀ (arr : Nat) (f : BitVec 256) (s : State), s.dev.inbox.find? (fun e => e.2 == f) = some (arr, f) →
    nextBurst s arr f 2 → v3First f = true → (s.dev.dma (v3Chan f)).phase = .sent → (s.dev.dma (v3Chan f)).backs ≠ [] →
    completes (.remoteBackReceive f) s fun t =>
      (v3Data f % 256 ≤ 1 →
        (t.dev.dma (v3Chan f)).backs = (s.dev.dma (v3Chan f)).backs.drop 1 ∧
        (t.dev.dma (v3Chan f)).phase = (if (s.dev.dma (v3Chan f)).backs.length = 1 then .wrote else .sent) ∧
        dmaFrame (v3Chan f) s t []) ∧
      (1 < v3Data f % 256 → t.dev.fget (DMA_C_STAT.STATE (v3Chan f)) = dmaFault ∧
        t.dev.fget (DMA_C_STAT.CAUSE (v3Chan f)) = causeCplErr))

/-- The host port (R333, R335, R337, R375, R560): an unmasked pending vector sends its message while the link is up; a function-level
reset puts the PCI and DMA blocks at default with every channel idle, the link excepted; PERST holds the link down; the link's
speed and width show while it is up, with the sizes, tags and base addresses the host has set (R331, R334), and it stays down in
SLEEP. -/
def Obligations.HostPort : Prop :=
  (∀ (vec : Fin 256) (s : State), s.dev.pba.contains vec.val = true → s.dev.fget PCI_STAT.DL_UP = 1 → s.dev.mode ≠ .sleep →
    s.dev.rdLe (msixBase + 16 * vec.val + 12) 4 % 2 = 0 →
    completes (.msixMessageSend vec) s fun t =>
      t.dev.msixSent = some (vec.val, s.dev.rdLe (msixBase + 16 * vec.val) 8, s.dev.rdLe (msixBase + 16 * vec.val + 8) 4) ∧
      vec.val ∉ t.dev.pba ∧ (∀ x, x ≠ vec.val → (x ∈ t.dev.pba ↔ x ∈ s.dev.pba)) ∧ plain s t []) ∧
  (∀ s : State, completes .functionLevelReset s fun t =>
    (∀ c, t.dev.dma c = {}) ∧ t.dev.pba = [] ∧
    (∀ off, (0x50000 ≤ off ∧ off < 0x60000) ∨ (0xB0000 ≤ off ∧ off < 0xC0000) → (regRow? off).isSome = true →
      off ≠ PCI_STAT.off → t.dev.reg off = regReset off) ∧ t.dev.pci = {} ∧
    t.dev.fget PCI_STAT.DL_UP = s.dev.fget PCI_STAT.DL_UP ∧ t.dev.fget PCI_STAT.SPEED = s.dev.fget PCI_STAT.SPEED ∧
    t.dev.fget PCI_STAT.WIDTH = s.dev.fget PCI_STAT.WIDTH ∧
    (∀ off, ¬ (0x50000 ≤ off ∧ off < 0x60000) → ¬ (0xB0000 ≤ off ∧ off < 0xC0000) → ¬ inRill off →
      t.dev.reg off = s.dev.reg off) ∧
    (∀ a, ¬ (descBase ≤ a ∧ a < descBase + 0x8000) → ¬ (msixBase ≤ a ∧ a < msixBase + 0x1000) →
      (∀ c, c < 28 → s.dev.dmaSpoils c a = false) → t.dev.rd8 a = s.dev.rd8 a) ∧
    devOnly s t ∧ t.dev.ocs = s.dev.ocs ∧ t.dev.ics = s.dev.ics) ∧
  (∀ s : State,
    (completes (.perst true) s fun t =>
      t.dev.perstLow = true ∧ t.dev.fget PCI_STAT.DL_UP = 0 ∧ t.dev.fget PCI_STAT.SPEED = 0 ∧ t.dev.fget PCI_STAT.WIDTH = 0 ∧
      (∀ c, t.dev.dma c = {}) ∧ devOnly s t ∧ t.dev.ocs = s.dev.ocs ∧ t.dev.ics = s.dev.ics) ∧
    (completes (.perst false) s fun t => t.dev.perstLow = false ∧ plain s t [])) ∧
  (∀ (up : Bool) (speed : Fin 6) (width : BitVec 4) (cfg : PcieCfg) (s : State),
    completes (.hostPortLinkChange up speed width cfg) s fun t =>
      (∀ e ∈ cfg.errors, e ∈ t.dev.pci.aer) ∧
      (up = true → s.dev.mode ≠ .sleep → s.dev.perstLow = false →
        t.dev.fget PCI_STAT.DL_UP = 1 ∧ t.dev.fget PCI_STAT.SPEED = speed.val ∧ t.dev.fget PCI_STAT.WIDTH = width.toNat ∧
        t.dev.fget PCI_STAT.MPS = cfg.mps ∧ t.dev.fget PCI_STAT.MRRS = cfg.mrrs ∧ t.dev.fget PCI_STAT.TAG10 = cfg.tag10.toNat ∧
        t.dev.pci.bar0.toNat = cfg.bar0.toNat / 0x2000000 * 0x2000000 ∧
        t.dev.pci.bar2.toNat = cfg.bar2.toNat / 0x20000000 * 0x20000000 ∧
        t.dev.pci.bar4.toNat = cfg.bar4.toNat / 0x4000000 * 0x4000000 ∧
        t.dev.pci.cplTo = cfg.cplTo ∧ t.dev.pci.d3hot = cfg.d3hot ∧ t.dev.pci.aspmL1 = cfg.aspmL1) ∧
      (up = false ∨ s.dev.mode = .sleep ∨ s.dev.perstLow = true →
        t.dev.fget PCI_STAT.DL_UP = 0 ∧ t.dev.fget PCI_STAT.SPEED = 0 ∧ t.dev.fget PCI_STAT.WIDTH = 0) ∧
      plain s t [PCI_STAT.off])

/-! ### The rill event network (chapter 12) -/

/-- What a command that touches no memory and no channel leaves alone, the registers outside the list among it. -/
def still (s t : State) (but : List Nat) : Prop :=
  devOnly s t ∧ memSame s t ∧ t.dev.ocs = s.dev.ocs ∧ t.dev.ics = s.dev.ics ∧ regsSame s t but

/-- Routing and events (R364, R365, R369 to R372, R378): a write by the rill's owner is taken, another is refused with OWN_BAD; a source
or relay route that would close a cycle of relay tasks is refused with ROUTE_CYCLE; a raise reaches its rill's HIT and its
subscribers; a guard window forgets what it counted. -/
def Obligations.RillRouting : Prop :=
  (∀ (r : Fin 256) (v : W32) (s : State), s.dev.rillOwner r = 1 → (RIL_RL.OWNER r).of v = 1 →
    completes (.rillRouteWrite .host r v) s fun t =>
      t.dev.rillOwner r = 1 ∧ t.dev.fget (RIL_RL.MSI_EN r) = (RIL_RL.MSI_EN r).of v ∧
      t.dev.fget (RIL_RL.VEC r) = (RIL_RL.VEC r).of v ∧ t.dev.fget (RIL_RL.SEC r) = s.dev.fget (RIL_RL.SEC r) ∧
      onlyRegs s t [RIL_RL.off r]) ∧
  (∀ (r : Fin 256) (v : W32) (s : State), s.dev.rillOwner r = 0 →
    completes (.rillRouteWrite .host r v) s fun t =>
      t.dev.rillOwner r = 0 ∧ t.dev.fget (RIL_RL.MSI_EN r) = s.dev.fget (RIL_RL.MSI_EN r) ∧
      t.dev.fget (RIL_RL.VEC r) = s.dev.fget (RIL_RL.VEC r) ∧ t.dev.fget RIL_ERR.OWN_BAD = 1 ∧ onlyRegsEv s t []) ∧
  (∀ (src : SourceId) (v : W32) (s : State), src.val < 992 → srcReserved src = false →
    s.dev.rillOwner ((RIL_SRC.RILL src).of v) = 1 → s.dev.fget (RIL_SRC.EN src) = 0 →
    completes (.rilSrcWrite .host src v) s fun t =>
      t.dev.fget (RIL_SRC.EN src) = (RIL_SRC.EN src).of v ∧ t.dev.fget (RIL_SRC.RILL src) = (RIL_SRC.RILL src).of v ∧
      ((RIL_SRC.EN src).of v = 1 → t.dev.fget (RIL_SRC.GUARDED src) = 0) ∧ onlyRegs s t [RIL_SRC.off src]) ∧
  (∀ (k : Fin 32) (v : W32) (s : State), let r := (RIL_SRC.RILL (992 + k.val)).of v
    s.dev.rillOwner r = 1 → s.dev.fget (RIL_SRC.EN (992 + k.val)) = 0 → (RIL_SRC.EN (992 + k.val)).of v = 1 →
    s.dev.fget (RIL_TASK.EN (480 + k.val)) = 1 → s.dev.fget (RIL_TASK.RILL (480 + k.val)) = r →
    completes (.rilSrcWrite .host ⟨992 + k.val, by omega⟩ v) s fun t =>
      t.dev.reg (RIL_SRC.off (992 + k.val)) = s.dev.reg (RIL_SRC.off (992 + k.val)) ∧ t.dev.fget RIL_ERR.ROUTE_CYCLE = 1 ∧
      onlyRegsEv s t []) ∧
  (∀ (i : TaskId) (v : W32) (s : State), i.val < 480 → taskReserved i = false →
    s.dev.taskAccepts i ((RIL_TASK.RILL i).of v) = true → s.dev.fget (RIL_TASK.EN i) = 0 →
    completes (.rilTaskWrite .host i v) s fun t =>
      (s.dev.rillOwner ((RIL_TASK.RILL i).of v) = 1 →
        t.dev.fget (RIL_TASK.EN i) = (RIL_TASK.EN i).of v ∧ t.dev.fget (RIL_TASK.RILL i) = (RIL_TASK.RILL i).of v ∧
        onlyRegs s t [RIL_TASK.off i]) ∧
      (s.dev.rillOwner ((RIL_TASK.RILL i).of v) ≠ 1 →
        t.dev.reg (RIL_TASK.off i) = s.dev.reg (RIL_TASK.off i) ∧ t.dev.fget RIL_ERR.OWN_BAD = 1 ∧ onlyRegsEv s t [])) ∧
  (∀ (k : Fin 32) (s : State), (s.dev.task (480 + k.val)).arr ≠ [] → s.dev.canRaise (992 + k.val) = true →
    s.dev.fget (RIL_SRC.EN (992 + k.val)) = 1 → tget 0 s.dev.guardCnt (992 + k.val) < 1024 →
    completes (.relayTask k) s fun t =>
      let r := s.dev.fget (RIL_SRC.RILL (992 + k.val))
      992 + k.val ∈ t.dev.raised ∧ t.dev.fget (RIL_RL.HIT r) = 1 ∧
      (∀ i, i ∈ s.dev.subscribers r → i ≠ 480 + k.val → ∃ n, (t.dev.task i).arr =
        (s.dev.task i).arr ++ List.replicate (n + 1) (if taskOnXtal i then s.dev.xtal else s.dev.tk)) ∧
      onlyRegsEv s t [] ∧ regsSame s t [RIL_RL.off r]) ∧
  (∀ (hi : Bool) (v : W32) (s : State), completes (.softwareRaise hi v) s fun t =>
    (∀ j, j < 32 → bitAt v.toNat j = true →
      let src := 960 + (if hi then 32 else 0) + j
      s.dev.canRaise src = true → src ∈ t.dev.raised ∧
        (s.dev.fget (RIL_SRC.EN src) = 1 → tget 0 s.dev.guardCnt src < 1024 →
          t.dev.fget (RIL_RL.HIT (s.dev.fget (RIL_SRC.RILL src))) = 1)) ∧
    onlyRegsEv s t []) ∧
  (∀ s : State, s.dev.guardWin < s.dev.xtal / 25 →
    completes .guardWindowEnd s fun t => t.dev.guardCnt = [] ∧ t.dev.guardWin = s.dev.xtal / 25 ∧ still s t [])

/-- Task inputs (R366 to R368, R376, R526, R534): a clocked input whose synchroniser cycle has ended, 2 tk after the source event at the
earliest, fires once for the events of that cycle, counts those beyond the first in COAL and starts its re-arm time; an input of a
block without power discards them; the events that have come by the re-arm make one further firing; a mark writes an entry of the
sediment record, a request for SAFE shows as cause 2. -/
def Obligations.TasksFire : Prop :=
  (∀ (i : TaskId) (a : Nat) (as : List Nat) (s : State), ((320 ≤ i.val ∧ i.val < 336) ∨ (352 ≤ i.val ∧ i.val < 416)) →
    (s.dev.task i).arr = a :: as → (s.dev.task i).rearming = false → s.dev.taskDue i a = true → s.dev.mode ≠ .sleep →
    s.dev.ctlRestart = none →
    completes (.taskFire i) s fun t =>
      let took := ((s.dev.task i).arr.takeWhile (fun b => s.dev.taskSame i a b)).length
      t.dev.task i = ⟨(s.dev.task i).arr.drop took, true, s.dev.tk⟩ ∧
      t.dev.fget (RIL_TASK.COAL i) = min 255 (s.dev.fget (RIL_TASK.COAL i) + (took - 1)) ∧
      (i.val < 336 → i.val - 320 ∈ t.dev.rillLines) ∧ (352 ≤ i.val → i.val - 352 ∈ t.dev.fwIrq) ∧
      (∀ k, k ≠ i.val → t.dev.task k = s.dev.task k) ∧ still s t [RIL_TASK.off i]) ∧
  (∀ (i : TaskId) (a : Nat) (as : List Nat) (s : State), (s.dev.task i).arr = a :: as → s.dev.taskPowered i = true →
    s.dev.taskDue i a = false → completes (.taskFire i) s fun t => t = s) ∧
  (∀ (i : TaskId) (s : State), i.val < 480 → taskReserved i = false → s.dev.taskPowered i = false → (s.dev.task i).arr ≠ [] →
    (s.dev.task i).rearming = false →
    completes (.taskFire i) s fun t => (t.dev.task i).arr = [] ∧ (t.dev.task i).rearming = false ∧ still s t []) ∧
  (∀ (i : TaskId) (s : State), (s.dev.task i).rearming = true → s.dev.rearmed i = true → (s.dev.task i).arr = [] →
    completes (.taskRearm i) s fun t => t.dev.task i = { s.dev.task i with rearming := false } ∧ still s t []) ∧
  (∀ (i : TaskId) (n : Nat) (s : State), 320 ≤ i.val → i.val < 336 → (s.dev.task i).rearming = true → s.dev.rearmed i = true →
    ((s.dev.task i).arr.takeWhile (fun a => s.dev.taskDue i a)).length = n + 1 → s.dev.mode ≠ .sleep →
    completes (.taskRearm i) s fun t =>
      t.dev.task i = ⟨(s.dev.task i).arr.drop (n + 1), true, s.dev.tk⟩ ∧ i.val - 320 ∈ t.dev.rillLines ∧
      t.dev.fget (RIL_TASK.COAL i) = min 255 (s.dev.fget (RIL_TASK.COAL i) + n) ∧ still s t [RIL_TASK.off i]) ∧
  (∀ (a : Nat) (as : List Nat) (s : State), (s.dev.task 345).arr = a :: as → (s.dev.task 345).rearming = false → a < s.dev.xtal →
    completes .markEntry s fun t =>
      ⟨.mark, 0, s.dev.fget BBX_MARKARG.ARG⟩ ∈ t.dev.bbx ∧ (∀ e, e ∈ s.dev.bbx → e ∈ t.dev.bbx) ∧
      t.dev.task 345 = ⟨(a :: as).drop ((a :: as).takeWhile (fun b => b == a)).length, true, s.dev.tk⟩ ∧
      still s t [RIL_TASK.off 345]) ∧
  (∀ (a : Nat) (as : List Nat) (s : State), (s.dev.task 347).arr = a :: as → (s.dev.task 347).rearming = false → a < s.dev.xtal →
    bitAt (s.dev.fget BBX_SAFE.PRESENT) 1 = false →
    completes .requestSafe s fun t =>
      t.dev.fget BBX_SAFE.PRESENT = s.dev.fget BBX_SAFE.PRESENT + 2 ∧ 2 ∈ t.dev.safeDue ∧ ⟨.safe, 0, 2⟩ ∈ t.dev.bbx ∧
      (s.dev.fget BBX_CTL.FRZSAFE = 1 → s.dev.mode.running = true → 4 ∈ t.dev.frzDue) ∧ still s t [RIL_TASK.off 347, BBX_SAFE.off])

/-! ### Register accesses (chapter 01) -/

/-- The width of an access. -/
def accWidth : Access → Width
  | .read w => w
  | .write w _ => w

/-- Every byte that an access at `off` reaches or, when it is misaligned, the naturally aligned one below it, meets `p`. -/
def accAll (p : Nat → Prop) (off : Nat) (acc : Access) : Prop :=
  let n := widthBytes (accWidth acc)
  ∀ j, j < n → p (off + j) ∧ p (off / n * n + j)

/-- Accesses of registers (R16 to R20, R36, R40, R45, R571): the shot counter is written in PARK alone, a read of its low half keeps the
high half; a register takes the fields a write may change, an access that is narrow or misaligned none; an access that reaches
nothing reads 0, and the first is recorded; a read of a word behind an address register moves the address on. -/
def Obligations.RegisterAccesses : Prop :=
  (∀ (v : W32) (s : State), completes (.shotLoWrite v) s fun t =>
    (s.dev.mode = .park → t.dev.shotLo = some v) ∧ (s.dev.mode ≠ .park → t = s) ∧ t.dev.shot = s.dev.shot ∧ still s t []) ∧
  (∀ (v : W32) (s : State), completes (.shotHiWrite v) s fun t =>
    (s.dev.mode = .park → t.dev.shot.toNat = v.toNat % 2 ^ 16 * 2 ^ 32 + (s.dev.shotLo.getD 0).toNat ∧ t.dev.shotLo = none) ∧
    (s.dev.mode ≠ .park → t = s) ∧ still s t []) ∧
  (∀ s : State, completes .shotLoRead s fun t =>
    leNat t.dev.rdata = s.dev.shot.toNat % 2 ^ 32 ∧ t.dev.shotHiShadow.toNat = s.dev.shot.toNat / 2 ^ 32 ∧ t.dev.shot = s.dev.shot ∧
    still s t []) ∧
  (∀ (a : Auth) (k : Fin 16) (v : BitVec 64) (s : State),
    completes (.registerWrite a ⟨MK_IN_CFG.off k, by show 0x30100 + 8 * k.val < _; omega⟩ .w32 v) s fun t =>
      t.dev.fget (MK_IN_CFG.EDGE k) = (MK_IN_CFG.EDGE k).of (v.setWidth 32) ∧
      t.dev.fget (MK_IN_CFG.RING k) = (MK_IN_CFG.RING k).of (v.setWidth 32) ∧
      t.dev.fget (MK_IN_CFG.HOLDOFF k) = (MK_IN_CFG.HOLDOFF k).of (v.setWidth 32) ∧ onlyRegs s t [MK_IN_CFG.off k]) ∧
  (∀ (a : Auth) (v : BitVec 64) (s : State),
    completes (.registerWrite a ⟨CL_WIN.off 0, by decide⟩ .w64 v) s fun t =>
      t.dev.reg (CL_WIN.off 0) = v.setWidth 32 ∧ t.dev.reg (CL_WIN.off 1) = (v >>> 32).setWidth 32 ∧
      onlyRegs s t [CL_WIN.off 0, CL_WIN.off 1]) ∧
  (∀ (a : Auth) (off : Fin 0x2000000) (w : Width) (v : BitVec 64) (s : State),
    (w = .w8 ∨ w = .w16 ∨ off.val % 4 ≠ 0) → bar0Reserved (off.val / 4 * 4) = false → domainAt (off.val / 4 * 4) = none →
    completes (.registerWrite a off w v) s fun t => t = s) ∧
  (∀ (bar : Bar) (off : Nat) (acc : Access) (s : State), accAll (fun o => barReserved bar o = true) off acc →
    dmaOutside s (bar2Base + off) (widthBytes (accWidth acc)) →
    completes (.reservedRangeAccess bar off acc) s fun t =>
      (∀ w, acc = .read w → t.dev.rdata = List.replicate (widthBytes w) 0) ∧ t.dev.fget GLB_MAPERR.VALID = 1 ∧
      (s.dev.fget GLB_MAPERR.VALID = 0 →
        t.dev.fget GLB_MAPERR.BAR = (if bar = .bar0 then 0 else 1) ∧ t.dev.fget GLB_MAPERR.OFFSET = off) ∧
      (s.dev.fget GLB_MAPERR.VALID = 1 → regsSame s t []) ∧ still s t [GLB_MAPERR.off]) ∧
  (∀ (bar : Bar) (off n : Nat) (acc : Access) (s : State), accAll (fun o => barDomain bar o = some n) off acc →
    s.dev.domOn n = false → dmaOutside s (bar2Base + off) (widthBytes (accWidth acc)) →
    completes (.poweredOffDomainAccess bar off acc) s fun t =>
      (∀ w, acc = .read w → t.dev.rdata = List.replicate (widthBytes w) 0) ∧ t.dev.fget GLB_MAPERR.VALID = 1 ∧
      (s.dev.fget GLB_MAPERR.VALID = 0 → t.dev.fget GLB_MAPERR.BAR = (if bar = .bar0 then 2 else 3)) ∧
      (s.dev.fget GLB_MAPERR.VALID = 1 → regsSame s t []) ∧ still s t [GLB_MAPERR.off]) ∧
  (∀ (oc : OcId) (k : Fin 8) (s : State), s.dev.domOn oc = true →
    completes (.uregLoRead oc k) s fun t =>
      let x := ((s.dev.eng oc).ureg (8 + k.val)).toNat
      leNat t.dev.rdata = x % 2 ^ 32 ∧ (tget 0 (t.dev.eng oc).ureadHi k).toNat = x / 2 ^ 32 ∧
      (t.dev.eng oc).u = (s.dev.eng oc).u ∧ ocsSame s t oc ∧ devOnly s t ∧ memSame s t ∧ regsSame s t []) ∧
  (∀ s : State, completes .stagingRead s fun t =>
    leNat t.dev.rdata = s.dev.rdLe (stagingBase + s.dev.fget MCS_UADDR.ADDR) 4 ∧
    t.dev.fget MCS_UADDR.ADDR = (s.dev.fget MCS_UADDR.ADDR + 4) % 2 ^ 15 ∧ still s t [MCS_UADDR.off]) ∧
  (∀ s : State, completes .nvdataRead s fun t =>
    leNat t.dev.rdata = s.dev.rdLe (nvBase + s.dev.fget CFG_NVADDR.ADDR) 4 ∧
    t.dev.fget CFG_NVADDR.ADDR = (s.dev.fget CFG_NVADDR.ADDR + 4) % (CFG_NVADDR.ADDR.max + 1) ∧ still s t [CFG_NVADDR.off]) ∧
  (∀ (a : Auth) (s : State), completes (.bstSigLoRead a) s fun t =>
    let sig := if a = .host ∧ s.dev.otp.provisioned = true then 0#64 else Config.bistSignature (s.dev.fget BST_SIGSEL.PART)
    leNat t.dev.rdata = sig.toNat % 2 ^ 32 ∧ t.dev.sigHi.toNat = sig.toNat / 2 ^ 32 ∧ still s t []) ∧
  (∀ s : State, completes .clRefLoRead s fun t =>
    leNat t.dev.rdata = s.dev.clRead.1 / 1024 % 2 ^ 32 ∧
    t.dev.cycle.shRefHi = BitVec.ofNat 32 (s.dev.clRead.1 / 1024 / 2 ^ 32) ∧
    t.dev.cycle.shPerLo = BitVec.ofNat 32 s.dev.clRead.2 ∧ still s t [])

/-! ### Markers, stamps and the cycle lock (chapter 13) -/

/-- Edges and cycles (R381 to R384, R388, R389, R398, R399, R401): an edge joins those on their way unless it falls in the hold-off or
within 1.5 ticks of the last; six ticks later it is registered, and its stamp put among those of the tick in ascending SRC; the stamps of the
tick are written to the ring in that order, each with its input's lost count, and dropped while 1,024 are unread; a read pointer
moves no further than WR; a reference edge that does not come empties the measurement; a quiet window raises its source; held
values commit when their period is in range. -/
def Obligations.MarkersAndCycles : Prop :=
  (∀ (k : Fin 16) (rising : Bool) (f : BitVec 10) (s : State), s.dev.mode ≠ .load → s.dev.mode ≠ .sleep →
    (s.dev.fget (MK_IN_CFG.EDGE k) = 3 ∨ (s.dev.fget (MK_IN_CFG.EDGE k) = 1 ∧ rising = true) ∨
      (s.dev.fget (MK_IN_CFG.EDGE k) = 2 ∧ rising = false)) →
    completes (.markerEdge k rising f) s fun t =>
      let at_ := 1024 * s.dev.tk + f.toNat
      let m := tget {} s.dev.mkIn k
      ((∀ l, m.last = some l → s.dev.holdoff k ≤ at_ - l ∧ 1536 ≤ at_ - l) →
        t.dev.edges = s.dev.edges ++ [⟨k.val, rising, 1024 * s.clk.now.toNat + f.toNat, s.dev.tk + 6⟩] ∧
        (tget {} t.dev.mkIn k).last = some at_ ∧ still s t []) ∧
      (∀ l, m.last = some l → at_ - l < s.dev.holdoff k →
        t.dev.edges = s.dev.edges ∧ t.dev.fget (MK_IN_CNT.HELD k) = min 65535 (s.dev.fget (MK_IN_CNT.HELD k) + 1) ∧
        onlyRegs s t [MK_IN_CNT.off k]) ∧
      (∀ l, m.last = some l → s.dev.holdoff k ≤ at_ - l → at_ - l < 1536 →
        t.dev.edges = s.dev.edges ∧ t.dev.fget (MK_IN_CNT.LOST k) = min 65535 (s.dev.fget (MK_IN_CNT.LOST k) + 1) ∧
        (tget {} t.dev.mkIn k).lost = m.lost + 1 ∧ plain s t [MK_IN_CNT.off k])) ∧
  (∀ (k : Fin 16) (rising : Bool) (f : BitVec 10) (s : State),
    (s.dev.fget (MK_IN_CFG.EDGE k) = 0 ∨ (s.dev.fget (MK_IN_CFG.EDGE k) = 1 ∧ rising = false) ∨
      (s.dev.fget (MK_IN_CFG.EDGE k) = 2 ∧ rising = true)) →
    completes (.markerEdge k rising f) s fun t => t = s) ∧
  (∀ (e : EdgePend) (s : State), s.dev.edges = [e] → e.due ≤ s.dev.tk → e.k < 16 → s.dev.clReference e.k e.rising = false →
    (∀ u, u < 8 → s.dev.tuOn u condExt = false) → s.dev.mode ≠ .load → s.dev.mode ≠ .sleep →
    completes .markerEdgeRegister s fun t =>
      t.dev.edges = [] ∧ (s.dev.canRaise (672 + e.k) = true → 672 + e.k ∈ t.dev.raised) ∧
      (tget {} t.dev.mkIn e.k).pol = e.rising ∧ (s.dev.tk, e.k, e.rising) ∈ t.dev.mkIntake ∧
      t.dev.stamps = (if s.dev.fget (MK_IN_CFG.RING e.k) = 1 then stampInsert ⟨e.k, e.stamp, e.rising⟩ s.dev.stamps
        else s.dev.stamps) ∧
      plain s t []) ∧
  (∀ s : State, (s.dev.mode = .load ∨ s.dev.mode = .sleep) →
    completes .markerEdgeRegister s fun t => t.dev.edges = [] ∧ still s t []) ∧
  (∀ (x : StampDue) (xs : List StampDue) (d : Dev), d.stamps = x :: xs →
    d.stampFlush = xs.foldl (fun d y => d.stampWrite y.stamp y.src y.pol)
      (({ d with stamps := [] } : Dev).stampWrite x.stamp x.src x.pol)) ∧
  (∀ (stamp src : Nat) (pol : Bool) (d : Dev), let t := d.stampWrite stamp src pol
    (d.stampUnread < 1024 →
      t.rdBytes (stampEntry (d.fget TDC_STAT.WR)) 16 =
        (stampWords stamp src pol (d.bit TML_STATUS.TSUS) d.stampSpill (tget {} d.mkIn src).lost
          d.stampSeq.toNat).flatMap (leBytes 8) ∧
      t.fget TDC_STAT.WR = (d.fget TDC_STAT.WR + 1) % 2048 ∧ t.stampSpill = false ∧ t.stampSeq = d.stampSeq + 1 ∧
      (tget {} t.mkIn src).lost = 0 ∧ (d.canRaise 688 = true → 688 ∈ t.raised)) ∧
    (1024 ≤ d.stampUnread →
      t.fget TDC_CNT.DROP = min TDC_CNT.DROP.max (d.fget TDC_CNT.DROP + 1) ∧ t.fget TDC_STAT.DROP = 1 ∧ t.stampSpill = true ∧
      t.fget TDC_STAT.WR = d.fget TDC_STAT.WR ∧ t.mem = d.mem ∧ t.stampSeq = d.stampSeq)) ∧
  (∀ (v : W32) (s : State), completes (.stampRdWrite v) s fun t =>
    ((TDC_RD.RD.of v + 2048 - s.dev.fget TDC_RD.RD) % 2048 ≤ s.dev.stampUnread → t.dev.fget TDC_RD.RD = TDC_RD.RD.of v) ∧
    (s.dev.stampUnread < (TDC_RD.RD.of v + 2048 - s.dev.fget TDC_RD.RD) % 2048 → t = s) ∧ onlyRegs s t [TDC_RD.off]) ∧
  (∀ (x : Nat) (s : State), s.dev.clDeadline = some x → x ≤ s.clk.now.toNat → s.dev.edges = [] →
    completes .cycleEdgeMissing s fun t =>
      t.dev.fget CL_ERR.MISSING = 1 ∧ t.dev.fget CL_STAT.NACC = 0 ∧ t.dev.cycle.hist = [] ∧ t.dev.cycle.measValid = false ∧
      plain s t [CL_ERR.off, CL_STAT.off]) ∧
  (∀ (w : Fin 4) (s : State), s.dev.nextWindow w s.clk.now.toNat = some s.clk.now.toNat →
    completes (.cycleWindowStart w) s fun t =>
      (s.dev.canRaise (692 + w.val) = true → 692 + w.val ∈ t.dev.raised) ∧ onlyRegsEv s t []) ∧
  (∀ (v : W32) (s : State), CL_COMMIT.COMMIT.of v = 1 → s.dev.fget CL_CFG.HOLD = 1 →
    completes (.cycleHoldCommit v) s fun t =>
      (periodOk s.dev.cycle.stPer.toNat = true →
        t.dev.cycle.pend = some (s.dev.cycle.stRef.toNat, s.dev.cycle.stPer.toNat) ∧ t.dev.fget CL_STAT.PEND = 1 ∧
        t.dev.cycle.held = s.dev.cycle.held) ∧
      (periodOk s.dev.cycle.stPer.toNat = false → t.dev.fget CL_ERR.HOLD_BAD = 1 ∧ t.dev.cycle = s.dev.cycle) ∧
      still s t [CL_STAT.off, CL_ERR.off])

/-! ### The configuration image and the boot (chapter 14) -/

/-- Registers below a BAR0 offset keep what they held, but for those listed. -/
def lowRegsSame (s t : State) (below : Nat) (but : List Nat) : Prop := ∀ off, off < below → off ∉ but → t.dev.reg off = s.dev.reg off

/-- The slot's FAIL and CAUSE fields (R415). -/
def failOf (d : Dev) (slot : Nat) : Nat × Nat :=
  if slot = 0 then (d.fget CFG_BOOT.FAILA, d.fget CFG_BOOT.CAUSEA) else (d.fget CFG_BOOT.FAILB, d.fget CFG_BOOT.CAUSEB)

/-- The boot (R405, R413 to R415, R417, R420, R421, R431, R533): the probe shows the flash slow unless its tables and the re-read agree;
without a candidate slot the loader stops with STATE 3; a slot whose manifest does not hash fails; one that holds the firmware alone,
whole and hashed, is loaded; a failed attempt undoes its writes and marks its slot; from CALIBRATE the boot reaches PARK; after it the
fuses, the shutdown log and the frames are seen to; REBOOT is a reset. A header's cause is noted without failing its slot (log
entry 43). -/
def Obligations.BootRuns : Prop :=
  (∀ (sfdp : Bool) (reread : BitVec 512) (s : State), s.dev.boot.phase = .waiting → s.dev.mode = .load → s.dev.vauxLost = false →
    s.dev.heat.shutdown = none → s.dev.otp.repairs = [] →
    completes (.bootStart sfdp reread) s fun t =>
      t.dev.fget CFG_STAT.SLOWFL = (if sfdp = true ∧ leNat s.dev.probeBytes = reread.toNat then 0 else 1) ∧
      (s.dev.chooseSlot = none →
        t.dev.boot.phase = .noImage ∧ t.dev.fget CFG_STAT.STATE = 3 ∧ still s t [CFG_STAT.off, CFG_BOOT.off]) ∧
      (∀ k, s.dev.chooseSlot = some k →
        t.dev.boot.slot = k ∧ t.dev.fget CFG_STAT.SLOT = k ∧
        (s.dev.boot.fellBack = true → t.dev.fget CFG_STAT.FELLBACK = 1) ∧
        (sha256 (s.dev.manifestBytes k) ≠ s.dev.img k 0x20 32 →
          t.dev.boot.phase = .failing 4 ∧ plain s t [CFG_STAT.off, CFG_BOOT.off]) ∧
        (∀ e, sha256 (s.dev.manifestBytes k) = s.dev.img k 0x20 32 → manEntries (s.dev.manifestBytes k) = [e] → e.type = 5 →
          e.ok = true → e.domain = noDomain → e.target + e.len ≤ 0x800000 → sha256 (s.dev.blockOf k e) = e.hash →
          t.dev.boot.phase = .loaded ∧ t.dev.fget CFG_SEQ.SEQ = s.dev.imgLe k 0xC 4 ∧
          t.dev.rdBytes (mgmtBase + e.target) e.len = s.dev.blockOf k e ∧ memOutside s t (mgmtBase + e.target) e.len ∧
          devOnly s t ∧ regsSameEv s t [CFG_STAT.off, CFG_BOOT.off, CFG_SEQ.off]))) ∧
  (∀ (cause : BootCause) (s : State), s.dev.boot.phase = .failing (bootCauseCode cause) → bootCauseCode cause ≤ 6 →
    (s.dev.boot.slot = 0 ∨ s.dev.boot.slot = 1) → s.dev.slotFailed (1 - s.dev.boot.slot) = true →
    CFG_BOOT.off ∉ s.dev.boot.wroteRegs → s.dev.mode = .load →
    completes (.bootAttemptFail cause) s fun t =>
      failOf t.dev s.dev.boot.slot = (1, bootCauseCode cause) ∧ t.dev.boot.phase = .noImage ∧ t.dev.fget CFG_STAT.STATE = 3 ∧
      (∀ off, off ∈ s.dev.boot.wroteRegs → off ∉ [THM_LIM.off, MCS_VER.off, CFG_SEQ.off, CFG_STAT.off] →
        t.dev.reg off = regReset off) ∧
      (∀ off, off ∉ s.dev.boot.wroteRegs → off ∉ [MCS_VER.off, CFG_SEQ.off, CFG_STAT.off, CFG_BOOT.off] →
        t.dev.reg off = s.dev.reg off) ∧
      (∀ a, t.dev.rd8 a = if s.dev.boot.wroteMem.any (fun r => decide (r.1 ≤ a) && decide (a < r.1 + r.2)) ∨
          recordWrote s.dev.boot.wroteRegs a = true then memDefault a else s.dev.rd8 a) ∧ t.pending = s.pending) ∧
  (∀ s : State, s.dev.boot.phase = .loaded → s.dev.mode = .load → s.dev.dogWait = false →
    (∀ e, e ∈ s.dev.manifest → 224 ≤ e.domain) →
    completes .bootLoadDone s fun t =>
      t.dev.mode = .calibrate ∧ t.dev.fget CFG_STAT.STATE = 1 ∧ t.dev.boot.phase = .calibrating ∧ t.clk.starting = true ∧
      t.dev.calQ = List.range calGroups ∧ t.dev.calAsk = List.range calGroups ∧ t.dev.fget CAL_STAT.BUSY = 1 ∧
      t.pending = s.pending) ∧
  (∀ s : State, s.dev.boot.phase = .calibrating → s.dev.calQ = [] → s.dev.mode = .calibrate →
    completes .bootPark s fun t =>
      t.dev.mode = .park ∧ t.dev.fget CFG_STAT.STATE = 2 ∧ t.dev.boot.phase = .done ∧
      t.dev.fget GLB_MODE.PREV = Mode.calibrate.code ∧ (s.dev.canRaise 832 = true → 832 ∈ t.dev.raised) ∧ devOnly s t ∧
      lowRegsSame s t 0x10000 [GLB_MODE.off]) ∧
  (∀ (v : W32) (s : State), CFG_CTL.REBOOT.of v = 1 → (s.dev.mode = .load ∨ s.dev.mode = .park ∨ s.dev.mode = .safe) →
    s.dev.heat.shutdown = none → s.dev.fget THM_STAT.SDLATCH = 0 →
    completes (.reboot v) s fun t =>
      t.dev.mode = .load ∧ t.dev.fget GLB_RSTCAUSE.CAUSE = 7 ∧ t.dev.boot.phase = .waiting ∧ t.dev.fget PCI_STAT.DL_UP = 0 ∧
      t.dev.otp = s.dev.otp ∧ t.pending = s.pending) ∧
  (∀ (ok : Bool) (e : ManEntry) (s : State), s.dev.boot.phase = .done → s.dev.boot.provDone = false →
    s.dev.bootedEntry 6 = some e → s.dev.otp.provisioned = false →
    completes (.provisionFuse ok) s fun t =>
      (ok = true → t.dev.otp.provisioned = true ∧ t.dev.otp.keyHash = (s.dev.blockOf s.dev.boot.slot e).take 32 ∧
        t.dev.otp.svn = max (leNat (((s.dev.blockOf s.dev.boot.slot e).drop 32).take 4)) s.dev.otp.svn) ∧
      (ok = false → t.dev.fget SEC_ERR.FUSE = 1 ∧ t.dev.otp = s.dev.otp) ∧ t.dev.boot.provDone = true ∧
      still s t [SEC_ERR.off]) ∧
  (∀ (k : Nat) (s : State), s.dev.boot.phase = .done → s.dev.boot.logDone = false → k < 64 →
    (∀ i, i < 64 → i ≠ k → ∀ x, x < 64 → s.dev.rd8 (shutdownPage i + x) = 0xFF) →
    (∃ x, x < 64 ∧ s.dev.rd8 (shutdownPage k + x) ≠ 0xFF) →
    completes .shutdownLogCopy s fun t =>
      t.dev.rdBytes (logPage s.dev.logNext) 64 = s.dev.rdBytes (shutdownPage k) 64 ∧
      (∀ x, x < 64 → t.dev.rd8 (shutdownPage k + x) = 0xFF) ∧ t.dev.logNext = s.dev.logNext + 1 ∧ t.dev.boot.logDone = true ∧
      (∀ a, (a < shutdownPage k ∨ shutdownPage k + 64 ≤ a) → (a < logPage s.dev.logNext ∨ logPage s.dev.logNext + 64 ≤ a) →
        t.dev.rd8 a = s.dev.rd8 a) ∧ devOnly s t ∧ regsSame s t []) ∧
  (∀ s : State, s.dev.boot.phase = .done → s.dev.boot.eraseDone = false →
    completes .frameErase s fun t =>
      2 ≤ ((List.range 15).filter t.dev.frameErased).length ∧ t.dev.boot.eraseDone = true ∧
      (2 ≤ ((List.range 15).filter s.dev.frameErased).length → memSame s t) ∧
      memOutside s t (nvBase + 0x40000) 0x3C3C0 ∧ devOnly s t ∧ regsSame s t [])

/-- A flash command has been taken (R419): one that would change the slot booted from is refused, any other waits for the loader. -/
def flashTaken (v : W32) (s t : State) : Prop :=
  let op := CFG_FLCMD.OP.of v
  let a := s.dev.fget CFG_FLADDR.ADDR
  let guarded := (op = 1 ∨ op = 2) ∧ a / 0x4000000 = s.dev.boot.slot ∧
    (s.dev.boot.phase = .calibrating ∨ s.dev.boot.phase = .done)
  (guarded → t.dev.fget CFG_ERR.FL_PROT = 1 ∧ t.dev.flash = none) ∧
  (¬ guarded → t.dev.flash = some ⟨op, a, s.dev.tk⟩ ∧ t.dev.fget CFG_FLCMD.BUSY = 1 ∧ t.dev.fget CFG_FLCMD.DONE = 0 ∧
    t.dev.fget CFG_FLCMD.ERR = 0) ∧ still s t [CFG_FLCMD.off, CFG_ERR.off]

/-- The flash, domains and attestation (R419, R422 to R426, R433, R523, R524): a flash command waits for the loader and then has its
effect on the buffer or the flash; a domain is powered by its enable bit, ramps, joins the queue for rehydration, and shows
REHYDRATED, its engine's refill list to be rebuilt on the next tick (R106), or its failure; a report is built over the nonce and
signed. -/
def Obligations.FlashDomainsReports : Prop :=
  (∀ (v : W32) (s : State), CFG_FLCMD.GO.of v = 1 → s.dev.flash = none →
    completes (.flashRead v) s (flashTaken v s) ∧ completes (.flashProgram v) s (flashTaken v s) ∧
    completes (.flashErase v) s (flashTaken v s) ∧ completes (.flashReadStatus v) s (flashTaken v s)) ∧
  (∀ (status : Byte) (c : FlashCmd) (s : State), s.dev.flash = some c → s.dev.loaderBusy = false →
    s.dev.flashProtected c.op c.addr = false →
    completes (.flashCommandDone status) s fun t =>
      let sector := flashBase + c.addr / 4096 * 4096
      let page := flashBase + c.addr / 256 * 256
      (c.op = 0 → t.dev.rdBytes flBufBase 256 = s.dev.rdBytes (flashBase + c.addr) 256 ∧ memOutside s t flBufBase 256) ∧
      (c.op = 1 → t.dev.rdBytes page 256 = (s.dev.rdBytes flBufBase 256).zipWith (· &&& ·) (s.dev.rdBytes page 256) ∧
        memOutside s t page 256) ∧
      (c.op = 2 → (∀ x, x < 4096 → t.dev.rd8 (sector + x) = 0xFF) ∧ memOutside s t sector 4096) ∧
      (c.op = 3 → t.dev.rd8 flBufBase = status ∧ memOutside s t flBufBase 1) ∧
      t.dev.flash = none ∧ t.dev.fget CFG_FLCMD.BUSY = 0 ∧ t.dev.fget CFG_FLCMD.DONE = 1 ∧ devOnly s t ∧
      t.dev.ocs = s.dev.ocs ∧ regsSame s t [CFG_FLCMD.off]) ∧
  (∀ (status : Byte) (c : FlashCmd) (s : State), s.dev.flash = some c → s.dev.loaderBusy = false →
    s.dev.flashProtected c.op c.addr = true →
    completes (.flashCommandDone status) s fun t =>
      t.dev.flash = none ∧ t.dev.fget CFG_FLCMD.BUSY = 0 ∧ t.dev.fget CFG_ERR.FL_PROT = 1 ∧ still s t [CFG_FLCMD.off, CFG_ERR.off]) ∧
  (∀ (c : FlashCmd) (s : State), s.dev.flash = some c → s.dev.loaderBusy = false → c.tk + 312500000 ≤ s.dev.tk →
    completes .flashCommandTimeout s fun t =>
      t.dev.flash = none ∧ t.dev.fget CFG_FLCMD.BUSY = 0 ∧ t.dev.fget CFG_FLCMD.ERR = 1 ∧ t.dev.fget CFG_ERR.FL_ERR = 1 ∧
      still s t [CFG_FLCMD.off, CFG_ERR.off]) ∧
  (∀ (j : Fin 7) (v : W32) (s : State), s.dev.mode = .park → s.dev.fget CFG_REHY.ACTIVE = 0 →
    completes (.domainPowerWrite j v) s fun t =>
      t.dev.fget (if j.val < 6 then GLB_PWROC.ON j else GLB_PWRIC.ON) = v.toNat ∧
      (∀ b, b < 32 → bitAt v.toNat b = true → s.dev.domEnabled (32 * j.val + b) = false →
        tget 0 t.dev.ramp (32 * j.val + b) = s.dev.tk) ∧
      (∀ b, b < 32 → bitAt v.toNat b = false → s.dev.domEnabled (32 * j.val + b) = true →
        ∀ off, inDomain (32 * j.val + b) off = true → t.dev.reg off = regReset off) ∧
      (∀ off, (∀ n, n < 224 → inDomain n off = false) → off ∉ [GLB_PWROC.off j, GLB_PWRIC.off] →
        t.dev.reg off = s.dev.reg off) ∧ devOnly s t) ∧
  (∀ (dom : DomainId) (s : State), s.dev.nextRamp = some dom.val → tget 0 s.dev.ramp dom < s.dev.tk →
    s.dev.heat.shutdown = none → s.dev.mode ≠ .relay →
    completes (.domainPowerUp dom) s fun t =>
      t.dev.ramp = tdel s.dev.ramp dom ∧ t.dev.rehyQ = s.dev.rehyQ ++ [dom.val] ∧ still s t [OC_STATUS.off dom]) ∧
  (∀ (dom : DomainId) (s : State), s.dev.rehyQ.head? = some dom.val → s.dev.fget CFG_REHY.ACTIVE = 0 →
    s.dev.manifest.filter (fun e => e.domain == dom.val) = [] →
    completes (.domainRehydrate dom true) s fun t =>
      t.dev.fget CFG_REHY.ACTIVE = 1 ∧ t.dev.fget CFG_REHY.DOMAIN = dom.val ∧ still s t [CFG_REHY.off]) ∧
  (∀ (dom : DomainId) (s : State), s.dev.rehyQ.head? = some dom.val → s.dev.fget CFG_REHY.ACTIVE = 0 →
    completes (.domainRehydrate dom false) s fun t =>
      t.dev.fget CFG_REHY.ACTIVE = 0 ∧ t.dev.fget CFG_REHY.FVALID = 1 ∧ t.dev.fget CFG_REHY.FDOM = dom.val ∧
      t.dev.fget CFG_ERR.REHY_FAIL = 1 ∧ ∀ off, inDomain dom off = true → t.dev.reg off = regReset off) ∧
  (∀ (dom : DomainId) (ans : Bool) (e : ManEntry) (es : List ManEntry) (s : State), s.dev.rehyQ.head? = some dom.val →
    s.dev.fget CFG_REHY.ACTIVE = 0 → s.dev.manifest.filter (fun e => e.domain == dom.val) = e :: es →
    sha256 (s.dev.blockOf s.dev.boot.slot e) ≠ e.hash →
    completes (.domainRehydrate dom ans) s fun t =>
      t.dev.fget CFG_REHY.ACTIVE = 0 ∧ t.dev.fget CFG_REHY.FVALID = 1 ∧ t.dev.fget CFG_REHY.FDOM = dom.val ∧
      t.dev.fget CFG_ERR.REHY_FAIL = 1 ∧ t.dev.rehyQ = s.dev.rehyQ.drop 1 ∧
      (∀ off, inDomain dom off = true → t.dev.reg off = regReset off) ∧ devOnly s t) ∧
  (∀ (dom : DomainId) (s : State), s.dev.rehyQ.head? = some dom.val → s.dev.fget CFG_REHY.ACTIVE = 1 →
    completes (.rehydrationComplete dom) s fun t =>
      t.dev.fget CFG_REHY.ACTIVE = 0 ∧ t.dev.rehyQ = s.dev.rehyQ.drop 1 ∧
      (dom.val < 192 → t.dev.fget (OC_STATUS.REHYDRATED dom) = 1) ∧
      (192 ≤ dom.val → t.dev.fget (IC_STATUS.REHYDRATED (dom.val - 192)) = 1) ∧
      (s.dev.canRaise 834 = true → 834 ∈ t.dev.raised) ∧
      (∀ n, t.dev.oc n = if n = dom.val ∧ n < 192 then
        { s.dev.oc n with eng := { s.dev.eng n with rebuild := some (s.dev.tk + 1) } } else s.dev.oc n) ∧
      devOnly s t ∧ memSame s t ∧ t.dev.ics = s.dev.ics ∧
      regsSameEv s t [CFG_REHY.off, if dom.val < 192 then OC_STATUS.off dom else IC_STATUS.off (dom.val - 192)]) ∧
  (∀ (g : GraphId) (s : State), (s.dev.graph g).lost = true →
    s.dev.manifest.find? (fun e => e.type == 3 && e.target == g.val) = none →
    completes (.graphReload g) s fun t =>
      t.dev.graph g = { s.dev.graph g with lost := false } ∧ (∀ h, h ≠ g.val → t.dev.graph h = s.dev.graph h) ∧ still s t []) ∧
  (∀ (v : W32) (s : State), SEC_CTL.ATTEST.of v = 1 →
    completes (.attest v) s fun t =>
      (s.dev.attesting = true → t.dev.fget SEC_ERR.BUSY = 1 ∧ t.dev.attesting = true) ∧
      (s.dev.attesting = false → s.dev.fget SEC_STAT.NOKEY = 1 → t.dev.fget SEC_ERR.NOKEY = 1 ∧ t.dev.attesting = false) ∧
      (s.dev.attesting = false → s.dev.fget SEC_STAT.NOKEY = 0 →
        t.dev.attesting = true ∧ t.dev.fget SEC_STAT.BUSY = 1 ∧ ∀ x, x < 0x300 → t.dev.rd8 (reportBase + x) = 0) ∧
      memOutside s t reportBase 0x300 ∧ devOnly s t ∧ t.dev.ocs = s.dev.ocs ∧ regsSame s t [SEC_ERR.off, SEC_STAT.off]) ∧
  (∀ (e : ManEntry) (s : State), s.dev.attesting = true → s.dev.boot.phase = .done → s.dev.bootedEntry 5 = some e →
    s.dev.mcChain.length = 32 →
    completes .attestDone s fun t =>
      t.dev.rdBytes reportBase 4 = [0x58#8, 0x4B#8, 0x41#8, 0x52#8] ∧
      (∀ i, i < 8 → t.dev.rdLe (reportBase + 32 + 4 * i) 4 = (s.dev.reg (SEC_NONCE.off i)).toNat) ∧
      t.dev.reports = s.dev.reports + 1 ∧ t.dev.attesting = false ∧ t.dev.fget SEC_STAT.BUSY = 0 ∧
      t.dev.fget SEC_STAT.READY = 1 ∧ (s.dev.canRaise 835 = true → 835 ∈ t.dev.raised) ∧ memOutside s t reportBase 0x300 ∧
      devOnly s t ∧ t.dev.ocs = s.dev.ocs ∧ regsSameEv s t [SEC_STAT.off])

/-! ### The microcode store (chapter 15) -/

/-- What a command of engine `n` leaves alone: everything but that engine. -/
def onlyEng (n : Nat) (s t : State) : Prop :=
  t = { s with dev := { s.dev with ocs := t.dev.ocs } } ∧ ocsSame s t n ∧ t.dev.oc n = { s.dev.oc n with eng := t.dev.eng n }

/-- Engine `n` may read the next word `w` of its routine `c`, and no error stands in it (R443, R446). -/
def microReady (n : Nat) (s : State) (c : CallSt) (w : MicroWord) : Prop :=
  s.dev.microAt n = some (c, w) ∧ c.skip = false ∧ s.dev.mcBad.contains (n / 48, c.pc) = false

/-- A micro-word has put a value in U[D] and the routine has gone on to the next word (Table 15-3). -/
def microSet (n : Nat) (c : CallSt) (w : MicroWord) (v : BitVec 64) (s t : State) : Prop :=
  let e := s.dev.eng n
  t.dev.eng n = { e with u := tset 0 e.u w.d v, reads := e.reads + 1, call := some { c with pc := c.pc + 1 } } ∧ onlyEng n s t

/-- A micro-word has decided whether the next one is skipped (Table 15-3). -/
def microSkip (n : Nat) (c : CallSt) (skip : Bool) (s t : State) : Prop :=
  let e := s.dev.eng n
  t.dev.eng n = { e with reads := e.reads + 1, call := some { c with pc := c.pc + 1, skip := skip } } ∧ onlyEng n s t

/-- An ISSUE of the build register has met a fault, waits for room in its tone's queue, or has put its command there (R442, R446). -/
def microIssued (oc : OcId) (c : CallSt) (w : MicroWord) (play : Bool) (s t : State) : Prop :=
  let e := s.dev.eng oc
  let k := e.build.tone
  let good := e.build.shape ≤ 64 ∧ k < s.dev.toneCount oc
  (¬ good → ((t.dev.eng oc).call).map (fun x => (x.pc, x.faults, x.fault)) =
    some (c.pc + 1, c.faults + 1, c.fault <|> some (1, c.pc)) ∧ onlyEng oc s t) ∧
  (good → c.stop ≤ c.c + w.dt → ((t.dev.eng oc).call).map (fun x => (x.pc, x.faults, x.fault)) =
    some (c.pc + 1, c.faults + 1, c.fault <|> some (2, c.pc)) ∧ onlyEng oc s t) ∧
  (good → c.c + w.dt < c.stop → s.dev.queueRoom oc k = true → s.clk.now.toNat + 2 ≤ c.c + w.dt →
    (t.dev.tone oc k).queue = (s.dev.tone oc k).queue ++ [⟨c.c + w.dt, play, c.strobe, e.build, none⟩] ∧
    t.dev.eng oc = { e with reads := e.reads + 1, call := some { c with pc := c.pc + 1 } } ∧
    (∀ j, j ≠ k → t.dev.tone oc j = s.dev.tone oc j) ∧ ocsSame s t oc ∧ devOnly s t ∧ memSame s t ∧ regsSame s t []) ∧
  (good → c.c + w.dt < c.stop → s.dev.queueRoom oc k = false → t = s)

/-- User micro-words (Tables 15-3 and 15-4, R440, R442 to R444, R446): each has its effect on the scratch registers or the build
register, takes one of the engine's reads, and goes on; a skipped word has none; a word with an error that no rewriting has mended ends
its routine with fault 3; ISSUE puts the build register in its tone's queue, or faults; RET ends the routine and the cursor moves by
the CALL's ADV. -/
def Obligations.MicroWords : Prop :=
  (∀ (oc : OcId) (c : CallSt) (w : MicroWord) (s : State), microReady oc s c w →
    let a := (s.dev.eng oc).ureg w.a
    let b := (s.dev.eng oc).ureg w.b
    let imm := BitVec.ofNat 64 w.imm
    (w.uop = uopNop → completes (.uNop oc) s (microSkip oc c false s)) ∧
    (w.uop = uopLdi → completes (.uLdi oc) s (microSet oc c w imm s)) ∧
    (w.uop = uopAdd → completes (.uAdd oc) s (microSet oc c w (a + b) s)) ∧
    (w.uop = uopSub → completes (.uSub oc) s (microSet oc c w (a - b) s)) ∧
    (w.uop = uopAnd → completes (.uAnd oc) s (microSet oc c w (a &&& b) s)) ∧
    (w.uop = uopOr → completes (.uOr oc) s (microSet oc c w (a ||| b) s)) ∧
    (w.uop = uopXor → completes (.uXor oc) s (microSet oc c w (a ^^^ b) s)) ∧
    (w.uop = uopShl → completes (.uShl oc) s (microSet oc c w (BitVec.ofNat 64 (a.toNat * 2 ^ (b.toNat % 64))) s)) ∧
    (w.uop = uopShr → completes (.uShr oc) s (microSet oc c w (BitVec.ofNat 64 (a.toNat / 2 ^ (b.toNat % 64))) s)) ∧
    (w.uop = uopAddi → completes (.uAddi oc) s (microSet oc c w (a + imm) s)) ∧
    (w.uop = uopMul → completes (.uMul oc) s (microSet oc c w (BitVec.ofNat 64 (a.toNat * b.toNat)) s)) ∧
    (w.uop = uopGet → completes (.uGet oc) s (microSet oc c w (BitVec.ofNat 64 ((c.src[w.sel]?).getD 0)) s)) ∧
    (w.uop = uopSkipz → completes (.uSkipz oc) s (microSkip oc c (decide (a.toNat = 0)) s)) ∧
    (w.uop = uopSkipnz → completes (.uSkipnz oc) s (microSkip oc c (decide (a.toNat ≠ 0)) s)) ∧
    (w.uop = uopSkiplt → completes (.uSkiplt oc) s (microSkip oc c (decide (a.toInt < b.toInt)) s)) ∧
    (w.uop = uopPut → completes (.uPut oc) s fun t =>
      let e := s.dev.eng oc
      t.dev.eng oc = { e with build := e.build.putField w.sel a, reads := e.reads + 1, call := some { c with pc := c.pc + 1 } } ∧
      onlyEng oc s t) ∧
    (w.uop = uopIssue → w.imm = 0 → completes (.uIssuePlay oc) s (microIssued oc c w true s)) ∧
    (w.uop = uopIssue → w.imm = 1 → completes (.uIssueSetf oc) s (microIssued oc c w false s))) ∧
  (∀ (oc : OcId) (c : CallSt) (w : MicroWord) (s : State), s.dev.microAt oc = some (c, w) → c.skip = true → w.uop = uopAdd →
    completes (.uAdd oc) s fun t =>
      t.dev.eng oc = { s.dev.eng oc with reads := (s.dev.eng oc).reads + 1, call := some { c with pc := c.pc + 1, skip := false } } ∧
      onlyEng oc s t) ∧
  (∀ (oc : OcId) (c : CallSt) (w : MicroWord) (p : Plan) (s : State), s.dev.microAt oc = some (c, w) → c.skip = false →
    s.dev.mcBad.contains (oc.val / 48, c.pc) = true → w.uop = uopNop → (s.dev.eng oc).plans.getLast? = some p → p.stop = c.stop →
    completes (.uNop oc) s fun t =>
      t.dev.fget (SE_ERR.CALL_FAULT oc) = 1 ∧ t.dev.fget MCS_CNT.FAULTS = min 65535 (s.dev.fget MCS_CNT.FAULTS + 1) ∧
      (c.fault = none → s.dev.fget MCS_FAULT_LO.VALID = 0 → t.dev.fget MCS_FAULT_LO.CODE = 3 ∧ t.dev.fget MCS_FAULT_LO.UADDR = c.pc % 16384) ∧
      tainted s t ∧ (t.dev.eng oc).call = none ∧ (t.dev.eng oc).cursor = c.c + c.adv) ∧
  (∀ (oc : OcId) (c : CallSt) (w : MicroWord) (p : Plan) (s : State), microReady oc s c w → w.uop = uopRet → c.fault = none →
    (s.dev.eng oc).plans.getLast? = some p → p.stop = c.stop →
    completes (.uRet oc) s fun t =>
      (t.dev.eng oc).call = none ∧ (t.dev.eng oc).cursor = c.c + c.adv ∧ (t.dev.eng oc).pos = (s.dev.eng oc).pos + 1 ∧
      (t.dev.eng oc).reads = (s.dev.eng oc).reads + 1 ∧ (t.dev.eng oc).u = (s.dev.eng oc).u ∧
      (t.dev.eng oc).build = (s.dev.eng oc).build ∧ devOnly s t ∧ memSame s t ∧
      ocsSame s t oc ∧ regsSameEv s t [SE_ERR.off oc])

/-- The user partition (R447, R448): a staging write lands at ADDR, which advances, but not while a commit runs; a commit starts in PARK,
CALIBRATE, RELAY and SAFE; it is refused by the first check it fails, and otherwise copies the staged words; an error in a word stands until it is rewritten
from a copy without one, which is counted, and shows when no copy reads clean. -/
def Obligations.MicrocodeStore : Prop :=
  (∀ (v : W32) (s : State), completes (.stagingWrite v) s fun t =>
    let a := stagingBase + s.dev.fget MCS_UADDR.ADDR
    t.dev.fget MCS_UADDR.ADDR = (s.dev.fget MCS_UADDR.ADDR + 4) % 2 ^ 15 ∧
    (s.dev.fget MCS_UCTL.BUSY = 0 → t.dev.rdLe a 4 = v.toNat) ∧ (s.dev.fget MCS_UCTL.BUSY = 1 → memSame s t) ∧
    memOutside s t a 4 ∧ devOnly s t ∧ t.dev.ocs = s.dev.ocs ∧ regsSame s t [MCS_UADDR.off]) ∧
  (∀ (v : W32) (s : State), MCS_UCTL.COMMIT.of v = 1 →
    completes (.microcodeCommit v) s fun t =>
      let open_ := s.dev.mode = .park ∨ s.dev.mode = .calibrate ∨ s.dev.mode = .relay ∨ s.dev.mode = .safe
      (open_ → s.dev.fget MCS_UCTL.BUSY = 0 → t.dev.ucommit = some s.dev.tk ∧ t.dev.fget MCS_UCTL.BUSY = 1) ∧
      (open_ → s.dev.fget MCS_UCTL.BUSY = 1 → t = s) ∧
      (¬ open_ → t.dev.fget MCS_ERR.UMODE = 1 ∧ t.dev.ucommit = s.dev.ucommit) ∧ still s t [MCS_UCTL.off, MCS_ERR.off]) ∧
  (∀ (k : Nat) (s : State), s.dev.ucommit = some k → Memory.wf s.dev.mem = true →
    completes .microcodeCommitDone s fun t =>
      t.dev.ucommit = none ∧ t.dev.fget MCS_UCTL.BUSY = 0 ∧
      (∀ cause i, userCheck s.dev.stagedTable s.dev.stagedWord = some (cause, i) →
        t.dev.fget MCS_ERR.UBAD = 1 ∧ t.dev.fget MCS_UERR.VALID = 1 ∧ t.dev.fget MCS_UERR.CAUSE = cause % 8 ∧
        t.dev.fget MCS_UERR.INDEX = i % 16384 ∧ memSame s t) ∧
      (userCheck s.dev.stagedTable s.dev.stagedWord = none →
        t.dev.fget MCS_VER.USRC = 1 ∧ t.dev.fget MCS_VER.UGEN = (s.dev.fget MCS_VER.UGEN + 1) % 256 ∧
        (∀ x, x < 0x8000 → t.dev.rd8 (mcBase + 16 * userBase + x) = s.dev.rd8 (stagingBase + x)) ∧
        (∀ r, r < 64 → tget 0 t.dev.urt r = s.dev.reg (MCS_URT.off r)) ∧ memOutside s t (mcBase + 16 * userBase) 0x8000) ∧
      devOnly s t ∧ t.dev.ocs = s.dev.ocs ∧ regsSame s t [MCS_UCTL.off, MCS_ERR.off, MCS_UERR.off, MCS_VER.off]) ∧
  (∀ (q : QuarterId) (a : Fin 16384) (s : State), completes (.microwordRepair q a false) s fun t =>
    t.dev.mcBad.contains (q.val, a.val) = true ∧
    (∀ x, x ≠ (q.val, a.val) → t.dev.mcBad.contains x = s.dev.mcBad.contains x) ∧ still s t []) ∧
  (∀ (q : QuarterId) (a : Fin 16384) (s : State), completes (.microwordRepair q a true) s fun t =>
    (s.dev.mcBad.contains (q.val, a.val) = false → t = s) ∧
    (∀ k, k < 4 → s.dev.mcBad.contains (q.val, a.val) = true → s.dev.mcBad.contains (k, a.val) = false →
      t.dev.mcBad.contains (q.val, a.val) = false ∧
      t.dev.fget MCS_CNT.REPAIRS = min 65535 (s.dev.fget MCS_CNT.REPAIRS + 1) ∧ still s t [MCS_CNT.off]) ∧
    ((∀ k, k < 4 → s.dev.mcBad.contains (k, a.val) = true) →
      t.dev.mcBad = s.dev.mcBad ∧ t.dev.fget MCS_ERR.UNREPAIRED = 1 ∧
      (s.dev.canRaise 838 = true → 838 ∈ t.dev.raised) ∧ plain s t [MCS_ERR.off]))

/-! ### Heat, supply and the ledger (chapter 16) -/

/-- Registers outside a range keep what they held, those of the rill network apart. -/
def regsOutside (s t : State) (lo hi : Nat) (but : List Nat) : Prop :=
  ∀ off, off < lo ∨ hi ≤ off → off ∉ but → ¬ inRill off → t.dev.reg off = s.dev.reg off

/-- Every sensor of a sample works: not declared failed, in band, and off the count it gave last (R452). -/
def goodSample (s : State) (counts : List Nat) : Prop :=
  ∀ i, i < 96 → s.dev.sensorFailed i = false ∧ inBand i ((counts[i]?).getD 0) = true ∧
    (tget {} s.dev.heat.sensors i).count ≠ some ((counts[i]?).getD 0)

/-- Temperatures and throttling (R451 to R460, R462, R463): a sample of working sensors shows each estimate, the hottest and the rate; at
WARN the warning is set, at THR the level rises, at SD a shutdown starts; the level falls 10 ms after the device has cooled; the limits
keep their order. The temperature of a count is the sensors' own calibration, a free function (log entry 40); among equal sensors the
lowest number is the hottest (log entry 80). In SLEEP the four always-on sensors are judged the same way and set the interval (R452,
R454, R465). -/
def Obligations.HeatIsJudged : Prop :=
  (∀ (counts powers : List Nat) (s : State), s.dev.sampleDue = true → s.dev.mode ≠ .sleep → s.dev.heat.pinWait = false →
    completes (.sensorSample counts powers) s fun t =>
      t.dev.heat.sampleTk = some s.dev.tk ∧ devOnly s t ∧
      (goodSample s counts → ∀ (hot : Nat) (x : Int),
        hottest (fun i => Config.sensorTemp i ((counts[i]?).getD 0)) (List.range 96) = some (hot, x) →
        let lim := fun f => 16 * (s.dev.fget f : Int)
        t.dev.fget THM_STAT.HOTSNS = hot ∧ t.dev.fget THM_STAT.HOTT = satInt 16 x ∧ t.dev.fget THM_STAT.RATE = s.dev.rateOf x ∧
        (∀ i, i < 96 → t.dev.fget (THM_SNS.T i) = satInt 16 (Config.sensorTemp i ((counts[i]?).getD 0)) ∧
          t.dev.fget (THM_SNS.SUBST i) = 0 ∧ t.dev.fget (THM_SNS.FAILED i) = 0) ∧
        (∀ r, r < 5 → t.dev.fget (THM_PWR.P r) = min (2 ^ 32 - 1) ((powers[r]?).getD 0)) ∧
        (lim THM_LIM.WARN ≤ x → t.dev.fget THM_STAT.WARNING = 1) ∧
        (lim THM_LIM.THR ≤ x → s.dev.heat.riseTk = none → s.dev.fget THM_STAT.LEVEL < 4 →
          t.dev.fget THM_STAT.LEVEL = s.dev.fget THM_STAT.LEVEL + 1 ∧ t.dev.heat.region = some (sensorRegion hot)) ∧
        (x < lim THM_LIM.THR → t.dev.fget THM_STAT.LEVEL = s.dev.fget THM_STAT.LEVEL) ∧
        (x < lim THM_LIM.SD → t.dev.heat.shutdown = s.dev.heat.shutdown) ∧
        (lim THM_LIM.SD ≤ x → s.dev.heat.shutdown = none → s.dev.fget THM_STAT.SDLATCH = 0 →
          (t.dev.heat.shutdown).map (fun y => (y.cause, y.hotsns, y.time)) = some (1, hot, s.clk.now.toNat) ∧ 1 ∈ t.dev.frzDue) ∧
        (x < lim THM_LIM.SD ∨ s.dev.calStore = none → memSame s t) ∧ t.dev.ocs = s.dev.ocs ∧
        regsOutside s t 0x60000 0x61000 [BBX_SAFE.off])) ∧
  (∀ (counts powers : List Nat) (s : State), s.dev.sampleDue = true → s.dev.mode = .sleep → s.dev.heat.pinWait = false →
    completes (.sensorSample counts powers) s fun t =>
      t.dev.heat.sampleTk = some s.dev.tk ∧
      (∀ i, i < 4 → s.dev.sensorFailed i = false → inBand i ((counts[i]?).getD 0) = false →
        t.dev.sensorFailed i = true ∧ t.dev.fget THM_ERR.SENSOR_FAIL = 1) ∧
      ((∀ i, i < 4 → s.dev.sensorFailed i = false ∧ inBand i ((counts[i]?).getD 0) = true ∧
          (tget {} s.dev.heat.sensors i).count ≠ some ((counts[i]?).getD 0)) →
        ∀ (hot : Nat) (x : Int), hottest (fun i => Config.sensorTemp i ((counts[i]?).getD 0)) (List.range 4) = some (hot, x) →
          t.dev.heat.hot4 = x ∧ t.dev.fget THM_STAT.RATE = s.dev.rateOf x ∧ plain s t [THM_STAT.off])) ∧
  (∀ (k : Nat) (s : State), s.dev.heat.coolTk = some k → k + 6250000 ≤ s.dev.tk → 0 < s.dev.fget THM_STAT.LEVEL →
    s.dev.regFail = false →
    completes .throttleLevelDown s fun t =>
      t.dev.fget THM_STAT.LEVEL = s.dev.fget THM_STAT.LEVEL - 1 ∧ t.dev.heat.coolTk = some s.dev.tk ∧
      (s.dev.canRaise 706 = true → 706 ∈ t.dev.raised) ∧ plain s t [THM_STAT.off]) ∧
  (∀ s : State, (0 < s.dev.fget THM_STAT.LEVEL ∨ s.dev.fget HL_STAT.HOLDING ≠ 0) → s.dev.askedTk + 1048576 ≤ s.dev.tk →
    completes .noslotCheck s fun t =>
      t.dev.fget THM_ERR.NOSLOT = 1 ∧ (s.dev.canRaise 706 = true → 706 ∈ t.dev.raised) ∧ plain s t [THM_ERR.off]) ∧
  (∀ s : State, ((s.dev.fget THM_STAT.LEVEL = 0 ∧ s.dev.fget HL_STAT.HOLDING = 0) ∨ s.dev.tk < s.dev.askedTk + 1048576) →
    completes .noslotCheck s fun t => t = s) ∧
  (∀ (v : W32) (s : State),
    completes (.thmLimWrite v) s fun t =>
      let good := THM_LIM.WARN.of v < THM_LIM.THR.of v ∧ THM_LIM.THR.of v < THM_LIM.SD.of v ∧ THM_LIM.SD.of v ≤ 118 ∧
        THM_LIM.THR.of v ≤ s.dev.thrDefault
      (good → t.dev.fget THM_LIM.WARN = THM_LIM.WARN.of v ∧ t.dev.fget THM_LIM.THR = THM_LIM.THR.of v ∧
        t.dev.fget THM_LIM.SD = THM_LIM.SD.of v ∧ t.dev.fget THM_LIM.HYS = THM_LIM.HYS.of v ∧ onlyRegs s t [THM_LIM.off]) ∧
      (¬ good → t.dev.fget THM_ERR.LIM_BAD = 1 ∧ still s t [THM_ERR.off])) ∧
  (∀ (slot : BitVec 64) (s : State), s.dev.slotAsked slot.toNat = true → tget none s.dev.slots slot.toNat = none →
    slot.toNat ≤ s.clk.now.toNat + 64 → s.dev.slotHeld slot.toNat = true →
    completes (.slotHoldDecision slot) s fun t =>
      tget none t.dev.slots slot.toNat = some true ∧
      t.dev.fget HL_CNT.HELD = min (2 ^ 32 - 1) (s.dev.fget HL_CNT.HELD + 1) ∧
      (∀ n x, (s.dev.eng n).slot = some x → x.slot = slot.toNat →
        (t.dev.eng n).slot = some { x with slot := x.slot + x.dur }) ∧ devOnly s t ∧ memSame s t ∧ t.dev.ics = s.dev.ics ∧
      regsSameEv s t [HL_CNT.off])

/-- The shutdown and its way back (R463 to R465, R469): PFAIL starts one unless it is shorter than 200 ns; its record goes into the lowest
erased page; the device then sleeps with its latch set and its cause recorded; with AUTORESTART a cooled device starts again. The
droop and rail monitors (R466 to R468), and the ledger (R470 to R473). How much of an abandoned eNVM work shows in a record, and
how many of its data pages stand in the slot, is free (log entry 82). -/
def Obligations.SupplyAndLedger : Prop :=
  (∀ (ns : Nat) (s : State),
    completes (.pfail ns) s fun t =>
      (ns < 200 → t = s) ∧
      (400 ≤ ns → (s.dev.canRaise 712 = true → 712 ∈ t.dev.raised) ∧
        (s.dev.heat.shutdown = none → s.dev.fget THM_STAT.SDLATCH = 0 →
          (t.dev.heat.shutdown).map (fun y => (y.cause, y.level, y.shot, y.recorded)) =
            some (2, s.dev.fget THM_STAT.LEVEL, s.dev.shot.toNat, false) ∧ 2 ∈ t.dev.frzDue ∧
          bitAt (t.dev.fget BBX_SAFE.PRESENT) 4 = true)) ∧
      (s.dev.calStore = none → memSame s t) ∧
      (∀ set k start, s.dev.calStore = some (set, k, start) → memOutside s t (setBase set k) 0x4000) ∧
      devOnly s t ∧ t.dev.ocs = s.dev.ocs ∧ t.dev.ics = s.dev.ics ∧ regsSameEv s t [BBX_SAFE.off]) ∧
  (∀ (x : Shutdown) (s : State), s.dev.heat.shutdown = some x → x.recorded = false → s.dev.freeze = none →
    s.dev.frzDue.contains x.cause = false →
    completes .shutdownRecord s fun t =>
      t.dev.heat.shutdown = some { x with recorded := true } ∧
      (∀ k, (List.range 64).find? (fun k => s.dev.nvErased (shutdownPage k) 64) = some k →
        t.dev.rdBytes (shutdownPage k) 64 = x.page ∧ memOutside s t (shutdownPage k) 64) ∧
      ((List.range 64).find? (fun k => s.dev.nvErased (shutdownPage k) 64) = none → memSame s t) ∧ devOnly s t ∧
      t.dev.ocs = s.dev.ocs ∧ regsSame s t []) ∧
  (∀ (x : Shutdown) (s : State), s.dev.heat.shutdown = some x → x.recorded = true → s.dev.heat.pinWait = false →
    completes .shutdownPowerDown s fun t =>
      t.dev.mode = .sleep ∧ t.dev.fget THM_STAT.SDLATCH = 1 ∧
      t.dev.fget GLB_RSTCAUSE.CAUSE = (if x.cause = 1 then 2 else 4) ∧ t.clk.counting = false ∧ t.dev.otp = s.dev.otp ∧
      t.pending = s.pending) ∧
  (∀ s : State, s.dev.fget THM_STAT.SDLATCH = 1 → s.dev.fget THM_CTL.AUTORESTART = 1 → s.dev.cooled = true →
    completes .autorestart s fun t => t.dev.mode = .load ∧ t.dev.fget GLB_RSTCAUSE.CAUSE = 1 ∧ t.dev.boot.phase = .waiting) ∧
  (∀ (rail : Fin 11) (ns : Nat) (s : State),
    completes (.railExcursion rail ns) s fun t =>
      (ns < 10000 → t = s) ∧ (10000 ≤ ns → t.dev.fget THM_ERR.RAIL = 1 ∧ (s.dev.canRaise 711 = true → 711 ∈ t.dev.raised)) ∧ plain s t [THM_ERR.off]) ∧
  (∀ (mv : Nat) (s : State), s.dev.mode ≠ .sleep → mv < s.dev.fget THM_DROOP.UNT_MV → s.dev.heat.stretch = 0 →
    completes (.droopDetect mv) s fun t =>
      t.dev.heat.stretch = min 4 (1 + (s.dev.fget THM_DROOP.UNT_MV - mv) / 10) ∧ t.dev.heat.lowMv = mv ∧
      t.dev.fget THM_DROOPCNT.STRETCHES = min 65535 (s.dev.fget THM_DROOPCNT.STRETCHES + 1) ∧
      (mv < s.dev.fget THM_DROOP.TIM_MV → t.dev.fget THM_ERR.DROOP_TIMED = 1 ∧ tainted s t ∧
        t.dev.fget THM_DROOPCNT.TIMED = min 65535 (s.dev.fget THM_DROOPCNT.TIMED + 1)) ∧
      (s.dev.fget THM_DROOP.TIM_MV ≤ mv → t.dev.taint = s.dev.taint) ∧ plain s t [THM_DROOPCNT.off, THM_ERR.off]) ∧
  (∀ s : State, s.dev.heat.stretch ≠ 0 → s.dev.heat.droopTk + max 1 (s.dev.fget THM_DROOP.HOLD) ≤ s.dev.tk →
    completes .droopStretchEnd s fun t => t.dev.heat.stretch = 0 ∧ still s t []) ∧
  (∀ s : State, (∀ k, s.dev.heat.ledgerTk = some k → k + 6250 ≤ s.dev.tk) → s.dev.mode ≠ .load → s.dev.mode ≠ .sleep →
    completes .ledgerStep s fun t =>
      (∀ st, st < 8 → t.dev.fget (HL_ST_P.P st) = min (2 ^ 32 - 1) (s.dev.stagePower st) ∧
        t.dev.fget (HL_ST_H.H st) =
          ledgerFilter (s.dev.fget (HL_ST_H.H st)) (s.dev.stagePower st) (s.dev.fget (HL_ST_CFG.TAU st)) ∧
        (256 * s.dev.fget (HL_ST_BUD.BUD st) ≤ t.dev.fget (HL_ST_H.H st) → t.dev.fget HL_ERR.OVER = 1)) ∧
      (∀ n, (t.dev.oc n).sumSq = 0 ∧ t.dev.eng n = s.dev.eng n) ∧ t.dev.heat.ledgerTk = some s.dev.tk ∧ devOnly s t ∧
      memSame s t ∧ regsOutside s t 0x61000 0x62000 []) ∧
  (∀ (st : Fin 8) (v : W32) (s : State),
    completes (.tauWrite st v) s fun t =>
      let tau := (HL_ST_CFG.TAU st).of v
      (1 ≤ tau ∧ tau ≤ 100000 → t.dev.fget (HL_ST_CFG.TAU st) = tau ∧
        t.dev.fget (HL_ST_CFG.EN st) = (HL_ST_CFG.EN st).of v ∧ onlyRegs s t [HL_ST_CFG.off st]) ∧
      (¬ (1 ≤ tau ∧ tau ≤ 100000) → t.dev.fget HL_ERR.TAU_BAD = 1 ∧ still s t [HL_ERR.off]))

/-! ### Calibration, self-test and repair (chapter 17) -/

/-- Calibration (R478 to R485, R487, R488): a RUN queues its groups in CALIBRATE, a STORE erases the older slot of its set, both refused
elsewhere; a group that completes is counted and stamped, one that fails is recorded; values follow a new temperature; a committed
set checks; a calibrated spare takes the oldest place. A set's content is free (log entry 90). -/
def Obligations.CalibrationRuns : Prop :=
  (∀ (v : W32) (s : State), CAL_CTL.RUN.of v = 1 → CAL_CTL.STORE.of v = 0 →
    completes (.calRun v) s fun t =>
      (s.dev.mode = .calibrate → CAL_CTL.GROUP.of v < 236 →
        t.dev.calQ = insNat (CAL_CTL.GROUP.of v) s.dev.calQ ∧ t.dev.fget CAL_STAT.BUSY = 1 ∧
        still s t [CAL_CTL.off, CAL_STAT.off]) ∧
      (s.dev.mode = .park → s.dev.modeAsk = none → s.dev.warm = false → t.dev.mode = .calibrate ∧ t.dev.fget CAL_STAT.BUSY = 1) ∧
      (s.dev.mode ≠ .calibrate → s.dev.mode ≠ .park →
        t.dev.fget CAL_ERR.MODE_BAD = 1 ∧ t.dev.calQ = s.dev.calQ ∧ still s t [CAL_CTL.off, CAL_ERR.off])) ∧
  (∀ (v : W32) (s : State), CAL_CTL.RUN.of v = 0 → CAL_CTL.STORE.of v = 1 →
    completes (.calStore v) s fun t =>
      let set := CAL_CTL.SET.of v
      let k := s.dev.oldSlot set
      (s.dev.storeBad set = true → t.dev.fget CAL_ERR.STORE_BAD = 1 ∧ t.dev.calStore = s.dev.calStore ∧ memSame s t) ∧
      (s.dev.storeBad set = false → t.dev.calStore = some (set, k, s.dev.tk) ∧ t.dev.fget CAL_STAT.BUSY = 1 ∧
        (∀ x, x < 0x4000 → t.dev.rd8 (setBase set k + x) = 0xFF) ∧ (∀ x, x < 64 → t.dev.rd8 (setPage set k + x) = 0xFF) ∧
        (∀ a, (a < setBase set k ∨ setBase set k + 0x4000 ≤ a) → (a < setPage set k ∨ setPage set k + 64 ≤ a) →
          t.dev.rd8 a = s.dev.rd8 a)) ∧
      devOnly s t ∧ t.dev.ocs = s.dev.ocs ∧ regsSame s t [CAL_CTL.off, CAL_STAT.off, CAL_ERR.off]) ∧
  (∀ (g : GroupId) (plausible : Bool) (s : State), s.dev.calQ.contains g.val = true → s.dev.mode = .calibrate →
    s.dev.ctlRestart = none → 192 ≤ g.val → s.dev.calQ.filter (· != g.val) ≠ [] →
    completes (.calibrationComplete g plausible) s fun t =>
      t.dev.calQ = s.dev.calQ.filter (· != g.val) ∧
      (plausible = true → t.dev.fget (CAL_GRP_CNT.CNT g) = (s.dev.fget (CAL_GRP_CNT.CNT g) + 1) % 2 ^ 32 ∧
        t.dev.fget (CAL_GRP_SEC.SEC g) = s.clk.nt.sec.toNat % 2 ^ 32 ∧ t.dev.fget (CAL_GRP_NS.NS g) = s.clk.nt.ns % 2 ^ 30 ∧
        tget none t.dev.calTemp g = some (s.dev.groupTemp g) ∧ (s.dev.canRaise 768 = true → 768 ∈ t.dev.raised)) ∧
      (plausible = false → t.dev.fget CAL_ERR.RANGE = 1 ∧ t.dev.fget CAL_ERR.FGROUP = g.val ∧
        t.dev.fget (CAL_GRP_CNT.CNT g) = s.dev.fget (CAL_GRP_CNT.CNT g) ∧ (s.dev.canRaise 769 = true → 769 ∈ t.dev.raised)) ∧
      plain s t [CAL_GRP_CNT.off g, CAL_GRP_SEC.off g, CAL_GRP_NS.off g, CAL_STAT.off, CAL_ERR.off]) ∧
  (∀ (g : GroupId) (step : BitVec 8) (s : State), s.dev.calQ.contains g.val = true → s.dev.mode = .calibrate →
    s.dev.calQ.filter (· != g.val) ≠ [] → s.dev.calTk + stepDeadline g ≤ s.dev.tk →
    completes (.calStepDeadline g step) s fun t =>
      t.dev.fget CAL_ERR.DEADLINE = 1 ∧ t.dev.fget CAL_ERR.STEP = step.toNat ∧ t.dev.fget CAL_ERR.FGROUP = g.val ∧
      t.dev.calQ = s.dev.calQ.filter (· != g.val) ∧ plain s t [CAL_STAT.off, CAL_ERR.off]) ∧
  (∀ (g : GroupId) (s : State), s.dev.firmwareUp = true → s.dev.calAsk.contains g.val = true → 192 ≤ g.val → g.val ≠ 225 →
    completes (.calRecompute g) s fun t =>
      let p := setPair s.dev.sets (s.dev.groupTemp g)
      t.dev.calStaged.find? (fun e => e.1 == g.val) =
        some (g.val, ⟨s.dev.tk, satInt 16 (s.dev.groupTemp g), p.1, p.2.1, p.2.2, choiceSet s.dev.sets (s.dev.groupTemp g), none⟩) ∧
      t.dev.calAsk = s.dev.calAsk.filter (· != g.val) ∧ (s.dev.sets = [] → t.dev.fget CAL_ERR.NOSET = 1) ∧
      still s t [CAL_ERR.off]) ∧
  (∀ (set k start : Nat) (s : State), s.dev.calStore = some (set, k, start) → set < 5 → k < 2 → s.dev.ctlRestart = none →
    completes .calSetCommitted s fun t =>
      t.dev.slotValid set k = true ∧ bitAt (t.dev.fget CAL_STAT.PRESENT) set = true ∧ t.dev.calStore = none ∧
      t.dev.slotSeq set k = (if s.dev.slotValid set (1 - k) then (s.dev.slotSeq set (1 - k) + 1) % 2 ^ 32 else 1) ∧
      t.dev.calAsk = List.range calGroups ∧
      (∀ a, (a < setBase set k ∨ setBase set k + 0x4000 ≤ a) → (a < setPage set k ∨ setPage set k + 64 ≤ a) →
        t.dev.rd8 a = s.dev.rd8 a) ∧ devOnly s t ∧ t.dev.ocs = s.dev.ocs ∧ regsSame s t [CAL_STAT.off]) ∧
  (∀ (ic : IcId) (old new : Nat) (rest more : List Nat) (s : State),
    (tget {} s.dev.convs ic).serving = old :: rest → (tget {} s.dev.convs ic).spare = new :: more →
    s.dev.fget CAL_CTL.BG = 1 → s.dev.domOn (192 + ic.val) = true → (s.dev.ic ic).mode = .idle →
    (tget {} s.dev.convs ic).last + 625000 ≤ s.dev.tk →
    completes (.subconverterExchange ic) s fun t =>
      tget {} t.dev.convs ic = ⟨rest ++ [new], more ++ [old], 0, s.dev.tk⟩ ∧ still s t []) ∧
  (∀ (src : Fin 23) (new : Nat) (more : List Nat) (s : State), s.dev.capSpare = new :: more → s.dev.fget CAL_CTL.BG = 1 →
    s.dev.mode ≠ .sleep → s.dev.capAge.find? (sourceIdle s.dev s.clk) = some src.val →
    completes (.capacitorExchange src) s fun t =>
      tget src.val t.dev.caps src = new ∧ t.dev.capSpare = more ++ [tget src.val s.dev.caps src] ∧ still s t [])

/-- Self-test and repair (R489 to R500, R534): a slice takes the next unit of its row, and its end raises source 771; a failed element is recorded, flagged and repaired while
a spare is left; service ends a slice; a violation taints the shot; a PLL fails over to its standby, and with none left shows as
SAFE cause 3; a repair is fused in PARK. -/
def Obligations.SelfTest : Prop :=
  (∀ (k : Fin 8) (s : State), s.dev.gapOffset k s.clk.now.toNat = some 0 → s.dev.fget BST_CTL.EN = 0 →
    completes (.gapWindowStart k) s fun t =>
      t.dev.fget BST_CNT.SHORTGAP = min 65535 (s.dev.fget BST_CNT.SHORTGAP +
        ((if s.dev.fget (BST_GW_PER.GMASK k) ≠ 0 ∧ s.dev.fget (BST_GW_PER.LEN k) < 3360 then 1 else 0) +
         (if s.dev.fget (BST_GW_ICM.ICMASK k) ≠ 0 ∧ s.dev.fget (BST_GW_PER.LEN k) < 1760 then 1 else 0))) ∧
      onlyRegs s t [BST_CNT.off]) ∧
  (∀ s : State, s.dev.fget BST_CTL.EN = 1 → s.dev.slices = [] → s.dev.mode ≠ .load → s.dev.mode ≠ .sleep →
    completes (.selftestSlice .sram) s fun t =>
      let u := tget 0 s.dev.nextUnit 0 % 1024
      t.dev.slices = [(0, { unit := u, start := s.dev.tk })] ∧ tget 0 t.dev.nextUnit 0 = (u + 1) % 1024 ∧ still s t []) ∧
  (∀ (u start : Nat) (el : BitVec 16) (s : State), s.dev.slices = [(0, { unit := u, start := start })] → u < 1024 →
    start + 400 ≤ s.dev.tk →
    (completes (.sliceComplete .sram none) s fun t =>
      t.dev.slices = [] ∧ (s.dev.canRaise 771 = true → 771 ∈ t.dev.raised) ∧ plain s t []) ∧
    (completes (.sliceComplete .sram (some el)) s fun t =>
      t.dev.slices = [] ∧ t.dev.fget BST_ERR.FAULT = 1 ∧
      (s.dev.fget BST_FREC_LO.VALID = 0 → t.dev.fget BST_FREC_LO.VALID = 1 ∧ t.dev.fget BST_FREC_LO.UNIT = 0 ∧
        t.dev.fget BST_FREC_HI.ELEM = u * 65536 + el.toNat) ∧
      (s.dev.repairsOf 0 u < 1 → t.dev.srpLog = s.dev.srpLog ++ [BitVec.ofNat 32 (2 ^ 31 + u * 65536 + el.toNat)]) ∧
      (1 ≤ s.dev.repairsOf 0 u → t.dev.fget BST_ERR.NOSPARE = 1 ∧ t.dev.srpLog = s.dev.srpLog) ∧ devOnly s t ∧ memSame s t ∧
      t.dev.ocs = s.dev.ocs ∧ regsOutside s t 0x80000 0x81000 [])) ∧
  (∀ (x : SliceSt) (s : State), s.dev.slices.find? (fun e => e.1 == 11) = some (11, x) →
    completes (.sliceAbandon .part) s fun t =>
      t.dev.slices.find? (fun e => e.1 == 11) = none ∧
      t.dev.fget BST_CNT.ABANDONS = min 65535 (s.dev.fget BST_CNT.ABANDONS + 1) ∧ tget 0 t.dev.retry x.unit = 10 ∧
      tget 0 t.dev.nextUnit 11 = x.unit ∧ still s t [BST_CNT.off]) ∧
  (∀ (dom : DomainId) (x : SliceSt) (key unit : Nat) (s : State), key = (if dom.val < 192 then 9 else 10) →
    unit = (if dom.val < 192 then dom.val else dom.val - 192) → (key, x) ∈ s.dev.slices → x.unit = unit →
    completes (.gapViolation dom) s fun t =>
      t.dev.slices.find? (fun e => e.1 == key) = none ∧ t.dev.fget BST_ERR.GAPVIOL = 1 ∧ tainted s t ∧ plain s t [BST_ERR.off]) ∧
  (∀ (q : QuarterId) (s : State), s.dev.mode ≠ .load → s.dev.mode ≠ .sleep → s.dev.pllOut.contains q.val = false →
    completes (.pllFailover q) s fun t =>
      (s.dev.fget (BST_PLL.SBY_FAIL q) = 0 →
        t.dev.fget (BST_PLL.SERVING q) = 1 - s.dev.fget (BST_PLL.SERVING q) ∧ t.dev.fget (BST_PLL.SBY_FAIL q) = 1 ∧
        t.dev.fget (BST_PLL.SWITCHES q) = min 65535 (s.dev.fget (BST_PLL.SWITCHES q) + 1) ∧ t.dev.pllOut = s.dev.pllOut) ∧
      (s.dev.fget (BST_PLL.SBY_FAIL q) = 1 → q.val ∈ t.dev.pllOut ∧ bitAt (t.dev.fget BBX_SAFE.PRESENT) 2 = true) ∧
      plain s t [BST_PLL.off q, BBX_SAFE.off]) ∧
  (∀ (q : QuarterId) (s : State), s.dev.pllOut = [q.val] →
    completes (.pllRelock q) s fun t =>
      t.dev.pllOut = [] ∧ bitAt (t.dev.fget BBX_SAFE.PRESENT) 2 = false ∧ still s t [BBX_SAFE.off]) ∧
  (∀ (v : W32) (s : State), BST_FUSE.GO.of v = 1 →
    completes (.repairFuse v) s fun t =>
      let e := BST_FUSE.ENTRY.of v
      let good := s.dev.mode = .park ∧ s.dev.fget (BST_SRP.VALID e) = 1 ∧ s.dev.fget (BST_SRP.FUSED e) = 0 ∧ 0 < s.dev.otp.fuseFree
      (good → t.dev.fget (BST_SRP.FUSED e) = 1 ∧ t.dev.otp.fuseFree = s.dev.otp.fuseFree - 1 ∧
        t.dev.otp.repairs = s.dev.otp.repairs ++ [s.dev.reg (BST_SRP.off e)]) ∧
      (¬ good → t.dev.fget BST_FUSE.REFUSED = 1 ∧ t.dev.otp = s.dev.otp) ∧
      still s t [BST_FUSE.off, BST_SRP.off e])

/-! ### Modes, resets and the sediment record (chapters 18 and 19) -/

/-- A reset of class B leaves the device in LOAD with its cause (R21, R514, Tables 18-4 and 18-5): class A registers, the eNVM, the flash,
the sediment ring and the pool are kept, everything else is at default, and the clock is stopped with network time kept. -/
def afterReset (s t : State) (cause : Nat) : Prop :=
  t.dev.mode = .load ∧ t.dev.fget GLB_RSTCAUSE.CAUSE = cause ∧ t.dev.boot = {} ∧ t.clk.counting = false ∧ t.clk.now = 0 ∧
  t.clk.nt = s.clk.nt ∧ t.pending = s.pending ∧ t.dev.otp = s.dev.otp ∧ t.dev.ocs = [] ∧ t.dev.ics = [] ∧
  (∀ off r, regRow? off = some r → r.cls ≠ .a → off ≠ SEC_STAT.off → t.dev.reg off = regReset off) ∧
  (∀ off r, regRow? off = some r → r.cls = .a → off ∉ [GLB_RSTCAUSE.off, BBX_SAFE.off] → (off < 0x40000 ∨ 0x50000 ≤ off) →
    t.dev.reg off = s.dev.reg off) ∧
  (∀ a, t.dev.rd8 a = if memKept true a then s.dev.rd8 a else memDefault a)

/-- The device has entered a mode (R510): CUR and PREV show it, no request is left, and no other register of the GLB window changes. -/
def entered (s t : State) (m : Mode) : Prop :=
  t.dev.mode = m ∧ t.dev.fget GLB_MODE.PREV = s.dev.mode.code ∧ t.dev.modeAsk = none ∧ devOnly s t ∧
  lowRegsSame s t 0x10000 [GLB_MODE.off]

/-- Resets and power (R44, R514 to R519, R548, R558): each reset leaves the state of its class with its cause; a pulse below a microsecond
resets nothing; a wake leaves SLEEP for a boot; a warm reset empties the shot and stops the clock until it completes in PARK. What
VAUX loss leaves is nothing but the OTP, the eNVM and the flash. A pin reset from SLEEP counts as cause 1, a warm reset as a pending
transition (log entries 61 and 62). -/
def Obligations.ResetsAndPower : Prop :=
  (∀ (ns : Nat) (s : State), s.dev.heat.shutdown = none → s.dev.fget THM_STAT.SDLATCH = 0 →
    completes (.pinReset ns) s fun t => (ns < 1000 → t = s) ∧ (10000 ≤ ns → afterReset s t 1)) ∧
  (∀ s : State, s.dev.mode = .sleep → s.dev.fget THM_STAT.SDLATCH = 0 → s.dev.heat.shutdown = none →
    (completes (.wake .smbus) s fun t => afterReset s t 5) ∧ (completes (.wake .rstN) s fun t => afterReset s t 1) ∧
    ((s.dev.task 346).arr ≠ [] → completes (.wake .task) s fun t => afterReset s t 5)) ∧
  (∀ (strap : BitVec 3) (s : State), s.dev.vauxLost = true →
    completes (.powerOn strap) s fun t =>
      t.dev.vauxLost = false ∧ t.dev.otp = { s.dev.otp with strap := strap } ∧ t.dev.fget GLB_RSTCAUSE.CAUSE = 0 ∧
      t.dev.reg THM_LIM.off = (if s.dev.otp.rangeLX then 0x646E7604#32 else 0x5F697604#32) ∧ ⟨.reset, 0, 0⟩ ∈ t.dev.bbx ∧
      still s t [THM_LIM.off, GLB_RSTCAUSE.off]) ∧
  (∀ s : State, s.dev.freeze = none →
    completes .vauxLoss s fun t =>
      t.dev.vauxLost = true ∧ t.dev.otp = s.dev.otp ∧ (∀ off, t.dev.reg off = regReset off) ∧
      (∀ a, t.dev.rd8 a = if (nvBase ≤ a ∧ a < mgmtBase) ∨ flashBase ≤ a then s.dev.rd8 a else memDefault a) ∧
      t.clk = {} ∧ t.dev.ocs = [] ∧ t.dev.ics = [] ∧ t.pending = s.pending) ∧
  (∀ s : State, s.dev.mode ≠ .sleep →
    completes .watchdogExpiry s fun t => t.dev.dogWait = true ∧ 3 ∈ t.dev.frzDue ∧ still s t []) ∧
  (∀ (v : W32) (s : State), GLB_RST.WARM.of v = 1 → s.dev.warm = false →
    completes (.warmReset v) s fun t =>
      let ok := s.dev.mode = .park ∨ s.dev.mode = .calibrate ∨ s.dev.mode = .relay ∨ s.dev.mode = .safe
      (ok → t.dev.warm = true ∧ t.dev.fget GLB_RSTCAUSE.CAUSE = 6 ∧ t.dev.fget GLB_MODE.BUSY = 1 ∧ t.dev.mode = s.dev.mode ∧
        t.dev.shot = 0 ∧ t.dev.round = 0 ∧ t.clk.counting = false ∧ t.clk.starting = true ∧ t.clk.nt = s.clk.nt ∧
        (∀ n, t.dev.eng n = {}) ∧ t.dev.otp = s.dev.otp ∧ t.pending = s.pending) ∧
      (¬ ok → t = s)) ∧
  (∀ s : State, s.dev.warm = true → s.dev.ramp = [] → s.dev.rehyQ = [] → s.dev.mode ≠ .safe →
    s.dev.manifest.filter (fun e => decide (1 ≤ e.type ∧ e.type ≤ 3)) = [] →
    completes .warmResetComplete s fun t =>
      t.dev.warm = false ∧ t.dev.fget GLB_MODE.BUSY = 0 ∧ entered s t .park)

/-- Modes and SAFE (R507 to R511, R517, R534): a request is refused with its cause or waits for its point; leaving the running modes halts and
mutes on the way; a cause of SAFE shows in PRESENT until it is acknowledged. -/
def Obligations.ModesAndSafe : Prop :=
  (∀ (v : W32) (s : State), GLB_MODE.GO.of v = 1 →
    completes (.modeRequest v) s fun t =>
      let code := GLB_MODE.REQ.of v
      (∀ cause, s.dev.modeRefusal s.clk code = some cause →
        t.dev.fget GLB_MERR.VALID = 1 ∧ t.dev.fget GLB_MERR.CAUSE = cause ∧ t.dev.fget GLB_MERR.REQ = code ∧
        t.dev.modeAsk = s.dev.modeAsk) ∧
      (s.dev.modeRefusal s.clk code = none → (t.dev.modeAsk).map (fun q => (q.dest, q.tk)) = some (Mode.ofCode code, s.dev.tk) ∧
        t.dev.fget GLB_MODE.BUSY = 1) ∧
      t.dev.mode = s.dev.mode ∧ still s t [GLB_MODE.off, GLB_MERR.off]) ∧
  (∀ (q : ModeReq) (s : State), s.dev.modeAsk = some q → q.leaving = true → s.dev.leaveDue q = true → q.dest ≠ .safe →
    s.dev.mode ≠ .relay →
    completes .modeLeaveRunning s fun t =>
      entered s t q.dest ∧ (q.dest.running = false → ∀ n, n < 192 → t.dev.domOn n = true → s.dev.domOn n = true →
        t.dev.fget (OC_STATUS.M_MODE n) = 1)) ∧
  (∀ (q : ModeReq) (s : State), s.dev.modeAsk = some q → q.leaving = false → q.tk < s.dev.tk → s.dev.mode ≠ .relay →
    completes .modeEntryComplete s fun t =>
      (q.dest ≠ .sleep → q.dest ≠ .safe → entered s t q.dest) ∧
      (q.dest = .sleep → t.dev.mode = .sleep ∧ t.dev.fget GLB_MODE.PREV = s.dev.mode.code ∧ t.clk.counting = false ∧
        t.dev.ocs = [] ∧ t.dev.otp = s.dev.otp ∧ t.pending = s.pending)) ∧
  (∀ s : State, s.dev.safeDue.contains 2 = true → s.dev.modeAsk = none → s.dev.mode ≠ .load → s.dev.mode ≠ .sleep →
    s.dev.mode ≠ .safe → s.dev.mode ≠ .relay →
    completes (.safeEntry .task) s fun t =>
      entered s t .safe ∧ t.dev.safeDue.contains 2 = false ∧
      (∀ n, n < 192 → t.dev.domOn n = true → s.dev.domOn n = true → t.dev.fget (OC_STATUS.M_MODE n) = 1)) ∧
  (∀ (v : W32) (s : State), BBX_SAFE.ACK.of v = 1 →
    completes (.safeAck v) s fun t =>
      bitAt (t.dev.fget BBX_SAFE.PRESENT) 1 = false ∧
      (∀ c, c < 5 → c ≠ 1 → bitAt (t.dev.fget BBX_SAFE.PRESENT) c = bitAt (s.dev.fget BBX_SAFE.PRESENT) c) ∧
      still s t [BBX_SAFE.off])

/-- The sediment record and the controller (R526, R529 to R532, R536): a note joins the entries of its tick; a freeze takes an erased frame, or
fails for want of one; once programmed its frame is valid and shown; a mismatch restarts the controller and stops the firmware's
channels, and its third failure raises source 840. -/
def Obligations.SedimentAndFaults : Prop :=
  (∀ (v : W32) (s : State), completes (.noteWrite v) s fun t =>
    ⟨.note, 0, BBX_NOTE.NOTE.of v⟩ ∈ t.dev.bbx ∧ (∀ e, e ∈ s.dev.bbx → e ∈ t.dev.bbx) ∧ still s t []) ∧
  (∀ (cause : FreezeCause) (s : State), (cause = .host ∨ s.dev.frzDue.contains (freezeCode cause) = true) → s.dev.freeze = none →
    s.dev.dogWait = false →
    completes (.freezeStart cause) s fun t =>
      (∀ f, s.dev.freeFrame = some f →
        t.dev.freeze = some { cause := freezeCode cause, frame := f, start := s.dev.tk, overtook := false } ∧
        t.dev.fget BBX_STAT.BUSY = 1 ∧ ⟨.freeze, 0, freezeCode cause⟩ ∈ t.dev.bbx) ∧
      (s.dev.freeFrame = none → t.dev.fget BBX_FRAME.FAIL = 1 ∧ t.dev.freeze = none) ∧
      t.dev.frzDue.contains (freezeCode cause) = false ∧ still s t [BBX_STAT.off, BBX_FRAME.off]) ∧
  (∀ (x : Freeze) (sn : Snap) (s : State), s.dev.freeze = some x → x.snap = some sn → x.start + 321250 ≤ s.dev.tk →
    s.dev.dogWait = false → x.frame < 15 → x.cause < 16 → sn.ring.length = 0x4000 →
    completes .freezeComplete s fun t =>
      t.dev.rdBytes (frameBase x.frame) 0x4000 = sn.ring ∧ t.dev.frameValid x.frame = true ∧ t.dev.freeze = none ∧
      t.dev.fget BBX_STAT.BUSY = 0 ∧ t.dev.fget BBX_FRAME.DONE = 1 ∧ t.dev.fget BBX_FRAME.FRAME = x.frame ∧
      t.dev.fget BBX_FRAME.CAUSE = x.cause ∧ (s.dev.canRaise 775 = true → 775 ∈ t.dev.raised) ∧
      (∀ a, (a < frameBase x.frame ∨ frameBase x.frame + 0x4000 ≤ a) → (a < framePage x.frame ∨ framePage x.frame + 64 ≤ a) →
        t.dev.rd8 a = s.dev.rd8 a) ∧ devOnly s t ∧ t.dev.ocs = s.dev.ocs ∧ regsSameEv s t [BBX_STAT.off, BBX_FRAME.off]) ∧
  (∀ s : State, s.dev.mode ≠ .sleep →
    completes .lockstepMismatch s fun t =>
      t.dev.ctlRestart = some (s.dev.ctlRestart.getD 0) ∧ (∀ c, c < 28 → t.dev.dma c = s.dev.dma c) ∧
      (∀ c, 28 ≤ c → c < 32 → (t.dev.dma c).phase ≠ .idle → (t.dev.dma c).stop = true) ∧
      still s t [DMA_C_STAT.off 28, DMA_C_STAT.off 29, DMA_C_STAT.off 30, DMA_C_STAT.off 31]) ∧
  (∀ (ok : Bool) (k : Nat) (s : State), s.dev.ctlRestart = some k → k < 3 →
    completes (.controllerRestartDone ok) s fun t =>
      (ok = true → t.dev.ctlRestart = none ∧ still s t []) ∧
      (ok = false → t.dev.ctlRestart = some (k + 1) ∧
        (k = 2 → s.dev.canRaise 840 = true → 840 ∈ t.dev.raised) ∧ plain s t []))

/-! ### Balls (chapter 20) -/

/-- A read over SMBus returned this word, and nothing else happened. -/
def smbReturns (s t : State) (w : BitVec 16) : Prop := t.dev.rdata = leBytes 2 w.toNat ∧ t.dev.smb = s.dev.smb ∧ still s t []

/-- A boundary instruction has taken the balls: the host port's link is down (R566). -/
def tookBalls (s t : State) (i : TapIr) : Prop :=
  t.dev.tap = i ∧ t.dev.fget PCI_STAT.DL_UP = 0 ∧ t.dev.fget PCI_STAT.SPEED = 0 ∧ t.dev.fget PCI_STAT.WIDTH = 0 ∧ devOnly s t ∧
  memSame s t ∧ t.dev.ocs = s.dev.ocs ∧ t.dev.ics = s.dev.ics ∧ lowRegsSame s t 0x40000 []

/-- SMBus and TAP (R503, R518, R563 to R566): PAGE selects a rail or the device; the readings return what the last refresh held, 0 for what
SLEEP does not power; MFR_WAKE wakes a sleeping device; a boundary instruction takes the balls; INTSCAN blocks the OTP and zeroises
every secret. The lost lanes under a boundary instruction and INTSCAN's effects at once are the model's reading (log entries 71, 72). -/
def Obligations.BallsAndScan : Prop :=
  (∀ (b : Byte) (s : State),
    (completes (.smbPage (.write b)) s fun t =>
      t.dev.smb.page = (if b.toNat ≤ 10 ∨ b = 0xFF#8 then b else s.dev.smb.page) ∧ still s t []) ∧
    (completes (.smbPage .read) s fun t => t.dev.rdata = [s.dev.smb.page] ∧ still s t [])) ∧
  (∀ s : State, s.dev.smbCarries = true →
    (completes .smbReadVin s fun t => smbReturns s t (tget 0 s.dev.smb.vin s.dev.smb.page.toNat)) ∧
    (completes .smbReadIin s fun t => smbReturns s t (tget 0 s.dev.smb.iin s.dev.smb.page.toNat)) ∧
    (completes .smbReadPin s fun t => smbReturns s t (tget 0 s.dev.smb.pin s.dev.smb.page.toNat))) ∧
  (∀ s : State, s.dev.mode = .sleep → (s.dev.smb.page.toNat < 6 ∨ 10 < s.dev.smb.page.toNat) →
    (completes .smbReadVin s fun t => smbReturns s t 0) ∧ (completes .smbReadIin s fun t => smbReturns s t 0) ∧
    (completes .smbReadPin s fun t => smbReturns s t 0)) ∧
  (∀ s : State,
    (completes .smbReadTemperature1 s fun t => smbReturns s t (if s.dev.mode = .sleep then 0 else s.dev.smb.temp1)) ∧
    (completes .smbReadTemperature2 s fun t => smbReturns s t s.dev.smb.temp2) ∧
    (completes .smbMfrMode s fun t => t.dev.rdata = [s.dev.smb.mode] ∧ still s t [])) ∧
  (∀ s : State, s.dev.mode = .sleep → s.dev.fget THM_STAT.SDLATCH = 0 →
    completes (.smbMfrWake 1) s fun t => afterReset s t 5) ∧
  (∀ (x : Byte) (s : State), x ≠ 1#8 → completes (.smbMfrWake x) s fun t => t = s) ∧
  (∀ (code x : Byte) (s : State),
    (completes (.smbUnknownCommand code .read) s fun t => t.dev.rdata = [0xFF#8] ∧ still s t []) ∧
    (completes (.smbUnknownCommand code (.write x)) s fun t => t = s)) ∧
  (∀ (ms : Nat) (s : State), completes (.smbTimeout ms) s fun t => t = s) ∧
  (∀ (rails : List RailReading) (s : State), rails.length = 11 →
    completes (.smbRefresh rails) s fun t =>
      (∀ i r, rails[i]? = some r →
        tget 0 t.dev.smb.vin i = r.vin ∧ tget 0 t.dev.smb.iin i = r.iin ∧ tget 0 t.dev.smb.pin i = r.pin) ∧
      tget 0 t.dev.smb.pin 255 = linear11 (rails.foldl (fun a r => a + linearValue r.pin) 0) ∧
      t.dev.smb.temp1 = linear11 (sext 16 (s.dev.fget THM_STAT.HOTT) * 4096) ∧
      t.dev.smb.mode.toNat = s.dev.fget GLB_MODE.CUR + s.dev.fget THM_STAT.LEVEL * 16 + s.dev.fget THM_STAT.SDLATCH * 128 ∧
      t.dev.smb.page = s.dev.smb.page ∧ still s t []) ∧
  (∀ s : State,
    (completes .tapExtest s fun t => tookBalls s t .extest) ∧ (completes .tapClamp s fun t => tookBalls s t .clamp) ∧
    (completes .tapHighz s fun t => tookBalls s t .highz) ∧ (completes .tapExtestPulse s fun t => tookBalls s t .extestPulse) ∧
    (completes .tapExtestTrain s fun t => tookBalls s t .extestTrain) ∧
    (completes .tapSamplePreload s fun t => t.dev.tap = .samplePreload ∧ still s t []) ∧
    (completes .tapIdcode s fun t => t.dev.tap = .idcode ∧ leNat t.dev.rdata = idcode.toNat ∧ still s t []) ∧
    (∀ code, completes (.tapBypass code) s fun t => t.dev.tap = .bypass ∧ still s t [])) ∧
  (∀ s : State, s.dev.mode ≠ .load → s.dev.mode ≠ .sleep →
    completes .tapIntscan s fun t =>
      t.dev.tap = .intscan ∧ t.dev.otpBlocked = true ∧ t.dev.attesting = false ∧ t.dev.fget SEC_STAT.NOKEY = 1 ∧
      (∀ i, i < 8 → t.dev.reg (SEC_NONCE.off i) = 0) ∧ (∀ x, x < 0x300 → t.dev.rd8 (reportBase + x) = 0) ∧
      (∀ x, x < 0x800000 → t.dev.rd8 (mgmtBase + x) = 0) ∧ bitAt (t.dev.fget BBX_SAFE.PRESENT) 3 = true ∧
      (s.dev.canRaise 836 = true → 836 ∈ t.dev.raised) ∧
      (∀ a, (a < reportBase ∨ reportBase + 0x300 ≤ a) → (a < mgmtBase ∨ mgmtBase + 0x800000 ≤ a) → t.dev.rd8 a = s.dev.rd8 a) ∧
      devOnly s t ∧ t.dev.ocs = s.dev.ocs)
end

