-- ==== Sys2Proof/Laws/Dispatch.lean ====
section
/-! SUPPORT. What `exec` answers for each command: its meaning. -/
namespace Sys2Proof.Machine

@[simp] theorem exec_powerOn (s : State) (strap) : exec (.powerOn strap) s = execPowerOn strap s := rfl
@[simp] theorem exec_pinReset (s : State) (widthNs) : exec (.pinReset widthNs) s = execPinReset widthNs s := rfl
@[simp] theorem exec_watchdogExpiry (s : State) : exec .watchdogExpiry s = execWatchdogExpiry s := rfl
@[simp] theorem exec_warmReset (s : State) (v) : exec (.warmReset v) s = execWarmReset v s := rfl
@[simp] theorem exec_warmResetComplete (s : State) : exec .warmResetComplete s = execWarmResetComplete s := rfl
@[simp] theorem exec_functionLevelReset (s : State) : exec .functionLevelReset s = execFunctionLevelReset s := rfl
@[simp] theorem exec_perst (s : State) (asserted) : exec (.perst asserted) s = execPerst asserted s := rfl
@[simp] theorem exec_pfail (s : State) (widthNs) : exec (.pfail widthNs) s = execPfail widthNs s := rfl
@[simp] theorem exec_railExcursion (s : State) (rail durNs) : exec (.railExcursion rail durNs) s = execRailExcursion rail durNs s := rfl
@[simp] theorem exec_droopDetect (s : State) (mv) : exec (.droopDetect mv) s = execDroopDetect mv s := rfl
@[simp] theorem exec_droopStretchEnd (s : State) : exec .droopStretchEnd s = execDroopStretchEnd s := rfl
@[simp] theorem exec_tick (s : State) (adc) : exec (.tick adc) s = execTick adc s := rfl
@[simp] theorem exec_crystalCycle (s : State) : exec .crystalCycle s = execCrystalCycle s := rfl
@[simp] theorem exec_shotLoWrite (s : State) (v) : exec (.shotLoWrite v) s = execShotLoWrite v s := rfl
@[simp] theorem exec_shotHiWrite (s : State) (v) : exec (.shotHiWrite v) s = execShotHiWrite v s := rfl
@[simp] theorem exec_shotLoRead (s : State) : exec .shotLoRead s = execShotLoRead s := rfl
@[simp] theorem exec_nowLoRead (s : State) : exec .nowLoRead s = execNowLoRead s := rfl
@[simp] theorem exec_registerWrite (s : State) (auth off width v) : exec (.registerWrite auth off width v) s = execRegisterWrite auth off width v s := rfl
@[simp] theorem exec_reservedRangeAccess (s : State) (bar off acc) : exec (.reservedRangeAccess bar off acc) s = execReservedRangeAccess bar off acc s := rfl
@[simp] theorem exec_poweredOffDomainAccess (s : State) (bar off acc) : exec (.poweredOffDomainAccess bar off acc) s = execPoweredOffDomainAccess bar off acc s := rfl
@[simp] theorem exec_roundBoundary (s : State) : exec .roundBoundary s = execRoundBoundary s := rfl
@[simp] theorem exec_wellheadStart (s : State) (v) : exec (.wellheadStart v) s = execWellheadStart v s := rfl
@[simp] theorem exec_timebeatEdge (s : State) (frac) : exec (.timebeatEdge frac) s = execTimebeatEdge frac s := rfl
@[simp] theorem exec_timebeatMissing (s : State) : exec .timebeatMissing s = execTimebeatMissing s := rfl
@[simp] theorem exec_realign (s : State) (v) : exec (.realign v) s = execRealign v s := rfl
@[simp] theorem exec_syncFlitReceive (s : State) (p frac xid hops suspect) : exec (.syncFlitReceive p frac xid hops suspect) s = execSyncFlitReceive p frac xid hops suspect s := rfl
@[simp] theorem exec_followFlitReceive (s : State) (p f) : exec (.followFlitReceive p f) s = execFollowFlitReceive p f s := rfl
@[simp] theorem exec_syncSend (s : State) (p frac) : exec (.syncSend p frac) s = execSyncSend p frac s := rfl
@[simp] theorem exec_followSend (s : State) (p) : exec (.followSend p) s = execFollowSend p s := rfl
@[simp] theorem exec_dreqSend (s : State) (p frac) : exec (.dreqSend p frac) s = execDreqSend p frac s := rfl
@[simp] theorem exec_dreqReceive (s : State) (p frac xid) : exec (.dreqReceive p frac xid) s = execDreqReceive p frac xid s := rfl
@[simp] theorem exec_drespReceive (s : State) (p xid t4) : exec (.drespReceive p xid t4) s = execDrespReceive p xid t4 s := rfl
@[simp] theorem exec_syncLost (s : State) : exec .syncLost s = execSyncLost s := rfl
@[simp] theorem exec_upPriReturn (s : State) : exec .upPriReturn s = execUpPriReturn s := rfl
@[simp] theorem exec_actionArm (s : State) (n v) : exec (.actionArm n v) s = execActionArm n v s := rfl
@[simp] theorem exec_actionCancel (s : State) (n v) : exec (.actionCancel n v) s = execActionCancel n v s := rfl
@[simp] theorem exec_actNone (s : State) (n) : exec (.actNone n) s = execActNone n s := rfl
@[simp] theorem exec_actRaiseSoftwareSource (s : State) (n) : exec (.actRaiseSoftwareSource n) s = execActRaiseSoftwareSource n s := rfl
@[simp] theorem exec_actSetMarker (s : State) (n) : exec (.actSetMarker n) s = execActSetMarker n s := rfl
@[simp] theorem exec_actReleaseStartGroup (s : State) (n) : exec (.actReleaseStartGroup n) s = execActReleaseStartGroup n s := rfl
@[simp] theorem exec_actApplyNetworkTime (s : State) (n) : exec (.actApplyNetworkTime n) s = execActApplyNetworkTime n s := rfl
@[simp] theorem exec_actCommitNtInc (s : State) (n) : exec (.actCommitNtInc n) s = execActCommitNtInc n s := rfl
@[simp] theorem exec_ntIncStage (s : State) (hi v) : exec (.ntIncStage hi v) s = execNtIncStage hi v s := rfl
@[simp] theorem exec_ntTimeStage (s : State) (part v) : exec (.ntTimeStage part v) s = execNtTimeStage part v s := rfl
@[simp] theorem exec_ntSecLoRead (s : State) : exec .ntSecLoRead s = execNtSecLoRead s := rfl
@[simp] theorem exec_pgArm (s : State) (n v) : exec (.pgArm n v) s = execPgArm n v s := rfl
@[simp] theorem exec_pgDisarm (s : State) (n v) : exec (.pgDisarm n v) s = execPgDisarm n v s := rfl
@[simp] theorem exec_pgPulseRise (s : State) (n) : exec (.pgPulseRise n) s = execPgPulseRise n s := rfl
@[simp] theorem exec_pgPulseFall (s : State) (n) : exec (.pgPulseFall n) s = execPgPulseFall n s := rfl
@[simp] theorem exec_play (s : State) (oc) : exec (.play oc) s = execPlay oc s := rfl
@[simp] theorem exec_setf (s : State) (oc) : exec (.setf oc) s = execSetf oc s := rfl
@[simp] theorem exec_idleStep (s : State) (oc) : exec (.idleStep oc) s = execIdleStep oc s := rfl
@[simp] theorem exec_undefinedOpcode (s : State) (oc) : exec (.undefinedOpcode oc) s = execUndefinedOpcode oc s := rfl
@[simp] theorem exec_waitStep (s : State) (oc) : exec (.waitStep oc) s = execWaitStep oc s := rfl
@[simp] theorem exec_waitResume (s : State) (oc) : exec (.waitResume oc) s = execWaitResume oc s := rfl
@[simp] theorem exec_waitTimeout (s : State) (oc) : exec (.waitTimeout oc) s = execWaitTimeout oc s := rfl
@[simp] theorem exec_branchStep (s : State) (oc) : exec (.branchStep oc) s = execBranchStep oc s := rfl
@[simp] theorem exec_branchDecision (s : State) (oc) : exec (.branchDecision oc) s = execBranchDecision oc s := rfl
@[simp] theorem exec_loopStepLevel (s : State) (oc) : exec (.loopStepLevel oc) s = execLoopStepLevel oc s := rfl
@[simp] theorem exec_loopSegmentLevel (s : State) (oc) : exec (.loopSegmentLevel oc) s = execLoopSegmentLevel oc s := rfl
@[simp] theorem exec_callStep (s : State) (oc) : exec (.callStep oc) s = execCallStep oc s := rfl
@[simp] theorem exec_frameSet (s : State) (oc) : exec (.frameSet oc) s = execFrameSet oc s := rfl
@[simp] theorem exec_frameXor (s : State) (oc) : exec (.frameXor oc) s = execFrameXor oc s := rfl
@[simp] theorem exec_frameClearAll (s : State) (oc) : exec (.frameClearAll oc) s = execFrameClearAll oc s := rfl
@[simp] theorem exec_markonly (s : State) (oc) : exec (.markonly oc) s = execMarkonly oc s := rfl
@[simp] theorem exec_syncAbsolute (s : State) (oc) : exec (.syncAbsolute oc) s = execSyncAbsolute oc s := rfl
@[simp] theorem exec_syncCycleWindow (s : State) (oc) : exec (.syncCycleWindow oc) s = execSyncCycleWindow oc s := rfl
@[simp] theorem exec_syncShotSlot (s : State) (oc) : exec (.syncShotSlot oc) s = execSyncShotSlot oc s := rfl
@[simp] theorem exec_slotHoldDecision (s : State) (slot) : exec (.slotHoldDecision slot) s = execSlotHoldDecision slot s := rfl
@[simp] theorem exec_endStep (s : State) (oc) : exec (.endStep oc) s = execEndStep oc s := rfl
@[simp] theorem exec_toneCommandFire (s : State) (oc tone) : exec (.toneCommandFire oc tone) s = execToneCommandFire oc tone s := rfl
@[simp] theorem exec_checkTick (s : State) (oc) : exec (.checkTick oc) s = execCheckTick oc s := rfl
@[simp] theorem exec_segmentBoundary (s : State) (oc) : exec (.segmentBoundary oc) s = execSegmentBoundary oc s := rfl
@[simp] theorem exec_starvationEnd (s : State) (oc) : exec (.starvationEnd oc) s = execStarvationEnd oc s := rfl
@[simp] theorem exec_sePrime (s : State) (oc v) : exec (.sePrime oc v) s = execSePrime oc v s := rfl
@[simp] theorem exec_seHalt (s : State) (oc v) : exec (.seHalt oc v) s = execSeHalt oc v s := rfl
@[simp] theorem exec_engineStart (s : State) (g) : exec (.engineStart g) s = execEngineStart g s := rfl
@[simp] theorem exec_segRequestLoading (s : State) (oc seg v) : exec (.segRequestLoading oc seg v) s = execSegRequestLoading oc seg v s := rfl
@[simp] theorem exec_segRequestValid (s : State) (oc seg v) : exec (.segRequestValid oc seg v) s = execSegRequestValid oc seg v s := rfl
@[simp] theorem exec_segRequestEmpty (s : State) (oc seg v) : exec (.segRequestEmpty oc seg v) s = execSegRequestEmpty oc seg v s := rfl
@[simp] theorem exec_segRewriteFields (s : State) (oc seg v) : exec (.segRewriteFields oc seg v) s = execSegRewriteFields oc seg v s := rfl
@[simp] theorem exec_segHiWrite (s : State) (oc seg v) : exec (.segHiWrite oc seg v) s = execSegHiWrite oc seg v s := rfl
@[simp] theorem exec_stepStoreWrite (s : State) (oc off bytes) : exec (.stepStoreWrite oc off bytes) s = execStepStoreWrite oc off bytes s := rfl
@[simp] theorem exec_refillListRebuild (s : State) (oc) : exec (.refillListRebuild oc) s = execRefillListRebuild oc s := rfl
@[simp] theorem exec_conditionEvent (s : State) (oc ci) : exec (.conditionEvent oc ci) s = execConditionEvent oc ci s := rfl
@[simp] theorem exec_ocSoftReset (s : State) (oc v) : exec (.ocSoftReset oc v) s = execOcSoftReset oc v s := rfl
@[simp] theorem exec_tsStagedWrite (s : State) (oc r v) : exec (.tsStagedWrite oc r v) s = execTsStagedWrite oc r v s := rfl
@[simp] theorem exec_carrierLoWrite (s : State) (oc v) : exec (.carrierLoWrite oc v) s = execCarrierLoWrite oc v s := rfl
@[simp] theorem exec_carrierHiWrite (s : State) (oc v) : exec (.carrierHiWrite oc v) s = execCarrierHiWrite oc v s := rfl
@[simp] theorem exec_stagedValueCommit (s : State) (target) : exec (.stagedValueCommit target) s = execStagedValueCommit target s := rfl
@[simp] theorem exec_shapeLibraryWrite (s : State) (q off bytes) : exec (.shapeLibraryWrite q off bytes) s = execShapeLibraryWrite q off bytes s := rfl
@[simp] theorem exec_rangeChange (s : State) (oc v) : exec (.rangeChange oc v) s = execRangeChange oc v s := rfl
@[simp] theorem exec_settleEnd (s : State) (oc) : exec (.settleEnd oc) s = execSettleEnd oc s := rfl
@[simp] theorem exec_loadStage (s : State) (oc v) : exec (.loadStage oc v) s = execLoadStage oc v s := rfl
@[simp] theorem exec_strobeNow (s : State) (g v) : exec (.strobeNow g v) s = execStrobeNow g v s := rfl
@[simp] theorem exec_strobeArm (s : State) (g v) : exec (.strobeArm g v) s = execStrobeArm g v s := rfl
@[simp] theorem exec_timelineStrobe (s : State) (g) : exec (.timelineStrobe g) s = execTimelineStrobe g s := rfl
@[simp] theorem exec_queueEnable (s : State) (oc v) : exec (.queueEnable oc v) s = execQueueEnable oc v s := rfl
@[simp] theorem exec_queueStart (s : State) (oc v) : exec (.queueStart oc v) s = execQueueStart oc v s := rfl
@[simp] theorem exec_queueStop (s : State) (oc v) : exec (.queueStop oc v) s = execQueueStop oc v s := rfl
@[simp] theorem exec_queueWrWrite (s : State) (oc v) : exec (.queueWrWrite oc v) s = execQueueWrWrite oc v s := rfl
@[simp] theorem exec_shortDetect (s : State) (oc) : exec (.shortDetect oc) s = execShortDetect oc s := rfl
@[simp] theorem exec_dtStagedWrite (s : State) (ic r v) : exec (.dtStagedWrite ic r v) s = execDtStagedWrite ic r v s := rfl
@[simp] theorem exec_cePrime (s : State) (ic v) : exec (.cePrime ic v) s = execCePrime ic v s := rfl
@[simp] theorem exec_ceStart (s : State) (g) : exec (.ceStart g) s = execCeStart g s := rfl
@[simp] theorem exec_ceHalt (s : State) (ic v) : exec (.ceHalt ic v) s = execCeHalt ic v s := rfl
@[simp] theorem exec_icSoftReset (s : State) (ic v) : exec (.icSoftReset ic v) s = execIcSoftReset ic v s := rfl
@[simp] theorem exec_window (s : State) (ic) : exec (.window ic) s = execWindow ic s := rfl
@[simp] theorem exec_ceIdle (s : State) (ic) : exec (.ceIdle ic) s = execCeIdle ic s := rfl
@[simp] theorem exec_ceLoop (s : State) (ic) : exec (.ceLoop ic) s = execCeLoop ic s := rfl
@[simp] theorem exec_jump (s : State) (ic) : exec (.jump ic) s = execJump ic s := rfl
@[simp] theorem exec_shotwait (s : State) (ic) : exec (.shotwait ic) s = execShotwait ic s := rfl
@[simp] theorem exec_shotwaitRelease (s : State) (ic) : exec (.shotwaitRelease ic) s = execShotwaitRelease ic s := rfl
@[simp] theorem exec_ceEnd (s : State) (ic) : exec (.ceEnd ic) s = execCeEnd ic s := rfl
@[simp] theorem exec_badword (s : State) (ic) : exec (.badword ic) s = execBadword ic s := rfl
@[simp] theorem exec_windowOpen (s : State) (ic dt) : exec (.windowOpen ic dt) s = execWindowOpen ic dt s := rfl
@[simp] theorem exec_windowEnd (s : State) (ic dt) : exec (.windowEnd ic dt) s = execWindowEnd ic dt s := rfl
@[simp] theorem exec_resultEmit (s : State) (ic dt) : exec (.resultEmit ic dt) s = execResultEmit ic dt s := rfl
@[simp] theorem exec_resultBufferRead (s : State) (ic off len) : exec (.resultBufferRead ic off len) s = execResultBufferRead ic off len s := rfl
@[simp] theorem exec_resultBufferWriteDrop (s : State) (ic off bytes) : exec (.resultBufferWriteDrop ic off bytes) s = execResultBufferWriteDrop ic off bytes s := rfl
@[simp] theorem exec_rbRdWrite (s : State) (ic v) : exec (.rbRdWrite ic v) s = execRbRdWrite ic v s := rfl
@[simp] theorem exec_weightWrite (s : State) (ic off bytes) : exec (.weightWrite ic off bytes) s = execWeightWrite ic off bytes s := rfl
@[simp] theorem exec_collectorTake (s : State) : exec .collectorTake s = execCollectorTake s := rfl
@[simp] theorem exec_routingWrite (s : State) (r v) : exec (.routingWrite r v) s = execRoutingWrite r v s := rfl
@[simp] theorem exec_linkQueueEntry (s : State) (p) : exec (.linkQueueEntry p) s = execLinkQueueEntry p s := rfl
@[simp] theorem exec_frameUpdateApply (s : State) : exec .frameUpdateApply s = execFrameUpdateApply s := rfl
@[simp] theorem exec_receiveKind0Result (s : State) (p msg) : exec (.receiveKind0Result p msg) s = execReceiveKind0Result p msg s := rfl
@[simp] theorem exec_receiveKind1Frame (s : State) (p msg) : exec (.receiveKind1Frame p msg) s = execReceiveKind1Frame p msg s := rfl
@[simp] theorem exec_receiveReservedKind (s : State) (p msg) : exec (.receiveReservedKind p msg) s = execReceiveReservedKind p msg s := rfl
@[simp] theorem exec_sieveRecordIntake (s : State) : exec .sieveRecordIntake s = execSieveRecordIntake s := rfl
@[simp] theorem exec_roundCloseTimeout (s : State) (g) : exec (.roundCloseTimeout g) s = execRoundCloseTimeout g s := rfl
@[simp] theorem exec_decodeStart (s : State) (g) : exec (.decodeStart g) s = execDecodeStart g s := rfl
@[simp] theorem exec_decodeCommit (s : State) (g) : exec (.decodeCommit g) s = execDecodeCommit g s := rfl
@[simp] theorem exec_sieveOutputIssue (s : State) : exec .sieveOutputIssue s = execSieveOutputIssue s := rfl
@[simp] theorem exec_conditionOutputIssue (s : State) (k) : exec (.conditionOutputIssue k) s = execConditionOutputIssue k s := rfl
@[simp] theorem exec_doneSend (s : State) (g) : exec (.doneSend g) s = execDoneSend g s := rfl
@[simp] theorem exec_openReceive (s : State) (p msg) : exec (.openReceive p msg) s = execOpenReceive p msg s := rfl
@[simp] theorem exec_doneReceive (s : State) (p msg) : exec (.doneReceive p msg) s = execDoneReceive p msg s := rfl
@[simp] theorem exec_flipReceive (s : State) (p msg) : exec (.flipReceive p msg) s = execFlipReceive p msg s := rfl
@[simp] theorem exec_sieveType3Receive (s : State) (p msg) : exec (.sieveType3Receive p msg) s = execSieveType3Receive p msg s := rfl
@[simp] theorem exec_graphStoreWrite (s : State) (v) : exec (.graphStoreWrite v) s = execGraphStoreWrite v s := rfl
@[simp] theorem exec_graphStoreRead (s : State) : exec .graphStoreRead s = execGraphStoreRead s := rfl
@[simp] theorem exec_graphEnable (s : State) (g v) : exec (.graphEnable g v) s = execGraphEnable g v s := rfl
@[simp] theorem exec_graphEnableCheckDone (s : State) (g) : exec (.graphEnableCheckDone g) s = execGraphEnableCheckDone g s := rfl
@[simp] theorem exec_graphDisable (s : State) (g v) : exec (.graphDisable g v) s = execGraphDisable g v s := rfl
@[simp] theorem exec_tileRelease (s : State) (g) : exec (.tileRelease g) s = execTileRelease g s := rfl
@[simp] theorem exec_rotationStart (s : State) : exec .rotationStart s = execRotationStart s := rfl
@[simp] theorem exec_rotationCopyDone (s : State) : exec .rotationCopyDone s = execRotationCopyDone s := rfl
@[simp] theorem exec_tileFail (s : State) (tile storeLost) : exec (.tileFail tile storeLost) s = execTileFail tile storeLost s := rfl
@[simp] theorem exec_graphReload (s : State) (g) : exec (.graphReload g) s = execGraphReload g s := rfl
@[simp] theorem exec_acqRun (s : State) (v) : exec (.acqRun v) s = execAcqRun v s := rfl
@[simp] theorem exec_icmaskWrite (s : State) (v) : exec (.icmaskWrite v) s = execIcmaskWrite v s := rfl
@[simp] theorem exec_poolPeriodWrite (s : State) : exec .poolPeriodWrite s = execPoolPeriodWrite s := rfl
@[simp] theorem exec_triggerArm (s : State) (u v) : exec (.triggerArm u v) s = execTriggerArm u v s := rfl
@[simp] theorem exec_triggerDisarm (s : State) (u v) : exec (.triggerDisarm u v) s = execTriggerDisarm u v s := rfl
@[simp] theorem exec_triggerDecision (s : State) (u) : exec (.triggerDecision u) s = execTriggerDecision u s := rfl
@[simp] theorem exec_lateTrigger (s : State) (u) : exec (.lateTrigger u) s = execLateTrigger u s := rfl
@[simp] theorem exec_linkTriggerReceive (s : State) (p trig) : exec (.linkTriggerReceive p trig) s = execLinkTriggerReceive p trig s := rfl
@[simp] theorem exec_captureWindowTrunc (s : State) (u) : exec (.captureWindowTrunc u) s = execCaptureWindowTrunc u s := rfl
@[simp] theorem exec_captureRecordWrite (s : State) (u) : exec (.captureRecordWrite u) s = execCaptureRecordWrite u s := rfl
@[simp] theorem exec_recRdWrite (s : State) (v) : exec (.recRdWrite v) s = execRecRdWrite v s := rfl
@[simp] theorem exec_prdWrite (s : State) (v) : exec (.prdWrite v) s = execPrdWrite v s := rfl
@[simp] theorem exec_poolStreamRead (s : State) (off len) : exec (.poolStreamRead off len) s = execPoolStreamRead off len s := rfl
@[simp] theorem exec_portEnable (s : State) (p v) : exec (.portEnable p v) s = execPortEnable p v s := rfl
@[simp] theorem exec_laneAligned (s : State) (p lane logical inverted slip) : exec (.laneAligned p lane logical inverted slip) s = execLaneAligned p lane logical inverted slip s := rfl
@[simp] theorem exec_trainTimeout (s : State) (p) : exec (.trainTimeout p) s = execTrainTimeout p s := rfl
@[simp] theorem exec_rxTrainBlock (s : State) (p payload) : exec (.rxTrainBlock p payload) s = execRxTrainBlock p payload s := rfl
@[simp] theorem exec_rxAlignBlock (s : State) (p lane payload instant) : exec (.rxAlignBlock p lane payload instant) s = execRxAlignBlock p lane payload instant s := rfl
@[simp] theorem exec_rxIdleBlock (s : State) (p lane) : exec (.rxIdleBlock p lane) s = execRxIdleBlock p lane s := rfl
@[simp] theorem exec_linkModeChangeRequest (s : State) (p) : exec (.linkModeChangeRequest p) s = execLinkModeChangeRequest p s := rfl
@[simp] theorem exec_modeReqRepeat (s : State) (p) : exec (.modeReqRepeat p) s = execModeReqRepeat p s := rfl
@[simp] theorem exec_rxModeReq (s : State) (p payload) : exec (.rxModeReq p payload) s = execRxModeReq p payload s := rfl
@[simp] theorem exec_rxModeSet (s : State) (p payload) : exec (.rxModeSet p payload) s = execRxModeSet p payload s := rfl
@[simp] theorem exec_linkModeSwitch (s : State) (p) : exec (.linkModeSwitch p) s = execLinkModeSwitch p s := rfl
@[simp] theorem exec_laneLossDetect (s : State) (p lane) : exec (.laneLossDetect p lane) s = execLaneLossDetect p lane s := rfl
@[simp] theorem exec_laneDropRepeat (s : State) (p) : exec (.laneDropRepeat p) s = execLaneDropRepeat p s := rfl
@[simp] theorem exec_rxLaneDrop (s : State) (p payload) : exec (.rxLaneDrop p payload) s = execRxLaneDrop p payload s := rfl
@[simp] theorem exec_rxLaneSwitch (s : State) (p payload) : exec (.rxLaneSwitch p payload) s = execRxLaneSwitch p payload s := rfl
@[simp] theorem exec_laneReadySend (s : State) (p lane) : exec (.laneReadySend p lane) s = execLaneReadySend p lane s := rfl
@[simp] theorem exec_rxLaneReady (s : State) (p payload) : exec (.rxLaneReady p payload) s = execRxLaneReady p payload s := rfl
@[simp] theorem exec_duplicatedFlitReceive (s : State) (p lower upper) : exec (.duplicatedFlitReceive p lower upper) s = execDuplicatedFlitReceive p lower upper s := rfl
@[simp] theorem exec_stripedFlitError (s : State) (p flit) : exec (.stripedFlitError p flit) s = execStripedFlitError p flit s := rfl
@[simp] theorem exec_nakRepeat (s : State) (p) : exec (.nakRepeat p) s = execNakRepeat p s := rfl
@[simp] theorem exec_nakReceive (s : State) (p ack) : exec (.nakReceive p ack) s = execNakReceive p ack s := rfl
@[simp] theorem exec_replayTimeout (s : State) (p) : exec (.replayTimeout p) s = execReplayTimeout p s := rfl
@[simp] theorem exec_fecCodeword (s : State) (p lane codeword) : exec (.fecCodeword p lane codeword) s = execFecCodeword p lane codeword s := rfl
@[simp] theorem exec_badFlit (s : State) (p flit) : exec (.badFlit p flit) s = execBadFlit p flit s := rfl
@[simp] theorem exec_routeForward (s : State) (p flit) : exec (.routeForward p flit) s = execRouteForward p flit s := rfl
@[simp] theorem exec_returnForward (s : State) (p flit) : exec (.returnForward p flit) s = execReturnForward p flit s := rfl
@[simp] theorem exec_patWrite (s : State) (p lane v) : exec (.patWrite p lane v) s = execPatWrite p lane v s := rfl
@[simp] theorem exec_injectFlit (s : State) (p v) : exec (.injectFlit p v) s = execInjectFlit p v s := rfl
@[simp] theorem exec_injectLaneDrop (s : State) (p v) : exec (.injectLaneDrop p v) s = execInjectLaneDrop p v s := rfl
@[simp] theorem exec_portSoftReset (s : State) (p v) : exec (.portSoftReset p v) s = execPortSoftReset p v s := rfl
@[simp] theorem exec_relayGo (s : State) (slot v) : exec (.relayGo slot v) s = execRelayGo slot v s := rfl
@[simp] theorem exec_relayReadExecute (s : State) (origin flit) : exec (.relayReadExecute origin flit) s = execRelayReadExecute origin flit s := rfl
@[simp] theorem exec_relayWriteExecute (s : State) (origin flit) : exec (.relayWriteExecute origin flit) s = execRelayWriteExecute origin flit s := rfl
@[simp] theorem exec_relayCompletion (s : State) (flit) : exec (.relayCompletion flit) s = execRelayCompletion flit s := rfl
@[simp] theorem exec_relayTimeout (s : State) (slot) : exec (.relayTimeout slot) s = execRelayTimeout slot s := rfl
@[simp] theorem exec_dmaStart (s : State) (auth c v) : exec (.dmaStart auth c v) s = execDmaStart auth c v s := rfl
@[simp] theorem exec_dmaStop (s : State) (auth c v) : exec (.dmaStop auth c v) s = execDmaStop auth c v s := rfl
@[simp] theorem exec_dmaAbort (s : State) (auth c v) : exec (.dmaAbort auth c v) s = execDmaAbort auth c v s := rfl
@[simp] theorem exec_descriptorFetch (s : State) (c hostData) : exec (.descriptorFetch c hostData) s = execDescriptorFetch c hostData s := rfl
@[simp] theorem exec_dmaRequestSeen (s : State) (c) : exec (.dmaRequestSeen c) s = execDmaRequestSeen c s := rfl
@[simp] theorem exec_dmaReadReturn (s : State) (c status hostData) : exec (.dmaReadReturn c status hostData) s = execDmaReadReturn c status hostData s := rfl
@[simp] theorem exec_dmaDescriptorComplete (s : State) (c) : exec (.dmaDescriptorComplete c) s = execDmaDescriptorComplete c s := rfl
@[simp] theorem exec_dmaNoresp (s : State) (c) : exec (.dmaNoresp c) s = execDmaNoresp c s := rfl
@[simp] theorem exec_lateCompletion (s : State) (tag) : exec (.lateCompletion tag) s = execLateCompletion tag s := rfl
@[simp] theorem exec_remoteOutReceive (s : State) (p flit) : exec (.remoteOutReceive p flit) s = execRemoteOutReceive p flit s := rfl
@[simp] theorem exec_remoteBackReceive (s : State) (flit) : exec (.remoteBackReceive flit) s = execRemoteBackReceive flit s := rfl
@[simp] theorem exec_msixMessageSend (s : State) (vec) : exec (.msixMessageSend vec) s = execMsixMessageSend vec s := rfl
@[simp] theorem exec_guardWindowEnd (s : State) : exec .guardWindowEnd s = execGuardWindowEnd s := rfl
@[simp] theorem exec_taskFire (s : State) (k) : exec (.taskFire k) s = execTaskFire k s := rfl
@[simp] theorem exec_taskRearm (s : State) (k) : exec (.taskRearm k) s = execTaskRearm k s := rfl
@[simp] theorem exec_relayTask (s : State) (k) : exec (.relayTask k) s = execRelayTask k s := rfl
@[simp] theorem exec_markEntry (s : State) : exec .markEntry s = execMarkEntry s := rfl
@[simp] theorem exec_requestSafe (s : State) : exec .requestSafe s = execRequestSafe s := rfl
@[simp] theorem exec_rillRouteWrite (s : State) (auth r v) : exec (.rillRouteWrite auth r v) s = execRillRouteWrite auth r v s := rfl
@[simp] theorem exec_rilSrcWrite (s : State) (auth src v) : exec (.rilSrcWrite auth src v) s = execRilSrcWrite auth src v s := rfl
@[simp] theorem exec_rilTaskWrite (s : State) (auth k v) : exec (.rilTaskWrite auth k v) s = execRilTaskWrite auth k v s := rfl
@[simp] theorem exec_softwareRaise (s : State) (hi v) : exec (.softwareRaise hi v) s = execSoftwareRaise hi v s := rfl
@[simp] theorem exec_markerEdge (s : State) (k rising frac) : exec (.markerEdge k rising frac) s = execMarkerEdge k rising frac s := rfl
@[simp] theorem exec_markerEdgeRegister (s : State) : exec .markerEdgeRegister s = execMarkerEdgeRegister s := rfl
@[simp] theorem exec_stampRdWrite (s : State) (v) : exec (.stampRdWrite v) s = execStampRdWrite v s := rfl
@[simp] theorem exec_cycleEdgeMissing (s : State) : exec .cycleEdgeMissing s = execCycleEdgeMissing s := rfl
@[simp] theorem exec_cycleWindowStart (s : State) (w) : exec (.cycleWindowStart w) s = execCycleWindowStart w s := rfl
@[simp] theorem exec_cycleHoldCommit (s : State) (v) : exec (.cycleHoldCommit v) s = execCycleHoldCommit v s := rfl
@[simp] theorem exec_clRefLoRead (s : State) : exec .clRefLoRead s = execClRefLoRead s := rfl
@[simp] theorem exec_bootStart (s : State) (sfdp reread) : exec (.bootStart sfdp reread) s = execBootStart s sfdp reread := rfl
@[simp] theorem exec_bootAttemptFail (s : State) (cause) : exec (.bootAttemptFail cause) s = execBootAttemptFail cause s := rfl
@[simp] theorem exec_bootLoadDone (s : State) : exec .bootLoadDone s = execBootLoadDone s := rfl
@[simp] theorem exec_bootPark (s : State) : exec .bootPark s = execBootPark s := rfl
@[simp] theorem exec_reboot (s : State) (v) : exec (.reboot v) s = execReboot v s := rfl
@[simp] theorem exec_flashRead (s : State) (v) : exec (.flashRead v) s = execFlashRead v s := rfl
@[simp] theorem exec_flashProgram (s : State) (v) : exec (.flashProgram v) s = execFlashProgram v s := rfl
@[simp] theorem exec_flashErase (s : State) (v) : exec (.flashErase v) s = execFlashErase v s := rfl
@[simp] theorem exec_flashReadStatus (s : State) (v) : exec (.flashReadStatus v) s = execFlashReadStatus v s := rfl
@[simp] theorem exec_flashCommandDone (s : State) (status) : exec (.flashCommandDone status) s = execFlashCommandDone status s := rfl
@[simp] theorem exec_flashCommandTimeout (s : State) : exec .flashCommandTimeout s = execFlashCommandTimeout s := rfl
@[simp] theorem exec_domainPowerWrite (s : State) (j v) : exec (.domainPowerWrite j v) s = execDomainPowerWrite j v s := rfl
@[simp] theorem exec_domainPowerUp (s : State) (d) : exec (.domainPowerUp d) s = execDomainPowerUp d s := rfl
@[simp] theorem exec_domainRehydrate (s : State) (d answers) : exec (.domainRehydrate d answers) s = execDomainRehydrate d answers s := rfl
@[simp] theorem exec_rehydrationComplete (s : State) (d) : exec (.rehydrationComplete d) s = execRehydrationComplete d s := rfl
@[simp] theorem exec_provisionFuse (s : State) (ok) : exec (.provisionFuse ok) s = execProvisionFuse ok s := rfl
@[simp] theorem exec_shutdownLogCopy (s : State) : exec .shutdownLogCopy s = execShutdownLogCopy s := rfl
@[simp] theorem exec_frameErase (s : State) : exec .frameErase s = execFrameErase s := rfl
@[simp] theorem exec_nvdataRead (s : State) : exec .nvdataRead s = execNvdataRead s := rfl
@[simp] theorem exec_attest (s : State) (v) : exec (.attest v) s = execAttest v s := rfl
@[simp] theorem exec_attestDone (s : State) : exec .attestDone s = execAttestDone s := rfl
@[simp] theorem exec_stagingWrite (s : State) (v) : exec (.stagingWrite v) s = execStagingWrite v s := rfl
@[simp] theorem exec_microcodeCommit (s : State) (v) : exec (.microcodeCommit v) s = execMicrocodeCommit v s := rfl
@[simp] theorem exec_microcodeCommitDone (s : State) : exec .microcodeCommitDone s = execMicrocodeCommitDone s := rfl
@[simp] theorem exec_uNop (s : State) (oc) : exec (.uNop oc) s = execUNop oc s := rfl
@[simp] theorem exec_uLdi (s : State) (oc) : exec (.uLdi oc) s = execULdi oc s := rfl
@[simp] theorem exec_uAdd (s : State) (oc) : exec (.uAdd oc) s = execUAdd oc s := rfl
@[simp] theorem exec_uSub (s : State) (oc) : exec (.uSub oc) s = execUSub oc s := rfl
@[simp] theorem exec_uAnd (s : State) (oc) : exec (.uAnd oc) s = execUAnd oc s := rfl
@[simp] theorem exec_uOr (s : State) (oc) : exec (.uOr oc) s = execUOr oc s := rfl
@[simp] theorem exec_uXor (s : State) (oc) : exec (.uXor oc) s = execUXor oc s := rfl
@[simp] theorem exec_uShl (s : State) (oc) : exec (.uShl oc) s = execUShl oc s := rfl
@[simp] theorem exec_uShr (s : State) (oc) : exec (.uShr oc) s = execUShr oc s := rfl
@[simp] theorem exec_uAddi (s : State) (oc) : exec (.uAddi oc) s = execUAddi oc s := rfl
@[simp] theorem exec_uMul (s : State) (oc) : exec (.uMul oc) s = execUMul oc s := rfl
@[simp] theorem exec_uGet (s : State) (oc) : exec (.uGet oc) s = execUGet oc s := rfl
@[simp] theorem exec_uPut (s : State) (oc) : exec (.uPut oc) s = execUPut oc s := rfl
@[simp] theorem exec_uIssuePlay (s : State) (oc) : exec (.uIssuePlay oc) s = execUIssuePlay oc s := rfl
@[simp] theorem exec_uIssueSetf (s : State) (oc) : exec (.uIssueSetf oc) s = execUIssueSetf oc s := rfl
@[simp] theorem exec_uSkipz (s : State) (oc) : exec (.uSkipz oc) s = execUSkipz oc s := rfl
@[simp] theorem exec_uSkipnz (s : State) (oc) : exec (.uSkipnz oc) s = execUSkipnz oc s := rfl
@[simp] theorem exec_uSkiplt (s : State) (oc) : exec (.uSkiplt oc) s = execUSkiplt oc s := rfl
@[simp] theorem exec_uRet (s : State) (oc) : exec (.uRet oc) s = execURet oc s := rfl
@[simp] theorem exec_microwordRepair (s : State) (q addr rewrite) : exec (.microwordRepair q addr rewrite) s = execMicrowordRepair q addr rewrite s := rfl
@[simp] theorem exec_sensorSample (s : State) (counts powers) : exec (.sensorSample counts powers) s = execSensorSample counts powers s := rfl
@[simp] theorem exec_throttleLevelDown (s : State) : exec .throttleLevelDown s = execThrottleLevelDown s := rfl
@[simp] theorem exec_shutdownRecord (s : State) : exec .shutdownRecord s = execShutdownRecord s := rfl
@[simp] theorem exec_shutdownPowerDown (s : State) : exec .shutdownPowerDown s = execShutdownPowerDown s := rfl
@[simp] theorem exec_autorestart (s : State) : exec .autorestart s = execAutorestart s := rfl
@[simp] theorem exec_noslotCheck (s : State) : exec .noslotCheck s = execNoslotCheck s := rfl
@[simp] theorem exec_thmLimWrite (s : State) (v) : exec (.thmLimWrite v) s = execThmLimWrite v s := rfl
@[simp] theorem exec_ledgerStep (s : State) : exec .ledgerStep s = execLedgerStep s := rfl
@[simp] theorem exec_tauWrite (s : State) (st v) : exec (.tauWrite st v) s = execTauWrite st v s := rfl
@[simp] theorem exec_calRun (s : State) (v) : exec (.calRun v) s = execCalRun v s := rfl
@[simp] theorem exec_calibrationComplete (s : State) (g plausible) : exec (.calibrationComplete g plausible) s = execCalibrationComplete g plausible s := rfl
@[simp] theorem exec_calStepDeadline (s : State) (g calStep) : exec (.calStepDeadline g calStep) s = execCalStepDeadline g calStep s := rfl
@[simp] theorem exec_calRecompute (s : State) (g) : exec (.calRecompute g) s = execCalRecompute g s := rfl
@[simp] theorem exec_calStore (s : State) (v) : exec (.calStore v) s = execCalStore v s := rfl
@[simp] theorem exec_calSetCommitted (s : State) : exec .calSetCommitted s = execCalSetCommitted s := rfl
@[simp] theorem exec_subconverterExchange (s : State) (ic) : exec (.subconverterExchange ic) s = execSubconverterExchange ic s := rfl
@[simp] theorem exec_capacitorExchange (s : State) (src) : exec (.capacitorExchange src) s = execCapacitorExchange src s := rfl
@[simp] theorem exec_gapWindowStart (s : State) (k) : exec (.gapWindowStart k) s = execGapWindowStart k s := rfl
@[simp] theorem exec_selftestSlice (s : State) (row) : exec (.selftestSlice row) s = execSelftestSlice row s := rfl
@[simp] theorem exec_sliceComplete (s : State) (row fault) : exec (.sliceComplete row fault) s = execSliceComplete row fault s := rfl
@[simp] theorem exec_sliceAbandon (s : State) (row) : exec (.sliceAbandon row) s = execSliceAbandon row s := rfl
@[simp] theorem exec_gapViolation (s : State) (d) : exec (.gapViolation d) s = execGapViolation d s := rfl
@[simp] theorem exec_pllFailover (s : State) (q) : exec (.pllFailover q) s = execPllFailover q s := rfl
@[simp] theorem exec_repairFuse (s : State) (v) : exec (.repairFuse v) s = execRepairFuse v s := rfl
@[simp] theorem exec_bstSigLoRead (s : State) (auth) : exec (.bstSigLoRead auth) s = execBstSigLoRead auth s := rfl
@[simp] theorem exec_modeRequest (s : State) (v) : exec (.modeRequest v) s = execModeRequest v s := rfl
@[simp] theorem exec_modeLeaveRunning (s : State) : exec .modeLeaveRunning s = execModeLeaveRunning s := rfl
@[simp] theorem exec_modeEntryComplete (s : State) : exec .modeEntryComplete s = execModeEntryComplete s := rfl
@[simp] theorem exec_safeEntry (s : State) (cause) : exec (.safeEntry cause) s = execSafeEntry cause s := rfl
@[simp] theorem exec_safeAck (s : State) (v) : exec (.safeAck v) s = execSafeAck v s := rfl
@[simp] theorem exec_wake (s : State) (cause) : exec (.wake cause) s = execWake cause s := rfl
@[simp] theorem exec_noteWrite (s : State) (v) : exec (.noteWrite v) s = execNoteWrite v s := rfl
@[simp] theorem exec_freezeStart (s : State) (cause) : exec (.freezeStart cause) s = execFreezeStart cause s := rfl
@[simp] theorem exec_freezeComplete (s : State) : exec .freezeComplete s = execFreezeComplete s := rfl
@[simp] theorem exec_lockstepMismatch (s : State) : exec .lockstepMismatch s = execLockstepMismatch s := rfl
@[simp] theorem exec_controllerRestartDone (s : State) (ok) : exec (.controllerRestartDone ok) s = execControllerRestartDone ok s := rfl
@[simp] theorem exec_smbPage (s : State) (acc) : exec (.smbPage acc) s = execSmbPage acc s := rfl
@[simp] theorem exec_smbReadVin (s : State) : exec .smbReadVin s = execSmbReadVin s := rfl
@[simp] theorem exec_smbReadIin (s : State) : exec .smbReadIin s = execSmbReadIin s := rfl
@[simp] theorem exec_smbReadPin (s : State) : exec .smbReadPin s = execSmbReadPin s := rfl
@[simp] theorem exec_smbReadTemperature1 (s : State) : exec .smbReadTemperature1 s = execSmbReadTemperature1 s := rfl
@[simp] theorem exec_smbReadTemperature2 (s : State) : exec .smbReadTemperature2 s = execSmbReadTemperature2 s := rfl
@[simp] theorem exec_smbMfrMode (s : State) : exec .smbMfrMode s = execSmbMfrMode s := rfl
@[simp] theorem exec_smbMfrWake (s : State) (data) : exec (.smbMfrWake data) s = execSmbMfrWake data s := rfl
@[simp] theorem exec_smbUnknownCommand (s : State) (code acc) : exec (.smbUnknownCommand code acc) s = execSmbUnknownCommand code acc s := rfl
@[simp] theorem exec_smbTimeout (s : State) (lowMs) : exec (.smbTimeout lowMs) s = execSmbTimeout lowMs s := rfl
@[simp] theorem exec_smbRefresh (s : State) (rails) : exec (.smbRefresh rails) s = execSmbRefresh rails s := rfl
@[simp] theorem exec_tapExtest (s : State) : exec .tapExtest s = execTapExtest s := rfl
@[simp] theorem exec_tapIdcode (s : State) : exec .tapIdcode s = execTapIdcode s := rfl
@[simp] theorem exec_tapSamplePreload (s : State) : exec .tapSamplePreload s = execTapSamplePreload s := rfl
@[simp] theorem exec_tapClamp (s : State) : exec .tapClamp s = execTapClamp s := rfl
@[simp] theorem exec_tapHighz (s : State) : exec .tapHighz s = execTapHighz s := rfl
@[simp] theorem exec_tapExtestPulse (s : State) : exec .tapExtestPulse s = execTapExtestPulse s := rfl
@[simp] theorem exec_tapExtestTrain (s : State) : exec .tapExtestTrain s = execTapExtestTrain s := rfl
@[simp] theorem exec_tapIntscan (s : State) : exec .tapIntscan s = execTapIntscan s := rfl
@[simp] theorem exec_tapBypass (s : State) (code) : exec (.tapBypass code) s = execTapBypass code s := rfl
@[simp] theorem exec_slot (s : State) (p rx) : exec (.slot p rx) s = execSlot p s rx := rfl
@[simp] theorem exec_pllRelock (s : State) (q) : exec (.pllRelock q) s = execPllRelock q s := rfl
@[simp] theorem exec_vauxLoss (s : State) : exec .vauxLoss s = execVauxLoss s := rfl
@[simp] theorem exec_uregLoRead (s : State) (oc k) : exec (.uregLoRead oc k) s = execUregLoRead oc k s := rfl
@[simp] theorem exec_stagingRead (s : State) : exec .stagingRead s = execStagingRead s := rfl
@[simp] theorem exec_patternCheckerSync (s : State) (p lane) : exec (.patternCheckerSync p lane) s = execPatternCheckerSync p lane s := rfl
@[simp] theorem exec_hostPortLinkChange (s : State) (up speed width cfg) : exec (.hostPortLinkChange up speed width cfg) s = execHostPortLinkChange up speed width s cfg := rfl

end Sys2Proof.Machine
end

