-- ==== Sys2Proof/Laws/Tbl.lean ====
section
/-! SUPPORT. Sparse tables: a read after a write, and the canonical form under every operation on a table. -/
namespace Sys2Proof.Machine

variable {α : Type}

theorem tget_tput_same (d : α) (t : Tbl α) (k : Nat) (v : α) : tget d (tput t k v) k = v := by
  induction t with
  | nil => simp [tput, tget]
  | cons e t ih =>
    obtain ⟨a, b⟩ := e
    by_cases h1 : k < a
    · simp [tput, h1, tget]
    · by_cases h2 : k = a
      · simp [tput, h2, tget]
      · simp [tput, h1, h2, tget, Ne.symm h2, ih]

theorem tget_tput_ne (d : α) (t : Tbl α) {k j : Nat} (v : α) (h : j ≠ k) : tget d (tput t k v) j = tget d t j := by
  induction t with
  | nil => simp [tput, tget, Ne.symm h]
  | cons e t ih =>
    obtain ⟨a, b⟩ := e
    by_cases h1 : k < a
    · simp [tput, h1, tget, Ne.symm h]
    · by_cases h2 : k = a
      · subst h2
        simp [tput, tget, Ne.symm h]
      · simp only [tput, if_neg h1, if_neg h2, tget]
        split <;> simp_all

theorem tget_filter_ne (d : α) (t : Tbl α) (p : Nat × α → Bool) {j : Nat} (h : ∀ v, p (j, v) = true) :
    tget d (t.filter p) j = tget d t j := by
  induction t with
  | nil => rfl
  | cons e t ih =>
    obtain ⟨a, b⟩ := e
    by_cases h3 : a = j
    · subst h3
      simp [List.filter, h, tget]
    · cases hp : p (a, b) <;> simp [List.filter, hp, tget, h3, ih]

theorem tget_filter_out (d : α) (t : Tbl α) (p : Nat × α → Bool) {j : Nat} (h : ∀ v, p (j, v) = false) :
    tget d (t.filter p) j = d := by
  induction t with
  | nil => rfl
  | cons e t ih =>
    obtain ⟨a, b⟩ := e
    by_cases h3 : a = j
    · subst h3
      simp [List.filter, h, ih]
    · cases hp : p (a, b) <;> simp [List.filter, hp, tget, h3, ih]

theorem tget_tdel_same (d : α) (t : Tbl α) (k : Nat) : tget d (tdel t k) k = d :=
  tget_filter_out d t _ (by simp)

theorem tget_tdel_ne (d : α) (t : Tbl α) {k j : Nat} (h : j ≠ k) : tget d (tdel t k) j = tget d t j :=
  tget_filter_ne d t _ (by simp [h])

/-- A read after a write of the same place gives the value written. -/
@[simp] theorem tget_tset_same [DecidableEq α] (d : α) (t : Tbl α) (k : Nat) (v : α) : tget d (tset d t k v) k = v := by
  unfold tset
  split
  · next h => rw [tget_tdel_same, h]
  · exact tget_tput_same d t k v

/-- A write leaves every other place alone. -/
theorem tget_tset_ne [DecidableEq α] (d d' : α) (t : Tbl α) {k j : Nat} (v : α) (h : j ≠ k) :
    tget d' (tset d t k v) j = tget d' t j := by
  unfold tset
  split
  · exact tget_tdel_ne d' t h
  · exact tget_tput_ne d' t v h

/-! ### The canonical form -/

theorem trising_weaken {lo lo' : Option Nat} {t : Tbl α} (h : trising lo t = true)
    (hl : ∀ l', lo' = some l' → ∃ l, lo = some l ∧ l' ≤ l) : trising lo' t = true := by
  cases t with
  | nil => rfl
  | cons e t =>
    obtain ⟨a, b⟩ := e
    simp only [trising, Bool.and_eq_true] at h ⊢
    refine ⟨?_, h.2⟩
    cases lo' with
    | none => rfl
    | some l' =>
      obtain ⟨l, rfl, hle⟩ := hl l' rfl
      have := h.1
      simp only [decide_eq_true_eq] at this ⊢
      omega

theorem trising_none {lo : Option Nat} {t : Tbl α} (h : trising lo t = true) : trising none t = true :=
  trising_weaken h (by simp)

theorem trising_filter {lo : Option Nat} {t : Tbl α} (p : Nat × α → Bool) (h : trising lo t = true) :
    trising lo (t.filter p) = true := by
  induction t generalizing lo with
  | nil => rfl
  | cons e t ih =>
    obtain ⟨a, b⟩ := e
    simp only [trising, Bool.and_eq_true] at h
    cases hp : p (a, b) with
    | true =>
      simp only [List.filter, hp, trising, Bool.and_eq_true]
      exact ⟨h.1, ih h.2⟩
    | false =>
      simp only [List.filter, hp]
      refine trising_weaken (ih h.2) ?_
      intro l' hl'
      subst hl'
      have := h.1
      simp only [decide_eq_true_eq] at this
      exact ⟨a, rfl, by omega⟩

theorem trising_tput {lo : Option Nat} {t : Tbl α} (k : Nat) (v : α) (h : trising lo t = true)
    (hk : ∀ l, lo = some l → l < k) : trising lo (tput t k v) = true := by
  induction t generalizing lo with
  | nil =>
    cases lo with
    | none => rfl
    | some l => simpa [tput, trising] using hk l rfl
  | cons e t ih =>
    obtain ⟨a, b⟩ := e
    simp only [trising, Bool.and_eq_true] at h
    by_cases h1 : k < a
    · simp only [tput, h1, if_true, trising, Bool.and_eq_true, decide_eq_true_eq]
      refine ⟨?_, trivial, h.2⟩
      cases lo with
      | none => rfl
      | some l => simpa using hk l rfl
    · by_cases h2 : k = a
      · subst h2
        simp only [tput, Nat.lt_irrefl, if_false, if_true, trising, Bool.and_eq_true]
        exact h
      · simp only [tput, h1, h2, if_false, trising, Bool.and_eq_true]
        refine ⟨h.1, ih h.2 ?_⟩
        intro l hl
        cases hl
        omega

theorem mem_tput {t : Tbl α} {k : Nat} {v : α} {e : Nat × α} (h : e ∈ tput t k v) : e = (k, v) ∨ e ∈ t := by
  induction t with
  | nil => exact Or.inl (by simpa [tput] using h)
  | cons x t ih =>
    obtain ⟨a, b⟩ := x
    by_cases h1 : k < a
    · simpa [tput, h1] using h
    · by_cases h2 : k = a
      · subst h2
        simp only [tput, Nat.lt_irrefl, if_false, if_true, List.mem_cons] at h ⊢
        rcases h with h | h
        · exact Or.inl h
        · exact Or.inr (Or.inr h)
      · simp only [tput, h1, h2, if_false, List.mem_cons] at h ⊢
        rcases h with h | h
        · exact Or.inr (Or.inl h)
        · rcases ih h with h | h
          · exact Or.inl h
          · exact Or.inr (Or.inr h)

/-- A write keeps the canonical form. -/
theorem twf_tset [DecidableEq α] (dflt : Nat → α) (t : Tbl α) (k : Nat) (v : α) (h : twf dflt t = true) :
    twf dflt (tset (dflt k) t k v) = true := by
  simp only [twf, Bool.and_eq_true, List.all_eq_true, decide_eq_true_eq] at h ⊢
  unfold tset
  split
  · refine ⟨trising_filter _ h.1, fun e he => h.2 e (List.mem_filter.1 he).1⟩
  · next hv =>
    refine ⟨trising_tput k v h.1 (by simp), fun e he => ?_⟩
    rcases mem_tput he with rfl | he
    · exact hv
    · exact h.2 e he

/-- Dropping entries keeps the canonical form. -/
theorem twf_filter [DecidableEq α] (dflt : Nat → α) (t : Tbl α) (p : Nat × α → Bool) (h : twf dflt t = true) :
    twf dflt (t.filter p) = true := by
  simp only [twf, Bool.and_eq_true, List.all_eq_true, decide_eq_true_eq] at h ⊢
  exact ⟨trising_filter _ h.1, fun e he => h.2 e (List.mem_filter.1 he).1⟩

end Sys2Proof.Machine
end

