-- ==== Sys2Proof/Laws/Fields.lean ====
section
/-! SUPPORT. Register fields: what a field reads as after a field is replaced, and that a replacement leaves every other register
and every other field alone. -/
namespace Sys2Proof.Machine

/-- Bits of a field's mask. -/
theorem Fld.mask_bit (f : Fld) (i : Nat) (hi : i < 32) :
    f.mask.getLsbD i = (decide (f.lo ≤ i) && decide (i < f.hi + 1)) := by
  unfold Fld.mask
  rw [BitVec.getLsbD_ofNat, decide_eq_true hi, Bool.true_and, Nat.testBit_mul_two_pow, Nat.testBit_two_pow_sub_one]
  by_cases h : f.lo ≤ i
  · simp only [h, decide_true, Bool.true_and]
    congr 1
    exact propext ⟨by omega, by omega⟩
  · simp [h]

/-- Bits of a field's value. -/
theorem Fld.of_bit (f : Fld) (w : W32) (i : Nat) :
    (f.of w).testBit i = (decide (i < f.hi + 1 - f.lo) && w.getLsbD (f.lo + i)) := by
  unfold Fld.of
  rw [Nat.testBit_mod_two_pow, Nat.testBit_div_two_pow, BitVec.testBit_toNat, Nat.add_comm i]

/-- Bits of a word with a field replaced. -/
theorem Fld.put_bit (f : Fld) (w : W32) (v i : Nat) (hi : i < 32) :
    (f.put w v).getLsbD i = if f.lo ≤ i ∧ i < f.hi + 1 then v.testBit (i - f.lo) else w.getLsbD i := by
  unfold Fld.put
  rw [BitVec.getLsbD_or, BitVec.getLsbD_and, BitVec.getLsbD_not, BitVec.getLsbD_and, Fld.mask_bit f i hi, BitVec.getLsbD_ofNat,
    decide_eq_true hi, Nat.testBit_mul_two_pow]
  by_cases h1 : f.lo ≤ i <;> by_cases h2 : i < f.hi + 1 <;> simp [h1, h2]

/-- A replaced field reads as the value, cut to the field. -/
theorem Fld.of_put (f : Fld) (w : W32) (v : Nat) (h : f.hi < 32) : f.of (f.put w v) = v % 2 ^ (f.hi + 1 - f.lo) := by
  apply Nat.eq_of_testBit_eq
  intro i
  rw [Fld.of_bit, Nat.testBit_mod_two_pow]
  by_cases hi : i < f.hi + 1 - f.lo
  · rw [Fld.put_bit f w v _ (by omega), if_pos (by omega), Nat.add_sub_cancel_left]
  · simp [hi]

/-- A field that shares no bit with the replaced one keeps its value. -/
theorem Fld.of_put_ne (f g : Fld) (w : W32) (v : Nat) (hg : g.hi < 32) (h : f.hi < g.lo ∨ g.hi < f.lo) :
    g.of (f.put w v) = g.of w := by
  apply Nat.eq_of_testBit_eq
  intro i
  rw [Fld.of_bit, Fld.of_bit]
  by_cases hi : i < g.hi + 1 - g.lo
  · rw [Fld.put_bit f w v _ (by omega), if_neg (by omega)]
  · simp [hi]

/-- The value of a field fits it. -/
theorem Fld.of_lt (f : Fld) (w : W32) : f.of w < 2 ^ (f.hi + 1 - f.lo) := Nat.mod_lt _ (Nat.pow_pos (by decide))

/-! ### Registers of the device -/

@[simp] theorem Dev.reg_setReg_same (d : Dev) (off : Nat) (v : W32) : (d.setReg off v).reg off = v := tget_tset_same _ _ _ _

theorem Dev.reg_setReg_ne (d : Dev) {off o : Nat} (v : W32) (h : o ≠ off) : (d.setReg off v).reg o = d.reg o :=
  tget_tset_ne _ _ _ _ h

theorem Dev.reg_fset_ne (d : Dev) (f : Fld) (v : Nat) {o : Nat} (h : o ≠ f.off) : (d.fset f v).reg o = d.reg o :=
  Dev.reg_setReg_ne d _ h

/-- A field written reads as its value. -/
theorem Dev.fget_fset (d : Dev) (f : Fld) (v : Nat) (h : f.hi < 32) : (d.fset f v).fget f = v % 2 ^ (f.hi + 1 - f.lo) := by
  simp only [Dev.fget, Dev.fset, Dev.reg_setReg_same]
  exact f.of_put _ v h

/-- A field of another register keeps its value. -/
theorem Dev.fget_fset_off (d : Dev) (f g : Fld) (v : Nat) (h : g.off ≠ f.off) : (d.fset f v).fget g = d.fget g := by
  simp only [Dev.fget, Dev.reg_fset_ne d f v h]

/-- Another field of the same register keeps its value. -/
theorem Dev.fget_fset_bits (d : Dev) (f g : Fld) (v : Nat) (ho : g.off = f.off) (hg : g.hi < 32) (h : f.hi < g.lo ∨ g.hi < f.lo) :
    (d.fset f v).fget g = d.fget g := by
  simp only [Dev.fget, Dev.fset, ho, Dev.reg_setReg_same]
  exact f.of_put_ne g _ v hg h

/-- A field written with what it held already. -/
theorem Dev.fget_setReg_ne (d : Dev) (f : Fld) (off : Nat) (v : W32) (h : f.off ≠ off) : (d.setReg off v).fget f = d.fget f := by
  simp only [Dev.fget, Dev.reg_setReg_ne d v h]

/-- Registers stay in canonical form. -/
theorem Dev.setReg_wf (d : Dev) (off : Nat) (v : W32) (h : Registers.wf d.regs = true) : Registers.wf (d.setReg off v).regs = true :=
  twf_tset regReset d.regs off v h

end Sys2Proof.Machine
end

