-- ==== Sys2Proof/Laws/Events.lean ====
section
/-! SUPPORT. Raising an event touches the event network alone (R363 to R375). -/
namespace Sys2Proof.Machine

open Sys2Proof.Safety

theorem eventsOnly_refl (d : Dev) : eventsOnly d d := ⟨rfl, fun _ _ => rfl⟩

theorem eventsOnly_trans {a b c : Dev} (h : eventsOnly a b) (k : eventsOnly b c) : eventsOnly a c :=
  ⟨k.1.trans h.1, fun off ho => (k.2 off ho).trans (h.2 off ho)⟩

/-- A register of the rill network is written. -/
theorem eventsOnly_setReg (d : Dev) (off : Nat) (v : W32) (h : inRill off) : eventsOnly d (d.setReg off v) :=
  ⟨rfl, fun _ ho => Dev.reg_setReg_ne d v (fun e => ho (e ▸ h))⟩

theorem eventsOnly_fset (d : Dev) (f : Fld) (v : Nat) (h : inRill f.off) : eventsOnly d (d.fset f v) := eventsOnly_setReg d _ _ h

theorem eventsOnly_flag (d : Dev) (f : Fld) (h : inRill f.off) : eventsOnly d (d.flag f) :=
  ⟨rfl, (eventsOnly_fset d f f.max h).2⟩

theorem eventsOnly_taskAdd (d : Dev) (i : Nat) : eventsOnly d (d.taskAdd i) := ⟨rfl, fun _ _ => rfl⟩

theorem eventsOnly_bbxAdd (d : Dev) (k : BbxKind) (s a : Nat) : eventsOnly d (d.bbxAdd k s a) := ⟨rfl, fun _ _ => rfl⟩

theorem eventsOnly_foldl {β : Type} (f : Dev → β → Dev) (hf : ∀ d x, eventsOnly d (f d x)) (l : List β) (d : Dev) :
    eventsOnly d (l.foldl f d) := by
  induction l generalizing d with
  | nil => exact eventsOnly_refl d
  | cons x l ih => exact eventsOnly_trans (hf d x) (ih _)

/-- The value of a field is below its bound. -/
theorem Dev.fget_lt (d : Dev) (f : Fld) : d.fget f < 2 ^ (f.hi + 1 - f.lo) := f.of_lt _

theorem inRill_err : inRill RIL_ERR.LOOP_GUARD.off := by
  simp only [inRill, RIL_ERR.off]
  omega

theorem inRill_guard : inRill RIL_GUARD.VALID.off := by
  simp only [inRill, RIL_GUARD.off]
  omega

theorem inRill_rl {r : Nat} (h : r < 256) : inRill (RIL_RL.off r) := by
  simp only [inRill, RIL_RL.off]
  omega

theorem inRill_src {s : Nat} (h : s < 1024) : inRill (RIL_SRC.off s) := by
  simp only [inRill, RIL_SRC.off]
  omega

theorem eventsOnly_rillEvent (d : Dev) (r : Nat) (h : r < 256) : eventsOnly d (d.rillEvent r) := by
  unfold Dev.rillEvent
  have h1 : eventsOnly d (d.flag (RIL_RL.HIT r)) := eventsOnly_flag d _ (inRill_rl h)
  refine eventsOnly_trans ?_ (eventsOnly_foldl _ eventsOnly_taskAdd _ _)
  split
  · exact ⟨h1.1, h1.2⟩
  · exact h1

theorem eventsOnly_raiseUnguarded (d : Dev) (s : Nat) : eventsOnly d (d.raiseUnguarded s) := by
  unfold Dev.raiseUnguarded
  have h0 : eventsOnly d { d with raised := insNat s d.raised } := ⟨rfl, fun _ _ => rfl⟩
  extract_lets d1 d2
  have h2 : eventsOnly d d2 := by
    show eventsOnly d (if _ then _ else _)
    split
    · exact eventsOnly_trans h0 (eventsOnly_bbxAdd _ _ _ _)
    · exact h0
  split
  · exact eventsOnly_trans h2 (eventsOnly_rillEvent _ _ (Dev.fget_lt _ _))
  · exact h2

theorem eventsOnly_raiseRilErr (d : Dev) : eventsOnly d d.raiseRilErr := by
  unfold Dev.raiseRilErr
  split
  · exact eventsOnly_raiseUnguarded d _
  · exact eventsOnly_refl d

theorem srcReserved_lt {s : Nat} (h : srcReserved s = false) : s < 1024 := by
  simp only [srcReserved, Bool.or_eq_false_iff, decide_eq_false_iff_not] at h
  omega

theorem eventsOnly_guardNote (d : Dev) (s : Nat) : eventsOnly d (d.guardNote s) := by
  unfold Dev.guardNote
  have h := eventsOnly_flag d RIL_ERR.LOOP_GUARD inRill_err
  dsimp only
  split
  · exact h
  · exact eventsOnly_trans h (eventsOnly_trans (eventsOnly_flag _ _ inRill_guard) (eventsOnly_fset _ _ _ inRill_guard))

theorem eventsOnly_guardTrip (d : Dev) {s : Nat} (hs : s < 1024) : eventsOnly d (d.guardTrip s) := by
  unfold Dev.guardTrip
  dsimp only
  refine eventsOnly_trans ?_ (eventsOnly_raiseRilErr _)
  refine eventsOnly_trans ?_ (eventsOnly_guardNote _ s)
  refine eventsOnly_trans ?_ (eventsOnly_fset _ _ _ (inRill_src hs))
  refine eventsOnly_trans ?_ (eventsOnly_fset _ _ _ (inRill_src hs))
  have h : eventsOnly d { d with raised := insNat s d.raised } := ⟨rfl, fun _ _ => rfl⟩
  split
  · exact eventsOnly_trans h (eventsOnly_bbxAdd _ _ _ _)
  · exact h

/-- Everything a raise can do: nothing, or a change of the event network alone. -/
theorem eventsOnly_raise (d : Dev) (s : Nat) : eventsOnly d (d.raise s) := by
  unfold Dev.raise
  split
  · exact eventsOnly_refl d
  · next hc =>
    have hs : s < 1024 := by
      apply srcReserved_lt
      simp only [Bool.not_eq_true', Bool.not_eq_false, Dev.canRaise, Bool.and_eq_true] at hc
      simpa using hc.1.1
    split
    · exact eventsOnly_raiseUnguarded d _
    · have h1 : eventsOnly d (d.guardCount s) := ⟨rfl, fun _ _ => rfl⟩
      dsimp only
      split
      · exact eventsOnly_trans h1 (eventsOnly_guardTrip _ hs)
      · exact eventsOnly_trans h1 (eventsOnly_raiseUnguarded _ _)

/-- Any part of the device outside the event network is as before. -/
theorem eventsOnly_part {β : Type} (g : Dev → β) (hg : ∀ d, g (noEvents d) = g d) {d e : Dev} (h : eventsOnly d e) : g e = g d := by
  rw [← hg e, h.1, hg d]

/-- A field of a register outside the rill network. -/
theorem eventsOnly_fget {d e : Dev} (h : eventsOnly d e) (f : Fld) (hf : ¬ inRill f.off) : e.fget f = d.fget f := by
  simp only [Dev.fget, h.2 _ hf]

end Sys2Proof.Machine
end

