-- ==== Sys2Proof/Laws/Memory.lean ====
section
/-! SUPPORT. The byte space: a read after a write, what a write leaves alone, and that every memory operation keeps the canonical
form. -/
namespace Sys2Proof.Machine

@[simp] theorem Dev.rd8_wr8_same (d : Dev) (a : Nat) (b : Byte) : (d.wr8 a b).rd8 a = b := tget_tset_same _ _ _ _

theorem Dev.rd8_wr8_ne (d : Dev) {a x : Nat} (b : Byte) (h : x ≠ a) : (d.wr8 a b).rd8 x = d.rd8 x := tget_tset_ne _ _ _ _ h

/-- A byte outside the written ones. -/
theorem Dev.rd8_wrBytes_out (d : Dev) (a x : Nat) (bs : List Byte) (h : x < a ∨ a + bs.length ≤ x) :
    (d.wrBytes a bs).rd8 x = d.rd8 x := by
  induction bs generalizing d a with
  | nil => rfl
  | cons b bs ih =>
    simp only [List.length_cons] at h
    rw [Dev.wrBytes, ih _ _ (by omega), Dev.rd8_wr8_ne _ _ (by omega)]

/-- A written byte. -/
theorem Dev.rd8_wrBytes_in (d : Dev) (a i : Nat) (bs : List Byte) (h : i < bs.length) :
    (d.wrBytes a bs).rd8 (a + i) = bs[i] := by
  induction bs generalizing d a i with
  | nil => simp at h
  | cons b bs ih =>
    rw [Dev.wrBytes]
    cases i with
    | zero => rw [Nat.add_zero, Dev.rd8_wrBytes_out _ _ _ _ (by omega)]; simp
    | succ i =>
      have := ih (d.wr8 a b) (a + 1) i (by simpa using h)
      simpa [Nat.add_assoc, Nat.add_comm 1 i] using this

/-- A range of written bytes reads back. -/
theorem Dev.rdBytes_wrBytes (d : Dev) (a : Nat) (bs : List Byte) : (d.wrBytes a bs).rdBytes a bs.length = bs := by
  induction bs generalizing d a with
  | nil => rfl
  | cons b bs ih =>
    simp only [List.length_cons, Dev.rdBytes, Dev.wrBytes]
    rw [ih, Dev.rd8_wrBytes_out _ _ _ _ (by omega), Dev.rd8_wr8_same]

/-- The first byte of a range, and the rest. -/
theorem Dev.rdBytes_congr (d e : Dev) (a n : Nat) (h : ∀ x, a ≤ x → x < a + n → d.rd8 x = e.rd8 x) : d.rdBytes a n = e.rdBytes a n := by
  induction n generalizing a with
  | zero => rfl
  | succ n ih =>
    simp only [Dev.rdBytes]
    rw [h a (by omega) (by omega), ih (a + 1) (fun x h1 h2 => h x (by omega) (by omega))]

theorem leBytes_length (n v : Nat) : (leBytes n v).length = n := by
  induction n generalizing v with
  | zero => rfl
  | succ n ih => simp [leBytes, ih]

theorem leNat_leBytes (n v : Nat) : leNat (leBytes n v) = v % 256 ^ n := by
  induction n generalizing v with
  | zero => simp [leBytes, leNat, Nat.mod_one]
  | succ n ih =>
    have h : (256 : Nat) ^ (n + 1) = 256 * 256 ^ n := Nat.pow_succ'
    rw [h, Nat.mod_mul]
    simp [leBytes, leNat, ih]

/-- A little-endian number reads back. -/
theorem Dev.rdLe_wrLe (d : Dev) (a n v : Nat) : (d.wrLe a n v).rdLe a n = v % 256 ^ n := by
  have := Dev.rdBytes_wrBytes d a (leBytes n v)
  rw [leBytes_length] at this
  rw [Dev.rdLe, Dev.wrLe, this, leNat_leBytes]

/-! ### The canonical form -/

theorem Dev.wr8_wf (d : Dev) (a : Nat) (b : Byte) (h : Memory.wf d.mem = true) : Memory.wf (d.wr8 a b).mem = true :=
  twf_tset memDefault d.mem a b h

theorem Dev.wrBytes_wf (d : Dev) (a : Nat) (bs : List Byte) (h : Memory.wf d.mem = true) : Memory.wf (d.wrBytes a bs).mem = true := by
  induction bs generalizing d a with
  | nil => exact h
  | cons b bs ih => exact ih _ _ (d.wr8_wf a b h)

theorem Dev.wrLe_wf (d : Dev) (a n v : Nat) (h : Memory.wf d.mem = true) : Memory.wf (d.wrLe a n v).mem = true :=
  d.wrBytes_wf a _ h

/-- A reset that keeps some of the memories, or a cleared range. -/
theorem Memory.filter_wf (m : List Host.Cell) (p : Host.Cell → Bool) (h : Memory.wf m = true) : Memory.wf (m.filter p) = true :=
  twf_filter memDefault m p h

theorem Dev.clearMem_wf (d : Dev) (a n : Nat) (h : Memory.wf d.mem = true) : Memory.wf (d.clearMem a n).mem = true :=
  Memory.filter_wf d.mem _ h

/-- A cleared byte reads as an unwritten one. -/
theorem Dev.rd8_clearMem_in (d : Dev) (a n x : Nat) (h : a ≤ x ∧ x < a + n) : (d.clearMem a n).rd8 x = memDefault x :=
  tget_filter_out _ _ _ (fun v => by simp [h.1, h.2])

theorem Dev.rd8_clearMem_out (d : Dev) (a n x : Nat) (h : x < a ∨ a + n ≤ x) : (d.clearMem a n).rd8 x = d.rd8 x :=
  tget_filter_ne _ _ _ (fun v => by
    rcases h with h | h
    · simp [Nat.not_le.2 h]
    · simp [Nat.not_lt.2 h])

end Sys2Proof.Machine
end

