-- ==== Sys2Proof/Laws/State.lean ====
section
/-! SUPPORT. What each elementary update of the device leaves alone, one lemma per field. -/
namespace Sys2Proof.Machine


@[simp] theorem State.withDev_clk (s : State) (f : Dev → Dev) : (s.withDev f).clk = s.clk := rfl
@[simp] theorem State.withDev_dev (s : State) (f : Dev → Dev) : (s.withDev f).dev = f s.dev := rfl
@[simp] theorem State.withDev_pending (s : State) (f : Dev → Dev) : (s.withDev f).pending = s.pending := rfl


@[simp] theorem Dev.setReg_mem (d : Dev) (off : Nat) (v : W32) : (d.setReg off v).mem = d.mem := rfl
@[simp] theorem Dev.setReg_otp (d : Dev) (off : Nat) (v : W32) : (d.setReg off v).otp = d.otp := rfl
@[simp] theorem Dev.setReg_rdata (d : Dev) (off : Nat) (v : W32) : (d.setReg off v).rdata = d.rdata := rfl
@[simp] theorem Dev.setReg_tk (d : Dev) (off : Nat) (v : W32) : (d.setReg off v).tk = d.tk := rfl
@[simp] theorem Dev.setReg_xtal (d : Dev) (off : Nat) (v : W32) : (d.setReg off v).xtal = d.xtal := rfl
@[simp] theorem Dev.setReg_free (d : Dev) (off : Nat) (v : W32) : (d.setReg off v).free = d.free := rfl
@[simp] theorem Dev.setReg_raised (d : Dev) (off : Nat) (v : W32) : (d.setReg off v).raised = d.raised := rfl
@[simp] theorem Dev.setReg_w1cNow (d : Dev) (off : Nat) (v : W32) : (d.setReg off v).w1cNow = d.w1cNow := rfl
@[simp] theorem Dev.setReg_shot (d : Dev) (off : Nat) (v : W32) : (d.setReg off v).shot = d.shot := rfl
@[simp] theorem Dev.setReg_round (d : Dev) (off : Nat) (v : W32) : (d.setReg off v).round = d.round := rfl
@[simp] theorem Dev.setReg_taint (d : Dev) (off : Nat) (v : W32) : (d.setReg off v).taint = d.taint := rfl
@[simp] theorem Dev.setReg_shotLo (d : Dev) (off : Nat) (v : W32) : (d.setReg off v).shotLo = d.shotLo := rfl
@[simp] theorem Dev.setReg_shotHiShadow (d : Dev) (off : Nat) (v : W32) : (d.setReg off v).shotHiShadow = d.shotHiShadow := rfl
@[simp] theorem Dev.setReg_asapNew (d : Dev) (off : Nat) (v : W32) : (d.setReg off v).asapNew = d.asapNew := rfl
@[simp] theorem Dev.setReg_asapDue (d : Dev) (off : Nat) (v : W32) : (d.setReg off v).asapDue = d.asapDue := rfl
@[simp] theorem Dev.setReg_pgs (d : Dev) (off : Nat) (v : W32) : (d.setReg off v).pgs = d.pgs := rfl
@[simp] theorem Dev.setReg_tmlSh (d : Dev) (off : Nat) (v : W32) : (d.setReg off v).tmlSh = d.tmlSh := rfl
@[simp] theorem Dev.setReg_ocs (d : Dev) (off : Nat) (v : W32) : (d.setReg off v).ocs = d.ocs := rfl
@[simp] theorem Dev.setReg_slots (d : Dev) (off : Nat) (v : W32) : (d.setReg off v).slots = d.slots := rfl
@[simp] theorem Dev.setReg_shotTk (d : Dev) (off : Nat) (v : W32) : (d.setReg off v).shotTk = d.shotTk := rfl
@[simp] theorem Dev.setReg_taintTk (d : Dev) (off : Nat) (v : W32) : (d.setReg off v).taintTk = d.taintTk := rfl
@[simp] theorem Dev.setReg_staged (d : Dev) (off : Nat) (v : W32) : (d.setReg off v).staged = d.staged := rfl
@[simp] theorem Dev.setReg_force (d : Dev) (off : Nat) (v : W32) : (d.setReg off v).force = d.force := rfl
@[simp] theorem Dev.setReg_eras (d : Dev) (off : Nat) (v : W32) : (d.setReg off v).eras = d.eras := rfl
@[simp] theorem Dev.setReg_labels (d : Dev) (off : Nat) (v : W32) : (d.setReg off v).labels = d.labels := rfl
@[simp] theorem Dev.setReg_gsSoon (d : Dev) (off : Nat) (v : W32) : (d.setReg off v).gsSoon = d.gsSoon := rfl
@[simp] theorem Dev.setReg_gsNext (d : Dev) (off : Nat) (v : W32) : (d.setReg off v).gsNext = d.gsNext := rfl
@[simp] theorem Dev.setReg_gsDone (d : Dev) (off : Nat) (v : W32) : (d.setReg off v).gsDone = d.gsDone := rfl
@[simp] theorem Dev.setReg_lateRegs (d : Dev) (off : Nat) (v : W32) : (d.setReg off v).lateRegs = d.lateRegs := rfl
@[simp] theorem Dev.setReg_lateMem (d : Dev) (off : Nat) (v : W32) : (d.setReg off v).lateMem = d.lateMem := rfl
@[simp] theorem Dev.setReg_urt (d : Dev) (off : Nat) (v : W32) : (d.setReg off v).urt = d.urt := rfl
@[simp] theorem Dev.setReg_mcBad (d : Dev) (off : Nat) (v : W32) : (d.setReg off v).mcBad = d.mcBad := rfl
@[simp] theorem Dev.setReg_ucommit (d : Dev) (off : Nat) (v : W32) : (d.setReg off v).ucommit = d.ucommit := rfl
@[simp] theorem Dev.setReg_frameWr (d : Dev) (off : Nat) (v : W32) : (d.setReg off v).frameWr = d.frameWr := rfl
@[simp] theorem Dev.setReg_ics (d : Dev) (off : Nat) (v : W32) : (d.setReg off v).ics = d.ics := rfl
@[simp] theorem Dev.setReg_colWait (d : Dev) (off : Nat) (v : W32) : (d.setReg off v).colWait = d.colWait := rfl
@[simp] theorem Dev.setReg_colTaken (d : Dev) (off : Nat) (v : W32) : (d.setReg off v).colTaken = d.colTaken := rfl
@[simp] theorem Dev.setReg_transit (d : Dev) (off : Nat) (v : W32) : (d.setReg off v).transit = d.transit := rfl
@[simp] theorem Dev.setReg_loWrites (d : Dev) (off : Nat) (v : W32) : (d.setReg off v).loWrites = d.loWrites := rfl
@[simp] theorem Dev.setReg_sieve (d : Dev) (off : Nat) (v : W32) : (d.setReg off v).sieve = d.sieve := rfl
@[simp] theorem Dev.setReg_decq (d : Dev) (off : Nat) (v : W32) : (d.setReg off v).decq = d.decq := rfl
@[simp] theorem Dev.setReg_sieveq (d : Dev) (off : Nat) (v : W32) : (d.setReg off v).sieveq = d.sieveq := rfl
@[simp] theorem Dev.setReg_mkIntake (d : Dev) (off : Nat) (v : W32) : (d.setReg off v).mkIntake = d.mkIntake := rfl
@[simp] theorem Dev.setReg_wit (d : Dev) (off : Nat) (v : W32) : (d.setReg off v).wit = d.wit := rfl
@[simp] theorem Dev.setReg_trigq (d : Dev) (off : Nat) (v : W32) : (d.setReg off v).trigq = d.trigq := rfl
@[simp] theorem Dev.setReg_links (d : Dev) (off : Nat) (v : W32) : (d.setReg off v).links = d.links := rfl
@[simp] theorem Dev.setReg_inbox (d : Dev) (off : Nat) (v : W32) : (d.setReg off v).inbox = d.inbox := rfl
@[simp] theorem Dev.setReg_dmas (d : Dev) (off : Nat) (v : W32) : (d.setReg off v).dmas = d.dmas := rfl
@[simp] theorem Dev.setReg_dmaLast (d : Dev) (off : Nat) (v : W32) : (d.setReg off v).dmaLast = d.dmaLast := rfl
@[simp] theorem Dev.setReg_dmaTick (d : Dev) (off : Nat) (v : W32) : (d.setReg off v).dmaTick = d.dmaTick := rfl
@[simp] theorem Dev.setReg_remotes (d : Dev) (off : Nat) (v : W32) : (d.setReg off v).remotes = d.remotes := rfl
@[simp] theorem Dev.setReg_hostWr (d : Dev) (off : Nat) (v : W32) : (d.setReg off v).hostWr = d.hostWr := rfl
@[simp] theorem Dev.setReg_lateReads (d : Dev) (off : Nat) (v : W32) : (d.setReg off v).lateReads = d.lateReads := rfl
@[simp] theorem Dev.setReg_pci (d : Dev) (off : Nat) (v : W32) : (d.setReg off v).pci = d.pci := rfl
@[simp] theorem Dev.setReg_rlyTk (d : Dev) (off : Nat) (v : W32) : (d.setReg off v).rlyTk = d.rlyTk := rfl
@[simp] theorem Dev.setReg_perstLow (d : Dev) (off : Nat) (v : W32) : (d.setReg off v).perstLow = d.perstLow := rfl
@[simp] theorem Dev.setReg_msixSent (d : Dev) (off : Nat) (v : W32) : (d.setReg off v).msixSent = d.msixSent := rfl
@[simp] theorem Dev.setReg_ramp (d : Dev) (off : Nat) (v : W32) : (d.setReg off v).ramp = d.ramp := rfl
@[simp] theorem Dev.setReg_rehyQ (d : Dev) (off : Nat) (v : W32) : (d.setReg off v).rehyQ = d.rehyQ := rfl
@[simp] theorem Dev.setReg_boot (d : Dev) (off : Nat) (v : W32) : (d.setReg off v).boot = d.boot := rfl
@[simp] theorem Dev.setReg_flash (d : Dev) (off : Nat) (v : W32) : (d.setReg off v).flash = d.flash := rfl
@[simp] theorem Dev.setReg_mcChain (d : Dev) (off : Nat) (v : W32) : (d.setReg off v).mcChain = d.mcChain := rfl
@[simp] theorem Dev.setReg_reports (d : Dev) (off : Nat) (v : W32) : (d.setReg off v).reports = d.reports := rfl
@[simp] theorem Dev.setReg_attesting (d : Dev) (off : Nat) (v : W32) : (d.setReg off v).attesting = d.attesting := rfl
@[simp] theorem Dev.setReg_logNext (d : Dev) (off : Nat) (v : W32) : (d.setReg off v).logNext = d.logNext := rfl
@[simp] theorem Dev.setReg_heat (d : Dev) (off : Nat) (v : W32) : (d.setReg off v).heat = d.heat := rfl
@[simp] theorem Dev.setReg_askedTk (d : Dev) (off : Nat) (v : W32) : (d.setReg off v).askedTk = d.askedTk := rfl
@[simp] theorem Dev.setReg_calStaged (d : Dev) (off : Nat) (v : W32) : (d.setReg off v).calStaged = d.calStaged := rfl
@[simp] theorem Dev.setReg_calApplied (d : Dev) (off : Nat) (v : W32) : (d.setReg off v).calApplied = d.calApplied := rfl
@[simp] theorem Dev.setReg_calChoice (d : Dev) (off : Nat) (v : W32) : (d.setReg off v).calChoice = d.calChoice := rfl
@[simp] theorem Dev.setReg_calTk (d : Dev) (off : Nat) (v : W32) : (d.setReg off v).calTk = d.calTk := rfl
@[simp] theorem Dev.setReg_nospareTaint (d : Dev) (off : Nat) (v : W32) : (d.setReg off v).nospareTaint = d.nospareTaint := rfl
@[simp] theorem Dev.setReg_calQ (d : Dev) (off : Nat) (v : W32) : (d.setReg off v).calQ = d.calQ := rfl
@[simp] theorem Dev.setReg_calTemp (d : Dev) (off : Nat) (v : W32) : (d.setReg off v).calTemp = d.calTemp := rfl
@[simp] theorem Dev.setReg_calAsk (d : Dev) (off : Nat) (v : W32) : (d.setReg off v).calAsk = d.calAsk := rfl
@[simp] theorem Dev.setReg_calStore (d : Dev) (off : Nat) (v : W32) : (d.setReg off v).calStore = d.calStore := rfl
@[simp] theorem Dev.setReg_convs (d : Dev) (off : Nat) (v : W32) : (d.setReg off v).convs = d.convs := rfl
@[simp] theorem Dev.setReg_caps (d : Dev) (off : Nat) (v : W32) : (d.setReg off v).caps = d.caps := rfl
@[simp] theorem Dev.setReg_capSpare (d : Dev) (off : Nat) (v : W32) : (d.setReg off v).capSpare = d.capSpare := rfl
@[simp] theorem Dev.setReg_capAge (d : Dev) (off : Nat) (v : W32) : (d.setReg off v).capAge = d.capAge := rfl
@[simp] theorem Dev.setReg_slices (d : Dev) (off : Nat) (v : W32) : (d.setReg off v).slices = d.slices := rfl
@[simp] theorem Dev.setReg_restores (d : Dev) (off : Nat) (v : W32) : (d.setReg off v).restores = d.restores := rfl
@[simp] theorem Dev.setReg_nextUnit (d : Dev) (off : Nat) (v : W32) : (d.setReg off v).nextUnit = d.nextUnit := rfl
@[simp] theorem Dev.setReg_retry (d : Dev) (off : Nat) (v : W32) : (d.setReg off v).retry = d.retry := rfl
@[simp] theorem Dev.setReg_gapTurn (d : Dev) (off : Nat) (v : W32) : (d.setReg off v).gapTurn = d.gapTurn := rfl
@[simp] theorem Dev.setReg_sigHi (d : Dev) (off : Nat) (v : W32) : (d.setReg off v).sigHi = d.sigHi := rfl
@[simp] theorem Dev.setReg_pllOut (d : Dev) (off : Nat) (v : W32) : (d.setReg off v).pllOut = d.pllOut := rfl
@[simp] theorem Dev.setReg_srpLog (d : Dev) (off : Nat) (v : W32) : (d.setReg off v).srpLog = d.srpLog := rfl
@[simp] theorem Dev.setReg_modeAsk (d : Dev) (off : Nat) (v : W32) : (d.setReg off v).modeAsk = d.modeAsk := rfl
@[simp] theorem Dev.setReg_relayUp (d : Dev) (off : Nat) (v : W32) : (d.setReg off v).relayUp = d.relayUp := rfl
@[simp] theorem Dev.setReg_safeDue (d : Dev) (off : Nat) (v : W32) : (d.setReg off v).safeDue = d.safeDue := rfl
@[simp] theorem Dev.setReg_frzDue (d : Dev) (off : Nat) (v : W32) : (d.setReg off v).frzDue = d.frzDue := rfl
@[simp] theorem Dev.setReg_dogWait (d : Dev) (off : Nat) (v : W32) : (d.setReg off v).dogWait = d.dogWait := rfl
@[simp] theorem Dev.setReg_warm (d : Dev) (off : Nat) (v : W32) : (d.setReg off v).warm = d.warm := rfl
@[simp] theorem Dev.setReg_ctlRestart (d : Dev) (off : Nat) (v : W32) : (d.setReg off v).ctlRestart = d.ctlRestart := rfl
@[simp] theorem Dev.setReg_smb (d : Dev) (off : Nat) (v : W32) : (d.setReg off v).smb = d.smb := rfl
@[simp] theorem Dev.setReg_tap (d : Dev) (off : Nat) (v : W32) : (d.setReg off v).tap = d.tap := rfl
@[simp] theorem Dev.setReg_otpBlocked (d : Dev) (off : Nat) (v : W32) : (d.setReg off v).otpBlocked = d.otpBlocked := rfl
@[simp] theorem Dev.setReg_vauxLost (d : Dev) (off : Nat) (v : W32) : (d.setReg off v).vauxLost = d.vauxLost := rfl
@[simp] theorem Dev.setReg_guardCnt (d : Dev) (off : Nat) (v : W32) : (d.setReg off v).guardCnt = d.guardCnt := rfl
@[simp] theorem Dev.setReg_tasks (d : Dev) (off : Nat) (v : W32) : (d.setReg off v).tasks = d.tasks := rfl
@[simp] theorem Dev.setReg_guardWin (d : Dev) (off : Nat) (v : W32) : (d.setReg off v).guardWin = d.guardWin := rfl
@[simp] theorem Dev.setReg_fwIrq (d : Dev) (off : Nat) (v : W32) : (d.setReg off v).fwIrq = d.fwIrq := rfl
@[simp] theorem Dev.setReg_secIn (d : Dev) (off : Nat) (v : W32) : (d.setReg off v).secIn = d.secIn := rfl
@[simp] theorem Dev.setReg_pba (d : Dev) (off : Nat) (v : W32) : (d.setReg off v).pba = d.pba := rfl
@[simp] theorem Dev.setReg_mkIn (d : Dev) (off : Nat) (v : W32) : (d.setReg off v).mkIn = d.mkIn := rfl
@[simp] theorem Dev.setReg_edges (d : Dev) (off : Nat) (v : W32) : (d.setReg off v).edges = d.edges := rfl
@[simp] theorem Dev.setReg_rillLines (d : Dev) (off : Nat) (v : W32) : (d.setReg off v).rillLines = d.rillLines := rfl
@[simp] theorem Dev.setReg_lvlNow (d : Dev) (off : Nat) (v : W32) : (d.setReg off v).lvlNow = d.lvlNow := rfl
@[simp] theorem Dev.setReg_mkoHist (d : Dev) (off : Nat) (v : W32) : (d.setReg off v).mkoHist = d.mkoHist := rfl
@[simp] theorem Dev.setReg_stamps (d : Dev) (off : Nat) (v : W32) : (d.setReg off v).stamps = d.stamps := rfl
@[simp] theorem Dev.setReg_stampSpill (d : Dev) (off : Nat) (v : W32) : (d.setReg off v).stampSpill = d.stampSpill := rfl
@[simp] theorem Dev.setReg_stampSeq (d : Dev) (off : Nat) (v : W32) : (d.setReg off v).stampSeq = d.stampSeq := rfl
@[simp] theorem Dev.setReg_cycle (d : Dev) (off : Nat) (v : W32) : (d.setReg off v).cycle = d.cycle := rfl
@[simp] theorem Dev.setReg_bbx (d : Dev) (off : Nat) (v : W32) : (d.setReg off v).bbx = d.bbx := rfl
@[simp] theorem Dev.setReg_freeze (d : Dev) (off : Nat) (v : W32) : (d.setReg off v).freeze = d.freeze := rfl

@[simp] theorem Dev.fset_mem (d : Dev) (f : Fld) (v : Nat) : (d.fset f v).mem = d.mem := rfl
@[simp] theorem Dev.fset_otp (d : Dev) (f : Fld) (v : Nat) : (d.fset f v).otp = d.otp := rfl
@[simp] theorem Dev.fset_rdata (d : Dev) (f : Fld) (v : Nat) : (d.fset f v).rdata = d.rdata := rfl
@[simp] theorem Dev.fset_tk (d : Dev) (f : Fld) (v : Nat) : (d.fset f v).tk = d.tk := rfl
@[simp] theorem Dev.fset_xtal (d : Dev) (f : Fld) (v : Nat) : (d.fset f v).xtal = d.xtal := rfl
@[simp] theorem Dev.fset_free (d : Dev) (f : Fld) (v : Nat) : (d.fset f v).free = d.free := rfl
@[simp] theorem Dev.fset_raised (d : Dev) (f : Fld) (v : Nat) : (d.fset f v).raised = d.raised := rfl
@[simp] theorem Dev.fset_w1cNow (d : Dev) (f : Fld) (v : Nat) : (d.fset f v).w1cNow = d.w1cNow := rfl
@[simp] theorem Dev.fset_shot (d : Dev) (f : Fld) (v : Nat) : (d.fset f v).shot = d.shot := rfl
@[simp] theorem Dev.fset_round (d : Dev) (f : Fld) (v : Nat) : (d.fset f v).round = d.round := rfl
@[simp] theorem Dev.fset_taint (d : Dev) (f : Fld) (v : Nat) : (d.fset f v).taint = d.taint := rfl
@[simp] theorem Dev.fset_shotLo (d : Dev) (f : Fld) (v : Nat) : (d.fset f v).shotLo = d.shotLo := rfl
@[simp] theorem Dev.fset_shotHiShadow (d : Dev) (f : Fld) (v : Nat) : (d.fset f v).shotHiShadow = d.shotHiShadow := rfl
@[simp] theorem Dev.fset_asapNew (d : Dev) (f : Fld) (v : Nat) : (d.fset f v).asapNew = d.asapNew := rfl
@[simp] theorem Dev.fset_asapDue (d : Dev) (f : Fld) (v : Nat) : (d.fset f v).asapDue = d.asapDue := rfl
@[simp] theorem Dev.fset_pgs (d : Dev) (f : Fld) (v : Nat) : (d.fset f v).pgs = d.pgs := rfl
@[simp] theorem Dev.fset_tmlSh (d : Dev) (f : Fld) (v : Nat) : (d.fset f v).tmlSh = d.tmlSh := rfl
@[simp] theorem Dev.fset_ocs (d : Dev) (f : Fld) (v : Nat) : (d.fset f v).ocs = d.ocs := rfl
@[simp] theorem Dev.fset_slots (d : Dev) (f : Fld) (v : Nat) : (d.fset f v).slots = d.slots := rfl
@[simp] theorem Dev.fset_shotTk (d : Dev) (f : Fld) (v : Nat) : (d.fset f v).shotTk = d.shotTk := rfl
@[simp] theorem Dev.fset_taintTk (d : Dev) (f : Fld) (v : Nat) : (d.fset f v).taintTk = d.taintTk := rfl
@[simp] theorem Dev.fset_staged (d : Dev) (f : Fld) (v : Nat) : (d.fset f v).staged = d.staged := rfl
@[simp] theorem Dev.fset_force (d : Dev) (f : Fld) (v : Nat) : (d.fset f v).force = d.force := rfl
@[simp] theorem Dev.fset_eras (d : Dev) (f : Fld) (v : Nat) : (d.fset f v).eras = d.eras := rfl
@[simp] theorem Dev.fset_labels (d : Dev) (f : Fld) (v : Nat) : (d.fset f v).labels = d.labels := rfl
@[simp] theorem Dev.fset_gsSoon (d : Dev) (f : Fld) (v : Nat) : (d.fset f v).gsSoon = d.gsSoon := rfl
@[simp] theorem Dev.fset_gsNext (d : Dev) (f : Fld) (v : Nat) : (d.fset f v).gsNext = d.gsNext := rfl
@[simp] theorem Dev.fset_gsDone (d : Dev) (f : Fld) (v : Nat) : (d.fset f v).gsDone = d.gsDone := rfl
@[simp] theorem Dev.fset_lateRegs (d : Dev) (f : Fld) (v : Nat) : (d.fset f v).lateRegs = d.lateRegs := rfl
@[simp] theorem Dev.fset_lateMem (d : Dev) (f : Fld) (v : Nat) : (d.fset f v).lateMem = d.lateMem := rfl
@[simp] theorem Dev.fset_urt (d : Dev) (f : Fld) (v : Nat) : (d.fset f v).urt = d.urt := rfl
@[simp] theorem Dev.fset_mcBad (d : Dev) (f : Fld) (v : Nat) : (d.fset f v).mcBad = d.mcBad := rfl
@[simp] theorem Dev.fset_ucommit (d : Dev) (f : Fld) (v : Nat) : (d.fset f v).ucommit = d.ucommit := rfl
@[simp] theorem Dev.fset_frameWr (d : Dev) (f : Fld) (v : Nat) : (d.fset f v).frameWr = d.frameWr := rfl
@[simp] theorem Dev.fset_ics (d : Dev) (f : Fld) (v : Nat) : (d.fset f v).ics = d.ics := rfl
@[simp] theorem Dev.fset_colWait (d : Dev) (f : Fld) (v : Nat) : (d.fset f v).colWait = d.colWait := rfl
@[simp] theorem Dev.fset_colTaken (d : Dev) (f : Fld) (v : Nat) : (d.fset f v).colTaken = d.colTaken := rfl
@[simp] theorem Dev.fset_transit (d : Dev) (f : Fld) (v : Nat) : (d.fset f v).transit = d.transit := rfl
@[simp] theorem Dev.fset_loWrites (d : Dev) (f : Fld) (v : Nat) : (d.fset f v).loWrites = d.loWrites := rfl
@[simp] theorem Dev.fset_sieve (d : Dev) (f : Fld) (v : Nat) : (d.fset f v).sieve = d.sieve := rfl
@[simp] theorem Dev.fset_decq (d : Dev) (f : Fld) (v : Nat) : (d.fset f v).decq = d.decq := rfl
@[simp] theorem Dev.fset_sieveq (d : Dev) (f : Fld) (v : Nat) : (d.fset f v).sieveq = d.sieveq := rfl
@[simp] theorem Dev.fset_mkIntake (d : Dev) (f : Fld) (v : Nat) : (d.fset f v).mkIntake = d.mkIntake := rfl
@[simp] theorem Dev.fset_wit (d : Dev) (f : Fld) (v : Nat) : (d.fset f v).wit = d.wit := rfl
@[simp] theorem Dev.fset_trigq (d : Dev) (f : Fld) (v : Nat) : (d.fset f v).trigq = d.trigq := rfl
@[simp] theorem Dev.fset_links (d : Dev) (f : Fld) (v : Nat) : (d.fset f v).links = d.links := rfl
@[simp] theorem Dev.fset_inbox (d : Dev) (f : Fld) (v : Nat) : (d.fset f v).inbox = d.inbox := rfl
@[simp] theorem Dev.fset_dmas (d : Dev) (f : Fld) (v : Nat) : (d.fset f v).dmas = d.dmas := rfl
@[simp] theorem Dev.fset_dmaLast (d : Dev) (f : Fld) (v : Nat) : (d.fset f v).dmaLast = d.dmaLast := rfl
@[simp] theorem Dev.fset_dmaTick (d : Dev) (f : Fld) (v : Nat) : (d.fset f v).dmaTick = d.dmaTick := rfl
@[simp] theorem Dev.fset_remotes (d : Dev) (f : Fld) (v : Nat) : (d.fset f v).remotes = d.remotes := rfl
@[simp] theorem Dev.fset_hostWr (d : Dev) (f : Fld) (v : Nat) : (d.fset f v).hostWr = d.hostWr := rfl
@[simp] theorem Dev.fset_lateReads (d : Dev) (f : Fld) (v : Nat) : (d.fset f v).lateReads = d.lateReads := rfl
@[simp] theorem Dev.fset_pci (d : Dev) (f : Fld) (v : Nat) : (d.fset f v).pci = d.pci := rfl
@[simp] theorem Dev.fset_rlyTk (d : Dev) (f : Fld) (v : Nat) : (d.fset f v).rlyTk = d.rlyTk := rfl
@[simp] theorem Dev.fset_perstLow (d : Dev) (f : Fld) (v : Nat) : (d.fset f v).perstLow = d.perstLow := rfl
@[simp] theorem Dev.fset_msixSent (d : Dev) (f : Fld) (v : Nat) : (d.fset f v).msixSent = d.msixSent := rfl
@[simp] theorem Dev.fset_ramp (d : Dev) (f : Fld) (v : Nat) : (d.fset f v).ramp = d.ramp := rfl
@[simp] theorem Dev.fset_rehyQ (d : Dev) (f : Fld) (v : Nat) : (d.fset f v).rehyQ = d.rehyQ := rfl
@[simp] theorem Dev.fset_boot (d : Dev) (f : Fld) (v : Nat) : (d.fset f v).boot = d.boot := rfl
@[simp] theorem Dev.fset_flash (d : Dev) (f : Fld) (v : Nat) : (d.fset f v).flash = d.flash := rfl
@[simp] theorem Dev.fset_mcChain (d : Dev) (f : Fld) (v : Nat) : (d.fset f v).mcChain = d.mcChain := rfl
@[simp] theorem Dev.fset_reports (d : Dev) (f : Fld) (v : Nat) : (d.fset f v).reports = d.reports := rfl
@[simp] theorem Dev.fset_attesting (d : Dev) (f : Fld) (v : Nat) : (d.fset f v).attesting = d.attesting := rfl
@[simp] theorem Dev.fset_logNext (d : Dev) (f : Fld) (v : Nat) : (d.fset f v).logNext = d.logNext := rfl
@[simp] theorem Dev.fset_heat (d : Dev) (f : Fld) (v : Nat) : (d.fset f v).heat = d.heat := rfl
@[simp] theorem Dev.fset_askedTk (d : Dev) (f : Fld) (v : Nat) : (d.fset f v).askedTk = d.askedTk := rfl
@[simp] theorem Dev.fset_calStaged (d : Dev) (f : Fld) (v : Nat) : (d.fset f v).calStaged = d.calStaged := rfl
@[simp] theorem Dev.fset_calApplied (d : Dev) (f : Fld) (v : Nat) : (d.fset f v).calApplied = d.calApplied := rfl
@[simp] theorem Dev.fset_calChoice (d : Dev) (f : Fld) (v : Nat) : (d.fset f v).calChoice = d.calChoice := rfl
@[simp] theorem Dev.fset_calTk (d : Dev) (f : Fld) (v : Nat) : (d.fset f v).calTk = d.calTk := rfl
@[simp] theorem Dev.fset_nospareTaint (d : Dev) (f : Fld) (v : Nat) : (d.fset f v).nospareTaint = d.nospareTaint := rfl
@[simp] theorem Dev.fset_calQ (d : Dev) (f : Fld) (v : Nat) : (d.fset f v).calQ = d.calQ := rfl
@[simp] theorem Dev.fset_calTemp (d : Dev) (f : Fld) (v : Nat) : (d.fset f v).calTemp = d.calTemp := rfl
@[simp] theorem Dev.fset_calAsk (d : Dev) (f : Fld) (v : Nat) : (d.fset f v).calAsk = d.calAsk := rfl
@[simp] theorem Dev.fset_calStore (d : Dev) (f : Fld) (v : Nat) : (d.fset f v).calStore = d.calStore := rfl
@[simp] theorem Dev.fset_convs (d : Dev) (f : Fld) (v : Nat) : (d.fset f v).convs = d.convs := rfl
@[simp] theorem Dev.fset_caps (d : Dev) (f : Fld) (v : Nat) : (d.fset f v).caps = d.caps := rfl
@[simp] theorem Dev.fset_capSpare (d : Dev) (f : Fld) (v : Nat) : (d.fset f v).capSpare = d.capSpare := rfl
@[simp] theorem Dev.fset_capAge (d : Dev) (f : Fld) (v : Nat) : (d.fset f v).capAge = d.capAge := rfl
@[simp] theorem Dev.fset_slices (d : Dev) (f : Fld) (v : Nat) : (d.fset f v).slices = d.slices := rfl
@[simp] theorem Dev.fset_restores (d : Dev) (f : Fld) (v : Nat) : (d.fset f v).restores = d.restores := rfl
@[simp] theorem Dev.fset_nextUnit (d : Dev) (f : Fld) (v : Nat) : (d.fset f v).nextUnit = d.nextUnit := rfl
@[simp] theorem Dev.fset_retry (d : Dev) (f : Fld) (v : Nat) : (d.fset f v).retry = d.retry := rfl
@[simp] theorem Dev.fset_gapTurn (d : Dev) (f : Fld) (v : Nat) : (d.fset f v).gapTurn = d.gapTurn := rfl
@[simp] theorem Dev.fset_sigHi (d : Dev) (f : Fld) (v : Nat) : (d.fset f v).sigHi = d.sigHi := rfl
@[simp] theorem Dev.fset_pllOut (d : Dev) (f : Fld) (v : Nat) : (d.fset f v).pllOut = d.pllOut := rfl
@[simp] theorem Dev.fset_srpLog (d : Dev) (f : Fld) (v : Nat) : (d.fset f v).srpLog = d.srpLog := rfl
@[simp] theorem Dev.fset_modeAsk (d : Dev) (f : Fld) (v : Nat) : (d.fset f v).modeAsk = d.modeAsk := rfl
@[simp] theorem Dev.fset_relayUp (d : Dev) (f : Fld) (v : Nat) : (d.fset f v).relayUp = d.relayUp := rfl
@[simp] theorem Dev.fset_safeDue (d : Dev) (f : Fld) (v : Nat) : (d.fset f v).safeDue = d.safeDue := rfl
@[simp] theorem Dev.fset_frzDue (d : Dev) (f : Fld) (v : Nat) : (d.fset f v).frzDue = d.frzDue := rfl
@[simp] theorem Dev.fset_dogWait (d : Dev) (f : Fld) (v : Nat) : (d.fset f v).dogWait = d.dogWait := rfl
@[simp] theorem Dev.fset_warm (d : Dev) (f : Fld) (v : Nat) : (d.fset f v).warm = d.warm := rfl
@[simp] theorem Dev.fset_ctlRestart (d : Dev) (f : Fld) (v : Nat) : (d.fset f v).ctlRestart = d.ctlRestart := rfl
@[simp] theorem Dev.fset_smb (d : Dev) (f : Fld) (v : Nat) : (d.fset f v).smb = d.smb := rfl
@[simp] theorem Dev.fset_tap (d : Dev) (f : Fld) (v : Nat) : (d.fset f v).tap = d.tap := rfl
@[simp] theorem Dev.fset_otpBlocked (d : Dev) (f : Fld) (v : Nat) : (d.fset f v).otpBlocked = d.otpBlocked := rfl
@[simp] theorem Dev.fset_vauxLost (d : Dev) (f : Fld) (v : Nat) : (d.fset f v).vauxLost = d.vauxLost := rfl
@[simp] theorem Dev.fset_guardCnt (d : Dev) (f : Fld) (v : Nat) : (d.fset f v).guardCnt = d.guardCnt := rfl
@[simp] theorem Dev.fset_tasks (d : Dev) (f : Fld) (v : Nat) : (d.fset f v).tasks = d.tasks := rfl
@[simp] theorem Dev.fset_guardWin (d : Dev) (f : Fld) (v : Nat) : (d.fset f v).guardWin = d.guardWin := rfl
@[simp] theorem Dev.fset_fwIrq (d : Dev) (f : Fld) (v : Nat) : (d.fset f v).fwIrq = d.fwIrq := rfl
@[simp] theorem Dev.fset_secIn (d : Dev) (f : Fld) (v : Nat) : (d.fset f v).secIn = d.secIn := rfl
@[simp] theorem Dev.fset_pba (d : Dev) (f : Fld) (v : Nat) : (d.fset f v).pba = d.pba := rfl
@[simp] theorem Dev.fset_mkIn (d : Dev) (f : Fld) (v : Nat) : (d.fset f v).mkIn = d.mkIn := rfl
@[simp] theorem Dev.fset_edges (d : Dev) (f : Fld) (v : Nat) : (d.fset f v).edges = d.edges := rfl
@[simp] theorem Dev.fset_rillLines (d : Dev) (f : Fld) (v : Nat) : (d.fset f v).rillLines = d.rillLines := rfl
@[simp] theorem Dev.fset_lvlNow (d : Dev) (f : Fld) (v : Nat) : (d.fset f v).lvlNow = d.lvlNow := rfl
@[simp] theorem Dev.fset_mkoHist (d : Dev) (f : Fld) (v : Nat) : (d.fset f v).mkoHist = d.mkoHist := rfl
@[simp] theorem Dev.fset_stamps (d : Dev) (f : Fld) (v : Nat) : (d.fset f v).stamps = d.stamps := rfl
@[simp] theorem Dev.fset_stampSpill (d : Dev) (f : Fld) (v : Nat) : (d.fset f v).stampSpill = d.stampSpill := rfl
@[simp] theorem Dev.fset_stampSeq (d : Dev) (f : Fld) (v : Nat) : (d.fset f v).stampSeq = d.stampSeq := rfl
@[simp] theorem Dev.fset_cycle (d : Dev) (f : Fld) (v : Nat) : (d.fset f v).cycle = d.cycle := rfl
@[simp] theorem Dev.fset_bbx (d : Dev) (f : Fld) (v : Nat) : (d.fset f v).bbx = d.bbx := rfl
@[simp] theorem Dev.fset_freeze (d : Dev) (f : Fld) (v : Nat) : (d.fset f v).freeze = d.freeze := rfl

@[simp] theorem Dev.fsetB_mem (d : Dev) (f : Fld) (b : Bool) : (d.fsetB f b).mem = d.mem := rfl
@[simp] theorem Dev.fsetB_otp (d : Dev) (f : Fld) (b : Bool) : (d.fsetB f b).otp = d.otp := rfl
@[simp] theorem Dev.fsetB_rdata (d : Dev) (f : Fld) (b : Bool) : (d.fsetB f b).rdata = d.rdata := rfl
@[simp] theorem Dev.fsetB_tk (d : Dev) (f : Fld) (b : Bool) : (d.fsetB f b).tk = d.tk := rfl
@[simp] theorem Dev.fsetB_xtal (d : Dev) (f : Fld) (b : Bool) : (d.fsetB f b).xtal = d.xtal := rfl
@[simp] theorem Dev.fsetB_free (d : Dev) (f : Fld) (b : Bool) : (d.fsetB f b).free = d.free := rfl
@[simp] theorem Dev.fsetB_raised (d : Dev) (f : Fld) (b : Bool) : (d.fsetB f b).raised = d.raised := rfl
@[simp] theorem Dev.fsetB_w1cNow (d : Dev) (f : Fld) (b : Bool) : (d.fsetB f b).w1cNow = d.w1cNow := rfl
@[simp] theorem Dev.fsetB_shot (d : Dev) (f : Fld) (b : Bool) : (d.fsetB f b).shot = d.shot := rfl
@[simp] theorem Dev.fsetB_round (d : Dev) (f : Fld) (b : Bool) : (d.fsetB f b).round = d.round := rfl
@[simp] theorem Dev.fsetB_taint (d : Dev) (f : Fld) (b : Bool) : (d.fsetB f b).taint = d.taint := rfl
@[simp] theorem Dev.fsetB_shotLo (d : Dev) (f : Fld) (b : Bool) : (d.fsetB f b).shotLo = d.shotLo := rfl
@[simp] theorem Dev.fsetB_shotHiShadow (d : Dev) (f : Fld) (b : Bool) : (d.fsetB f b).shotHiShadow = d.shotHiShadow := rfl
@[simp] theorem Dev.fsetB_asapNew (d : Dev) (f : Fld) (b : Bool) : (d.fsetB f b).asapNew = d.asapNew := rfl
@[simp] theorem Dev.fsetB_asapDue (d : Dev) (f : Fld) (b : Bool) : (d.fsetB f b).asapDue = d.asapDue := rfl
@[simp] theorem Dev.fsetB_pgs (d : Dev) (f : Fld) (b : Bool) : (d.fsetB f b).pgs = d.pgs := rfl
@[simp] theorem Dev.fsetB_tmlSh (d : Dev) (f : Fld) (b : Bool) : (d.fsetB f b).tmlSh = d.tmlSh := rfl
@[simp] theorem Dev.fsetB_ocs (d : Dev) (f : Fld) (b : Bool) : (d.fsetB f b).ocs = d.ocs := rfl
@[simp] theorem Dev.fsetB_slots (d : Dev) (f : Fld) (b : Bool) : (d.fsetB f b).slots = d.slots := rfl
@[simp] theorem Dev.fsetB_shotTk (d : Dev) (f : Fld) (b : Bool) : (d.fsetB f b).shotTk = d.shotTk := rfl
@[simp] theorem Dev.fsetB_taintTk (d : Dev) (f : Fld) (b : Bool) : (d.fsetB f b).taintTk = d.taintTk := rfl
@[simp] theorem Dev.fsetB_staged (d : Dev) (f : Fld) (b : Bool) : (d.fsetB f b).staged = d.staged := rfl
@[simp] theorem Dev.fsetB_force (d : Dev) (f : Fld) (b : Bool) : (d.fsetB f b).force = d.force := rfl
@[simp] theorem Dev.fsetB_eras (d : Dev) (f : Fld) (b : Bool) : (d.fsetB f b).eras = d.eras := rfl
@[simp] theorem Dev.fsetB_labels (d : Dev) (f : Fld) (b : Bool) : (d.fsetB f b).labels = d.labels := rfl
@[simp] theorem Dev.fsetB_gsSoon (d : Dev) (f : Fld) (b : Bool) : (d.fsetB f b).gsSoon = d.gsSoon := rfl
@[simp] theorem Dev.fsetB_gsNext (d : Dev) (f : Fld) (b : Bool) : (d.fsetB f b).gsNext = d.gsNext := rfl
@[simp] theorem Dev.fsetB_gsDone (d : Dev) (f : Fld) (b : Bool) : (d.fsetB f b).gsDone = d.gsDone := rfl
@[simp] theorem Dev.fsetB_lateRegs (d : Dev) (f : Fld) (b : Bool) : (d.fsetB f b).lateRegs = d.lateRegs := rfl
@[simp] theorem Dev.fsetB_lateMem (d : Dev) (f : Fld) (b : Bool) : (d.fsetB f b).lateMem = d.lateMem := rfl
@[simp] theorem Dev.fsetB_urt (d : Dev) (f : Fld) (b : Bool) : (d.fsetB f b).urt = d.urt := rfl
@[simp] theorem Dev.fsetB_mcBad (d : Dev) (f : Fld) (b : Bool) : (d.fsetB f b).mcBad = d.mcBad := rfl
@[simp] theorem Dev.fsetB_ucommit (d : Dev) (f : Fld) (b : Bool) : (d.fsetB f b).ucommit = d.ucommit := rfl
@[simp] theorem Dev.fsetB_frameWr (d : Dev) (f : Fld) (b : Bool) : (d.fsetB f b).frameWr = d.frameWr := rfl
@[simp] theorem Dev.fsetB_ics (d : Dev) (f : Fld) (b : Bool) : (d.fsetB f b).ics = d.ics := rfl
@[simp] theorem Dev.fsetB_colWait (d : Dev) (f : Fld) (b : Bool) : (d.fsetB f b).colWait = d.colWait := rfl
@[simp] theorem Dev.fsetB_colTaken (d : Dev) (f : Fld) (b : Bool) : (d.fsetB f b).colTaken = d.colTaken := rfl
@[simp] theorem Dev.fsetB_transit (d : Dev) (f : Fld) (b : Bool) : (d.fsetB f b).transit = d.transit := rfl
@[simp] theorem Dev.fsetB_loWrites (d : Dev) (f : Fld) (b : Bool) : (d.fsetB f b).loWrites = d.loWrites := rfl
@[simp] theorem Dev.fsetB_sieve (d : Dev) (f : Fld) (b : Bool) : (d.fsetB f b).sieve = d.sieve := rfl
@[simp] theorem Dev.fsetB_decq (d : Dev) (f : Fld) (b : Bool) : (d.fsetB f b).decq = d.decq := rfl
@[simp] theorem Dev.fsetB_sieveq (d : Dev) (f : Fld) (b : Bool) : (d.fsetB f b).sieveq = d.sieveq := rfl
@[simp] theorem Dev.fsetB_mkIntake (d : Dev) (f : Fld) (b : Bool) : (d.fsetB f b).mkIntake = d.mkIntake := rfl
@[simp] theorem Dev.fsetB_wit (d : Dev) (f : Fld) (b : Bool) : (d.fsetB f b).wit = d.wit := rfl
@[simp] theorem Dev.fsetB_trigq (d : Dev) (f : Fld) (b : Bool) : (d.fsetB f b).trigq = d.trigq := rfl
@[simp] theorem Dev.fsetB_links (d : Dev) (f : Fld) (b : Bool) : (d.fsetB f b).links = d.links := rfl
@[simp] theorem Dev.fsetB_inbox (d : Dev) (f : Fld) (b : Bool) : (d.fsetB f b).inbox = d.inbox := rfl
@[simp] theorem Dev.fsetB_dmas (d : Dev) (f : Fld) (b : Bool) : (d.fsetB f b).dmas = d.dmas := rfl
@[simp] theorem Dev.fsetB_dmaLast (d : Dev) (f : Fld) (b : Bool) : (d.fsetB f b).dmaLast = d.dmaLast := rfl
@[simp] theorem Dev.fsetB_dmaTick (d : Dev) (f : Fld) (b : Bool) : (d.fsetB f b).dmaTick = d.dmaTick := rfl
@[simp] theorem Dev.fsetB_remotes (d : Dev) (f : Fld) (b : Bool) : (d.fsetB f b).remotes = d.remotes := rfl
@[simp] theorem Dev.fsetB_hostWr (d : Dev) (f : Fld) (b : Bool) : (d.fsetB f b).hostWr = d.hostWr := rfl
@[simp] theorem Dev.fsetB_lateReads (d : Dev) (f : Fld) (b : Bool) : (d.fsetB f b).lateReads = d.lateReads := rfl
@[simp] theorem Dev.fsetB_pci (d : Dev) (f : Fld) (b : Bool) : (d.fsetB f b).pci = d.pci := rfl
@[simp] theorem Dev.fsetB_rlyTk (d : Dev) (f : Fld) (b : Bool) : (d.fsetB f b).rlyTk = d.rlyTk := rfl
@[simp] theorem Dev.fsetB_perstLow (d : Dev) (f : Fld) (b : Bool) : (d.fsetB f b).perstLow = d.perstLow := rfl
@[simp] theorem Dev.fsetB_msixSent (d : Dev) (f : Fld) (b : Bool) : (d.fsetB f b).msixSent = d.msixSent := rfl
@[simp] theorem Dev.fsetB_ramp (d : Dev) (f : Fld) (b : Bool) : (d.fsetB f b).ramp = d.ramp := rfl
@[simp] theorem Dev.fsetB_rehyQ (d : Dev) (f : Fld) (b : Bool) : (d.fsetB f b).rehyQ = d.rehyQ := rfl
@[simp] theorem Dev.fsetB_boot (d : Dev) (f : Fld) (b : Bool) : (d.fsetB f b).boot = d.boot := rfl
@[simp] theorem Dev.fsetB_flash (d : Dev) (f : Fld) (b : Bool) : (d.fsetB f b).flash = d.flash := rfl
@[simp] theorem Dev.fsetB_mcChain (d : Dev) (f : Fld) (b : Bool) : (d.fsetB f b).mcChain = d.mcChain := rfl
@[simp] theorem Dev.fsetB_reports (d : Dev) (f : Fld) (b : Bool) : (d.fsetB f b).reports = d.reports := rfl
@[simp] theorem Dev.fsetB_attesting (d : Dev) (f : Fld) (b : Bool) : (d.fsetB f b).attesting = d.attesting := rfl
@[simp] theorem Dev.fsetB_logNext (d : Dev) (f : Fld) (b : Bool) : (d.fsetB f b).logNext = d.logNext := rfl
@[simp] theorem Dev.fsetB_heat (d : Dev) (f : Fld) (b : Bool) : (d.fsetB f b).heat = d.heat := rfl
@[simp] theorem Dev.fsetB_askedTk (d : Dev) (f : Fld) (b : Bool) : (d.fsetB f b).askedTk = d.askedTk := rfl
@[simp] theorem Dev.fsetB_calStaged (d : Dev) (f : Fld) (b : Bool) : (d.fsetB f b).calStaged = d.calStaged := rfl
@[simp] theorem Dev.fsetB_calApplied (d : Dev) (f : Fld) (b : Bool) : (d.fsetB f b).calApplied = d.calApplied := rfl
@[simp] theorem Dev.fsetB_calChoice (d : Dev) (f : Fld) (b : Bool) : (d.fsetB f b).calChoice = d.calChoice := rfl
@[simp] theorem Dev.fsetB_calTk (d : Dev) (f : Fld) (b : Bool) : (d.fsetB f b).calTk = d.calTk := rfl
@[simp] theorem Dev.fsetB_nospareTaint (d : Dev) (f : Fld) (b : Bool) : (d.fsetB f b).nospareTaint = d.nospareTaint := rfl
@[simp] theorem Dev.fsetB_calQ (d : Dev) (f : Fld) (b : Bool) : (d.fsetB f b).calQ = d.calQ := rfl
@[simp] theorem Dev.fsetB_calTemp (d : Dev) (f : Fld) (b : Bool) : (d.fsetB f b).calTemp = d.calTemp := rfl
@[simp] theorem Dev.fsetB_calAsk (d : Dev) (f : Fld) (b : Bool) : (d.fsetB f b).calAsk = d.calAsk := rfl
@[simp] theorem Dev.fsetB_calStore (d : Dev) (f : Fld) (b : Bool) : (d.fsetB f b).calStore = d.calStore := rfl
@[simp] theorem Dev.fsetB_convs (d : Dev) (f : Fld) (b : Bool) : (d.fsetB f b).convs = d.convs := rfl
@[simp] theorem Dev.fsetB_caps (d : Dev) (f : Fld) (b : Bool) : (d.fsetB f b).caps = d.caps := rfl
@[simp] theorem Dev.fsetB_capSpare (d : Dev) (f : Fld) (b : Bool) : (d.fsetB f b).capSpare = d.capSpare := rfl
@[simp] theorem Dev.fsetB_capAge (d : Dev) (f : Fld) (b : Bool) : (d.fsetB f b).capAge = d.capAge := rfl
@[simp] theorem Dev.fsetB_slices (d : Dev) (f : Fld) (b : Bool) : (d.fsetB f b).slices = d.slices := rfl
@[simp] theorem Dev.fsetB_restores (d : Dev) (f : Fld) (b : Bool) : (d.fsetB f b).restores = d.restores := rfl
@[simp] theorem Dev.fsetB_nextUnit (d : Dev) (f : Fld) (b : Bool) : (d.fsetB f b).nextUnit = d.nextUnit := rfl
@[simp] theorem Dev.fsetB_retry (d : Dev) (f : Fld) (b : Bool) : (d.fsetB f b).retry = d.retry := rfl
@[simp] theorem Dev.fsetB_gapTurn (d : Dev) (f : Fld) (b : Bool) : (d.fsetB f b).gapTurn = d.gapTurn := rfl
@[simp] theorem Dev.fsetB_sigHi (d : Dev) (f : Fld) (b : Bool) : (d.fsetB f b).sigHi = d.sigHi := rfl
@[simp] theorem Dev.fsetB_pllOut (d : Dev) (f : Fld) (b : Bool) : (d.fsetB f b).pllOut = d.pllOut := rfl
@[simp] theorem Dev.fsetB_srpLog (d : Dev) (f : Fld) (b : Bool) : (d.fsetB f b).srpLog = d.srpLog := rfl
@[simp] theorem Dev.fsetB_modeAsk (d : Dev) (f : Fld) (b : Bool) : (d.fsetB f b).modeAsk = d.modeAsk := rfl
@[simp] theorem Dev.fsetB_relayUp (d : Dev) (f : Fld) (b : Bool) : (d.fsetB f b).relayUp = d.relayUp := rfl
@[simp] theorem Dev.fsetB_safeDue (d : Dev) (f : Fld) (b : Bool) : (d.fsetB f b).safeDue = d.safeDue := rfl
@[simp] theorem Dev.fsetB_frzDue (d : Dev) (f : Fld) (b : Bool) : (d.fsetB f b).frzDue = d.frzDue := rfl
@[simp] theorem Dev.fsetB_dogWait (d : Dev) (f : Fld) (b : Bool) : (d.fsetB f b).dogWait = d.dogWait := rfl
@[simp] theorem Dev.fsetB_warm (d : Dev) (f : Fld) (b : Bool) : (d.fsetB f b).warm = d.warm := rfl
@[simp] theorem Dev.fsetB_ctlRestart (d : Dev) (f : Fld) (b : Bool) : (d.fsetB f b).ctlRestart = d.ctlRestart := rfl
@[simp] theorem Dev.fsetB_smb (d : Dev) (f : Fld) (b : Bool) : (d.fsetB f b).smb = d.smb := rfl
@[simp] theorem Dev.fsetB_tap (d : Dev) (f : Fld) (b : Bool) : (d.fsetB f b).tap = d.tap := rfl
@[simp] theorem Dev.fsetB_otpBlocked (d : Dev) (f : Fld) (b : Bool) : (d.fsetB f b).otpBlocked = d.otpBlocked := rfl
@[simp] theorem Dev.fsetB_vauxLost (d : Dev) (f : Fld) (b : Bool) : (d.fsetB f b).vauxLost = d.vauxLost := rfl
@[simp] theorem Dev.fsetB_guardCnt (d : Dev) (f : Fld) (b : Bool) : (d.fsetB f b).guardCnt = d.guardCnt := rfl
@[simp] theorem Dev.fsetB_tasks (d : Dev) (f : Fld) (b : Bool) : (d.fsetB f b).tasks = d.tasks := rfl
@[simp] theorem Dev.fsetB_guardWin (d : Dev) (f : Fld) (b : Bool) : (d.fsetB f b).guardWin = d.guardWin := rfl
@[simp] theorem Dev.fsetB_fwIrq (d : Dev) (f : Fld) (b : Bool) : (d.fsetB f b).fwIrq = d.fwIrq := rfl
@[simp] theorem Dev.fsetB_secIn (d : Dev) (f : Fld) (b : Bool) : (d.fsetB f b).secIn = d.secIn := rfl
@[simp] theorem Dev.fsetB_pba (d : Dev) (f : Fld) (b : Bool) : (d.fsetB f b).pba = d.pba := rfl
@[simp] theorem Dev.fsetB_mkIn (d : Dev) (f : Fld) (b : Bool) : (d.fsetB f b).mkIn = d.mkIn := rfl
@[simp] theorem Dev.fsetB_edges (d : Dev) (f : Fld) (b : Bool) : (d.fsetB f b).edges = d.edges := rfl
@[simp] theorem Dev.fsetB_rillLines (d : Dev) (f : Fld) (b : Bool) : (d.fsetB f b).rillLines = d.rillLines := rfl
@[simp] theorem Dev.fsetB_lvlNow (d : Dev) (f : Fld) (b : Bool) : (d.fsetB f b).lvlNow = d.lvlNow := rfl
@[simp] theorem Dev.fsetB_mkoHist (d : Dev) (f : Fld) (b : Bool) : (d.fsetB f b).mkoHist = d.mkoHist := rfl
@[simp] theorem Dev.fsetB_stamps (d : Dev) (f : Fld) (b : Bool) : (d.fsetB f b).stamps = d.stamps := rfl
@[simp] theorem Dev.fsetB_stampSpill (d : Dev) (f : Fld) (b : Bool) : (d.fsetB f b).stampSpill = d.stampSpill := rfl
@[simp] theorem Dev.fsetB_stampSeq (d : Dev) (f : Fld) (b : Bool) : (d.fsetB f b).stampSeq = d.stampSeq := rfl
@[simp] theorem Dev.fsetB_cycle (d : Dev) (f : Fld) (b : Bool) : (d.fsetB f b).cycle = d.cycle := rfl
@[simp] theorem Dev.fsetB_bbx (d : Dev) (f : Fld) (b : Bool) : (d.fsetB f b).bbx = d.bbx := rfl
@[simp] theorem Dev.fsetB_freeze (d : Dev) (f : Fld) (b : Bool) : (d.fsetB f b).freeze = d.freeze := rfl

@[simp] theorem Dev.wr8_regs (d : Dev) (a : Nat) (b : Byte) : (d.wr8 a b).regs = d.regs := rfl
@[simp] theorem Dev.wr8_otp (d : Dev) (a : Nat) (b : Byte) : (d.wr8 a b).otp = d.otp := rfl
@[simp] theorem Dev.wr8_rdata (d : Dev) (a : Nat) (b : Byte) : (d.wr8 a b).rdata = d.rdata := rfl
@[simp] theorem Dev.wr8_tk (d : Dev) (a : Nat) (b : Byte) : (d.wr8 a b).tk = d.tk := rfl
@[simp] theorem Dev.wr8_xtal (d : Dev) (a : Nat) (b : Byte) : (d.wr8 a b).xtal = d.xtal := rfl
@[simp] theorem Dev.wr8_free (d : Dev) (a : Nat) (b : Byte) : (d.wr8 a b).free = d.free := rfl
@[simp] theorem Dev.wr8_raised (d : Dev) (a : Nat) (b : Byte) : (d.wr8 a b).raised = d.raised := rfl
@[simp] theorem Dev.wr8_w1cNow (d : Dev) (a : Nat) (b : Byte) : (d.wr8 a b).w1cNow = d.w1cNow := rfl
@[simp] theorem Dev.wr8_shot (d : Dev) (a : Nat) (b : Byte) : (d.wr8 a b).shot = d.shot := rfl
@[simp] theorem Dev.wr8_round (d : Dev) (a : Nat) (b : Byte) : (d.wr8 a b).round = d.round := rfl
@[simp] theorem Dev.wr8_taint (d : Dev) (a : Nat) (b : Byte) : (d.wr8 a b).taint = d.taint := rfl
@[simp] theorem Dev.wr8_shotLo (d : Dev) (a : Nat) (b : Byte) : (d.wr8 a b).shotLo = d.shotLo := rfl
@[simp] theorem Dev.wr8_shotHiShadow (d : Dev) (a : Nat) (b : Byte) : (d.wr8 a b).shotHiShadow = d.shotHiShadow := rfl
@[simp] theorem Dev.wr8_asapNew (d : Dev) (a : Nat) (b : Byte) : (d.wr8 a b).asapNew = d.asapNew := rfl
@[simp] theorem Dev.wr8_asapDue (d : Dev) (a : Nat) (b : Byte) : (d.wr8 a b).asapDue = d.asapDue := rfl
@[simp] theorem Dev.wr8_pgs (d : Dev) (a : Nat) (b : Byte) : (d.wr8 a b).pgs = d.pgs := rfl
@[simp] theorem Dev.wr8_tmlSh (d : Dev) (a : Nat) (b : Byte) : (d.wr8 a b).tmlSh = d.tmlSh := rfl
@[simp] theorem Dev.wr8_ocs (d : Dev) (a : Nat) (b : Byte) : (d.wr8 a b).ocs = d.ocs := rfl
@[simp] theorem Dev.wr8_slots (d : Dev) (a : Nat) (b : Byte) : (d.wr8 a b).slots = d.slots := rfl
@[simp] theorem Dev.wr8_shotTk (d : Dev) (a : Nat) (b : Byte) : (d.wr8 a b).shotTk = d.shotTk := rfl
@[simp] theorem Dev.wr8_taintTk (d : Dev) (a : Nat) (b : Byte) : (d.wr8 a b).taintTk = d.taintTk := rfl
@[simp] theorem Dev.wr8_staged (d : Dev) (a : Nat) (b : Byte) : (d.wr8 a b).staged = d.staged := rfl
@[simp] theorem Dev.wr8_force (d : Dev) (a : Nat) (b : Byte) : (d.wr8 a b).force = d.force := rfl
@[simp] theorem Dev.wr8_eras (d : Dev) (a : Nat) (b : Byte) : (d.wr8 a b).eras = d.eras := rfl
@[simp] theorem Dev.wr8_labels (d : Dev) (a : Nat) (b : Byte) : (d.wr8 a b).labels = d.labels := rfl
@[simp] theorem Dev.wr8_gsSoon (d : Dev) (a : Nat) (b : Byte) : (d.wr8 a b).gsSoon = d.gsSoon := rfl
@[simp] theorem Dev.wr8_gsNext (d : Dev) (a : Nat) (b : Byte) : (d.wr8 a b).gsNext = d.gsNext := rfl
@[simp] theorem Dev.wr8_gsDone (d : Dev) (a : Nat) (b : Byte) : (d.wr8 a b).gsDone = d.gsDone := rfl
@[simp] theorem Dev.wr8_lateRegs (d : Dev) (a : Nat) (b : Byte) : (d.wr8 a b).lateRegs = d.lateRegs := rfl
@[simp] theorem Dev.wr8_lateMem (d : Dev) (a : Nat) (b : Byte) : (d.wr8 a b).lateMem = d.lateMem := rfl
@[simp] theorem Dev.wr8_urt (d : Dev) (a : Nat) (b : Byte) : (d.wr8 a b).urt = d.urt := rfl
@[simp] theorem Dev.wr8_mcBad (d : Dev) (a : Nat) (b : Byte) : (d.wr8 a b).mcBad = d.mcBad := rfl
@[simp] theorem Dev.wr8_ucommit (d : Dev) (a : Nat) (b : Byte) : (d.wr8 a b).ucommit = d.ucommit := rfl
@[simp] theorem Dev.wr8_frameWr (d : Dev) (a : Nat) (b : Byte) : (d.wr8 a b).frameWr = d.frameWr := rfl
@[simp] theorem Dev.wr8_ics (d : Dev) (a : Nat) (b : Byte) : (d.wr8 a b).ics = d.ics := rfl
@[simp] theorem Dev.wr8_colWait (d : Dev) (a : Nat) (b : Byte) : (d.wr8 a b).colWait = d.colWait := rfl
@[simp] theorem Dev.wr8_colTaken (d : Dev) (a : Nat) (b : Byte) : (d.wr8 a b).colTaken = d.colTaken := rfl
@[simp] theorem Dev.wr8_transit (d : Dev) (a : Nat) (b : Byte) : (d.wr8 a b).transit = d.transit := rfl
@[simp] theorem Dev.wr8_loWrites (d : Dev) (a : Nat) (b : Byte) : (d.wr8 a b).loWrites = d.loWrites := rfl
@[simp] theorem Dev.wr8_sieve (d : Dev) (a : Nat) (b : Byte) : (d.wr8 a b).sieve = d.sieve := rfl
@[simp] theorem Dev.wr8_decq (d : Dev) (a : Nat) (b : Byte) : (d.wr8 a b).decq = d.decq := rfl
@[simp] theorem Dev.wr8_sieveq (d : Dev) (a : Nat) (b : Byte) : (d.wr8 a b).sieveq = d.sieveq := rfl
@[simp] theorem Dev.wr8_mkIntake (d : Dev) (a : Nat) (b : Byte) : (d.wr8 a b).mkIntake = d.mkIntake := rfl
@[simp] theorem Dev.wr8_wit (d : Dev) (a : Nat) (b : Byte) : (d.wr8 a b).wit = d.wit := rfl
@[simp] theorem Dev.wr8_trigq (d : Dev) (a : Nat) (b : Byte) : (d.wr8 a b).trigq = d.trigq := rfl
@[simp] theorem Dev.wr8_links (d : Dev) (a : Nat) (b : Byte) : (d.wr8 a b).links = d.links := rfl
@[simp] theorem Dev.wr8_inbox (d : Dev) (a : Nat) (b : Byte) : (d.wr8 a b).inbox = d.inbox := rfl
@[simp] theorem Dev.wr8_dmas (d : Dev) (a : Nat) (b : Byte) : (d.wr8 a b).dmas = d.dmas := rfl
@[simp] theorem Dev.wr8_dmaLast (d : Dev) (a : Nat) (b : Byte) : (d.wr8 a b).dmaLast = d.dmaLast := rfl
@[simp] theorem Dev.wr8_dmaTick (d : Dev) (a : Nat) (b : Byte) : (d.wr8 a b).dmaTick = d.dmaTick := rfl
@[simp] theorem Dev.wr8_remotes (d : Dev) (a : Nat) (b : Byte) : (d.wr8 a b).remotes = d.remotes := rfl
@[simp] theorem Dev.wr8_hostWr (d : Dev) (a : Nat) (b : Byte) : (d.wr8 a b).hostWr = d.hostWr := rfl
@[simp] theorem Dev.wr8_lateReads (d : Dev) (a : Nat) (b : Byte) : (d.wr8 a b).lateReads = d.lateReads := rfl
@[simp] theorem Dev.wr8_pci (d : Dev) (a : Nat) (b : Byte) : (d.wr8 a b).pci = d.pci := rfl
@[simp] theorem Dev.wr8_rlyTk (d : Dev) (a : Nat) (b : Byte) : (d.wr8 a b).rlyTk = d.rlyTk := rfl
@[simp] theorem Dev.wr8_perstLow (d : Dev) (a : Nat) (b : Byte) : (d.wr8 a b).perstLow = d.perstLow := rfl
@[simp] theorem Dev.wr8_msixSent (d : Dev) (a : Nat) (b : Byte) : (d.wr8 a b).msixSent = d.msixSent := rfl
@[simp] theorem Dev.wr8_ramp (d : Dev) (a : Nat) (b : Byte) : (d.wr8 a b).ramp = d.ramp := rfl
@[simp] theorem Dev.wr8_rehyQ (d : Dev) (a : Nat) (b : Byte) : (d.wr8 a b).rehyQ = d.rehyQ := rfl
@[simp] theorem Dev.wr8_boot (d : Dev) (a : Nat) (b : Byte) : (d.wr8 a b).boot = d.boot := rfl
@[simp] theorem Dev.wr8_flash (d : Dev) (a : Nat) (b : Byte) : (d.wr8 a b).flash = d.flash := rfl
@[simp] theorem Dev.wr8_mcChain (d : Dev) (a : Nat) (b : Byte) : (d.wr8 a b).mcChain = d.mcChain := rfl
@[simp] theorem Dev.wr8_reports (d : Dev) (a : Nat) (b : Byte) : (d.wr8 a b).reports = d.reports := rfl
@[simp] theorem Dev.wr8_attesting (d : Dev) (a : Nat) (b : Byte) : (d.wr8 a b).attesting = d.attesting := rfl
@[simp] theorem Dev.wr8_logNext (d : Dev) (a : Nat) (b : Byte) : (d.wr8 a b).logNext = d.logNext := rfl
@[simp] theorem Dev.wr8_heat (d : Dev) (a : Nat) (b : Byte) : (d.wr8 a b).heat = d.heat := rfl
@[simp] theorem Dev.wr8_askedTk (d : Dev) (a : Nat) (b : Byte) : (d.wr8 a b).askedTk = d.askedTk := rfl
@[simp] theorem Dev.wr8_calStaged (d : Dev) (a : Nat) (b : Byte) : (d.wr8 a b).calStaged = d.calStaged := rfl
@[simp] theorem Dev.wr8_calApplied (d : Dev) (a : Nat) (b : Byte) : (d.wr8 a b).calApplied = d.calApplied := rfl
@[simp] theorem Dev.wr8_calChoice (d : Dev) (a : Nat) (b : Byte) : (d.wr8 a b).calChoice = d.calChoice := rfl
@[simp] theorem Dev.wr8_calTk (d : Dev) (a : Nat) (b : Byte) : (d.wr8 a b).calTk = d.calTk := rfl
@[simp] theorem Dev.wr8_nospareTaint (d : Dev) (a : Nat) (b : Byte) : (d.wr8 a b).nospareTaint = d.nospareTaint := rfl
@[simp] theorem Dev.wr8_calQ (d : Dev) (a : Nat) (b : Byte) : (d.wr8 a b).calQ = d.calQ := rfl
@[simp] theorem Dev.wr8_calTemp (d : Dev) (a : Nat) (b : Byte) : (d.wr8 a b).calTemp = d.calTemp := rfl
@[simp] theorem Dev.wr8_calAsk (d : Dev) (a : Nat) (b : Byte) : (d.wr8 a b).calAsk = d.calAsk := rfl
@[simp] theorem Dev.wr8_calStore (d : Dev) (a : Nat) (b : Byte) : (d.wr8 a b).calStore = d.calStore := rfl
@[simp] theorem Dev.wr8_convs (d : Dev) (a : Nat) (b : Byte) : (d.wr8 a b).convs = d.convs := rfl
@[simp] theorem Dev.wr8_caps (d : Dev) (a : Nat) (b : Byte) : (d.wr8 a b).caps = d.caps := rfl
@[simp] theorem Dev.wr8_capSpare (d : Dev) (a : Nat) (b : Byte) : (d.wr8 a b).capSpare = d.capSpare := rfl
@[simp] theorem Dev.wr8_capAge (d : Dev) (a : Nat) (b : Byte) : (d.wr8 a b).capAge = d.capAge := rfl
@[simp] theorem Dev.wr8_slices (d : Dev) (a : Nat) (b : Byte) : (d.wr8 a b).slices = d.slices := rfl
@[simp] theorem Dev.wr8_restores (d : Dev) (a : Nat) (b : Byte) : (d.wr8 a b).restores = d.restores := rfl
@[simp] theorem Dev.wr8_nextUnit (d : Dev) (a : Nat) (b : Byte) : (d.wr8 a b).nextUnit = d.nextUnit := rfl
@[simp] theorem Dev.wr8_retry (d : Dev) (a : Nat) (b : Byte) : (d.wr8 a b).retry = d.retry := rfl
@[simp] theorem Dev.wr8_gapTurn (d : Dev) (a : Nat) (b : Byte) : (d.wr8 a b).gapTurn = d.gapTurn := rfl
@[simp] theorem Dev.wr8_sigHi (d : Dev) (a : Nat) (b : Byte) : (d.wr8 a b).sigHi = d.sigHi := rfl
@[simp] theorem Dev.wr8_pllOut (d : Dev) (a : Nat) (b : Byte) : (d.wr8 a b).pllOut = d.pllOut := rfl
@[simp] theorem Dev.wr8_srpLog (d : Dev) (a : Nat) (b : Byte) : (d.wr8 a b).srpLog = d.srpLog := rfl
@[simp] theorem Dev.wr8_modeAsk (d : Dev) (a : Nat) (b : Byte) : (d.wr8 a b).modeAsk = d.modeAsk := rfl
@[simp] theorem Dev.wr8_relayUp (d : Dev) (a : Nat) (b : Byte) : (d.wr8 a b).relayUp = d.relayUp := rfl
@[simp] theorem Dev.wr8_safeDue (d : Dev) (a : Nat) (b : Byte) : (d.wr8 a b).safeDue = d.safeDue := rfl
@[simp] theorem Dev.wr8_frzDue (d : Dev) (a : Nat) (b : Byte) : (d.wr8 a b).frzDue = d.frzDue := rfl
@[simp] theorem Dev.wr8_dogWait (d : Dev) (a : Nat) (b : Byte) : (d.wr8 a b).dogWait = d.dogWait := rfl
@[simp] theorem Dev.wr8_warm (d : Dev) (a : Nat) (b : Byte) : (d.wr8 a b).warm = d.warm := rfl
@[simp] theorem Dev.wr8_ctlRestart (d : Dev) (a : Nat) (b : Byte) : (d.wr8 a b).ctlRestart = d.ctlRestart := rfl
@[simp] theorem Dev.wr8_smb (d : Dev) (a : Nat) (b : Byte) : (d.wr8 a b).smb = d.smb := rfl
@[simp] theorem Dev.wr8_tap (d : Dev) (a : Nat) (b : Byte) : (d.wr8 a b).tap = d.tap := rfl
@[simp] theorem Dev.wr8_otpBlocked (d : Dev) (a : Nat) (b : Byte) : (d.wr8 a b).otpBlocked = d.otpBlocked := rfl
@[simp] theorem Dev.wr8_vauxLost (d : Dev) (a : Nat) (b : Byte) : (d.wr8 a b).vauxLost = d.vauxLost := rfl
@[simp] theorem Dev.wr8_guardCnt (d : Dev) (a : Nat) (b : Byte) : (d.wr8 a b).guardCnt = d.guardCnt := rfl
@[simp] theorem Dev.wr8_tasks (d : Dev) (a : Nat) (b : Byte) : (d.wr8 a b).tasks = d.tasks := rfl
@[simp] theorem Dev.wr8_guardWin (d : Dev) (a : Nat) (b : Byte) : (d.wr8 a b).guardWin = d.guardWin := rfl
@[simp] theorem Dev.wr8_fwIrq (d : Dev) (a : Nat) (b : Byte) : (d.wr8 a b).fwIrq = d.fwIrq := rfl
@[simp] theorem Dev.wr8_secIn (d : Dev) (a : Nat) (b : Byte) : (d.wr8 a b).secIn = d.secIn := rfl
@[simp] theorem Dev.wr8_pba (d : Dev) (a : Nat) (b : Byte) : (d.wr8 a b).pba = d.pba := rfl
@[simp] theorem Dev.wr8_mkIn (d : Dev) (a : Nat) (b : Byte) : (d.wr8 a b).mkIn = d.mkIn := rfl
@[simp] theorem Dev.wr8_edges (d : Dev) (a : Nat) (b : Byte) : (d.wr8 a b).edges = d.edges := rfl
@[simp] theorem Dev.wr8_rillLines (d : Dev) (a : Nat) (b : Byte) : (d.wr8 a b).rillLines = d.rillLines := rfl
@[simp] theorem Dev.wr8_lvlNow (d : Dev) (a : Nat) (b : Byte) : (d.wr8 a b).lvlNow = d.lvlNow := rfl
@[simp] theorem Dev.wr8_mkoHist (d : Dev) (a : Nat) (b : Byte) : (d.wr8 a b).mkoHist = d.mkoHist := rfl
@[simp] theorem Dev.wr8_stamps (d : Dev) (a : Nat) (b : Byte) : (d.wr8 a b).stamps = d.stamps := rfl
@[simp] theorem Dev.wr8_stampSpill (d : Dev) (a : Nat) (b : Byte) : (d.wr8 a b).stampSpill = d.stampSpill := rfl
@[simp] theorem Dev.wr8_stampSeq (d : Dev) (a : Nat) (b : Byte) : (d.wr8 a b).stampSeq = d.stampSeq := rfl
@[simp] theorem Dev.wr8_cycle (d : Dev) (a : Nat) (b : Byte) : (d.wr8 a b).cycle = d.cycle := rfl
@[simp] theorem Dev.wr8_bbx (d : Dev) (a : Nat) (b : Byte) : (d.wr8 a b).bbx = d.bbx := rfl
@[simp] theorem Dev.wr8_freeze (d : Dev) (a : Nat) (b : Byte) : (d.wr8 a b).freeze = d.freeze := rfl

@[simp] theorem Dev.clearMem_regs (d : Dev) (a n : Nat) : (d.clearMem a n).regs = d.regs := rfl
@[simp] theorem Dev.clearMem_otp (d : Dev) (a n : Nat) : (d.clearMem a n).otp = d.otp := rfl
@[simp] theorem Dev.clearMem_rdata (d : Dev) (a n : Nat) : (d.clearMem a n).rdata = d.rdata := rfl
@[simp] theorem Dev.clearMem_tk (d : Dev) (a n : Nat) : (d.clearMem a n).tk = d.tk := rfl
@[simp] theorem Dev.clearMem_xtal (d : Dev) (a n : Nat) : (d.clearMem a n).xtal = d.xtal := rfl
@[simp] theorem Dev.clearMem_free (d : Dev) (a n : Nat) : (d.clearMem a n).free = d.free := rfl
@[simp] theorem Dev.clearMem_raised (d : Dev) (a n : Nat) : (d.clearMem a n).raised = d.raised := rfl
@[simp] theorem Dev.clearMem_w1cNow (d : Dev) (a n : Nat) : (d.clearMem a n).w1cNow = d.w1cNow := rfl
@[simp] theorem Dev.clearMem_shot (d : Dev) (a n : Nat) : (d.clearMem a n).shot = d.shot := rfl
@[simp] theorem Dev.clearMem_round (d : Dev) (a n : Nat) : (d.clearMem a n).round = d.round := rfl
@[simp] theorem Dev.clearMem_taint (d : Dev) (a n : Nat) : (d.clearMem a n).taint = d.taint := rfl
@[simp] theorem Dev.clearMem_shotLo (d : Dev) (a n : Nat) : (d.clearMem a n).shotLo = d.shotLo := rfl
@[simp] theorem Dev.clearMem_shotHiShadow (d : Dev) (a n : Nat) : (d.clearMem a n).shotHiShadow = d.shotHiShadow := rfl
@[simp] theorem Dev.clearMem_asapNew (d : Dev) (a n : Nat) : (d.clearMem a n).asapNew = d.asapNew := rfl
@[simp] theorem Dev.clearMem_asapDue (d : Dev) (a n : Nat) : (d.clearMem a n).asapDue = d.asapDue := rfl
@[simp] theorem Dev.clearMem_pgs (d : Dev) (a n : Nat) : (d.clearMem a n).pgs = d.pgs := rfl
@[simp] theorem Dev.clearMem_tmlSh (d : Dev) (a n : Nat) : (d.clearMem a n).tmlSh = d.tmlSh := rfl
@[simp] theorem Dev.clearMem_ocs (d : Dev) (a n : Nat) : (d.clearMem a n).ocs = d.ocs := rfl
@[simp] theorem Dev.clearMem_slots (d : Dev) (a n : Nat) : (d.clearMem a n).slots = d.slots := rfl
@[simp] theorem Dev.clearMem_shotTk (d : Dev) (a n : Nat) : (d.clearMem a n).shotTk = d.shotTk := rfl
@[simp] theorem Dev.clearMem_taintTk (d : Dev) (a n : Nat) : (d.clearMem a n).taintTk = d.taintTk := rfl
@[simp] theorem Dev.clearMem_staged (d : Dev) (a n : Nat) : (d.clearMem a n).staged = d.staged := rfl
@[simp] theorem Dev.clearMem_force (d : Dev) (a n : Nat) : (d.clearMem a n).force = d.force := rfl
@[simp] theorem Dev.clearMem_eras (d : Dev) (a n : Nat) : (d.clearMem a n).eras = d.eras := rfl
@[simp] theorem Dev.clearMem_labels (d : Dev) (a n : Nat) : (d.clearMem a n).labels = d.labels := rfl
@[simp] theorem Dev.clearMem_gsSoon (d : Dev) (a n : Nat) : (d.clearMem a n).gsSoon = d.gsSoon := rfl
@[simp] theorem Dev.clearMem_gsNext (d : Dev) (a n : Nat) : (d.clearMem a n).gsNext = d.gsNext := rfl
@[simp] theorem Dev.clearMem_gsDone (d : Dev) (a n : Nat) : (d.clearMem a n).gsDone = d.gsDone := rfl
@[simp] theorem Dev.clearMem_lateRegs (d : Dev) (a n : Nat) : (d.clearMem a n).lateRegs = d.lateRegs := rfl
@[simp] theorem Dev.clearMem_lateMem (d : Dev) (a n : Nat) : (d.clearMem a n).lateMem = d.lateMem := rfl
@[simp] theorem Dev.clearMem_urt (d : Dev) (a n : Nat) : (d.clearMem a n).urt = d.urt := rfl
@[simp] theorem Dev.clearMem_mcBad (d : Dev) (a n : Nat) : (d.clearMem a n).mcBad = d.mcBad := rfl
@[simp] theorem Dev.clearMem_ucommit (d : Dev) (a n : Nat) : (d.clearMem a n).ucommit = d.ucommit := rfl
@[simp] theorem Dev.clearMem_frameWr (d : Dev) (a n : Nat) : (d.clearMem a n).frameWr = d.frameWr := rfl
@[simp] theorem Dev.clearMem_ics (d : Dev) (a n : Nat) : (d.clearMem a n).ics = d.ics := rfl
@[simp] theorem Dev.clearMem_colWait (d : Dev) (a n : Nat) : (d.clearMem a n).colWait = d.colWait := rfl
@[simp] theorem Dev.clearMem_colTaken (d : Dev) (a n : Nat) : (d.clearMem a n).colTaken = d.colTaken := rfl
@[simp] theorem Dev.clearMem_transit (d : Dev) (a n : Nat) : (d.clearMem a n).transit = d.transit := rfl
@[simp] theorem Dev.clearMem_loWrites (d : Dev) (a n : Nat) : (d.clearMem a n).loWrites = d.loWrites := rfl
@[simp] theorem Dev.clearMem_sieve (d : Dev) (a n : Nat) : (d.clearMem a n).sieve = d.sieve := rfl
@[simp] theorem Dev.clearMem_decq (d : Dev) (a n : Nat) : (d.clearMem a n).decq = d.decq := rfl
@[simp] theorem Dev.clearMem_sieveq (d : Dev) (a n : Nat) : (d.clearMem a n).sieveq = d.sieveq := rfl
@[simp] theorem Dev.clearMem_mkIntake (d : Dev) (a n : Nat) : (d.clearMem a n).mkIntake = d.mkIntake := rfl
@[simp] theorem Dev.clearMem_wit (d : Dev) (a n : Nat) : (d.clearMem a n).wit = d.wit := rfl
@[simp] theorem Dev.clearMem_trigq (d : Dev) (a n : Nat) : (d.clearMem a n).trigq = d.trigq := rfl
@[simp] theorem Dev.clearMem_links (d : Dev) (a n : Nat) : (d.clearMem a n).links = d.links := rfl
@[simp] theorem Dev.clearMem_inbox (d : Dev) (a n : Nat) : (d.clearMem a n).inbox = d.inbox := rfl
@[simp] theorem Dev.clearMem_dmas (d : Dev) (a n : Nat) : (d.clearMem a n).dmas = d.dmas := rfl
@[simp] theorem Dev.clearMem_dmaLast (d : Dev) (a n : Nat) : (d.clearMem a n).dmaLast = d.dmaLast := rfl
@[simp] theorem Dev.clearMem_dmaTick (d : Dev) (a n : Nat) : (d.clearMem a n).dmaTick = d.dmaTick := rfl
@[simp] theorem Dev.clearMem_remotes (d : Dev) (a n : Nat) : (d.clearMem a n).remotes = d.remotes := rfl
@[simp] theorem Dev.clearMem_hostWr (d : Dev) (a n : Nat) : (d.clearMem a n).hostWr = d.hostWr := rfl
@[simp] theorem Dev.clearMem_lateReads (d : Dev) (a n : Nat) : (d.clearMem a n).lateReads = d.lateReads := rfl
@[simp] theorem Dev.clearMem_pci (d : Dev) (a n : Nat) : (d.clearMem a n).pci = d.pci := rfl
@[simp] theorem Dev.clearMem_rlyTk (d : Dev) (a n : Nat) : (d.clearMem a n).rlyTk = d.rlyTk := rfl
@[simp] theorem Dev.clearMem_perstLow (d : Dev) (a n : Nat) : (d.clearMem a n).perstLow = d.perstLow := rfl
@[simp] theorem Dev.clearMem_msixSent (d : Dev) (a n : Nat) : (d.clearMem a n).msixSent = d.msixSent := rfl
@[simp] theorem Dev.clearMem_ramp (d : Dev) (a n : Nat) : (d.clearMem a n).ramp = d.ramp := rfl
@[simp] theorem Dev.clearMem_rehyQ (d : Dev) (a n : Nat) : (d.clearMem a n).rehyQ = d.rehyQ := rfl
@[simp] theorem Dev.clearMem_boot (d : Dev) (a n : Nat) : (d.clearMem a n).boot = d.boot := rfl
@[simp] theorem Dev.clearMem_flash (d : Dev) (a n : Nat) : (d.clearMem a n).flash = d.flash := rfl
@[simp] theorem Dev.clearMem_mcChain (d : Dev) (a n : Nat) : (d.clearMem a n).mcChain = d.mcChain := rfl
@[simp] theorem Dev.clearMem_reports (d : Dev) (a n : Nat) : (d.clearMem a n).reports = d.reports := rfl
@[simp] theorem Dev.clearMem_attesting (d : Dev) (a n : Nat) : (d.clearMem a n).attesting = d.attesting := rfl
@[simp] theorem Dev.clearMem_logNext (d : Dev) (a n : Nat) : (d.clearMem a n).logNext = d.logNext := rfl
@[simp] theorem Dev.clearMem_heat (d : Dev) (a n : Nat) : (d.clearMem a n).heat = d.heat := rfl
@[simp] theorem Dev.clearMem_askedTk (d : Dev) (a n : Nat) : (d.clearMem a n).askedTk = d.askedTk := rfl
@[simp] theorem Dev.clearMem_calStaged (d : Dev) (a n : Nat) : (d.clearMem a n).calStaged = d.calStaged := rfl
@[simp] theorem Dev.clearMem_calApplied (d : Dev) (a n : Nat) : (d.clearMem a n).calApplied = d.calApplied := rfl
@[simp] theorem Dev.clearMem_calChoice (d : Dev) (a n : Nat) : (d.clearMem a n).calChoice = d.calChoice := rfl
@[simp] theorem Dev.clearMem_calTk (d : Dev) (a n : Nat) : (d.clearMem a n).calTk = d.calTk := rfl
@[simp] theorem Dev.clearMem_nospareTaint (d : Dev) (a n : Nat) : (d.clearMem a n).nospareTaint = d.nospareTaint := rfl
@[simp] theorem Dev.clearMem_calQ (d : Dev) (a n : Nat) : (d.clearMem a n).calQ = d.calQ := rfl
@[simp] theorem Dev.clearMem_calTemp (d : Dev) (a n : Nat) : (d.clearMem a n).calTemp = d.calTemp := rfl
@[simp] theorem Dev.clearMem_calAsk (d : Dev) (a n : Nat) : (d.clearMem a n).calAsk = d.calAsk := rfl
@[simp] theorem Dev.clearMem_calStore (d : Dev) (a n : Nat) : (d.clearMem a n).calStore = d.calStore := rfl
@[simp] theorem Dev.clearMem_convs (d : Dev) (a n : Nat) : (d.clearMem a n).convs = d.convs := rfl
@[simp] theorem Dev.clearMem_caps (d : Dev) (a n : Nat) : (d.clearMem a n).caps = d.caps := rfl
@[simp] theorem Dev.clearMem_capSpare (d : Dev) (a n : Nat) : (d.clearMem a n).capSpare = d.capSpare := rfl
@[simp] theorem Dev.clearMem_capAge (d : Dev) (a n : Nat) : (d.clearMem a n).capAge = d.capAge := rfl
@[simp] theorem Dev.clearMem_slices (d : Dev) (a n : Nat) : (d.clearMem a n).slices = d.slices := rfl
@[simp] theorem Dev.clearMem_restores (d : Dev) (a n : Nat) : (d.clearMem a n).restores = d.restores := rfl
@[simp] theorem Dev.clearMem_nextUnit (d : Dev) (a n : Nat) : (d.clearMem a n).nextUnit = d.nextUnit := rfl
@[simp] theorem Dev.clearMem_retry (d : Dev) (a n : Nat) : (d.clearMem a n).retry = d.retry := rfl
@[simp] theorem Dev.clearMem_gapTurn (d : Dev) (a n : Nat) : (d.clearMem a n).gapTurn = d.gapTurn := rfl
@[simp] theorem Dev.clearMem_sigHi (d : Dev) (a n : Nat) : (d.clearMem a n).sigHi = d.sigHi := rfl
@[simp] theorem Dev.clearMem_pllOut (d : Dev) (a n : Nat) : (d.clearMem a n).pllOut = d.pllOut := rfl
@[simp] theorem Dev.clearMem_srpLog (d : Dev) (a n : Nat) : (d.clearMem a n).srpLog = d.srpLog := rfl
@[simp] theorem Dev.clearMem_modeAsk (d : Dev) (a n : Nat) : (d.clearMem a n).modeAsk = d.modeAsk := rfl
@[simp] theorem Dev.clearMem_relayUp (d : Dev) (a n : Nat) : (d.clearMem a n).relayUp = d.relayUp := rfl
@[simp] theorem Dev.clearMem_safeDue (d : Dev) (a n : Nat) : (d.clearMem a n).safeDue = d.safeDue := rfl
@[simp] theorem Dev.clearMem_frzDue (d : Dev) (a n : Nat) : (d.clearMem a n).frzDue = d.frzDue := rfl
@[simp] theorem Dev.clearMem_dogWait (d : Dev) (a n : Nat) : (d.clearMem a n).dogWait = d.dogWait := rfl
@[simp] theorem Dev.clearMem_warm (d : Dev) (a n : Nat) : (d.clearMem a n).warm = d.warm := rfl
@[simp] theorem Dev.clearMem_ctlRestart (d : Dev) (a n : Nat) : (d.clearMem a n).ctlRestart = d.ctlRestart := rfl
@[simp] theorem Dev.clearMem_smb (d : Dev) (a n : Nat) : (d.clearMem a n).smb = d.smb := rfl
@[simp] theorem Dev.clearMem_tap (d : Dev) (a n : Nat) : (d.clearMem a n).tap = d.tap := rfl
@[simp] theorem Dev.clearMem_otpBlocked (d : Dev) (a n : Nat) : (d.clearMem a n).otpBlocked = d.otpBlocked := rfl
@[simp] theorem Dev.clearMem_vauxLost (d : Dev) (a n : Nat) : (d.clearMem a n).vauxLost = d.vauxLost := rfl
@[simp] theorem Dev.clearMem_guardCnt (d : Dev) (a n : Nat) : (d.clearMem a n).guardCnt = d.guardCnt := rfl
@[simp] theorem Dev.clearMem_tasks (d : Dev) (a n : Nat) : (d.clearMem a n).tasks = d.tasks := rfl
@[simp] theorem Dev.clearMem_guardWin (d : Dev) (a n : Nat) : (d.clearMem a n).guardWin = d.guardWin := rfl
@[simp] theorem Dev.clearMem_fwIrq (d : Dev) (a n : Nat) : (d.clearMem a n).fwIrq = d.fwIrq := rfl
@[simp] theorem Dev.clearMem_secIn (d : Dev) (a n : Nat) : (d.clearMem a n).secIn = d.secIn := rfl
@[simp] theorem Dev.clearMem_pba (d : Dev) (a n : Nat) : (d.clearMem a n).pba = d.pba := rfl
@[simp] theorem Dev.clearMem_mkIn (d : Dev) (a n : Nat) : (d.clearMem a n).mkIn = d.mkIn := rfl
@[simp] theorem Dev.clearMem_edges (d : Dev) (a n : Nat) : (d.clearMem a n).edges = d.edges := rfl
@[simp] theorem Dev.clearMem_rillLines (d : Dev) (a n : Nat) : (d.clearMem a n).rillLines = d.rillLines := rfl
@[simp] theorem Dev.clearMem_lvlNow (d : Dev) (a n : Nat) : (d.clearMem a n).lvlNow = d.lvlNow := rfl
@[simp] theorem Dev.clearMem_mkoHist (d : Dev) (a n : Nat) : (d.clearMem a n).mkoHist = d.mkoHist := rfl
@[simp] theorem Dev.clearMem_stamps (d : Dev) (a n : Nat) : (d.clearMem a n).stamps = d.stamps := rfl
@[simp] theorem Dev.clearMem_stampSpill (d : Dev) (a n : Nat) : (d.clearMem a n).stampSpill = d.stampSpill := rfl
@[simp] theorem Dev.clearMem_stampSeq (d : Dev) (a n : Nat) : (d.clearMem a n).stampSeq = d.stampSeq := rfl
@[simp] theorem Dev.clearMem_cycle (d : Dev) (a n : Nat) : (d.clearMem a n).cycle = d.cycle := rfl
@[simp] theorem Dev.clearMem_bbx (d : Dev) (a n : Nat) : (d.clearMem a n).bbx = d.bbx := rfl
@[simp] theorem Dev.clearMem_freeze (d : Dev) (a n : Nat) : (d.clearMem a n).freeze = d.freeze := rfl

@[simp] theorem Dev.setOc_regs (d : Dev) (n : Nat) (x : OcSt) : (d.setOc n x).regs = d.regs := rfl
@[simp] theorem Dev.setOc_mem (d : Dev) (n : Nat) (x : OcSt) : (d.setOc n x).mem = d.mem := rfl
@[simp] theorem Dev.setOc_otp (d : Dev) (n : Nat) (x : OcSt) : (d.setOc n x).otp = d.otp := rfl
@[simp] theorem Dev.setOc_rdata (d : Dev) (n : Nat) (x : OcSt) : (d.setOc n x).rdata = d.rdata := rfl
@[simp] theorem Dev.setOc_tk (d : Dev) (n : Nat) (x : OcSt) : (d.setOc n x).tk = d.tk := rfl
@[simp] theorem Dev.setOc_xtal (d : Dev) (n : Nat) (x : OcSt) : (d.setOc n x).xtal = d.xtal := rfl
@[simp] theorem Dev.setOc_free (d : Dev) (n : Nat) (x : OcSt) : (d.setOc n x).free = d.free := rfl
@[simp] theorem Dev.setOc_raised (d : Dev) (n : Nat) (x : OcSt) : (d.setOc n x).raised = d.raised := rfl
@[simp] theorem Dev.setOc_w1cNow (d : Dev) (n : Nat) (x : OcSt) : (d.setOc n x).w1cNow = d.w1cNow := rfl
@[simp] theorem Dev.setOc_shot (d : Dev) (n : Nat) (x : OcSt) : (d.setOc n x).shot = d.shot := rfl
@[simp] theorem Dev.setOc_round (d : Dev) (n : Nat) (x : OcSt) : (d.setOc n x).round = d.round := rfl
@[simp] theorem Dev.setOc_taint (d : Dev) (n : Nat) (x : OcSt) : (d.setOc n x).taint = d.taint := rfl
@[simp] theorem Dev.setOc_shotLo (d : Dev) (n : Nat) (x : OcSt) : (d.setOc n x).shotLo = d.shotLo := rfl
@[simp] theorem Dev.setOc_shotHiShadow (d : Dev) (n : Nat) (x : OcSt) : (d.setOc n x).shotHiShadow = d.shotHiShadow := rfl
@[simp] theorem Dev.setOc_asapNew (d : Dev) (n : Nat) (x : OcSt) : (d.setOc n x).asapNew = d.asapNew := rfl
@[simp] theorem Dev.setOc_asapDue (d : Dev) (n : Nat) (x : OcSt) : (d.setOc n x).asapDue = d.asapDue := rfl
@[simp] theorem Dev.setOc_pgs (d : Dev) (n : Nat) (x : OcSt) : (d.setOc n x).pgs = d.pgs := rfl
@[simp] theorem Dev.setOc_tmlSh (d : Dev) (n : Nat) (x : OcSt) : (d.setOc n x).tmlSh = d.tmlSh := rfl
@[simp] theorem Dev.setOc_slots (d : Dev) (n : Nat) (x : OcSt) : (d.setOc n x).slots = d.slots := rfl
@[simp] theorem Dev.setOc_shotTk (d : Dev) (n : Nat) (x : OcSt) : (d.setOc n x).shotTk = d.shotTk := rfl
@[simp] theorem Dev.setOc_taintTk (d : Dev) (n : Nat) (x : OcSt) : (d.setOc n x).taintTk = d.taintTk := rfl
@[simp] theorem Dev.setOc_staged (d : Dev) (n : Nat) (x : OcSt) : (d.setOc n x).staged = d.staged := rfl
@[simp] theorem Dev.setOc_force (d : Dev) (n : Nat) (x : OcSt) : (d.setOc n x).force = d.force := rfl
@[simp] theorem Dev.setOc_eras (d : Dev) (n : Nat) (x : OcSt) : (d.setOc n x).eras = d.eras := rfl
@[simp] theorem Dev.setOc_labels (d : Dev) (n : Nat) (x : OcSt) : (d.setOc n x).labels = d.labels := rfl
@[simp] theorem Dev.setOc_gsSoon (d : Dev) (n : Nat) (x : OcSt) : (d.setOc n x).gsSoon = d.gsSoon := rfl
@[simp] theorem Dev.setOc_gsNext (d : Dev) (n : Nat) (x : OcSt) : (d.setOc n x).gsNext = d.gsNext := rfl
@[simp] theorem Dev.setOc_gsDone (d : Dev) (n : Nat) (x : OcSt) : (d.setOc n x).gsDone = d.gsDone := rfl
@[simp] theorem Dev.setOc_lateRegs (d : Dev) (n : Nat) (x : OcSt) : (d.setOc n x).lateRegs = d.lateRegs := rfl
@[simp] theorem Dev.setOc_lateMem (d : Dev) (n : Nat) (x : OcSt) : (d.setOc n x).lateMem = d.lateMem := rfl
@[simp] theorem Dev.setOc_urt (d : Dev) (n : Nat) (x : OcSt) : (d.setOc n x).urt = d.urt := rfl
@[simp] theorem Dev.setOc_mcBad (d : Dev) (n : Nat) (x : OcSt) : (d.setOc n x).mcBad = d.mcBad := rfl
@[simp] theorem Dev.setOc_ucommit (d : Dev) (n : Nat) (x : OcSt) : (d.setOc n x).ucommit = d.ucommit := rfl
@[simp] theorem Dev.setOc_frameWr (d : Dev) (n : Nat) (x : OcSt) : (d.setOc n x).frameWr = d.frameWr := rfl
@[simp] theorem Dev.setOc_ics (d : Dev) (n : Nat) (x : OcSt) : (d.setOc n x).ics = d.ics := rfl
@[simp] theorem Dev.setOc_colWait (d : Dev) (n : Nat) (x : OcSt) : (d.setOc n x).colWait = d.colWait := rfl
@[simp] theorem Dev.setOc_colTaken (d : Dev) (n : Nat) (x : OcSt) : (d.setOc n x).colTaken = d.colTaken := rfl
@[simp] theorem Dev.setOc_transit (d : Dev) (n : Nat) (x : OcSt) : (d.setOc n x).transit = d.transit := rfl
@[simp] theorem Dev.setOc_loWrites (d : Dev) (n : Nat) (x : OcSt) : (d.setOc n x).loWrites = d.loWrites := rfl
@[simp] theorem Dev.setOc_sieve (d : Dev) (n : Nat) (x : OcSt) : (d.setOc n x).sieve = d.sieve := rfl
@[simp] theorem Dev.setOc_decq (d : Dev) (n : Nat) (x : OcSt) : (d.setOc n x).decq = d.decq := rfl
@[simp] theorem Dev.setOc_sieveq (d : Dev) (n : Nat) (x : OcSt) : (d.setOc n x).sieveq = d.sieveq := rfl
@[simp] theorem Dev.setOc_mkIntake (d : Dev) (n : Nat) (x : OcSt) : (d.setOc n x).mkIntake = d.mkIntake := rfl
@[simp] theorem Dev.setOc_wit (d : Dev) (n : Nat) (x : OcSt) : (d.setOc n x).wit = d.wit := rfl
@[simp] theorem Dev.setOc_trigq (d : Dev) (n : Nat) (x : OcSt) : (d.setOc n x).trigq = d.trigq := rfl
@[simp] theorem Dev.setOc_links (d : Dev) (n : Nat) (x : OcSt) : (d.setOc n x).links = d.links := rfl
@[simp] theorem Dev.setOc_inbox (d : Dev) (n : Nat) (x : OcSt) : (d.setOc n x).inbox = d.inbox := rfl
@[simp] theorem Dev.setOc_dmas (d : Dev) (n : Nat) (x : OcSt) : (d.setOc n x).dmas = d.dmas := rfl
@[simp] theorem Dev.setOc_dmaLast (d : Dev) (n : Nat) (x : OcSt) : (d.setOc n x).dmaLast = d.dmaLast := rfl
@[simp] theorem Dev.setOc_dmaTick (d : Dev) (n : Nat) (x : OcSt) : (d.setOc n x).dmaTick = d.dmaTick := rfl
@[simp] theorem Dev.setOc_remotes (d : Dev) (n : Nat) (x : OcSt) : (d.setOc n x).remotes = d.remotes := rfl
@[simp] theorem Dev.setOc_hostWr (d : Dev) (n : Nat) (x : OcSt) : (d.setOc n x).hostWr = d.hostWr := rfl
@[simp] theorem Dev.setOc_lateReads (d : Dev) (n : Nat) (x : OcSt) : (d.setOc n x).lateReads = d.lateReads := rfl
@[simp] theorem Dev.setOc_pci (d : Dev) (n : Nat) (x : OcSt) : (d.setOc n x).pci = d.pci := rfl
@[simp] theorem Dev.setOc_rlyTk (d : Dev) (n : Nat) (x : OcSt) : (d.setOc n x).rlyTk = d.rlyTk := rfl
@[simp] theorem Dev.setOc_perstLow (d : Dev) (n : Nat) (x : OcSt) : (d.setOc n x).perstLow = d.perstLow := rfl
@[simp] theorem Dev.setOc_msixSent (d : Dev) (n : Nat) (x : OcSt) : (d.setOc n x).msixSent = d.msixSent := rfl
@[simp] theorem Dev.setOc_ramp (d : Dev) (n : Nat) (x : OcSt) : (d.setOc n x).ramp = d.ramp := rfl
@[simp] theorem Dev.setOc_rehyQ (d : Dev) (n : Nat) (x : OcSt) : (d.setOc n x).rehyQ = d.rehyQ := rfl
@[simp] theorem Dev.setOc_boot (d : Dev) (n : Nat) (x : OcSt) : (d.setOc n x).boot = d.boot := rfl
@[simp] theorem Dev.setOc_flash (d : Dev) (n : Nat) (x : OcSt) : (d.setOc n x).flash = d.flash := rfl
@[simp] theorem Dev.setOc_mcChain (d : Dev) (n : Nat) (x : OcSt) : (d.setOc n x).mcChain = d.mcChain := rfl
@[simp] theorem Dev.setOc_reports (d : Dev) (n : Nat) (x : OcSt) : (d.setOc n x).reports = d.reports := rfl
@[simp] theorem Dev.setOc_attesting (d : Dev) (n : Nat) (x : OcSt) : (d.setOc n x).attesting = d.attesting := rfl
@[simp] theorem Dev.setOc_logNext (d : Dev) (n : Nat) (x : OcSt) : (d.setOc n x).logNext = d.logNext := rfl
@[simp] theorem Dev.setOc_heat (d : Dev) (n : Nat) (x : OcSt) : (d.setOc n x).heat = d.heat := rfl
@[simp] theorem Dev.setOc_askedTk (d : Dev) (n : Nat) (x : OcSt) : (d.setOc n x).askedTk = d.askedTk := rfl
@[simp] theorem Dev.setOc_calStaged (d : Dev) (n : Nat) (x : OcSt) : (d.setOc n x).calStaged = d.calStaged := rfl
@[simp] theorem Dev.setOc_calApplied (d : Dev) (n : Nat) (x : OcSt) : (d.setOc n x).calApplied = d.calApplied := rfl
@[simp] theorem Dev.setOc_calChoice (d : Dev) (n : Nat) (x : OcSt) : (d.setOc n x).calChoice = d.calChoice := rfl
@[simp] theorem Dev.setOc_calTk (d : Dev) (n : Nat) (x : OcSt) : (d.setOc n x).calTk = d.calTk := rfl
@[simp] theorem Dev.setOc_nospareTaint (d : Dev) (n : Nat) (x : OcSt) : (d.setOc n x).nospareTaint = d.nospareTaint := rfl
@[simp] theorem Dev.setOc_calQ (d : Dev) (n : Nat) (x : OcSt) : (d.setOc n x).calQ = d.calQ := rfl
@[simp] theorem Dev.setOc_calTemp (d : Dev) (n : Nat) (x : OcSt) : (d.setOc n x).calTemp = d.calTemp := rfl
@[simp] theorem Dev.setOc_calAsk (d : Dev) (n : Nat) (x : OcSt) : (d.setOc n x).calAsk = d.calAsk := rfl
@[simp] theorem Dev.setOc_calStore (d : Dev) (n : Nat) (x : OcSt) : (d.setOc n x).calStore = d.calStore := rfl
@[simp] theorem Dev.setOc_convs (d : Dev) (n : Nat) (x : OcSt) : (d.setOc n x).convs = d.convs := rfl
@[simp] theorem Dev.setOc_caps (d : Dev) (n : Nat) (x : OcSt) : (d.setOc n x).caps = d.caps := rfl
@[simp] theorem Dev.setOc_capSpare (d : Dev) (n : Nat) (x : OcSt) : (d.setOc n x).capSpare = d.capSpare := rfl
@[simp] theorem Dev.setOc_capAge (d : Dev) (n : Nat) (x : OcSt) : (d.setOc n x).capAge = d.capAge := rfl
@[simp] theorem Dev.setOc_slices (d : Dev) (n : Nat) (x : OcSt) : (d.setOc n x).slices = d.slices := rfl
@[simp] theorem Dev.setOc_restores (d : Dev) (n : Nat) (x : OcSt) : (d.setOc n x).restores = d.restores := rfl
@[simp] theorem Dev.setOc_nextUnit (d : Dev) (n : Nat) (x : OcSt) : (d.setOc n x).nextUnit = d.nextUnit := rfl
@[simp] theorem Dev.setOc_retry (d : Dev) (n : Nat) (x : OcSt) : (d.setOc n x).retry = d.retry := rfl
@[simp] theorem Dev.setOc_gapTurn (d : Dev) (n : Nat) (x : OcSt) : (d.setOc n x).gapTurn = d.gapTurn := rfl
@[simp] theorem Dev.setOc_sigHi (d : Dev) (n : Nat) (x : OcSt) : (d.setOc n x).sigHi = d.sigHi := rfl
@[simp] theorem Dev.setOc_pllOut (d : Dev) (n : Nat) (x : OcSt) : (d.setOc n x).pllOut = d.pllOut := rfl
@[simp] theorem Dev.setOc_srpLog (d : Dev) (n : Nat) (x : OcSt) : (d.setOc n x).srpLog = d.srpLog := rfl
@[simp] theorem Dev.setOc_modeAsk (d : Dev) (n : Nat) (x : OcSt) : (d.setOc n x).modeAsk = d.modeAsk := rfl
@[simp] theorem Dev.setOc_relayUp (d : Dev) (n : Nat) (x : OcSt) : (d.setOc n x).relayUp = d.relayUp := rfl
@[simp] theorem Dev.setOc_safeDue (d : Dev) (n : Nat) (x : OcSt) : (d.setOc n x).safeDue = d.safeDue := rfl
@[simp] theorem Dev.setOc_frzDue (d : Dev) (n : Nat) (x : OcSt) : (d.setOc n x).frzDue = d.frzDue := rfl
@[simp] theorem Dev.setOc_dogWait (d : Dev) (n : Nat) (x : OcSt) : (d.setOc n x).dogWait = d.dogWait := rfl
@[simp] theorem Dev.setOc_warm (d : Dev) (n : Nat) (x : OcSt) : (d.setOc n x).warm = d.warm := rfl
@[simp] theorem Dev.setOc_ctlRestart (d : Dev) (n : Nat) (x : OcSt) : (d.setOc n x).ctlRestart = d.ctlRestart := rfl
@[simp] theorem Dev.setOc_smb (d : Dev) (n : Nat) (x : OcSt) : (d.setOc n x).smb = d.smb := rfl
@[simp] theorem Dev.setOc_tap (d : Dev) (n : Nat) (x : OcSt) : (d.setOc n x).tap = d.tap := rfl
@[simp] theorem Dev.setOc_otpBlocked (d : Dev) (n : Nat) (x : OcSt) : (d.setOc n x).otpBlocked = d.otpBlocked := rfl
@[simp] theorem Dev.setOc_vauxLost (d : Dev) (n : Nat) (x : OcSt) : (d.setOc n x).vauxLost = d.vauxLost := rfl
@[simp] theorem Dev.setOc_guardCnt (d : Dev) (n : Nat) (x : OcSt) : (d.setOc n x).guardCnt = d.guardCnt := rfl
@[simp] theorem Dev.setOc_tasks (d : Dev) (n : Nat) (x : OcSt) : (d.setOc n x).tasks = d.tasks := rfl
@[simp] theorem Dev.setOc_guardWin (d : Dev) (n : Nat) (x : OcSt) : (d.setOc n x).guardWin = d.guardWin := rfl
@[simp] theorem Dev.setOc_fwIrq (d : Dev) (n : Nat) (x : OcSt) : (d.setOc n x).fwIrq = d.fwIrq := rfl
@[simp] theorem Dev.setOc_secIn (d : Dev) (n : Nat) (x : OcSt) : (d.setOc n x).secIn = d.secIn := rfl
@[simp] theorem Dev.setOc_pba (d : Dev) (n : Nat) (x : OcSt) : (d.setOc n x).pba = d.pba := rfl
@[simp] theorem Dev.setOc_mkIn (d : Dev) (n : Nat) (x : OcSt) : (d.setOc n x).mkIn = d.mkIn := rfl
@[simp] theorem Dev.setOc_edges (d : Dev) (n : Nat) (x : OcSt) : (d.setOc n x).edges = d.edges := rfl
@[simp] theorem Dev.setOc_rillLines (d : Dev) (n : Nat) (x : OcSt) : (d.setOc n x).rillLines = d.rillLines := rfl
@[simp] theorem Dev.setOc_lvlNow (d : Dev) (n : Nat) (x : OcSt) : (d.setOc n x).lvlNow = d.lvlNow := rfl
@[simp] theorem Dev.setOc_mkoHist (d : Dev) (n : Nat) (x : OcSt) : (d.setOc n x).mkoHist = d.mkoHist := rfl
@[simp] theorem Dev.setOc_stamps (d : Dev) (n : Nat) (x : OcSt) : (d.setOc n x).stamps = d.stamps := rfl
@[simp] theorem Dev.setOc_stampSpill (d : Dev) (n : Nat) (x : OcSt) : (d.setOc n x).stampSpill = d.stampSpill := rfl
@[simp] theorem Dev.setOc_stampSeq (d : Dev) (n : Nat) (x : OcSt) : (d.setOc n x).stampSeq = d.stampSeq := rfl
@[simp] theorem Dev.setOc_cycle (d : Dev) (n : Nat) (x : OcSt) : (d.setOc n x).cycle = d.cycle := rfl
@[simp] theorem Dev.setOc_bbx (d : Dev) (n : Nat) (x : OcSt) : (d.setOc n x).bbx = d.bbx := rfl
@[simp] theorem Dev.setOc_freeze (d : Dev) (n : Nat) (x : OcSt) : (d.setOc n x).freeze = d.freeze := rfl

@[simp] theorem Dev.setEng_regs (d : Dev) (n : Nat) (e : Engine) : (d.setEng n e).regs = d.regs := rfl
@[simp] theorem Dev.setEng_mem (d : Dev) (n : Nat) (e : Engine) : (d.setEng n e).mem = d.mem := rfl
@[simp] theorem Dev.setEng_otp (d : Dev) (n : Nat) (e : Engine) : (d.setEng n e).otp = d.otp := rfl
@[simp] theorem Dev.setEng_rdata (d : Dev) (n : Nat) (e : Engine) : (d.setEng n e).rdata = d.rdata := rfl
@[simp] theorem Dev.setEng_tk (d : Dev) (n : Nat) (e : Engine) : (d.setEng n e).tk = d.tk := rfl
@[simp] theorem Dev.setEng_xtal (d : Dev) (n : Nat) (e : Engine) : (d.setEng n e).xtal = d.xtal := rfl
@[simp] theorem Dev.setEng_free (d : Dev) (n : Nat) (e : Engine) : (d.setEng n e).free = d.free := rfl
@[simp] theorem Dev.setEng_raised (d : Dev) (n : Nat) (e : Engine) : (d.setEng n e).raised = d.raised := rfl
@[simp] theorem Dev.setEng_w1cNow (d : Dev) (n : Nat) (e : Engine) : (d.setEng n e).w1cNow = d.w1cNow := rfl
@[simp] theorem Dev.setEng_shot (d : Dev) (n : Nat) (e : Engine) : (d.setEng n e).shot = d.shot := rfl
@[simp] theorem Dev.setEng_round (d : Dev) (n : Nat) (e : Engine) : (d.setEng n e).round = d.round := rfl
@[simp] theorem Dev.setEng_taint (d : Dev) (n : Nat) (e : Engine) : (d.setEng n e).taint = d.taint := rfl
@[simp] theorem Dev.setEng_shotLo (d : Dev) (n : Nat) (e : Engine) : (d.setEng n e).shotLo = d.shotLo := rfl
@[simp] theorem Dev.setEng_shotHiShadow (d : Dev) (n : Nat) (e : Engine) : (d.setEng n e).shotHiShadow = d.shotHiShadow := rfl
@[simp] theorem Dev.setEng_asapNew (d : Dev) (n : Nat) (e : Engine) : (d.setEng n e).asapNew = d.asapNew := rfl
@[simp] theorem Dev.setEng_asapDue (d : Dev) (n : Nat) (e : Engine) : (d.setEng n e).asapDue = d.asapDue := rfl
@[simp] theorem Dev.setEng_pgs (d : Dev) (n : Nat) (e : Engine) : (d.setEng n e).pgs = d.pgs := rfl
@[simp] theorem Dev.setEng_tmlSh (d : Dev) (n : Nat) (e : Engine) : (d.setEng n e).tmlSh = d.tmlSh := rfl
@[simp] theorem Dev.setEng_slots (d : Dev) (n : Nat) (e : Engine) : (d.setEng n e).slots = d.slots := rfl
@[simp] theorem Dev.setEng_shotTk (d : Dev) (n : Nat) (e : Engine) : (d.setEng n e).shotTk = d.shotTk := rfl
@[simp] theorem Dev.setEng_taintTk (d : Dev) (n : Nat) (e : Engine) : (d.setEng n e).taintTk = d.taintTk := rfl
@[simp] theorem Dev.setEng_staged (d : Dev) (n : Nat) (e : Engine) : (d.setEng n e).staged = d.staged := rfl
@[simp] theorem Dev.setEng_force (d : Dev) (n : Nat) (e : Engine) : (d.setEng n e).force = d.force := rfl
@[simp] theorem Dev.setEng_eras (d : Dev) (n : Nat) (e : Engine) : (d.setEng n e).eras = d.eras := rfl
@[simp] theorem Dev.setEng_labels (d : Dev) (n : Nat) (e : Engine) : (d.setEng n e).labels = d.labels := rfl
@[simp] theorem Dev.setEng_gsSoon (d : Dev) (n : Nat) (e : Engine) : (d.setEng n e).gsSoon = d.gsSoon := rfl
@[simp] theorem Dev.setEng_gsNext (d : Dev) (n : Nat) (e : Engine) : (d.setEng n e).gsNext = d.gsNext := rfl
@[simp] theorem Dev.setEng_gsDone (d : Dev) (n : Nat) (e : Engine) : (d.setEng n e).gsDone = d.gsDone := rfl
@[simp] theorem Dev.setEng_lateRegs (d : Dev) (n : Nat) (e : Engine) : (d.setEng n e).lateRegs = d.lateRegs := rfl
@[simp] theorem Dev.setEng_lateMem (d : Dev) (n : Nat) (e : Engine) : (d.setEng n e).lateMem = d.lateMem := rfl
@[simp] theorem Dev.setEng_urt (d : Dev) (n : Nat) (e : Engine) : (d.setEng n e).urt = d.urt := rfl
@[simp] theorem Dev.setEng_mcBad (d : Dev) (n : Nat) (e : Engine) : (d.setEng n e).mcBad = d.mcBad := rfl
@[simp] theorem Dev.setEng_ucommit (d : Dev) (n : Nat) (e : Engine) : (d.setEng n e).ucommit = d.ucommit := rfl
@[simp] theorem Dev.setEng_frameWr (d : Dev) (n : Nat) (e : Engine) : (d.setEng n e).frameWr = d.frameWr := rfl
@[simp] theorem Dev.setEng_ics (d : Dev) (n : Nat) (e : Engine) : (d.setEng n e).ics = d.ics := rfl
@[simp] theorem Dev.setEng_colWait (d : Dev) (n : Nat) (e : Engine) : (d.setEng n e).colWait = d.colWait := rfl
@[simp] theorem Dev.setEng_colTaken (d : Dev) (n : Nat) (e : Engine) : (d.setEng n e).colTaken = d.colTaken := rfl
@[simp] theorem Dev.setEng_transit (d : Dev) (n : Nat) (e : Engine) : (d.setEng n e).transit = d.transit := rfl
@[simp] theorem Dev.setEng_loWrites (d : Dev) (n : Nat) (e : Engine) : (d.setEng n e).loWrites = d.loWrites := rfl
@[simp] theorem Dev.setEng_sieve (d : Dev) (n : Nat) (e : Engine) : (d.setEng n e).sieve = d.sieve := rfl
@[simp] theorem Dev.setEng_decq (d : Dev) (n : Nat) (e : Engine) : (d.setEng n e).decq = d.decq := rfl
@[simp] theorem Dev.setEng_sieveq (d : Dev) (n : Nat) (e : Engine) : (d.setEng n e).sieveq = d.sieveq := rfl
@[simp] theorem Dev.setEng_mkIntake (d : Dev) (n : Nat) (e : Engine) : (d.setEng n e).mkIntake = d.mkIntake := rfl
@[simp] theorem Dev.setEng_wit (d : Dev) (n : Nat) (e : Engine) : (d.setEng n e).wit = d.wit := rfl
@[simp] theorem Dev.setEng_trigq (d : Dev) (n : Nat) (e : Engine) : (d.setEng n e).trigq = d.trigq := rfl
@[simp] theorem Dev.setEng_links (d : Dev) (n : Nat) (e : Engine) : (d.setEng n e).links = d.links := rfl
@[simp] theorem Dev.setEng_inbox (d : Dev) (n : Nat) (e : Engine) : (d.setEng n e).inbox = d.inbox := rfl
@[simp] theorem Dev.setEng_dmas (d : Dev) (n : Nat) (e : Engine) : (d.setEng n e).dmas = d.dmas := rfl
@[simp] theorem Dev.setEng_dmaLast (d : Dev) (n : Nat) (e : Engine) : (d.setEng n e).dmaLast = d.dmaLast := rfl
@[simp] theorem Dev.setEng_dmaTick (d : Dev) (n : Nat) (e : Engine) : (d.setEng n e).dmaTick = d.dmaTick := rfl
@[simp] theorem Dev.setEng_remotes (d : Dev) (n : Nat) (e : Engine) : (d.setEng n e).remotes = d.remotes := rfl
@[simp] theorem Dev.setEng_hostWr (d : Dev) (n : Nat) (e : Engine) : (d.setEng n e).hostWr = d.hostWr := rfl
@[simp] theorem Dev.setEng_lateReads (d : Dev) (n : Nat) (e : Engine) : (d.setEng n e).lateReads = d.lateReads := rfl
@[simp] theorem Dev.setEng_pci (d : Dev) (n : Nat) (e : Engine) : (d.setEng n e).pci = d.pci := rfl
@[simp] theorem Dev.setEng_rlyTk (d : Dev) (n : Nat) (e : Engine) : (d.setEng n e).rlyTk = d.rlyTk := rfl
@[simp] theorem Dev.setEng_perstLow (d : Dev) (n : Nat) (e : Engine) : (d.setEng n e).perstLow = d.perstLow := rfl
@[simp] theorem Dev.setEng_msixSent (d : Dev) (n : Nat) (e : Engine) : (d.setEng n e).msixSent = d.msixSent := rfl
@[simp] theorem Dev.setEng_ramp (d : Dev) (n : Nat) (e : Engine) : (d.setEng n e).ramp = d.ramp := rfl
@[simp] theorem Dev.setEng_rehyQ (d : Dev) (n : Nat) (e : Engine) : (d.setEng n e).rehyQ = d.rehyQ := rfl
@[simp] theorem Dev.setEng_boot (d : Dev) (n : Nat) (e : Engine) : (d.setEng n e).boot = d.boot := rfl
@[simp] theorem Dev.setEng_flash (d : Dev) (n : Nat) (e : Engine) : (d.setEng n e).flash = d.flash := rfl
@[simp] theorem Dev.setEng_mcChain (d : Dev) (n : Nat) (e : Engine) : (d.setEng n e).mcChain = d.mcChain := rfl
@[simp] theorem Dev.setEng_reports (d : Dev) (n : Nat) (e : Engine) : (d.setEng n e).reports = d.reports := rfl
@[simp] theorem Dev.setEng_attesting (d : Dev) (n : Nat) (e : Engine) : (d.setEng n e).attesting = d.attesting := rfl
@[simp] theorem Dev.setEng_logNext (d : Dev) (n : Nat) (e : Engine) : (d.setEng n e).logNext = d.logNext := rfl
@[simp] theorem Dev.setEng_heat (d : Dev) (n : Nat) (e : Engine) : (d.setEng n e).heat = d.heat := rfl
@[simp] theorem Dev.setEng_askedTk (d : Dev) (n : Nat) (e : Engine) : (d.setEng n e).askedTk = d.askedTk := rfl
@[simp] theorem Dev.setEng_calStaged (d : Dev) (n : Nat) (e : Engine) : (d.setEng n e).calStaged = d.calStaged := rfl
@[simp] theorem Dev.setEng_calApplied (d : Dev) (n : Nat) (e : Engine) : (d.setEng n e).calApplied = d.calApplied := rfl
@[simp] theorem Dev.setEng_calChoice (d : Dev) (n : Nat) (e : Engine) : (d.setEng n e).calChoice = d.calChoice := rfl
@[simp] theorem Dev.setEng_calTk (d : Dev) (n : Nat) (e : Engine) : (d.setEng n e).calTk = d.calTk := rfl
@[simp] theorem Dev.setEng_nospareTaint (d : Dev) (n : Nat) (e : Engine) : (d.setEng n e).nospareTaint = d.nospareTaint := rfl
@[simp] theorem Dev.setEng_calQ (d : Dev) (n : Nat) (e : Engine) : (d.setEng n e).calQ = d.calQ := rfl
@[simp] theorem Dev.setEng_calTemp (d : Dev) (n : Nat) (e : Engine) : (d.setEng n e).calTemp = d.calTemp := rfl
@[simp] theorem Dev.setEng_calAsk (d : Dev) (n : Nat) (e : Engine) : (d.setEng n e).calAsk = d.calAsk := rfl
@[simp] theorem Dev.setEng_calStore (d : Dev) (n : Nat) (e : Engine) : (d.setEng n e).calStore = d.calStore := rfl
@[simp] theorem Dev.setEng_convs (d : Dev) (n : Nat) (e : Engine) : (d.setEng n e).convs = d.convs := rfl
@[simp] theorem Dev.setEng_caps (d : Dev) (n : Nat) (e : Engine) : (d.setEng n e).caps = d.caps := rfl
@[simp] theorem Dev.setEng_capSpare (d : Dev) (n : Nat) (e : Engine) : (d.setEng n e).capSpare = d.capSpare := rfl
@[simp] theorem Dev.setEng_capAge (d : Dev) (n : Nat) (e : Engine) : (d.setEng n e).capAge = d.capAge := rfl
@[simp] theorem Dev.setEng_slices (d : Dev) (n : Nat) (e : Engine) : (d.setEng n e).slices = d.slices := rfl
@[simp] theorem Dev.setEng_restores (d : Dev) (n : Nat) (e : Engine) : (d.setEng n e).restores = d.restores := rfl
@[simp] theorem Dev.setEng_nextUnit (d : Dev) (n : Nat) (e : Engine) : (d.setEng n e).nextUnit = d.nextUnit := rfl
@[simp] theorem Dev.setEng_retry (d : Dev) (n : Nat) (e : Engine) : (d.setEng n e).retry = d.retry := rfl
@[simp] theorem Dev.setEng_gapTurn (d : Dev) (n : Nat) (e : Engine) : (d.setEng n e).gapTurn = d.gapTurn := rfl
@[simp] theorem Dev.setEng_sigHi (d : Dev) (n : Nat) (e : Engine) : (d.setEng n e).sigHi = d.sigHi := rfl
@[simp] theorem Dev.setEng_pllOut (d : Dev) (n : Nat) (e : Engine) : (d.setEng n e).pllOut = d.pllOut := rfl
@[simp] theorem Dev.setEng_srpLog (d : Dev) (n : Nat) (e : Engine) : (d.setEng n e).srpLog = d.srpLog := rfl
@[simp] theorem Dev.setEng_modeAsk (d : Dev) (n : Nat) (e : Engine) : (d.setEng n e).modeAsk = d.modeAsk := rfl
@[simp] theorem Dev.setEng_relayUp (d : Dev) (n : Nat) (e : Engine) : (d.setEng n e).relayUp = d.relayUp := rfl
@[simp] theorem Dev.setEng_safeDue (d : Dev) (n : Nat) (e : Engine) : (d.setEng n e).safeDue = d.safeDue := rfl
@[simp] theorem Dev.setEng_frzDue (d : Dev) (n : Nat) (e : Engine) : (d.setEng n e).frzDue = d.frzDue := rfl
@[simp] theorem Dev.setEng_dogWait (d : Dev) (n : Nat) (e : Engine) : (d.setEng n e).dogWait = d.dogWait := rfl
@[simp] theorem Dev.setEng_warm (d : Dev) (n : Nat) (e : Engine) : (d.setEng n e).warm = d.warm := rfl
@[simp] theorem Dev.setEng_ctlRestart (d : Dev) (n : Nat) (e : Engine) : (d.setEng n e).ctlRestart = d.ctlRestart := rfl
@[simp] theorem Dev.setEng_smb (d : Dev) (n : Nat) (e : Engine) : (d.setEng n e).smb = d.smb := rfl
@[simp] theorem Dev.setEng_tap (d : Dev) (n : Nat) (e : Engine) : (d.setEng n e).tap = d.tap := rfl
@[simp] theorem Dev.setEng_otpBlocked (d : Dev) (n : Nat) (e : Engine) : (d.setEng n e).otpBlocked = d.otpBlocked := rfl
@[simp] theorem Dev.setEng_vauxLost (d : Dev) (n : Nat) (e : Engine) : (d.setEng n e).vauxLost = d.vauxLost := rfl
@[simp] theorem Dev.setEng_guardCnt (d : Dev) (n : Nat) (e : Engine) : (d.setEng n e).guardCnt = d.guardCnt := rfl
@[simp] theorem Dev.setEng_tasks (d : Dev) (n : Nat) (e : Engine) : (d.setEng n e).tasks = d.tasks := rfl
@[simp] theorem Dev.setEng_guardWin (d : Dev) (n : Nat) (e : Engine) : (d.setEng n e).guardWin = d.guardWin := rfl
@[simp] theorem Dev.setEng_fwIrq (d : Dev) (n : Nat) (e : Engine) : (d.setEng n e).fwIrq = d.fwIrq := rfl
@[simp] theorem Dev.setEng_secIn (d : Dev) (n : Nat) (e : Engine) : (d.setEng n e).secIn = d.secIn := rfl
@[simp] theorem Dev.setEng_pba (d : Dev) (n : Nat) (e : Engine) : (d.setEng n e).pba = d.pba := rfl
@[simp] theorem Dev.setEng_mkIn (d : Dev) (n : Nat) (e : Engine) : (d.setEng n e).mkIn = d.mkIn := rfl
@[simp] theorem Dev.setEng_edges (d : Dev) (n : Nat) (e : Engine) : (d.setEng n e).edges = d.edges := rfl
@[simp] theorem Dev.setEng_rillLines (d : Dev) (n : Nat) (e : Engine) : (d.setEng n e).rillLines = d.rillLines := rfl
@[simp] theorem Dev.setEng_lvlNow (d : Dev) (n : Nat) (e : Engine) : (d.setEng n e).lvlNow = d.lvlNow := rfl
@[simp] theorem Dev.setEng_mkoHist (d : Dev) (n : Nat) (e : Engine) : (d.setEng n e).mkoHist = d.mkoHist := rfl
@[simp] theorem Dev.setEng_stamps (d : Dev) (n : Nat) (e : Engine) : (d.setEng n e).stamps = d.stamps := rfl
@[simp] theorem Dev.setEng_stampSpill (d : Dev) (n : Nat) (e : Engine) : (d.setEng n e).stampSpill = d.stampSpill := rfl
@[simp] theorem Dev.setEng_stampSeq (d : Dev) (n : Nat) (e : Engine) : (d.setEng n e).stampSeq = d.stampSeq := rfl
@[simp] theorem Dev.setEng_cycle (d : Dev) (n : Nat) (e : Engine) : (d.setEng n e).cycle = d.cycle := rfl
@[simp] theorem Dev.setEng_bbx (d : Dev) (n : Nat) (e : Engine) : (d.setEng n e).bbx = d.bbx := rfl
@[simp] theorem Dev.setEng_freeze (d : Dev) (n : Nat) (e : Engine) : (d.setEng n e).freeze = d.freeze := rfl

@[simp] theorem Dev.setTone_regs (d : Dev) (n t : Nat) (x : ToneSt) : (d.setTone n t x).regs = d.regs := rfl
@[simp] theorem Dev.setTone_mem (d : Dev) (n t : Nat) (x : ToneSt) : (d.setTone n t x).mem = d.mem := rfl
@[simp] theorem Dev.setTone_otp (d : Dev) (n t : Nat) (x : ToneSt) : (d.setTone n t x).otp = d.otp := rfl
@[simp] theorem Dev.setTone_rdata (d : Dev) (n t : Nat) (x : ToneSt) : (d.setTone n t x).rdata = d.rdata := rfl
@[simp] theorem Dev.setTone_tk (d : Dev) (n t : Nat) (x : ToneSt) : (d.setTone n t x).tk = d.tk := rfl
@[simp] theorem Dev.setTone_xtal (d : Dev) (n t : Nat) (x : ToneSt) : (d.setTone n t x).xtal = d.xtal := rfl
@[simp] theorem Dev.setTone_free (d : Dev) (n t : Nat) (x : ToneSt) : (d.setTone n t x).free = d.free := rfl
@[simp] theorem Dev.setTone_raised (d : Dev) (n t : Nat) (x : ToneSt) : (d.setTone n t x).raised = d.raised := rfl
@[simp] theorem Dev.setTone_w1cNow (d : Dev) (n t : Nat) (x : ToneSt) : (d.setTone n t x).w1cNow = d.w1cNow := rfl
@[simp] theorem Dev.setTone_shot (d : Dev) (n t : Nat) (x : ToneSt) : (d.setTone n t x).shot = d.shot := rfl
@[simp] theorem Dev.setTone_round (d : Dev) (n t : Nat) (x : ToneSt) : (d.setTone n t x).round = d.round := rfl
@[simp] theorem Dev.setTone_taint (d : Dev) (n t : Nat) (x : ToneSt) : (d.setTone n t x).taint = d.taint := rfl
@[simp] theorem Dev.setTone_shotLo (d : Dev) (n t : Nat) (x : ToneSt) : (d.setTone n t x).shotLo = d.shotLo := rfl
@[simp] theorem Dev.setTone_shotHiShadow (d : Dev) (n t : Nat) (x : ToneSt) : (d.setTone n t x).shotHiShadow = d.shotHiShadow := rfl
@[simp] theorem Dev.setTone_asapNew (d : Dev) (n t : Nat) (x : ToneSt) : (d.setTone n t x).asapNew = d.asapNew := rfl
@[simp] theorem Dev.setTone_asapDue (d : Dev) (n t : Nat) (x : ToneSt) : (d.setTone n t x).asapDue = d.asapDue := rfl
@[simp] theorem Dev.setTone_pgs (d : Dev) (n t : Nat) (x : ToneSt) : (d.setTone n t x).pgs = d.pgs := rfl
@[simp] theorem Dev.setTone_tmlSh (d : Dev) (n t : Nat) (x : ToneSt) : (d.setTone n t x).tmlSh = d.tmlSh := rfl
@[simp] theorem Dev.setTone_slots (d : Dev) (n t : Nat) (x : ToneSt) : (d.setTone n t x).slots = d.slots := rfl
@[simp] theorem Dev.setTone_shotTk (d : Dev) (n t : Nat) (x : ToneSt) : (d.setTone n t x).shotTk = d.shotTk := rfl
@[simp] theorem Dev.setTone_taintTk (d : Dev) (n t : Nat) (x : ToneSt) : (d.setTone n t x).taintTk = d.taintTk := rfl
@[simp] theorem Dev.setTone_staged (d : Dev) (n t : Nat) (x : ToneSt) : (d.setTone n t x).staged = d.staged := rfl
@[simp] theorem Dev.setTone_force (d : Dev) (n t : Nat) (x : ToneSt) : (d.setTone n t x).force = d.force := rfl
@[simp] theorem Dev.setTone_eras (d : Dev) (n t : Nat) (x : ToneSt) : (d.setTone n t x).eras = d.eras := rfl
@[simp] theorem Dev.setTone_labels (d : Dev) (n t : Nat) (x : ToneSt) : (d.setTone n t x).labels = d.labels := rfl
@[simp] theorem Dev.setTone_gsSoon (d : Dev) (n t : Nat) (x : ToneSt) : (d.setTone n t x).gsSoon = d.gsSoon := rfl
@[simp] theorem Dev.setTone_gsNext (d : Dev) (n t : Nat) (x : ToneSt) : (d.setTone n t x).gsNext = d.gsNext := rfl
@[simp] theorem Dev.setTone_gsDone (d : Dev) (n t : Nat) (x : ToneSt) : (d.setTone n t x).gsDone = d.gsDone := rfl
@[simp] theorem Dev.setTone_lateRegs (d : Dev) (n t : Nat) (x : ToneSt) : (d.setTone n t x).lateRegs = d.lateRegs := rfl
@[simp] theorem Dev.setTone_lateMem (d : Dev) (n t : Nat) (x : ToneSt) : (d.setTone n t x).lateMem = d.lateMem := rfl
@[simp] theorem Dev.setTone_urt (d : Dev) (n t : Nat) (x : ToneSt) : (d.setTone n t x).urt = d.urt := rfl
@[simp] theorem Dev.setTone_mcBad (d : Dev) (n t : Nat) (x : ToneSt) : (d.setTone n t x).mcBad = d.mcBad := rfl
@[simp] theorem Dev.setTone_ucommit (d : Dev) (n t : Nat) (x : ToneSt) : (d.setTone n t x).ucommit = d.ucommit := rfl
@[simp] theorem Dev.setTone_frameWr (d : Dev) (n t : Nat) (x : ToneSt) : (d.setTone n t x).frameWr = d.frameWr := rfl
@[simp] theorem Dev.setTone_ics (d : Dev) (n t : Nat) (x : ToneSt) : (d.setTone n t x).ics = d.ics := rfl
@[simp] theorem Dev.setTone_colWait (d : Dev) (n t : Nat) (x : ToneSt) : (d.setTone n t x).colWait = d.colWait := rfl
@[simp] theorem Dev.setTone_colTaken (d : Dev) (n t : Nat) (x : ToneSt) : (d.setTone n t x).colTaken = d.colTaken := rfl
@[simp] theorem Dev.setTone_transit (d : Dev) (n t : Nat) (x : ToneSt) : (d.setTone n t x).transit = d.transit := rfl
@[simp] theorem Dev.setTone_loWrites (d : Dev) (n t : Nat) (x : ToneSt) : (d.setTone n t x).loWrites = d.loWrites := rfl
@[simp] theorem Dev.setTone_sieve (d : Dev) (n t : Nat) (x : ToneSt) : (d.setTone n t x).sieve = d.sieve := rfl
@[simp] theorem Dev.setTone_decq (d : Dev) (n t : Nat) (x : ToneSt) : (d.setTone n t x).decq = d.decq := rfl
@[simp] theorem Dev.setTone_sieveq (d : Dev) (n t : Nat) (x : ToneSt) : (d.setTone n t x).sieveq = d.sieveq := rfl
@[simp] theorem Dev.setTone_mkIntake (d : Dev) (n t : Nat) (x : ToneSt) : (d.setTone n t x).mkIntake = d.mkIntake := rfl
@[simp] theorem Dev.setTone_wit (d : Dev) (n t : Nat) (x : ToneSt) : (d.setTone n t x).wit = d.wit := rfl
@[simp] theorem Dev.setTone_trigq (d : Dev) (n t : Nat) (x : ToneSt) : (d.setTone n t x).trigq = d.trigq := rfl
@[simp] theorem Dev.setTone_links (d : Dev) (n t : Nat) (x : ToneSt) : (d.setTone n t x).links = d.links := rfl
@[simp] theorem Dev.setTone_inbox (d : Dev) (n t : Nat) (x : ToneSt) : (d.setTone n t x).inbox = d.inbox := rfl
@[simp] theorem Dev.setTone_dmas (d : Dev) (n t : Nat) (x : ToneSt) : (d.setTone n t x).dmas = d.dmas := rfl
@[simp] theorem Dev.setTone_dmaLast (d : Dev) (n t : Nat) (x : ToneSt) : (d.setTone n t x).dmaLast = d.dmaLast := rfl
@[simp] theorem Dev.setTone_dmaTick (d : Dev) (n t : Nat) (x : ToneSt) : (d.setTone n t x).dmaTick = d.dmaTick := rfl
@[simp] theorem Dev.setTone_remotes (d : Dev) (n t : Nat) (x : ToneSt) : (d.setTone n t x).remotes = d.remotes := rfl
@[simp] theorem Dev.setTone_hostWr (d : Dev) (n t : Nat) (x : ToneSt) : (d.setTone n t x).hostWr = d.hostWr := rfl
@[simp] theorem Dev.setTone_lateReads (d : Dev) (n t : Nat) (x : ToneSt) : (d.setTone n t x).lateReads = d.lateReads := rfl
@[simp] theorem Dev.setTone_pci (d : Dev) (n t : Nat) (x : ToneSt) : (d.setTone n t x).pci = d.pci := rfl
@[simp] theorem Dev.setTone_rlyTk (d : Dev) (n t : Nat) (x : ToneSt) : (d.setTone n t x).rlyTk = d.rlyTk := rfl
@[simp] theorem Dev.setTone_perstLow (d : Dev) (n t : Nat) (x : ToneSt) : (d.setTone n t x).perstLow = d.perstLow := rfl
@[simp] theorem Dev.setTone_msixSent (d : Dev) (n t : Nat) (x : ToneSt) : (d.setTone n t x).msixSent = d.msixSent := rfl
@[simp] theorem Dev.setTone_ramp (d : Dev) (n t : Nat) (x : ToneSt) : (d.setTone n t x).ramp = d.ramp := rfl
@[simp] theorem Dev.setTone_rehyQ (d : Dev) (n t : Nat) (x : ToneSt) : (d.setTone n t x).rehyQ = d.rehyQ := rfl
@[simp] theorem Dev.setTone_boot (d : Dev) (n t : Nat) (x : ToneSt) : (d.setTone n t x).boot = d.boot := rfl
@[simp] theorem Dev.setTone_flash (d : Dev) (n t : Nat) (x : ToneSt) : (d.setTone n t x).flash = d.flash := rfl
@[simp] theorem Dev.setTone_mcChain (d : Dev) (n t : Nat) (x : ToneSt) : (d.setTone n t x).mcChain = d.mcChain := rfl
@[simp] theorem Dev.setTone_reports (d : Dev) (n t : Nat) (x : ToneSt) : (d.setTone n t x).reports = d.reports := rfl
@[simp] theorem Dev.setTone_attesting (d : Dev) (n t : Nat) (x : ToneSt) : (d.setTone n t x).attesting = d.attesting := rfl
@[simp] theorem Dev.setTone_logNext (d : Dev) (n t : Nat) (x : ToneSt) : (d.setTone n t x).logNext = d.logNext := rfl
@[simp] theorem Dev.setTone_heat (d : Dev) (n t : Nat) (x : ToneSt) : (d.setTone n t x).heat = d.heat := rfl
@[simp] theorem Dev.setTone_askedTk (d : Dev) (n t : Nat) (x : ToneSt) : (d.setTone n t x).askedTk = d.askedTk := rfl
@[simp] theorem Dev.setTone_calStaged (d : Dev) (n t : Nat) (x : ToneSt) : (d.setTone n t x).calStaged = d.calStaged := rfl
@[simp] theorem Dev.setTone_calApplied (d : Dev) (n t : Nat) (x : ToneSt) : (d.setTone n t x).calApplied = d.calApplied := rfl
@[simp] theorem Dev.setTone_calChoice (d : Dev) (n t : Nat) (x : ToneSt) : (d.setTone n t x).calChoice = d.calChoice := rfl
@[simp] theorem Dev.setTone_calTk (d : Dev) (n t : Nat) (x : ToneSt) : (d.setTone n t x).calTk = d.calTk := rfl
@[simp] theorem Dev.setTone_nospareTaint (d : Dev) (n t : Nat) (x : ToneSt) : (d.setTone n t x).nospareTaint = d.nospareTaint := rfl
@[simp] theorem Dev.setTone_calQ (d : Dev) (n t : Nat) (x : ToneSt) : (d.setTone n t x).calQ = d.calQ := rfl
@[simp] theorem Dev.setTone_calTemp (d : Dev) (n t : Nat) (x : ToneSt) : (d.setTone n t x).calTemp = d.calTemp := rfl
@[simp] theorem Dev.setTone_calAsk (d : Dev) (n t : Nat) (x : ToneSt) : (d.setTone n t x).calAsk = d.calAsk := rfl
@[simp] theorem Dev.setTone_calStore (d : Dev) (n t : Nat) (x : ToneSt) : (d.setTone n t x).calStore = d.calStore := rfl
@[simp] theorem Dev.setTone_convs (d : Dev) (n t : Nat) (x : ToneSt) : (d.setTone n t x).convs = d.convs := rfl
@[simp] theorem Dev.setTone_caps (d : Dev) (n t : Nat) (x : ToneSt) : (d.setTone n t x).caps = d.caps := rfl
@[simp] theorem Dev.setTone_capSpare (d : Dev) (n t : Nat) (x : ToneSt) : (d.setTone n t x).capSpare = d.capSpare := rfl
@[simp] theorem Dev.setTone_capAge (d : Dev) (n t : Nat) (x : ToneSt) : (d.setTone n t x).capAge = d.capAge := rfl
@[simp] theorem Dev.setTone_slices (d : Dev) (n t : Nat) (x : ToneSt) : (d.setTone n t x).slices = d.slices := rfl
@[simp] theorem Dev.setTone_restores (d : Dev) (n t : Nat) (x : ToneSt) : (d.setTone n t x).restores = d.restores := rfl
@[simp] theorem Dev.setTone_nextUnit (d : Dev) (n t : Nat) (x : ToneSt) : (d.setTone n t x).nextUnit = d.nextUnit := rfl
@[simp] theorem Dev.setTone_retry (d : Dev) (n t : Nat) (x : ToneSt) : (d.setTone n t x).retry = d.retry := rfl
@[simp] theorem Dev.setTone_gapTurn (d : Dev) (n t : Nat) (x : ToneSt) : (d.setTone n t x).gapTurn = d.gapTurn := rfl
@[simp] theorem Dev.setTone_sigHi (d : Dev) (n t : Nat) (x : ToneSt) : (d.setTone n t x).sigHi = d.sigHi := rfl
@[simp] theorem Dev.setTone_pllOut (d : Dev) (n t : Nat) (x : ToneSt) : (d.setTone n t x).pllOut = d.pllOut := rfl
@[simp] theorem Dev.setTone_srpLog (d : Dev) (n t : Nat) (x : ToneSt) : (d.setTone n t x).srpLog = d.srpLog := rfl
@[simp] theorem Dev.setTone_modeAsk (d : Dev) (n t : Nat) (x : ToneSt) : (d.setTone n t x).modeAsk = d.modeAsk := rfl
@[simp] theorem Dev.setTone_relayUp (d : Dev) (n t : Nat) (x : ToneSt) : (d.setTone n t x).relayUp = d.relayUp := rfl
@[simp] theorem Dev.setTone_safeDue (d : Dev) (n t : Nat) (x : ToneSt) : (d.setTone n t x).safeDue = d.safeDue := rfl
@[simp] theorem Dev.setTone_frzDue (d : Dev) (n t : Nat) (x : ToneSt) : (d.setTone n t x).frzDue = d.frzDue := rfl
@[simp] theorem Dev.setTone_dogWait (d : Dev) (n t : Nat) (x : ToneSt) : (d.setTone n t x).dogWait = d.dogWait := rfl
@[simp] theorem Dev.setTone_warm (d : Dev) (n t : Nat) (x : ToneSt) : (d.setTone n t x).warm = d.warm := rfl
@[simp] theorem Dev.setTone_ctlRestart (d : Dev) (n t : Nat) (x : ToneSt) : (d.setTone n t x).ctlRestart = d.ctlRestart := rfl
@[simp] theorem Dev.setTone_smb (d : Dev) (n t : Nat) (x : ToneSt) : (d.setTone n t x).smb = d.smb := rfl
@[simp] theorem Dev.setTone_tap (d : Dev) (n t : Nat) (x : ToneSt) : (d.setTone n t x).tap = d.tap := rfl
@[simp] theorem Dev.setTone_otpBlocked (d : Dev) (n t : Nat) (x : ToneSt) : (d.setTone n t x).otpBlocked = d.otpBlocked := rfl
@[simp] theorem Dev.setTone_vauxLost (d : Dev) (n t : Nat) (x : ToneSt) : (d.setTone n t x).vauxLost = d.vauxLost := rfl
@[simp] theorem Dev.setTone_guardCnt (d : Dev) (n t : Nat) (x : ToneSt) : (d.setTone n t x).guardCnt = d.guardCnt := rfl
@[simp] theorem Dev.setTone_tasks (d : Dev) (n t : Nat) (x : ToneSt) : (d.setTone n t x).tasks = d.tasks := rfl
@[simp] theorem Dev.setTone_guardWin (d : Dev) (n t : Nat) (x : ToneSt) : (d.setTone n t x).guardWin = d.guardWin := rfl
@[simp] theorem Dev.setTone_fwIrq (d : Dev) (n t : Nat) (x : ToneSt) : (d.setTone n t x).fwIrq = d.fwIrq := rfl
@[simp] theorem Dev.setTone_secIn (d : Dev) (n t : Nat) (x : ToneSt) : (d.setTone n t x).secIn = d.secIn := rfl
@[simp] theorem Dev.setTone_pba (d : Dev) (n t : Nat) (x : ToneSt) : (d.setTone n t x).pba = d.pba := rfl
@[simp] theorem Dev.setTone_mkIn (d : Dev) (n t : Nat) (x : ToneSt) : (d.setTone n t x).mkIn = d.mkIn := rfl
@[simp] theorem Dev.setTone_edges (d : Dev) (n t : Nat) (x : ToneSt) : (d.setTone n t x).edges = d.edges := rfl
@[simp] theorem Dev.setTone_rillLines (d : Dev) (n t : Nat) (x : ToneSt) : (d.setTone n t x).rillLines = d.rillLines := rfl
@[simp] theorem Dev.setTone_lvlNow (d : Dev) (n t : Nat) (x : ToneSt) : (d.setTone n t x).lvlNow = d.lvlNow := rfl
@[simp] theorem Dev.setTone_mkoHist (d : Dev) (n t : Nat) (x : ToneSt) : (d.setTone n t x).mkoHist = d.mkoHist := rfl
@[simp] theorem Dev.setTone_stamps (d : Dev) (n t : Nat) (x : ToneSt) : (d.setTone n t x).stamps = d.stamps := rfl
@[simp] theorem Dev.setTone_stampSpill (d : Dev) (n t : Nat) (x : ToneSt) : (d.setTone n t x).stampSpill = d.stampSpill := rfl
@[simp] theorem Dev.setTone_stampSeq (d : Dev) (n t : Nat) (x : ToneSt) : (d.setTone n t x).stampSeq = d.stampSeq := rfl
@[simp] theorem Dev.setTone_cycle (d : Dev) (n t : Nat) (x : ToneSt) : (d.setTone n t x).cycle = d.cycle := rfl
@[simp] theorem Dev.setTone_bbx (d : Dev) (n t : Nat) (x : ToneSt) : (d.setTone n t x).bbx = d.bbx := rfl
@[simp] theorem Dev.setTone_freeze (d : Dev) (n t : Nat) (x : ToneSt) : (d.setTone n t x).freeze = d.freeze := rfl

@[simp] theorem Dev.lateReg_regs (d : Dev) (f : Fld) (v : Nat) : (d.lateReg f v).regs = d.regs := rfl
@[simp] theorem Dev.lateReg_mem (d : Dev) (f : Fld) (v : Nat) : (d.lateReg f v).mem = d.mem := rfl
@[simp] theorem Dev.lateReg_otp (d : Dev) (f : Fld) (v : Nat) : (d.lateReg f v).otp = d.otp := rfl
@[simp] theorem Dev.lateReg_rdata (d : Dev) (f : Fld) (v : Nat) : (d.lateReg f v).rdata = d.rdata := rfl
@[simp] theorem Dev.lateReg_tk (d : Dev) (f : Fld) (v : Nat) : (d.lateReg f v).tk = d.tk := rfl
@[simp] theorem Dev.lateReg_xtal (d : Dev) (f : Fld) (v : Nat) : (d.lateReg f v).xtal = d.xtal := rfl
@[simp] theorem Dev.lateReg_free (d : Dev) (f : Fld) (v : Nat) : (d.lateReg f v).free = d.free := rfl
@[simp] theorem Dev.lateReg_raised (d : Dev) (f : Fld) (v : Nat) : (d.lateReg f v).raised = d.raised := rfl
@[simp] theorem Dev.lateReg_w1cNow (d : Dev) (f : Fld) (v : Nat) : (d.lateReg f v).w1cNow = d.w1cNow := rfl
@[simp] theorem Dev.lateReg_shot (d : Dev) (f : Fld) (v : Nat) : (d.lateReg f v).shot = d.shot := rfl
@[simp] theorem Dev.lateReg_round (d : Dev) (f : Fld) (v : Nat) : (d.lateReg f v).round = d.round := rfl
@[simp] theorem Dev.lateReg_taint (d : Dev) (f : Fld) (v : Nat) : (d.lateReg f v).taint = d.taint := rfl
@[simp] theorem Dev.lateReg_shotLo (d : Dev) (f : Fld) (v : Nat) : (d.lateReg f v).shotLo = d.shotLo := rfl
@[simp] theorem Dev.lateReg_shotHiShadow (d : Dev) (f : Fld) (v : Nat) : (d.lateReg f v).shotHiShadow = d.shotHiShadow := rfl
@[simp] theorem Dev.lateReg_asapNew (d : Dev) (f : Fld) (v : Nat) : (d.lateReg f v).asapNew = d.asapNew := rfl
@[simp] theorem Dev.lateReg_asapDue (d : Dev) (f : Fld) (v : Nat) : (d.lateReg f v).asapDue = d.asapDue := rfl
@[simp] theorem Dev.lateReg_pgs (d : Dev) (f : Fld) (v : Nat) : (d.lateReg f v).pgs = d.pgs := rfl
@[simp] theorem Dev.lateReg_tmlSh (d : Dev) (f : Fld) (v : Nat) : (d.lateReg f v).tmlSh = d.tmlSh := rfl
@[simp] theorem Dev.lateReg_ocs (d : Dev) (f : Fld) (v : Nat) : (d.lateReg f v).ocs = d.ocs := rfl
@[simp] theorem Dev.lateReg_slots (d : Dev) (f : Fld) (v : Nat) : (d.lateReg f v).slots = d.slots := rfl
@[simp] theorem Dev.lateReg_shotTk (d : Dev) (f : Fld) (v : Nat) : (d.lateReg f v).shotTk = d.shotTk := rfl
@[simp] theorem Dev.lateReg_taintTk (d : Dev) (f : Fld) (v : Nat) : (d.lateReg f v).taintTk = d.taintTk := rfl
@[simp] theorem Dev.lateReg_staged (d : Dev) (f : Fld) (v : Nat) : (d.lateReg f v).staged = d.staged := rfl
@[simp] theorem Dev.lateReg_force (d : Dev) (f : Fld) (v : Nat) : (d.lateReg f v).force = d.force := rfl
@[simp] theorem Dev.lateReg_eras (d : Dev) (f : Fld) (v : Nat) : (d.lateReg f v).eras = d.eras := rfl
@[simp] theorem Dev.lateReg_labels (d : Dev) (f : Fld) (v : Nat) : (d.lateReg f v).labels = d.labels := rfl
@[simp] theorem Dev.lateReg_gsSoon (d : Dev) (f : Fld) (v : Nat) : (d.lateReg f v).gsSoon = d.gsSoon := rfl
@[simp] theorem Dev.lateReg_gsNext (d : Dev) (f : Fld) (v : Nat) : (d.lateReg f v).gsNext = d.gsNext := rfl
@[simp] theorem Dev.lateReg_gsDone (d : Dev) (f : Fld) (v : Nat) : (d.lateReg f v).gsDone = d.gsDone := rfl
@[simp] theorem Dev.lateReg_lateMem (d : Dev) (f : Fld) (v : Nat) : (d.lateReg f v).lateMem = d.lateMem := rfl
@[simp] theorem Dev.lateReg_urt (d : Dev) (f : Fld) (v : Nat) : (d.lateReg f v).urt = d.urt := rfl
@[simp] theorem Dev.lateReg_mcBad (d : Dev) (f : Fld) (v : Nat) : (d.lateReg f v).mcBad = d.mcBad := rfl
@[simp] theorem Dev.lateReg_ucommit (d : Dev) (f : Fld) (v : Nat) : (d.lateReg f v).ucommit = d.ucommit := rfl
@[simp] theorem Dev.lateReg_frameWr (d : Dev) (f : Fld) (v : Nat) : (d.lateReg f v).frameWr = d.frameWr := rfl
@[simp] theorem Dev.lateReg_ics (d : Dev) (f : Fld) (v : Nat) : (d.lateReg f v).ics = d.ics := rfl
@[simp] theorem Dev.lateReg_colWait (d : Dev) (f : Fld) (v : Nat) : (d.lateReg f v).colWait = d.colWait := rfl
@[simp] theorem Dev.lateReg_colTaken (d : Dev) (f : Fld) (v : Nat) : (d.lateReg f v).colTaken = d.colTaken := rfl
@[simp] theorem Dev.lateReg_transit (d : Dev) (f : Fld) (v : Nat) : (d.lateReg f v).transit = d.transit := rfl
@[simp] theorem Dev.lateReg_loWrites (d : Dev) (f : Fld) (v : Nat) : (d.lateReg f v).loWrites = d.loWrites := rfl
@[simp] theorem Dev.lateReg_sieve (d : Dev) (f : Fld) (v : Nat) : (d.lateReg f v).sieve = d.sieve := rfl
@[simp] theorem Dev.lateReg_decq (d : Dev) (f : Fld) (v : Nat) : (d.lateReg f v).decq = d.decq := rfl
@[simp] theorem Dev.lateReg_sieveq (d : Dev) (f : Fld) (v : Nat) : (d.lateReg f v).sieveq = d.sieveq := rfl
@[simp] theorem Dev.lateReg_mkIntake (d : Dev) (f : Fld) (v : Nat) : (d.lateReg f v).mkIntake = d.mkIntake := rfl
@[simp] theorem Dev.lateReg_wit (d : Dev) (f : Fld) (v : Nat) : (d.lateReg f v).wit = d.wit := rfl
@[simp] theorem Dev.lateReg_trigq (d : Dev) (f : Fld) (v : Nat) : (d.lateReg f v).trigq = d.trigq := rfl
@[simp] theorem Dev.lateReg_links (d : Dev) (f : Fld) (v : Nat) : (d.lateReg f v).links = d.links := rfl
@[simp] theorem Dev.lateReg_inbox (d : Dev) (f : Fld) (v : Nat) : (d.lateReg f v).inbox = d.inbox := rfl
@[simp] theorem Dev.lateReg_dmas (d : Dev) (f : Fld) (v : Nat) : (d.lateReg f v).dmas = d.dmas := rfl
@[simp] theorem Dev.lateReg_dmaLast (d : Dev) (f : Fld) (v : Nat) : (d.lateReg f v).dmaLast = d.dmaLast := rfl
@[simp] theorem Dev.lateReg_dmaTick (d : Dev) (f : Fld) (v : Nat) : (d.lateReg f v).dmaTick = d.dmaTick := rfl
@[simp] theorem Dev.lateReg_remotes (d : Dev) (f : Fld) (v : Nat) : (d.lateReg f v).remotes = d.remotes := rfl
@[simp] theorem Dev.lateReg_hostWr (d : Dev) (f : Fld) (v : Nat) : (d.lateReg f v).hostWr = d.hostWr := rfl
@[simp] theorem Dev.lateReg_lateReads (d : Dev) (f : Fld) (v : Nat) : (d.lateReg f v).lateReads = d.lateReads := rfl
@[simp] theorem Dev.lateReg_pci (d : Dev) (f : Fld) (v : Nat) : (d.lateReg f v).pci = d.pci := rfl
@[simp] theorem Dev.lateReg_rlyTk (d : Dev) (f : Fld) (v : Nat) : (d.lateReg f v).rlyTk = d.rlyTk := rfl
@[simp] theorem Dev.lateReg_perstLow (d : Dev) (f : Fld) (v : Nat) : (d.lateReg f v).perstLow = d.perstLow := rfl
@[simp] theorem Dev.lateReg_msixSent (d : Dev) (f : Fld) (v : Nat) : (d.lateReg f v).msixSent = d.msixSent := rfl
@[simp] theorem Dev.lateReg_ramp (d : Dev) (f : Fld) (v : Nat) : (d.lateReg f v).ramp = d.ramp := rfl
@[simp] theorem Dev.lateReg_rehyQ (d : Dev) (f : Fld) (v : Nat) : (d.lateReg f v).rehyQ = d.rehyQ := rfl
@[simp] theorem Dev.lateReg_boot (d : Dev) (f : Fld) (v : Nat) : (d.lateReg f v).boot = d.boot := rfl
@[simp] theorem Dev.lateReg_flash (d : Dev) (f : Fld) (v : Nat) : (d.lateReg f v).flash = d.flash := rfl
@[simp] theorem Dev.lateReg_mcChain (d : Dev) (f : Fld) (v : Nat) : (d.lateReg f v).mcChain = d.mcChain := rfl
@[simp] theorem Dev.lateReg_reports (d : Dev) (f : Fld) (v : Nat) : (d.lateReg f v).reports = d.reports := rfl
@[simp] theorem Dev.lateReg_attesting (d : Dev) (f : Fld) (v : Nat) : (d.lateReg f v).attesting = d.attesting := rfl
@[simp] theorem Dev.lateReg_logNext (d : Dev) (f : Fld) (v : Nat) : (d.lateReg f v).logNext = d.logNext := rfl
@[simp] theorem Dev.lateReg_heat (d : Dev) (f : Fld) (v : Nat) : (d.lateReg f v).heat = d.heat := rfl
@[simp] theorem Dev.lateReg_askedTk (d : Dev) (f : Fld) (v : Nat) : (d.lateReg f v).askedTk = d.askedTk := rfl
@[simp] theorem Dev.lateReg_calStaged (d : Dev) (f : Fld) (v : Nat) : (d.lateReg f v).calStaged = d.calStaged := rfl
@[simp] theorem Dev.lateReg_calApplied (d : Dev) (f : Fld) (v : Nat) : (d.lateReg f v).calApplied = d.calApplied := rfl
@[simp] theorem Dev.lateReg_calChoice (d : Dev) (f : Fld) (v : Nat) : (d.lateReg f v).calChoice = d.calChoice := rfl
@[simp] theorem Dev.lateReg_calTk (d : Dev) (f : Fld) (v : Nat) : (d.lateReg f v).calTk = d.calTk := rfl
@[simp] theorem Dev.lateReg_nospareTaint (d : Dev) (f : Fld) (v : Nat) : (d.lateReg f v).nospareTaint = d.nospareTaint := rfl
@[simp] theorem Dev.lateReg_calQ (d : Dev) (f : Fld) (v : Nat) : (d.lateReg f v).calQ = d.calQ := rfl
@[simp] theorem Dev.lateReg_calTemp (d : Dev) (f : Fld) (v : Nat) : (d.lateReg f v).calTemp = d.calTemp := rfl
@[simp] theorem Dev.lateReg_calAsk (d : Dev) (f : Fld) (v : Nat) : (d.lateReg f v).calAsk = d.calAsk := rfl
@[simp] theorem Dev.lateReg_calStore (d : Dev) (f : Fld) (v : Nat) : (d.lateReg f v).calStore = d.calStore := rfl
@[simp] theorem Dev.lateReg_convs (d : Dev) (f : Fld) (v : Nat) : (d.lateReg f v).convs = d.convs := rfl
@[simp] theorem Dev.lateReg_caps (d : Dev) (f : Fld) (v : Nat) : (d.lateReg f v).caps = d.caps := rfl
@[simp] theorem Dev.lateReg_capSpare (d : Dev) (f : Fld) (v : Nat) : (d.lateReg f v).capSpare = d.capSpare := rfl
@[simp] theorem Dev.lateReg_capAge (d : Dev) (f : Fld) (v : Nat) : (d.lateReg f v).capAge = d.capAge := rfl
@[simp] theorem Dev.lateReg_slices (d : Dev) (f : Fld) (v : Nat) : (d.lateReg f v).slices = d.slices := rfl
@[simp] theorem Dev.lateReg_restores (d : Dev) (f : Fld) (v : Nat) : (d.lateReg f v).restores = d.restores := rfl
@[simp] theorem Dev.lateReg_nextUnit (d : Dev) (f : Fld) (v : Nat) : (d.lateReg f v).nextUnit = d.nextUnit := rfl
@[simp] theorem Dev.lateReg_retry (d : Dev) (f : Fld) (v : Nat) : (d.lateReg f v).retry = d.retry := rfl
@[simp] theorem Dev.lateReg_gapTurn (d : Dev) (f : Fld) (v : Nat) : (d.lateReg f v).gapTurn = d.gapTurn := rfl
@[simp] theorem Dev.lateReg_sigHi (d : Dev) (f : Fld) (v : Nat) : (d.lateReg f v).sigHi = d.sigHi := rfl
@[simp] theorem Dev.lateReg_pllOut (d : Dev) (f : Fld) (v : Nat) : (d.lateReg f v).pllOut = d.pllOut := rfl
@[simp] theorem Dev.lateReg_srpLog (d : Dev) (f : Fld) (v : Nat) : (d.lateReg f v).srpLog = d.srpLog := rfl
@[simp] theorem Dev.lateReg_modeAsk (d : Dev) (f : Fld) (v : Nat) : (d.lateReg f v).modeAsk = d.modeAsk := rfl
@[simp] theorem Dev.lateReg_relayUp (d : Dev) (f : Fld) (v : Nat) : (d.lateReg f v).relayUp = d.relayUp := rfl
@[simp] theorem Dev.lateReg_safeDue (d : Dev) (f : Fld) (v : Nat) : (d.lateReg f v).safeDue = d.safeDue := rfl
@[simp] theorem Dev.lateReg_frzDue (d : Dev) (f : Fld) (v : Nat) : (d.lateReg f v).frzDue = d.frzDue := rfl
@[simp] theorem Dev.lateReg_dogWait (d : Dev) (f : Fld) (v : Nat) : (d.lateReg f v).dogWait = d.dogWait := rfl
@[simp] theorem Dev.lateReg_warm (d : Dev) (f : Fld) (v : Nat) : (d.lateReg f v).warm = d.warm := rfl
@[simp] theorem Dev.lateReg_ctlRestart (d : Dev) (f : Fld) (v : Nat) : (d.lateReg f v).ctlRestart = d.ctlRestart := rfl
@[simp] theorem Dev.lateReg_smb (d : Dev) (f : Fld) (v : Nat) : (d.lateReg f v).smb = d.smb := rfl
@[simp] theorem Dev.lateReg_tap (d : Dev) (f : Fld) (v : Nat) : (d.lateReg f v).tap = d.tap := rfl
@[simp] theorem Dev.lateReg_otpBlocked (d : Dev) (f : Fld) (v : Nat) : (d.lateReg f v).otpBlocked = d.otpBlocked := rfl
@[simp] theorem Dev.lateReg_vauxLost (d : Dev) (f : Fld) (v : Nat) : (d.lateReg f v).vauxLost = d.vauxLost := rfl
@[simp] theorem Dev.lateReg_guardCnt (d : Dev) (f : Fld) (v : Nat) : (d.lateReg f v).guardCnt = d.guardCnt := rfl
@[simp] theorem Dev.lateReg_tasks (d : Dev) (f : Fld) (v : Nat) : (d.lateReg f v).tasks = d.tasks := rfl
@[simp] theorem Dev.lateReg_guardWin (d : Dev) (f : Fld) (v : Nat) : (d.lateReg f v).guardWin = d.guardWin := rfl
@[simp] theorem Dev.lateReg_fwIrq (d : Dev) (f : Fld) (v : Nat) : (d.lateReg f v).fwIrq = d.fwIrq := rfl
@[simp] theorem Dev.lateReg_secIn (d : Dev) (f : Fld) (v : Nat) : (d.lateReg f v).secIn = d.secIn := rfl
@[simp] theorem Dev.lateReg_pba (d : Dev) (f : Fld) (v : Nat) : (d.lateReg f v).pba = d.pba := rfl
@[simp] theorem Dev.lateReg_mkIn (d : Dev) (f : Fld) (v : Nat) : (d.lateReg f v).mkIn = d.mkIn := rfl
@[simp] theorem Dev.lateReg_edges (d : Dev) (f : Fld) (v : Nat) : (d.lateReg f v).edges = d.edges := rfl
@[simp] theorem Dev.lateReg_rillLines (d : Dev) (f : Fld) (v : Nat) : (d.lateReg f v).rillLines = d.rillLines := rfl
@[simp] theorem Dev.lateReg_lvlNow (d : Dev) (f : Fld) (v : Nat) : (d.lateReg f v).lvlNow = d.lvlNow := rfl
@[simp] theorem Dev.lateReg_mkoHist (d : Dev) (f : Fld) (v : Nat) : (d.lateReg f v).mkoHist = d.mkoHist := rfl
@[simp] theorem Dev.lateReg_stamps (d : Dev) (f : Fld) (v : Nat) : (d.lateReg f v).stamps = d.stamps := rfl
@[simp] theorem Dev.lateReg_stampSpill (d : Dev) (f : Fld) (v : Nat) : (d.lateReg f v).stampSpill = d.stampSpill := rfl
@[simp] theorem Dev.lateReg_stampSeq (d : Dev) (f : Fld) (v : Nat) : (d.lateReg f v).stampSeq = d.stampSeq := rfl
@[simp] theorem Dev.lateReg_cycle (d : Dev) (f : Fld) (v : Nat) : (d.lateReg f v).cycle = d.cycle := rfl
@[simp] theorem Dev.lateReg_bbx (d : Dev) (f : Fld) (v : Nat) : (d.lateReg f v).bbx = d.bbx := rfl
@[simp] theorem Dev.lateReg_freeze (d : Dev) (f : Fld) (v : Nat) : (d.lateReg f v).freeze = d.freeze := rfl

@[simp] theorem Dev.ret32_regs (d : Dev) (v : W32) : (d.ret32 v).regs = d.regs := rfl
@[simp] theorem Dev.ret32_mem (d : Dev) (v : W32) : (d.ret32 v).mem = d.mem := rfl
@[simp] theorem Dev.ret32_otp (d : Dev) (v : W32) : (d.ret32 v).otp = d.otp := rfl
@[simp] theorem Dev.ret32_tk (d : Dev) (v : W32) : (d.ret32 v).tk = d.tk := rfl
@[simp] theorem Dev.ret32_xtal (d : Dev) (v : W32) : (d.ret32 v).xtal = d.xtal := rfl
@[simp] theorem Dev.ret32_free (d : Dev) (v : W32) : (d.ret32 v).free = d.free := rfl
@[simp] theorem Dev.ret32_raised (d : Dev) (v : W32) : (d.ret32 v).raised = d.raised := rfl
@[simp] theorem Dev.ret32_w1cNow (d : Dev) (v : W32) : (d.ret32 v).w1cNow = d.w1cNow := rfl
@[simp] theorem Dev.ret32_shot (d : Dev) (v : W32) : (d.ret32 v).shot = d.shot := rfl
@[simp] theorem Dev.ret32_round (d : Dev) (v : W32) : (d.ret32 v).round = d.round := rfl
@[simp] theorem Dev.ret32_taint (d : Dev) (v : W32) : (d.ret32 v).taint = d.taint := rfl
@[simp] theorem Dev.ret32_shotLo (d : Dev) (v : W32) : (d.ret32 v).shotLo = d.shotLo := rfl
@[simp] theorem Dev.ret32_shotHiShadow (d : Dev) (v : W32) : (d.ret32 v).shotHiShadow = d.shotHiShadow := rfl
@[simp] theorem Dev.ret32_asapNew (d : Dev) (v : W32) : (d.ret32 v).asapNew = d.asapNew := rfl
@[simp] theorem Dev.ret32_asapDue (d : Dev) (v : W32) : (d.ret32 v).asapDue = d.asapDue := rfl
@[simp] theorem Dev.ret32_pgs (d : Dev) (v : W32) : (d.ret32 v).pgs = d.pgs := rfl
@[simp] theorem Dev.ret32_tmlSh (d : Dev) (v : W32) : (d.ret32 v).tmlSh = d.tmlSh := rfl
@[simp] theorem Dev.ret32_ocs (d : Dev) (v : W32) : (d.ret32 v).ocs = d.ocs := rfl
@[simp] theorem Dev.ret32_slots (d : Dev) (v : W32) : (d.ret32 v).slots = d.slots := rfl
@[simp] theorem Dev.ret32_shotTk (d : Dev) (v : W32) : (d.ret32 v).shotTk = d.shotTk := rfl
@[simp] theorem Dev.ret32_taintTk (d : Dev) (v : W32) : (d.ret32 v).taintTk = d.taintTk := rfl
@[simp] theorem Dev.ret32_staged (d : Dev) (v : W32) : (d.ret32 v).staged = d.staged := rfl
@[simp] theorem Dev.ret32_force (d : Dev) (v : W32) : (d.ret32 v).force = d.force := rfl
@[simp] theorem Dev.ret32_eras (d : Dev) (v : W32) : (d.ret32 v).eras = d.eras := rfl
@[simp] theorem Dev.ret32_labels (d : Dev) (v : W32) : (d.ret32 v).labels = d.labels := rfl
@[simp] theorem Dev.ret32_gsSoon (d : Dev) (v : W32) : (d.ret32 v).gsSoon = d.gsSoon := rfl
@[simp] theorem Dev.ret32_gsNext (d : Dev) (v : W32) : (d.ret32 v).gsNext = d.gsNext := rfl
@[simp] theorem Dev.ret32_gsDone (d : Dev) (v : W32) : (d.ret32 v).gsDone = d.gsDone := rfl
@[simp] theorem Dev.ret32_lateRegs (d : Dev) (v : W32) : (d.ret32 v).lateRegs = d.lateRegs := rfl
@[simp] theorem Dev.ret32_lateMem (d : Dev) (v : W32) : (d.ret32 v).lateMem = d.lateMem := rfl
@[simp] theorem Dev.ret32_urt (d : Dev) (v : W32) : (d.ret32 v).urt = d.urt := rfl
@[simp] theorem Dev.ret32_mcBad (d : Dev) (v : W32) : (d.ret32 v).mcBad = d.mcBad := rfl
@[simp] theorem Dev.ret32_ucommit (d : Dev) (v : W32) : (d.ret32 v).ucommit = d.ucommit := rfl
@[simp] theorem Dev.ret32_frameWr (d : Dev) (v : W32) : (d.ret32 v).frameWr = d.frameWr := rfl
@[simp] theorem Dev.ret32_ics (d : Dev) (v : W32) : (d.ret32 v).ics = d.ics := rfl
@[simp] theorem Dev.ret32_colWait (d : Dev) (v : W32) : (d.ret32 v).colWait = d.colWait := rfl
@[simp] theorem Dev.ret32_colTaken (d : Dev) (v : W32) : (d.ret32 v).colTaken = d.colTaken := rfl
@[simp] theorem Dev.ret32_transit (d : Dev) (v : W32) : (d.ret32 v).transit = d.transit := rfl
@[simp] theorem Dev.ret32_loWrites (d : Dev) (v : W32) : (d.ret32 v).loWrites = d.loWrites := rfl
@[simp] theorem Dev.ret32_sieve (d : Dev) (v : W32) : (d.ret32 v).sieve = d.sieve := rfl
@[simp] theorem Dev.ret32_decq (d : Dev) (v : W32) : (d.ret32 v).decq = d.decq := rfl
@[simp] theorem Dev.ret32_sieveq (d : Dev) (v : W32) : (d.ret32 v).sieveq = d.sieveq := rfl
@[simp] theorem Dev.ret32_mkIntake (d : Dev) (v : W32) : (d.ret32 v).mkIntake = d.mkIntake := rfl
@[simp] theorem Dev.ret32_wit (d : Dev) (v : W32) : (d.ret32 v).wit = d.wit := rfl
@[simp] theorem Dev.ret32_trigq (d : Dev) (v : W32) : (d.ret32 v).trigq = d.trigq := rfl
@[simp] theorem Dev.ret32_links (d : Dev) (v : W32) : (d.ret32 v).links = d.links := rfl
@[simp] theorem Dev.ret32_inbox (d : Dev) (v : W32) : (d.ret32 v).inbox = d.inbox := rfl
@[simp] theorem Dev.ret32_dmas (d : Dev) (v : W32) : (d.ret32 v).dmas = d.dmas := rfl
@[simp] theorem Dev.ret32_dmaLast (d : Dev) (v : W32) : (d.ret32 v).dmaLast = d.dmaLast := rfl
@[simp] theorem Dev.ret32_dmaTick (d : Dev) (v : W32) : (d.ret32 v).dmaTick = d.dmaTick := rfl
@[simp] theorem Dev.ret32_remotes (d : Dev) (v : W32) : (d.ret32 v).remotes = d.remotes := rfl
@[simp] theorem Dev.ret32_hostWr (d : Dev) (v : W32) : (d.ret32 v).hostWr = d.hostWr := rfl
@[simp] theorem Dev.ret32_lateReads (d : Dev) (v : W32) : (d.ret32 v).lateReads = d.lateReads := rfl
@[simp] theorem Dev.ret32_pci (d : Dev) (v : W32) : (d.ret32 v).pci = d.pci := rfl
@[simp] theorem Dev.ret32_rlyTk (d : Dev) (v : W32) : (d.ret32 v).rlyTk = d.rlyTk := rfl
@[simp] theorem Dev.ret32_perstLow (d : Dev) (v : W32) : (d.ret32 v).perstLow = d.perstLow := rfl
@[simp] theorem Dev.ret32_msixSent (d : Dev) (v : W32) : (d.ret32 v).msixSent = d.msixSent := rfl
@[simp] theorem Dev.ret32_ramp (d : Dev) (v : W32) : (d.ret32 v).ramp = d.ramp := rfl
@[simp] theorem Dev.ret32_rehyQ (d : Dev) (v : W32) : (d.ret32 v).rehyQ = d.rehyQ := rfl
@[simp] theorem Dev.ret32_boot (d : Dev) (v : W32) : (d.ret32 v).boot = d.boot := rfl
@[simp] theorem Dev.ret32_flash (d : Dev) (v : W32) : (d.ret32 v).flash = d.flash := rfl
@[simp] theorem Dev.ret32_mcChain (d : Dev) (v : W32) : (d.ret32 v).mcChain = d.mcChain := rfl
@[simp] theorem Dev.ret32_reports (d : Dev) (v : W32) : (d.ret32 v).reports = d.reports := rfl
@[simp] theorem Dev.ret32_attesting (d : Dev) (v : W32) : (d.ret32 v).attesting = d.attesting := rfl
@[simp] theorem Dev.ret32_logNext (d : Dev) (v : W32) : (d.ret32 v).logNext = d.logNext := rfl
@[simp] theorem Dev.ret32_heat (d : Dev) (v : W32) : (d.ret32 v).heat = d.heat := rfl
@[simp] theorem Dev.ret32_askedTk (d : Dev) (v : W32) : (d.ret32 v).askedTk = d.askedTk := rfl
@[simp] theorem Dev.ret32_calStaged (d : Dev) (v : W32) : (d.ret32 v).calStaged = d.calStaged := rfl
@[simp] theorem Dev.ret32_calApplied (d : Dev) (v : W32) : (d.ret32 v).calApplied = d.calApplied := rfl
@[simp] theorem Dev.ret32_calChoice (d : Dev) (v : W32) : (d.ret32 v).calChoice = d.calChoice := rfl
@[simp] theorem Dev.ret32_calTk (d : Dev) (v : W32) : (d.ret32 v).calTk = d.calTk := rfl
@[simp] theorem Dev.ret32_nospareTaint (d : Dev) (v : W32) : (d.ret32 v).nospareTaint = d.nospareTaint := rfl
@[simp] theorem Dev.ret32_calQ (d : Dev) (v : W32) : (d.ret32 v).calQ = d.calQ := rfl
@[simp] theorem Dev.ret32_calTemp (d : Dev) (v : W32) : (d.ret32 v).calTemp = d.calTemp := rfl
@[simp] theorem Dev.ret32_calAsk (d : Dev) (v : W32) : (d.ret32 v).calAsk = d.calAsk := rfl
@[simp] theorem Dev.ret32_calStore (d : Dev) (v : W32) : (d.ret32 v).calStore = d.calStore := rfl
@[simp] theorem Dev.ret32_convs (d : Dev) (v : W32) : (d.ret32 v).convs = d.convs := rfl
@[simp] theorem Dev.ret32_caps (d : Dev) (v : W32) : (d.ret32 v).caps = d.caps := rfl
@[simp] theorem Dev.ret32_capSpare (d : Dev) (v : W32) : (d.ret32 v).capSpare = d.capSpare := rfl
@[simp] theorem Dev.ret32_capAge (d : Dev) (v : W32) : (d.ret32 v).capAge = d.capAge := rfl
@[simp] theorem Dev.ret32_slices (d : Dev) (v : W32) : (d.ret32 v).slices = d.slices := rfl
@[simp] theorem Dev.ret32_restores (d : Dev) (v : W32) : (d.ret32 v).restores = d.restores := rfl
@[simp] theorem Dev.ret32_nextUnit (d : Dev) (v : W32) : (d.ret32 v).nextUnit = d.nextUnit := rfl
@[simp] theorem Dev.ret32_retry (d : Dev) (v : W32) : (d.ret32 v).retry = d.retry := rfl
@[simp] theorem Dev.ret32_gapTurn (d : Dev) (v : W32) : (d.ret32 v).gapTurn = d.gapTurn := rfl
@[simp] theorem Dev.ret32_sigHi (d : Dev) (v : W32) : (d.ret32 v).sigHi = d.sigHi := rfl
@[simp] theorem Dev.ret32_pllOut (d : Dev) (v : W32) : (d.ret32 v).pllOut = d.pllOut := rfl
@[simp] theorem Dev.ret32_srpLog (d : Dev) (v : W32) : (d.ret32 v).srpLog = d.srpLog := rfl
@[simp] theorem Dev.ret32_modeAsk (d : Dev) (v : W32) : (d.ret32 v).modeAsk = d.modeAsk := rfl
@[simp] theorem Dev.ret32_relayUp (d : Dev) (v : W32) : (d.ret32 v).relayUp = d.relayUp := rfl
@[simp] theorem Dev.ret32_safeDue (d : Dev) (v : W32) : (d.ret32 v).safeDue = d.safeDue := rfl
@[simp] theorem Dev.ret32_frzDue (d : Dev) (v : W32) : (d.ret32 v).frzDue = d.frzDue := rfl
@[simp] theorem Dev.ret32_dogWait (d : Dev) (v : W32) : (d.ret32 v).dogWait = d.dogWait := rfl
@[simp] theorem Dev.ret32_warm (d : Dev) (v : W32) : (d.ret32 v).warm = d.warm := rfl
@[simp] theorem Dev.ret32_ctlRestart (d : Dev) (v : W32) : (d.ret32 v).ctlRestart = d.ctlRestart := rfl
@[simp] theorem Dev.ret32_smb (d : Dev) (v : W32) : (d.ret32 v).smb = d.smb := rfl
@[simp] theorem Dev.ret32_tap (d : Dev) (v : W32) : (d.ret32 v).tap = d.tap := rfl
@[simp] theorem Dev.ret32_otpBlocked (d : Dev) (v : W32) : (d.ret32 v).otpBlocked = d.otpBlocked := rfl
@[simp] theorem Dev.ret32_vauxLost (d : Dev) (v : W32) : (d.ret32 v).vauxLost = d.vauxLost := rfl
@[simp] theorem Dev.ret32_guardCnt (d : Dev) (v : W32) : (d.ret32 v).guardCnt = d.guardCnt := rfl
@[simp] theorem Dev.ret32_tasks (d : Dev) (v : W32) : (d.ret32 v).tasks = d.tasks := rfl
@[simp] theorem Dev.ret32_guardWin (d : Dev) (v : W32) : (d.ret32 v).guardWin = d.guardWin := rfl
@[simp] theorem Dev.ret32_fwIrq (d : Dev) (v : W32) : (d.ret32 v).fwIrq = d.fwIrq := rfl
@[simp] theorem Dev.ret32_secIn (d : Dev) (v : W32) : (d.ret32 v).secIn = d.secIn := rfl
@[simp] theorem Dev.ret32_pba (d : Dev) (v : W32) : (d.ret32 v).pba = d.pba := rfl
@[simp] theorem Dev.ret32_mkIn (d : Dev) (v : W32) : (d.ret32 v).mkIn = d.mkIn := rfl
@[simp] theorem Dev.ret32_edges (d : Dev) (v : W32) : (d.ret32 v).edges = d.edges := rfl
@[simp] theorem Dev.ret32_rillLines (d : Dev) (v : W32) : (d.ret32 v).rillLines = d.rillLines := rfl
@[simp] theorem Dev.ret32_lvlNow (d : Dev) (v : W32) : (d.ret32 v).lvlNow = d.lvlNow := rfl
@[simp] theorem Dev.ret32_mkoHist (d : Dev) (v : W32) : (d.ret32 v).mkoHist = d.mkoHist := rfl
@[simp] theorem Dev.ret32_stamps (d : Dev) (v : W32) : (d.ret32 v).stamps = d.stamps := rfl
@[simp] theorem Dev.ret32_stampSpill (d : Dev) (v : W32) : (d.ret32 v).stampSpill = d.stampSpill := rfl
@[simp] theorem Dev.ret32_stampSeq (d : Dev) (v : W32) : (d.ret32 v).stampSeq = d.stampSeq := rfl
@[simp] theorem Dev.ret32_cycle (d : Dev) (v : W32) : (d.ret32 v).cycle = d.cycle := rfl
@[simp] theorem Dev.ret32_bbx (d : Dev) (v : W32) : (d.ret32 v).bbx = d.bbx := rfl
@[simp] theorem Dev.ret32_freeze (d : Dev) (v : W32) : (d.ret32 v).freeze = d.freeze := rfl

@[simp] theorem Dev.retBytes_regs (d : Dev) (bs : List Byte) : (d.retBytes bs).regs = d.regs := rfl
@[simp] theorem Dev.retBytes_mem (d : Dev) (bs : List Byte) : (d.retBytes bs).mem = d.mem := rfl
@[simp] theorem Dev.retBytes_otp (d : Dev) (bs : List Byte) : (d.retBytes bs).otp = d.otp := rfl
@[simp] theorem Dev.retBytes_tk (d : Dev) (bs : List Byte) : (d.retBytes bs).tk = d.tk := rfl
@[simp] theorem Dev.retBytes_xtal (d : Dev) (bs : List Byte) : (d.retBytes bs).xtal = d.xtal := rfl
@[simp] theorem Dev.retBytes_free (d : Dev) (bs : List Byte) : (d.retBytes bs).free = d.free := rfl
@[simp] theorem Dev.retBytes_raised (d : Dev) (bs : List Byte) : (d.retBytes bs).raised = d.raised := rfl
@[simp] theorem Dev.retBytes_w1cNow (d : Dev) (bs : List Byte) : (d.retBytes bs).w1cNow = d.w1cNow := rfl
@[simp] theorem Dev.retBytes_shot (d : Dev) (bs : List Byte) : (d.retBytes bs).shot = d.shot := rfl
@[simp] theorem Dev.retBytes_round (d : Dev) (bs : List Byte) : (d.retBytes bs).round = d.round := rfl
@[simp] theorem Dev.retBytes_taint (d : Dev) (bs : List Byte) : (d.retBytes bs).taint = d.taint := rfl
@[simp] theorem Dev.retBytes_shotLo (d : Dev) (bs : List Byte) : (d.retBytes bs).shotLo = d.shotLo := rfl
@[simp] theorem Dev.retBytes_shotHiShadow (d : Dev) (bs : List Byte) : (d.retBytes bs).shotHiShadow = d.shotHiShadow := rfl
@[simp] theorem Dev.retBytes_asapNew (d : Dev) (bs : List Byte) : (d.retBytes bs).asapNew = d.asapNew := rfl
@[simp] theorem Dev.retBytes_asapDue (d : Dev) (bs : List Byte) : (d.retBytes bs).asapDue = d.asapDue := rfl
@[simp] theorem Dev.retBytes_pgs (d : Dev) (bs : List Byte) : (d.retBytes bs).pgs = d.pgs := rfl
@[simp] theorem Dev.retBytes_tmlSh (d : Dev) (bs : List Byte) : (d.retBytes bs).tmlSh = d.tmlSh := rfl
@[simp] theorem Dev.retBytes_ocs (d : Dev) (bs : List Byte) : (d.retBytes bs).ocs = d.ocs := rfl
@[simp] theorem Dev.retBytes_slots (d : Dev) (bs : List Byte) : (d.retBytes bs).slots = d.slots := rfl
@[simp] theorem Dev.retBytes_shotTk (d : Dev) (bs : List Byte) : (d.retBytes bs).shotTk = d.shotTk := rfl
@[simp] theorem Dev.retBytes_taintTk (d : Dev) (bs : List Byte) : (d.retBytes bs).taintTk = d.taintTk := rfl
@[simp] theorem Dev.retBytes_staged (d : Dev) (bs : List Byte) : (d.retBytes bs).staged = d.staged := rfl
@[simp] theorem Dev.retBytes_force (d : Dev) (bs : List Byte) : (d.retBytes bs).force = d.force := rfl
@[simp] theorem Dev.retBytes_eras (d : Dev) (bs : List Byte) : (d.retBytes bs).eras = d.eras := rfl
@[simp] theorem Dev.retBytes_labels (d : Dev) (bs : List Byte) : (d.retBytes bs).labels = d.labels := rfl
@[simp] theorem Dev.retBytes_gsSoon (d : Dev) (bs : List Byte) : (d.retBytes bs).gsSoon = d.gsSoon := rfl
@[simp] theorem Dev.retBytes_gsNext (d : Dev) (bs : List Byte) : (d.retBytes bs).gsNext = d.gsNext := rfl
@[simp] theorem Dev.retBytes_gsDone (d : Dev) (bs : List Byte) : (d.retBytes bs).gsDone = d.gsDone := rfl
@[simp] theorem Dev.retBytes_lateRegs (d : Dev) (bs : List Byte) : (d.retBytes bs).lateRegs = d.lateRegs := rfl
@[simp] theorem Dev.retBytes_lateMem (d : Dev) (bs : List Byte) : (d.retBytes bs).lateMem = d.lateMem := rfl
@[simp] theorem Dev.retBytes_urt (d : Dev) (bs : List Byte) : (d.retBytes bs).urt = d.urt := rfl
@[simp] theorem Dev.retBytes_mcBad (d : Dev) (bs : List Byte) : (d.retBytes bs).mcBad = d.mcBad := rfl
@[simp] theorem Dev.retBytes_ucommit (d : Dev) (bs : List Byte) : (d.retBytes bs).ucommit = d.ucommit := rfl
@[simp] theorem Dev.retBytes_frameWr (d : Dev) (bs : List Byte) : (d.retBytes bs).frameWr = d.frameWr := rfl
@[simp] theorem Dev.retBytes_ics (d : Dev) (bs : List Byte) : (d.retBytes bs).ics = d.ics := rfl
@[simp] theorem Dev.retBytes_colWait (d : Dev) (bs : List Byte) : (d.retBytes bs).colWait = d.colWait := rfl
@[simp] theorem Dev.retBytes_colTaken (d : Dev) (bs : List Byte) : (d.retBytes bs).colTaken = d.colTaken := rfl
@[simp] theorem Dev.retBytes_transit (d : Dev) (bs : List Byte) : (d.retBytes bs).transit = d.transit := rfl
@[simp] theorem Dev.retBytes_loWrites (d : Dev) (bs : List Byte) : (d.retBytes bs).loWrites = d.loWrites := rfl
@[simp] theorem Dev.retBytes_sieve (d : Dev) (bs : List Byte) : (d.retBytes bs).sieve = d.sieve := rfl
@[simp] theorem Dev.retBytes_decq (d : Dev) (bs : List Byte) : (d.retBytes bs).decq = d.decq := rfl
@[simp] theorem Dev.retBytes_sieveq (d : Dev) (bs : List Byte) : (d.retBytes bs).sieveq = d.sieveq := rfl
@[simp] theorem Dev.retBytes_mkIntake (d : Dev) (bs : List Byte) : (d.retBytes bs).mkIntake = d.mkIntake := rfl
@[simp] theorem Dev.retBytes_wit (d : Dev) (bs : List Byte) : (d.retBytes bs).wit = d.wit := rfl
@[simp] theorem Dev.retBytes_trigq (d : Dev) (bs : List Byte) : (d.retBytes bs).trigq = d.trigq := rfl
@[simp] theorem Dev.retBytes_links (d : Dev) (bs : List Byte) : (d.retBytes bs).links = d.links := rfl
@[simp] theorem Dev.retBytes_inbox (d : Dev) (bs : List Byte) : (d.retBytes bs).inbox = d.inbox := rfl
@[simp] theorem Dev.retBytes_dmas (d : Dev) (bs : List Byte) : (d.retBytes bs).dmas = d.dmas := rfl
@[simp] theorem Dev.retBytes_dmaLast (d : Dev) (bs : List Byte) : (d.retBytes bs).dmaLast = d.dmaLast := rfl
@[simp] theorem Dev.retBytes_dmaTick (d : Dev) (bs : List Byte) : (d.retBytes bs).dmaTick = d.dmaTick := rfl
@[simp] theorem Dev.retBytes_remotes (d : Dev) (bs : List Byte) : (d.retBytes bs).remotes = d.remotes := rfl
@[simp] theorem Dev.retBytes_hostWr (d : Dev) (bs : List Byte) : (d.retBytes bs).hostWr = d.hostWr := rfl
@[simp] theorem Dev.retBytes_lateReads (d : Dev) (bs : List Byte) : (d.retBytes bs).lateReads = d.lateReads := rfl
@[simp] theorem Dev.retBytes_pci (d : Dev) (bs : List Byte) : (d.retBytes bs).pci = d.pci := rfl
@[simp] theorem Dev.retBytes_rlyTk (d : Dev) (bs : List Byte) : (d.retBytes bs).rlyTk = d.rlyTk := rfl
@[simp] theorem Dev.retBytes_perstLow (d : Dev) (bs : List Byte) : (d.retBytes bs).perstLow = d.perstLow := rfl
@[simp] theorem Dev.retBytes_msixSent (d : Dev) (bs : List Byte) : (d.retBytes bs).msixSent = d.msixSent := rfl
@[simp] theorem Dev.retBytes_ramp (d : Dev) (bs : List Byte) : (d.retBytes bs).ramp = d.ramp := rfl
@[simp] theorem Dev.retBytes_rehyQ (d : Dev) (bs : List Byte) : (d.retBytes bs).rehyQ = d.rehyQ := rfl
@[simp] theorem Dev.retBytes_boot (d : Dev) (bs : List Byte) : (d.retBytes bs).boot = d.boot := rfl
@[simp] theorem Dev.retBytes_flash (d : Dev) (bs : List Byte) : (d.retBytes bs).flash = d.flash := rfl
@[simp] theorem Dev.retBytes_mcChain (d : Dev) (bs : List Byte) : (d.retBytes bs).mcChain = d.mcChain := rfl
@[simp] theorem Dev.retBytes_reports (d : Dev) (bs : List Byte) : (d.retBytes bs).reports = d.reports := rfl
@[simp] theorem Dev.retBytes_attesting (d : Dev) (bs : List Byte) : (d.retBytes bs).attesting = d.attesting := rfl
@[simp] theorem Dev.retBytes_logNext (d : Dev) (bs : List Byte) : (d.retBytes bs).logNext = d.logNext := rfl
@[simp] theorem Dev.retBytes_heat (d : Dev) (bs : List Byte) : (d.retBytes bs).heat = d.heat := rfl
@[simp] theorem Dev.retBytes_askedTk (d : Dev) (bs : List Byte) : (d.retBytes bs).askedTk = d.askedTk := rfl
@[simp] theorem Dev.retBytes_calStaged (d : Dev) (bs : List Byte) : (d.retBytes bs).calStaged = d.calStaged := rfl
@[simp] theorem Dev.retBytes_calApplied (d : Dev) (bs : List Byte) : (d.retBytes bs).calApplied = d.calApplied := rfl
@[simp] theorem Dev.retBytes_calChoice (d : Dev) (bs : List Byte) : (d.retBytes bs).calChoice = d.calChoice := rfl
@[simp] theorem Dev.retBytes_calTk (d : Dev) (bs : List Byte) : (d.retBytes bs).calTk = d.calTk := rfl
@[simp] theorem Dev.retBytes_nospareTaint (d : Dev) (bs : List Byte) : (d.retBytes bs).nospareTaint = d.nospareTaint := rfl
@[simp] theorem Dev.retBytes_calQ (d : Dev) (bs : List Byte) : (d.retBytes bs).calQ = d.calQ := rfl
@[simp] theorem Dev.retBytes_calTemp (d : Dev) (bs : List Byte) : (d.retBytes bs).calTemp = d.calTemp := rfl
@[simp] theorem Dev.retBytes_calAsk (d : Dev) (bs : List Byte) : (d.retBytes bs).calAsk = d.calAsk := rfl
@[simp] theorem Dev.retBytes_calStore (d : Dev) (bs : List Byte) : (d.retBytes bs).calStore = d.calStore := rfl
@[simp] theorem Dev.retBytes_convs (d : Dev) (bs : List Byte) : (d.retBytes bs).convs = d.convs := rfl
@[simp] theorem Dev.retBytes_caps (d : Dev) (bs : List Byte) : (d.retBytes bs).caps = d.caps := rfl
@[simp] theorem Dev.retBytes_capSpare (d : Dev) (bs : List Byte) : (d.retBytes bs).capSpare = d.capSpare := rfl
@[simp] theorem Dev.retBytes_capAge (d : Dev) (bs : List Byte) : (d.retBytes bs).capAge = d.capAge := rfl
@[simp] theorem Dev.retBytes_slices (d : Dev) (bs : List Byte) : (d.retBytes bs).slices = d.slices := rfl
@[simp] theorem Dev.retBytes_restores (d : Dev) (bs : List Byte) : (d.retBytes bs).restores = d.restores := rfl
@[simp] theorem Dev.retBytes_nextUnit (d : Dev) (bs : List Byte) : (d.retBytes bs).nextUnit = d.nextUnit := rfl
@[simp] theorem Dev.retBytes_retry (d : Dev) (bs : List Byte) : (d.retBytes bs).retry = d.retry := rfl
@[simp] theorem Dev.retBytes_gapTurn (d : Dev) (bs : List Byte) : (d.retBytes bs).gapTurn = d.gapTurn := rfl
@[simp] theorem Dev.retBytes_sigHi (d : Dev) (bs : List Byte) : (d.retBytes bs).sigHi = d.sigHi := rfl
@[simp] theorem Dev.retBytes_pllOut (d : Dev) (bs : List Byte) : (d.retBytes bs).pllOut = d.pllOut := rfl
@[simp] theorem Dev.retBytes_srpLog (d : Dev) (bs : List Byte) : (d.retBytes bs).srpLog = d.srpLog := rfl
@[simp] theorem Dev.retBytes_modeAsk (d : Dev) (bs : List Byte) : (d.retBytes bs).modeAsk = d.modeAsk := rfl
@[simp] theorem Dev.retBytes_relayUp (d : Dev) (bs : List Byte) : (d.retBytes bs).relayUp = d.relayUp := rfl
@[simp] theorem Dev.retBytes_safeDue (d : Dev) (bs : List Byte) : (d.retBytes bs).safeDue = d.safeDue := rfl
@[simp] theorem Dev.retBytes_frzDue (d : Dev) (bs : List Byte) : (d.retBytes bs).frzDue = d.frzDue := rfl
@[simp] theorem Dev.retBytes_dogWait (d : Dev) (bs : List Byte) : (d.retBytes bs).dogWait = d.dogWait := rfl
@[simp] theorem Dev.retBytes_warm (d : Dev) (bs : List Byte) : (d.retBytes bs).warm = d.warm := rfl
@[simp] theorem Dev.retBytes_ctlRestart (d : Dev) (bs : List Byte) : (d.retBytes bs).ctlRestart = d.ctlRestart := rfl
@[simp] theorem Dev.retBytes_smb (d : Dev) (bs : List Byte) : (d.retBytes bs).smb = d.smb := rfl
@[simp] theorem Dev.retBytes_tap (d : Dev) (bs : List Byte) : (d.retBytes bs).tap = d.tap := rfl
@[simp] theorem Dev.retBytes_otpBlocked (d : Dev) (bs : List Byte) : (d.retBytes bs).otpBlocked = d.otpBlocked := rfl
@[simp] theorem Dev.retBytes_vauxLost (d : Dev) (bs : List Byte) : (d.retBytes bs).vauxLost = d.vauxLost := rfl
@[simp] theorem Dev.retBytes_guardCnt (d : Dev) (bs : List Byte) : (d.retBytes bs).guardCnt = d.guardCnt := rfl
@[simp] theorem Dev.retBytes_tasks (d : Dev) (bs : List Byte) : (d.retBytes bs).tasks = d.tasks := rfl
@[simp] theorem Dev.retBytes_guardWin (d : Dev) (bs : List Byte) : (d.retBytes bs).guardWin = d.guardWin := rfl
@[simp] theorem Dev.retBytes_fwIrq (d : Dev) (bs : List Byte) : (d.retBytes bs).fwIrq = d.fwIrq := rfl
@[simp] theorem Dev.retBytes_secIn (d : Dev) (bs : List Byte) : (d.retBytes bs).secIn = d.secIn := rfl
@[simp] theorem Dev.retBytes_pba (d : Dev) (bs : List Byte) : (d.retBytes bs).pba = d.pba := rfl
@[simp] theorem Dev.retBytes_mkIn (d : Dev) (bs : List Byte) : (d.retBytes bs).mkIn = d.mkIn := rfl
@[simp] theorem Dev.retBytes_edges (d : Dev) (bs : List Byte) : (d.retBytes bs).edges = d.edges := rfl
@[simp] theorem Dev.retBytes_rillLines (d : Dev) (bs : List Byte) : (d.retBytes bs).rillLines = d.rillLines := rfl
@[simp] theorem Dev.retBytes_lvlNow (d : Dev) (bs : List Byte) : (d.retBytes bs).lvlNow = d.lvlNow := rfl
@[simp] theorem Dev.retBytes_mkoHist (d : Dev) (bs : List Byte) : (d.retBytes bs).mkoHist = d.mkoHist := rfl
@[simp] theorem Dev.retBytes_stamps (d : Dev) (bs : List Byte) : (d.retBytes bs).stamps = d.stamps := rfl
@[simp] theorem Dev.retBytes_stampSpill (d : Dev) (bs : List Byte) : (d.retBytes bs).stampSpill = d.stampSpill := rfl
@[simp] theorem Dev.retBytes_stampSeq (d : Dev) (bs : List Byte) : (d.retBytes bs).stampSeq = d.stampSeq := rfl
@[simp] theorem Dev.retBytes_cycle (d : Dev) (bs : List Byte) : (d.retBytes bs).cycle = d.cycle := rfl
@[simp] theorem Dev.retBytes_bbx (d : Dev) (bs : List Byte) : (d.retBytes bs).bbx = d.bbx := rfl
@[simp] theorem Dev.retBytes_freeze (d : Dev) (bs : List Byte) : (d.retBytes bs).freeze = d.freeze := rfl

end Sys2Proof.Machine
end

