-- ==== Sys2Proof/WellFormed.lean ====
section
/-! DEFINITION. Well-formed commands: the lengths and ranges their operands have outside the model. Values that the spec judges itself
(a segment number, an address in a register) are not judged here. -/
namespace Sys2Proof

/-- The samples of a tick: 32 codes for each input channel named, and no channel twice (R192). -/
def adcWf (adc : List AdcTick) : Bool :=
  adc.all (fun a => a.codes.length == 32) && decide ((adc.map (·.ic)).Nodup)

/-- What a slot brings: 34 symbols for each receive lane named, and no lane twice (R298). -/
def rxWf (rx : List LaneRx) : Bool :=
  rx.all (fun r => r.syms.length == 34) && decide ((rx.map (·.lane)).Nodup)

/-- An access of `len` bytes at `off` lies in a memory of `size` bytes and is not empty. -/
def spanWf (off len size : Nat) : Bool := decide (1 ≤ len) && decide (off + len ≤ size)

/-- The bytes of a BAR, for accesses that reach nothing (R37, R38): 32 MiB of BAR0 and 512 MiB of BAR2. -/
def barWf (bar : Bar) (off : Nat) : Bool :=
  match bar with
  | .bar0 => decide (off < 0x2000000)
  | .bar2 => decide (off < 0x20000000)

/-- A well-formed command. -/
def Instr.wf (c : Instr) : Bool :=
  match c with
  | .tick adc => adcWf adc
  | .slot _ rx => rxWf rx
  | .reservedRangeAccess bar off _ => barWf bar off
  | .poweredOffDomainAccess bar off _ => barWf bar off
  | .stepStoreWrite _ off bytes => spanWf off.val bytes.length 0x40000
  | .shapeLibraryWrite _ off bytes => spanWf off.val bytes.length 0x40000
  | .weightWrite _ off bytes => spanWf off.val bytes.length 0x10000
  | .resultBufferRead _ off len => spanWf off.val len 0x80000
  | .resultBufferWriteDrop _ off bytes => spanWf off.val bytes.length 0x80000
  | .poolStreamRead off len => spanWf off.val len 0x4000000
  | .fecCodeword _ _ codeword => codeword.length == 136
  | .dmaReadReturn _ _ data => decide (data.length ≤ 4096)
  | .smbRefresh rails => rails.length == 11
  | .sensorSample counts powers => decide (counts.length ≤ 96) && decide (powers.length ≤ 5)
  | _ => true

end Sys2Proof
end

