-- ==== Sys2Proof/Tests/Slice0.lean ====
section
/-! SUPPORT. Tests: ill-formed commands, worked examples of the spec, and for each clause of a statement with premises a state and
operands that meet them. A witness asserts premises alone; its values stand at the ends of the operands' ranges where a clause has
one. -/
open Sys2Proof Sys2Proof.Machine Sys2Proof.Safety
namespace Sys2Proof.Tests

set_option Elab.async false

/-- A small state: the reset state with fields of registers set, the device changed by `f`, and a clock. -/
def st (l : List (Fld × Nat)) (f : Dev → Dev := id) (c : Clock := {}) : State :=
  { dev := f (l.foldl (fun d p => d.fset p.1 p.2) {}), clk := c }

/-- A register word with fields set. -/
def fv (l : List (Fld × Nat)) : W32 := l.foldl (fun w p => p.1.put w p.2) 0

/-- The device in mode FULL with every channel domain on. -/
def full (l : List (Fld × Nat) := []) (f : Dev → Dev := id) (c : Clock := {}) : State := st ((GLB_MODE.CUR, 3) :: l) f c

/-- A clock that counts on the beat grid, at tick `n`. -/
def beat (n : Nat := 1000) : Clock := { now := BitVec.ofNat 64 n, counting := true, tstate := .locked }

/-- A number with values placed from their lowest bits on. -/
def wd (l : List (Nat × Nat)) : Nat := l.foldl (fun a p => a + p.2 * 2 ^ p.1) 0

/-- A pass through segment 0 up to `stop`. -/
def rp (stop : Nat := 1000) : Plan := { seg := 0, start := 0, stop := stop }

/-- Output channel 191 about to read the step word `w` with its cursor at 2. -/
def rd (w : Nat) (stop : Nat := 1000) (l : List (Fld × Nat) := []) (f : Dev → Dev := id) : State :=
  full ((SE_SEG_LO.LENM1 191 0, 7) :: l)
    (fun d => f ((d.wrLe (stepAddr 191 0) 32 w).setEng 191 { mode := .running, plans := [rp stop], cursor := 2 })) (beat 0)

/-- The device of `s` once engine 191 has opened its next segment. -/
def opened (s : State) : Dev := s.dev.openNext 191 s.clk.now.toNat

/-- Output channel 191 with an engine. -/
def withEng (e : Engine) (l : List (Fld × Nat) := []) (n : Nat := 0) (f : Dev → Dev := id) : State :=
  full l (fun d => f (d.setEng 191 e)) (beat n)

/-- Input channel 31 running, about to read the capture word `w`. -/
def cap (w : Nat) (x : DtSt := {}) (cursor : Nat := 0) : State :=
  full [] (fun d => (d.wrLe (capBase 31) 16 w).setIc 31 { mode := .running, cursor := cursor, dts := tset {} [] 15 x }) (beat 0)

/-- Input channel 31 with a demodulator's windows. -/
def withDt (x : DtSt) (n : Nat := 0) : State := full [] (fun d => d.setDt 31 15 x) (beat n)

theorem eng_setEng (d : Dev) (n m : Nat) (e : Engine) : (d.setEng n e).eng m = if m = n then e else d.eng m := by
  unfold Dev.setEng Dev.eng Dev.setOc Dev.oc
  split
  · subst m; simp
  · rw [tget_tset_ne _ _ _ _ ‹_›]

theorem tu_setTu (d : Dev) (u x : Nat) (v : TuSt) (h : x ≠ u) : (d.setTu u v).tu x = d.tu x := by
  unfold Dev.setTu Dev.tu
  exact tget_tset_ne _ _ _ _ h

/-- A routine in progress at the first user micro-word. -/
def callAt : CallSt :=
  { pc := 14336, last := 14336, c := 0, stop := 1000, strobe := false, adv := 0, segEnd := false, src := [] }

/-- Output channel 191 about to read the micro-word `w`. -/
def micro (w : Nat) (c : CallSt) : State :=
  full [] (fun d => (d.wrLe (mcBase + 16 * 14336) 16 w).setEng 191 { mode := .running, plans := [rp], call := some c })

/-! ### Well-formed commands: one ill-formed command for each check -/

theorem test_wf_adc_codes : Instr.wf (.tick [⟨0, List.replicate 31 0⟩]) = false := by decide
theorem test_wf_adc_channels : Instr.wf (.tick [⟨3, List.replicate 32 0⟩, ⟨3, List.replicate 32 0⟩]) = false := by decide
theorem test_wf_lane_symbols : Instr.wf (.slot 0 [⟨0, true, List.replicate 33 0⟩]) = false := by decide
theorem test_wf_lanes : Instr.wf (.slot 0 [⟨3, true, List.replicate 34 0⟩, ⟨3, true, List.replicate 34 0⟩]) = false := by decide
theorem test_wf_bar0 : Instr.wf (.reservedRangeAccess .bar0 0x2000000 (.read .w32)) = false := by decide
theorem test_wf_bar2 : Instr.wf (.poweredOffDomainAccess .bar2 0x20000000 (.read .w64)) = false := by decide
theorem test_wf_span_end : Instr.wf (.stepStoreWrite 0 0x3FFFF [0, 0]) = false := by decide
theorem test_wf_span_empty : Instr.wf (.shapeLibraryWrite 0 0 []) = false := by decide
theorem test_wf_weights : Instr.wf (.weightWrite 0 0xFFFF [0, 0]) = false := by decide
theorem test_wf_results : Instr.wf (.resultBufferRead 0 0x7FFFF 2) = false ∧ Instr.wf (.resultBufferWriteDrop 0 0x7FFFF [0, 0]) = false := by
  decide
theorem test_wf_pool : Instr.wf (.poolStreamRead 0x3FFFFFF 2) = false := by decide
theorem test_wf_codeword : Instr.wf (.fecCodeword 0 0 (List.replicate 135 0)) = false := by decide +kernel
theorem test_wf_read_return : Instr.wf (.dmaReadReturn 0 .ok (List.replicate 4097 0)) = false := by
  rw [Instr.wf, List.length_replicate]; decide
theorem test_wf_rails : Instr.wf (.smbRefresh []) = false := by decide
theorem test_wf_sample : Instr.wf (.sensorSample (List.replicate 97 0) []) = false ∧ Instr.wf (.sensorSample [] [0, 0, 0, 0, 0, 0]) = false := by
  decide +kernel

/-! ### Worked examples of the spec -/

/-- The read-out example of spec/06_readout_chains.md: distances, decision and record. -/
theorem test_result_record :
    discriminate [1562500000, 751562500000, 1824062500000] 34 = (0, 43) ∧
    mkRecord 11 0 8 5 0 43 (flagBits false false false false false false) = 0x00000B0000429581#64 ∧
    mkRecord 11 0 8 5 0 0 (flagBits false false true false false false) = 0x00000B0000428011#64 := by decide +kernel

/-- The trigger example of spec/09_witness_pool_and_triggers.md: the first two words of the record. -/
theorem test_capture_record :
    let w : TuWindow :=
      { n := 224000020, p := 14336001240, cond := 0x28, srck := 0, pre := 64, pin := true, late := false, tsus := false,
        shot := 0, round := 0, start := 0x4000 }
    (captureRecord 2 w 224003220 0x4000 0x4068 0 false).take 2 = [0x6ACFC0, 0x9B14040800C80040] := by decide +kernel

/-- The relay example of spec/12_rill_event_network.md: closing the cycle is refused and recorded. -/
theorem test_relay_cycle :
    (match exec (.rilSrcWrite .host 992 0x8000000C#32)
      (full [(RIL_RL.OWNER 12, 1), (RIL_TASK.EN 480, 1), (RIL_TASK.RILL 480, 12)]) with
      | .next t => (t.dev.reg RIL_ERRINFO.off, t.dev.fget RIL_ERR.ROUTE_CYCLE, t.dev.fget (RIL_SRC.EN 992))
      | _ => (0, 0, 1)) = (0x900003E0#32, 1, 0) := by decide +kernel

/-- The trim example of spec/17_calibration_selftest_repair.md: sets 1 and 2, w = 124, v = −1,142. -/
theorem test_trim : setPair [0, 1, 2, 3, 4] 997 = (1, 2, 124) ∧ setValue (-1200) (-1080) 124 = -1142 := by decide +kernel

/-- VDD_CORE at 0.75 V (R564). -/
theorem test_linear11 : linear11 (3 * 2 ^ 14) = 0xB300#16 := by decide +kernel

/-- α of the ledger example of spec/16_heat_supply_and_cryostat_ledger.md: 21,474 for TAU 2,000. -/
theorem test_ledger : ledgerFilter 0 (2 ^ 32 - 1) 2000 = 21473 ∧ ledgerFilter 7 7 2000 = 7 := by decide +kernel

/-- The check value of CRC-32 (R429) over the digits 1 to 9. -/
theorem test_crc32 : crc32 [0x31, 0x32, 0x33, 0x34, 0x35, 0x36, 0x37, 0x38, 0x39] = 0xCBF43926 := by decide +kernel

/-- SHA-256 of "abc", the example of FIPS 180-4. -/
theorem test_sha256 : (sha256 [0x61, 0x62, 0x63]).take 8 = [0xBA, 0x78, 0x16, 0xBF, 0x8F, 0x01, 0xCF, 0xEA] := by decide +kernel

/-- Four byte errors of a codeword are corrected (R314). -/
theorem test_rs :
    let w := List.replicate 127 0 ++ [9] ++ rsParity (List.replicate 127 0 ++ [9])
    rsDecode ((w.set 0 7).set 60 255 |>.set 130 1 |>.set 135 128) = some (w, true) := by decide +kernel

/-! ### The queue -/

/-- Commands leave the queue first in, first out. -/
theorem test_first_in_first_out :
    (match step { full [] with pending := [.strobeNow 0 0, .crystalCycle] } with
      | .next t => t.pending
      | _ => []) = [.crystalCycle] := by decide +kernel

/-- The table's words spell no command. -/
theorem test_no_words : decodeTableWord 32 7 = none ∧ State.reset.withFetchWord 32 7 = State.reset := by decide +kernel

/-- A pin reset shorter than 1,000 ns is none (R517). -/
theorem test_pin_reset :
    (match exec (.pinReset 999) (full []) with | .next t => decide (t = full []) | _ => false) = true := by decide +kernel

/-- The count moves by one on a tick, and wraps (R44). -/
theorem test_tick_wraps :
    (match exec (.tick []) (st [] id (beat 0xFFFFFFFFFFFFFFFF)) with | .next t => t.clk.now | _ => 1) = 0 := by decide +kernel

/-! ### Micro-words and samples: the premises of statements that range over commands -/

/-- Each user operation is ready somewhere. -/
theorem witness_micro_operations :
    ∀ u ∈ [uopNop, uopLdi, uopAdd, uopSub, uopAnd, uopOr, uopXor, uopShl, uopShr, uopAddi, uopMul, uopSkipz, uopSkipnz, uopSkiplt],
      microReady 191 (micro (wd [(122, u)]) callAt) callAt (.ofNat (wd [(122, u)])) ∧ (MicroWord.ofNat (wd [(122, u)])).uop = u := by
  unfold microReady; decide +kernel

/-- A part whose sensors read within their band at count 0 gives a good sample. -/
theorem witness_good_sample (h : ∀ i, i < 96 → inBand i 0 = true) : goodSample (full []) (List.replicate 96 0) := by
  have a : ∀ i, i < 96 → (full []).dev.sensorFailed i = false ∧ ((List.replicate 96 0)[i]?).getD 0 = 0 ∧
      (tget {} (full []).dev.heat.sensors i : SensorSt).count ≠ some 0 := by decide +kernel
  intro i hi
  rw [(a i hi).2.1]
  exact ⟨(a i hi).1, h i hi, (a i hi).2.2⟩

/-! ### Witnesses: states and operands that meet the premises of the statements, clause by clause -/


theorem witness_StepTakesTheFrontCommand :
    (∃ (c : Instr) (rest : List Instr) (s : State), s.pending = c :: rest) ∧
    (∃ (s : State), s.pending = []) :=
  ⟨⟨.crystalCycle, [], { pending := [.crystalCycle] }, by decide +kernel⟩,
   ⟨{}, by decide +kernel⟩⟩

theorem witness_StepKeepsTheClockSound : ∃ (s t : State), clockOk s.clk ∧ step s = .next t :=
  ⟨{}, {}, by unfold clockOk; decide +kernel, rfl⟩

theorem witness_OtherCommandsKeepTheClock : ∃ (c : Instr) (s t : State), clockCommand c = false ∧ exec c s = .next t :=
  ⟨.rxIdleBlock 0 0, {}, {}, rfl, rfl⟩

theorem witness_TickAndCrystal :
    (∃ (_adc : List AdcTick) (s : State), s.clk.counting = true ∧ s.clk.starting = false ∧ s.clk.incNext = none) ∧
    (∃ (_adc : List AdcTick) (s : State), s.clk.starting = true) ∧
    (∃ (s : State), s.dev.vauxLost = false ∧ s.clk.counting = false ∧ s.clk.incNext = none) :=
  ⟨⟨[], st [] id (beat 0xFFFFFFFFFFFFFFFF), by decide +kernel⟩,
   ⟨[], st [] id { starting := true }, by decide +kernel⟩,
   ⟨{}, by decide +kernel⟩⟩

theorem witness_LateActionDropped :
    (∃ (n : Fin 16) (v : W32) (s : State), s.dev.fget (TML_ACT_CTL.ARM n) = 0 ∧ s.clk.timed = true ∧ (TML_ACT_CTL.ARM n).of v = 1 ∧ (TML_ACT_CTL.CANCEL n).of v = 0 ∧ (TML_ACT_CTL.ASAP n).of v = 0 ∧ s.dev.actValue n < s.clk.now.toNat + 64) ∧
    (∃ (n : Fin 16) (v : W32) (s : State), s.dev.fget (TML_ACT_CTL.ARM n) = 0 ∧ s.clk.timed = true ∧ (TML_ACT_CTL.ARM n).of v = 1 ∧ (TML_ACT_CTL.CANCEL n).of v = 0 ∧ (TML_ACT_CTL.ASAP n).of v = 0 ∧ s.dev.actValue n = s.clk.now.toNat + 64) ∧
    (∃ (n : Fin 16) (s : State), s.clk.counting = true ∧ s.dev.mode ≠ .sleep ∧ s.dev.fget (TML_ACT_CTL.ARM n) = 1 ∧ s.dev.fget (TML_ACT_CTL.ASAP n) = 0 ∧ s.dev.fget (TML_ACT_CTL.CODE n) = 0 ∧ (∀ k, k < n.val → s.dev.fget (TML_ACT_CTL.ARM k) = 0)) :=
  ⟨⟨15, fv [(TML_ACT_CTL.ARM 15, 1)], st [(TML_ACT_LO.VALUE_LO 15, 1063)] id (beat 1000), by decide +kernel⟩,
   ⟨15, fv [(TML_ACT_CTL.ARM 15, 1)], st [(TML_ACT_LO.VALUE_LO 15, 1064)] id (beat 1000), by decide +kernel⟩,
   ⟨15, full [(TML_ACT_CTL.ARM 15, 1)] id (beat 0), by decide +kernel⟩⟩

theorem witness_TimedActions :
    (∃ (n : Fin 16) (v : W32) (s : State), s.dev.fget (TML_ACT_CTL.ARM n) = 0 ∧ s.clk.timed = true ∧ (TML_ACT_CTL.ARM n).of v = 1 ∧ (TML_ACT_CTL.CANCEL n).of v = 0 ∧ (TML_ACT_CTL.ASAP n).of v = 0 ∧ s.clk.now.toNat + 64 ≤ s.dev.actValue n) ∧
    (∃ (n : Fin 16) (v : W32) (s : State), s.dev.fget (TML_ACT_CTL.ARM n) = 0 ∧ s.clk.timed = true ∧ (TML_ACT_CTL.ARM n).of v = 1 ∧ (TML_ACT_CTL.CANCEL n).of v = 0 ∧ (TML_ACT_CTL.ASAP n).of v = 1) ∧
    (∃ (n : Fin 16) (v : W32) (s : State), s.dev.fget (TML_ACT_CTL.ARM n) = 1 ∧ (TML_ACT_CTL.CANCEL n).of v = 1) ∧
    (∃ (n : Fin 16) (k : Nat) (s : State), (k = 0 ∨ 6 ≤ k) ∧ fires n k s) ∧
    (∃ (n : Fin 16) (s : State), fires n 1 s) ∧
    (∃ (n : Fin 16) (s : State), fires n 2 s) ∧
    (∃ (n : Fin 16) (oc : OcId) (s : State), fires n 3 s ∧ (s.dev.eng oc).mode = .primed ∧ (s.dev.eng oc).plans = [] ∧ s.dev.fget (SE_CTRL.GROUP oc) = s.dev.fget (TML_ACT_CTL.ARG n) % 16) ∧
    (∃ (n : Fin 16) (s : State), fires n 4 s) ∧
    (∃ (n : Fin 16) (s : State), fires n 5 s) :=
  ⟨⟨15, fv [(TML_ACT_CTL.ARM 15, 1)], st [(TML_ACT_LO.VALUE_LO 15, 1064)] id (beat 1000), by decide +kernel⟩,
   ⟨0, fv [(TML_ACT_CTL.ARM 0, 1), (TML_ACT_CTL.ASAP 0, 1)], st [] id (beat 1000), by decide +kernel⟩,
   ⟨0, fv [(TML_ACT_CTL.CANCEL 0, 1)], st [(TML_ACT_CTL.ARM 0, 1)], by decide +kernel⟩,
   ⟨0, 6, full [(TML_ACT_CTL.ARM 0, 1), (TML_ACT_CTL.CODE 0, 6), (TML_ACT_LO.VALUE_LO 0, 1000)] id (beat 1000), by unfold fires; decide +kernel⟩,
   ⟨0, full [(TML_ACT_CTL.ARM 0, 1), (TML_ACT_CTL.CODE 0, 1), (TML_ACT_LO.VALUE_LO 0, 1000)] id (beat 1000), by unfold fires; decide +kernel⟩,
   ⟨0, full [(TML_ACT_CTL.ARM 0, 1), (TML_ACT_CTL.CODE 0, 2), (TML_ACT_LO.VALUE_LO 0, 1000)] id (beat 1000), by unfold fires; decide +kernel⟩,
   ⟨15, 191, full [(TML_ACT_CTL.ARM 15, 1), (TML_ACT_CTL.CODE 15, 3), (TML_ACT_LO.VALUE_LO 15, 1000), (TML_ACT_CTL.ARG 15, 31), (SE_CTRL.GROUP 191, 15)] (fun d => d.setEng 191 { mode := .primed }) (beat 1000), by unfold fires; decide +kernel⟩,
   ⟨0, full [(TML_ACT_CTL.ARM 0, 1), (TML_ACT_CTL.CODE 0, 4), (TML_ACT_LO.VALUE_LO 0, 1000)] id (beat 1000), by unfold fires; decide +kernel⟩,
   ⟨0, full [(TML_ACT_CTL.ARM 0, 1), (TML_ACT_CTL.CODE 0, 5), (TML_ACT_LO.VALUE_LO 0, 1000)] id (beat 1000), by unfold fires; decide +kernel⟩⟩

theorem witness_PulseGenerators :
    (∃ (n : Fin 4) (v : W32) (s : State), s.dev.fget (NT_PG_CTL.ARM n) = 0 ∧ (NT_PG_CTL.ARM n).of v = 1 ∧ s.clk.timed = true ∧ s.dev.fget (NT_PG_PERIOD.PERIOD n) = 0) ∧
    (∃ (n : Fin 4) (v : W32) (s : State), s.dev.fget (NT_PG_CTL.ARM n) = 0 ∧ (NT_PG_CTL.ARM n).of v = 1 ∧ s.clk.timed = true ∧ s.dev.fget (NT_PG_PERIOD.PERIOD n) ≠ 0 ∧ 32 * max 1 ((NT_PG_CTL.WIDTH n).of v) ≤ 10 * s.dev.fget (NT_PG_PERIOD.PERIOD n)) ∧
    (∃ (n : Fin 4) (v : W32) (s : State), s.dev.fget (NT_PG_CTL.ARM n) = 1 ∧ (NT_PG_CTL.ARM n).of v = 0) ∧
    (∃ (n : Fin 4) (o : Nat) (s : State), (s.dev.pg n).next = some o ∧ s.dev.fget (NT_PG_CTL.ARM n) = 1 ∧ s.clk.counting = true ∧ ntReached s.clk.nt.units o = true) ∧
    (∃ (n : Fin 4) (e : Nat) (s : State), (s.dev.pg n).fallAt = some e ∧ e ≤ s.dev.tk) :=
  ⟨⟨3, fv [(NT_PG_CTL.ARM 3, 1)], st [] id (beat 0), by decide +kernel⟩,
   ⟨3, fv [(NT_PG_CTL.ARM 3, 1), (NT_PG_CTL.WIDTH 3, 1)], st [(NT_PG_PERIOD.PERIOD 3, 4)] id (beat 0), by decide +kernel⟩,
   ⟨3, 5, st [(NT_PG_CTL.ARM 3, 1)] (fun d => d.setPg 3 { next := some 5 }) { beat 10 with nt := { ns := 5 } }, by decide +kernel⟩,
   ⟨3, 5, st [(NT_PG_CTL.ARM 3, 1)] (fun d => d.setPg 3 { next := some 5 }) { beat 10 with nt := { ns := 5 } }, by decide +kernel⟩,
   ⟨3, 0, st [] (fun d => d.setPg 3 { fallAt := some 0 }), by decide +kernel⟩⟩

theorem witness_TimebeatMovesNothing :
    (∃ (_f : BitVec 10) (s : State), s.clk.counting = true ∧ s.clk.aligned = true ∧ s.clk.startPend = false ∧ s.clk.acq = none) ∧
    (∃ (s : State), s.clk.counting = true ∧ s.clk.aligned = true ∧ s.clk.now.toNat % 320 = 0 ∧ s.clk.lastBeat ≠ some s.dev.tk) :=
  ⟨⟨1023, st [] id (beat 640), by decide +kernel⟩,
   ⟨st [] id (beat 640), by decide +kernel⟩⟩

theorem witness_SyncExchanges :
    (∃ (p : PortId) (_f : BitVec 10) (_xid : BitVec 8) (h : BitVec 4) (_su : Bool) (s : State), s.clk.counting = true ∧ s.dev.portUp p = true ∧ s.dev.wellhead = false ∧ s.dev.upCandidate p = true ∧ h ≠ 15 ∧ s.dev.fget (TML_HOP.VALID p) = 1 ∧ s.clk.tstate = .free ∧ (∀ q, (s.clk.port q).lastUsable = none) ∧ bitAt (s.dev.fget TDC_CTL.SYNC) p = false) ∧
    (∃ (p : PortId) (_f : BitVec 10) (s : State), s.clk.timed = true ∧ s.clk.counting = true ∧ s.dev.portUp p = true ∧ s.clk.active.toNat ≠ p ∧ (s.clk.port p).sentAt = none) ∧
    (∃ (p : PortId) (xid : BitVec 8) (v : BitVec 74) (n : BitVec 110) (s : State), (s.clk.port p).sent = some (xid, v, n) ∧ (s.clk.port p).leftAt + 7 ≤ s.dev.tk ∧ s.dev.portUp p = true) ∧
    (∃ (p : PortId) (_f : BitVec 10) (s : State), (s.clk.port p).dreqDue = true ∧ s.dev.portUp p = true ∧ s.dev.wellhead = false) ∧
    (∃ (p : PortId) (_f : BitVec 10) (_xid : BitVec 8) (s : State), s.dev.portUp p = true) :=
  ⟨⟨5, 0, 0, 14, false, full [(LNK_P_STAT.STATE 5, 4), (TML_CTRL.ROLE, 0), (TML_CTRL.UP_PRI, 5), (TML_HOP.VALID 5, 1)] id { counting := true }, by decide +kernel, by decide +kernel, by decide +kernel, by decide +kernel, by decide, by decide +kernel, rfl, fun _ => rfl, by decide +kernel⟩,
   ⟨5, 1023, full [(LNK_P_STAT.STATE 5, 3)] id (beat 1), by decide +kernel⟩,
   ⟨5, 1, 2, 3, full [(LNK_P_STAT.STATE 5, 3)] (fun d => { d with tk := 7 }) ((beat 1).setPort 5 { sent := some (1, 2, 3) }), by decide +kernel⟩,
   ⟨5, 1023, full [(LNK_P_STAT.STATE 5, 3), (TML_CTRL.ROLE, 0)] id ((beat 1).setPort 5 { dreqDue := true }), by decide +kernel⟩,
   ⟨5, 0, 255, full [(LNK_P_STAT.STATE 5, 3)], by decide +kernel⟩⟩

theorem witness_MeanPathDelay : ∃ (p : PortId) (xid : BitVec 8) (_t4 : BitVec 74) (s : State), s.dev.portUp p = true ∧ (s.clk.port p).dreqXid = some xid :=
  ⟨5, 255, 7, full [(LNK_P_STAT.STATE 5, 3)] id ((beat 1).setPort 5 { dreqXid := some 255 }), by decide +kernel⟩

theorem witness_FollowVerifies : ∃ (p : PortId) (f : FollowFlit) (a own : Nat) (s : State), s.clk.counting = true ∧ s.dev.portUp p = true ∧ s.dev.wellhead = false ∧ s.dev.upCandidate p = true ∧ f.hops ≠ 15 ∧ s.dev.fget (TML_HOP.VALID p) = 1 ∧ (s.clk.port p).wait = some (f.xid, a, own) ∧ s.clk.active.toNat = p ∧ s.clk.tstate = .locked ∧ s.clk.realignPend = none :=
  ⟨5, { xid := 9, vSend := 5, ntSend := 0, epoch := 0, hops := 14, suspect := false }, 3, 4, full [(LNK_P_STAT.STATE 5, 3), (TML_CTRL.ROLE, 0), (TML_CTRL.UP_PRI, 5), (TML_HOP.VALID 5, 1)] id (({ beat 1 with active := 5 } : Clock).setPort 5 { wait := some (9, 3, 4) }), by decide +kernel⟩

theorem witness_CountAndUpstream :
    (∃ (v : W32) (s : State), s.dev.mode ≠ .load ∧ s.dev.wellhead = true ∧ s.clk.tstate ≠ .locked ∧ TML_CTRL.START.of v = 1 ∧ TML_CTRL.REALIGN.of v = 0) ∧
    (∃ (_f : BitVec 10) (s : State), s.clk.counting = true ∧ s.clk.startPend = true ∧ s.dev.fget TDC_CTL.TB = 0) ∧
    (∃ (v : W32) (s : State), s.dev.mode ≠ .load ∧ s.dev.mode.realigns = true ∧ s.dev.wellhead = false ∧ s.clk.timed = true ∧ TML_CTRL.REALIGN.of v = 1) ∧
    (∃ (p : PortId) (e : Nat) (s : State), s.dev.wellhead = false ∧ s.clk.timed = true ∧ s.clk.active.toNat = p ∧ (s.clk.port p).lastSync = some e ∧ e + 4 * s.dev.syncPeriod ≤ s.dev.tk) ∧
    (∃ (p : PortId) (e : Nat) (s : State), s.dev.wellhead = false ∧ s.clk.tstate = .acquire ∧ s.clk.active.toNat = p ∧ (s.clk.port p).lastSync = some e ∧ e + 4 * s.dev.syncPeriod ≤ s.dev.tk ∧ 6 ≤ s.dev.upOther p) ∧
    (∃ (p q : PortId) (r : Nat) (s : State), s.dev.wellhead = false ∧ s.clk.timed = true ∧ s.dev.fget TML_CTRL.UP_PRI = p ∧ s.dev.fget TML_CTRL.UP_ALT = q ∧ p ≠ q ∧ s.clk.active.toNat = q ∧ (s.clk.port p).lastUsable = some (s.dev.tk, false) ∧ (s.clk.port p).runStart = some r ∧ max r s.clk.altSince + 64 * s.dev.syncPeriod ≤ s.dev.tk ∧ s.dev.fget (TML_HOP.VALID p) = 1) :=
  ⟨⟨fv [(TML_CTRL.START, 1)], full [(TML_CTRL.ROLE, 1)], by decide +kernel⟩,
   ⟨1023, st [] id { counting := true, startPend := true }, by decide +kernel⟩,
   ⟨fv [(TML_CTRL.REALIGN, 1)], st [(GLB_MODE.CUR, 1), (TML_CTRL.ROLE, 0)] id (beat 640), by decide +kernel⟩,
   ⟨5, 0, st [(TML_CTRL.ROLE, 0), (TML_CTRL.SYNC_PER, 0)] (fun d => { d with tk := 1280 }) (({ beat 1 with active := 5 } : Clock).setPort 5 { lastSync := some 0 }), by decide +kernel⟩,
   ⟨5, 0, st [(TML_CTRL.ROLE, 0), (TML_CTRL.UP_PRI, 5), (TML_CTRL.UP_ALT, 7), (TML_CTRL.SYNC_PER, 0)] (fun d => { d with tk := 1280 }) (({ beat 1 with active := 5, tstate := .acquire } : Clock).setPort 5 { lastSync := some 0 }), by decide +kernel⟩,
   ⟨5, 0, 0, st [(TML_CTRL.ROLE, 0), (TML_CTRL.UP_PRI, 5), (TML_CTRL.UP_ALT, 0), (TML_CTRL.SYNC_PER, 0), (TML_HOP.VALID 5, 1)] (fun d => { d with tk := 20480 }) (({ beat 1 with active := 0 } : Clock).setPort 5 { lastUsable := some (20480, false), runStart := some 0 }), by decide +kernel⟩⟩

theorem witness_IssuingSteps :
    (∃ (oc : OcId) (s : State) (d : Dev) (p : Plan) (w : StepWord), reads oc s d p w ∧ w.op = opPlay ∧ d.queueRoom oc w.fields.tone = true ∧ s.clk.now.toNat + 2 ≤ (d.eng oc).cursor) ∧
    (∃ (oc : OcId) (s : State) (d : Dev) (p : Plan) (w : StepWord), reads oc s d p w ∧ w.op = opSetf ∧ d.queueRoom oc w.fields.tone = true ∧ s.clk.now.toNat + 2 ≤ (d.eng oc).cursor) ∧
    (∃ (oc : OcId) (s : State) (d : Dev) (p : Plan) (w : StepWord), reads oc s d p w ∧ w.op = opIdle) ∧
    (∃ (oc : OcId) (s : State) (d : Dev) (p : Plan) (w : StepWord), reads oc s d p w ∧ w.op = opMark) ∧
    (∃ (oc : OcId) (s : State) (d : Dev) (p : Plan) (w : StepWord), reads oc s d p w ∧ w.op = opFrame ∧ w.aux / 4 % 4 = 0) ∧
    (∃ (oc : OcId) (s : State) (d : Dev) (p : Plan) (w : StepWord), reads oc s d p w ∧ w.op = opFrame ∧ w.aux / 4 % 4 = 1) ∧
    (∃ (oc : OcId) (s : State) (d : Dev) (p : Plan) (w : StepWord), reads oc s d p w ∧ w.op = opFrame ∧ w.aux / 4 % 4 = 2) ∧
    (∃ (oc : OcId) (tone : Fin 16) (c : Cmd) (rest : List Cmd) (s : State), (s.dev.tone oc tone).queue = c :: rest ∧ c.strobe = false ∧ c.step ≤ s.clk.now.toNat) ∧
    (∃ (oc : OcId) (tone : Fin 16) (c : Cmd) (s : State), (s.dev.tone oc tone).queue = [c] ∧ c.strobe = true) :=
  ⟨⟨191, rd (wd [(250, 1), (246, 1), (216, 1)]), opened (rd (wd [(250, 1), (246, 1), (216, 1)])), rp, .ofNat (wd [(250, 1), (246, 1), (216, 1)]), by unfold reads; decide +kernel⟩,
   ⟨191, rd (wd [(250, 2), (241, 1)]), opened (rd (wd [(250, 2), (241, 1)])), rp, .ofNat (wd [(250, 2), (241, 1)]), by unfold reads; decide +kernel⟩,
   ⟨191, rd (wd [(250, 3), (200, 65535)]), opened (rd (wd [(250, 3), (200, 65535)])), rp, .ofNat (wd [(250, 3), (200, 65535)]), by unfold reads; decide +kernel⟩,
   ⟨191, rd (wd [(250, 17)]), opened (rd (wd [(250, 17)])), rp, .ofNat (wd [(250, 17)]), by unfold reads; decide +kernel⟩,
   ⟨191, rd (wd [(250, 16), (246, 1)]), opened (rd (wd [(250, 16), (246, 1)])), rp, .ofNat (wd [(250, 16), (246, 1)]), by unfold reads; decide +kernel⟩,
   ⟨191, rd (wd [(250, 16), (0, 5)]), opened (rd (wd [(250, 16), (0, 5)])), rp, .ofNat (wd [(250, 16), (0, 5)]), by unfold reads; decide +kernel⟩,
   ⟨191, rd (wd [(250, 16), (0, 8)]), opened (rd (wd [(250, 16), (0, 8)])), rp, .ofNat (wd [(250, 16), (0, 8)]), by unfold reads; decide +kernel⟩,
   ⟨191, 15, ⟨1000, true, false, {}, none⟩, [], full [] (fun d => d.setTone 191 15 { queue := [⟨1000, true, false, {}, none⟩] }) (beat 1000), by decide +kernel⟩,
   ⟨191, 15, ⟨1000, true, true, {}, none⟩, full [] (fun d => d.setTone 191 15 { queue := [⟨1000, true, true, {}, none⟩] }) (beat 1000), by decide +kernel⟩⟩

theorem witness_TurningSteps :
    (∃ (oc : OcId) (s : State) (d : Dev) (p : Plan) (w : StepWord), reads oc s d p w ∧ w.op = opBranch ∧ s.clk.now.toNat + 64 ≤ p.stop) ∧
    (∃ (oc : OcId) (s : State) (d : Dev) (p : Plan) (w : StepWord), reads oc s d p w ∧ w.op = opLoop ∧ bitAt w.aux 2 = false) ∧
    (∃ (oc : OcId) (s : State) (d : Dev) (p : Plan) (w : StepWord), reads oc s d p w ∧ w.op = opLoop ∧ bitAt w.aux 2 = true ∧ s.clk.now.toNat + 64 ≤ p.stop) ∧
    (∃ (oc : OcId) (s : State) (d : Dev) (p : Plan) (w : StepWord), reads oc s d p w ∧ w.op = opEnd) ∧
    (∃ (oc : OcId) (s : State) (d : Dev) (p : Plan) (w : StepWord), reads oc s d p w ∧ w.op = opCall) :=
  ⟨⟨191, rd (wd [(250, 9), (34, 255)]) 64, opened (rd (wd [(250, 9), (34, 255)]) 64), rp 64, .ofNat (wd [(250, 9), (34, 255)]), by unfold reads; decide +kernel⟩,
   ⟨191, rd (wd [(250, 10), (34, 7), (18, 1)]), opened (rd (wd [(250, 10), (34, 7), (18, 1)])), rp, .ofNat (wd [(250, 10), (34, 7), (18, 1)]), by unfold reads; decide +kernel⟩,
   ⟨191, rd (wd [(250, 10), (34, 255), (0, 7)]) 64, opened (rd (wd [(250, 10), (34, 255), (0, 7)]) 64), rp 64, .ofNat (wd [(250, 10), (34, 255), (0, 7)]), by unfold reads; decide +kernel⟩,
   ⟨191, rd (wd [(250, 63)]), opened (rd (wd [(250, 63)])), rp, .ofNat (wd [(250, 63)]), by unfold reads; decide +kernel⟩,
   ⟨191, rd (wd [(250, 11), (34, 14336)]) 1000 [] (fun d => { d with urt := [(63, fv [(MCS_URT.VALID 0, 1), (MCS_URT.START 0, 14336), (MCS_URT.LEN 0, 1)])] }), opened (rd (wd [(250, 11), (34, 14336)]) 1000 [] (fun d => { d with urt := [(63, fv [(MCS_URT.VALID 0, 1), (MCS_URT.START 0, 14336), (MCS_URT.LEN 0, 1)])] })), rp, .ofNat (wd [(250, 11), (34, 14336)]), by unfold reads; decide +kernel⟩⟩

theorem witness_WaitsAndIdles :
    (∃ (oc : OcId) (s : State) (d : Dev) (p : Plan) (w : StepWord), reads oc s d p w ∧ w.op = opWait) ∧
    (∃ (oc : OcId) (s : State) (d : Dev) (p : Plan) (w : StepWord), reads oc s d p w ∧ w.op = opSync ∧ w.aux % 4 = 0 ∧ (d.eng oc).cursor ≤ w.value) ∧
    (∃ (oc : OcId) (s : State) (d : Dev) (p : Plan) (w : StepWord) (v : Nat), reads oc s d p w ∧ w.op = opSync ∧ w.aux % 4 = 1 ∧ d.nextWindow (w.aux / 4 % 4) (d.eng oc).cursor = some v) ∧
    (∃ (oc : OcId) (s : State) (d : Dev) (p : Plan) (w : StepWord), reads oc s d p w ∧ w.op = opSync ∧ w.aux % 4 = 2) ∧
    (∃ (oc : OcId) (s : State) (w : WaitSt) (p : Plan) (e : Nat), (s.dev.eng oc).wait = some w ∧ (s.dev.eng oc).plans.getLast? = some p ∧ w.hit = some e) ∧
    (∃ (oc : OcId) (s : State) (w : WaitSt) (p : Plan), (s.dev.eng oc).wait = some w ∧ (s.dev.eng oc).plans.getLast? = some p ∧ w.hit = none ∧ w.c + w.dur ≤ s.clk.now.toNat) ∧
    (∃ (oc : OcId) (s : State) (d : Dev) (p : Plan) (w : StepWord) (tone : Bool), d = s.dev.openNext oc s.clk.now.toNat ∧ d.readable oc s.clk.now.toNat = some p ∧ w = d.stepWord oc (d.eng oc).pos ∧ d.stepBad oc p w = some tone) ∧
    (∃ (oc : OcId) (s : State) (d : Dev) (p : Plan) (w : StepWord), reads oc s d p w ∧ w.op = opBranch ∧ p.stop < s.clk.now.toNat + 64) ∧
    (∃ (oc : OcId) (s : State) (d : Dev) (p : Plan) (w : StepWord), reads oc s d p w ∧ w.op = opLoop ∧ bitAt w.aux 2 = true ∧ p.stop < s.clk.now.toNat + 64) ∧
    (∃ (oc : OcId) (s : State) (d : Dev) (p : Plan) (w : StepWord), reads oc s d p w ∧ w.op = opSync ∧ w.aux % 4 = 0 ∧ w.value < (d.eng oc).cursor) ∧
    (∃ (oc : OcId) (s : State) (d : Dev) (p : Plan) (w : StepWord), reads oc s d p w ∧ w.op = opSync ∧ w.aux % 4 = 1 ∧ d.nextWindow (w.aux / 4 % 4) (d.eng oc).cursor = none) ∧
    (∃ (oc : OcId) (s : State) (d : Dev) (p : Plan) (w : StepWord), reads oc s d p w ∧ w.op = opPlay ∧ d.queueRoom oc w.fields.tone = true ∧ (d.eng oc).cursor < s.clk.now.toNat + 2) :=
  ⟨⟨191, rd (wd [(250, 8)]), opened (rd (wd [(250, 8)])), rp, .ofNat (wd [(250, 8)]), by unfold reads; decide +kernel⟩,
   ⟨191, rd (wd [(250, 18), (128, 2)]), opened (rd (wd [(250, 18), (128, 2)])), rp, .ofNat (wd [(250, 18), (128, 2)]), by unfold reads; decide +kernel⟩,
   ⟨191, rd (wd [(250, 18), (0, 13)]) 1000 [(CL_CFG.HOLD, 1), (CL_WIN.LEN 3, 1)] (fun d => { d with cycle := { held := some (0, 1024000) } }), opened (rd (wd [(250, 18), (0, 13)]) 1000 [(CL_CFG.HOLD, 1), (CL_WIN.LEN 3, 1)] (fun d => { d with cycle := { held := some (0, 1024000) } })), rp, .ofNat (wd [(250, 18), (0, 13)]), 1000, by unfold reads; decide +kernel⟩,
   ⟨191, rd (wd [(250, 18), (0, 2), (128, 2), (216, 1)]), opened (rd (wd [(250, 18), (0, 2), (128, 2), (216, 1)])), rp, .ofNat (wd [(250, 18), (0, 2), (128, 2), (216, 1)]), by unfold reads; decide +kernel⟩,
   ⟨191, withEng { mode := .waiting, plans := [rp], wait := some ⟨11, 5, 0, false, 0, false, some 11⟩ }, ⟨11, 5, 0, false, 0, false, some 11⟩, rp, 11, by decide +kernel⟩,
   ⟨191, withEng { mode := .waiting, plans := [rp], wait := some ⟨11, 5, 0, true, 0, false, none⟩ } [] 16, ⟨11, 5, 0, true, 0, false, none⟩, rp, by decide +kernel⟩,
   ⟨191, rd (wd [(250, 1), (246, 15)]), opened (rd (wd [(250, 1), (246, 15)])), rp, .ofNat (wd [(250, 1), (246, 15)]), true, by decide +kernel⟩,
   ⟨191, rd (wd [(250, 9)]) 63, opened (rd (wd [(250, 9)]) 63), rp 63, .ofNat (wd [(250, 9)]), by unfold reads; decide +kernel⟩,
   ⟨191, rd (wd [(250, 10), (0, 4)]) 63, opened (rd (wd [(250, 10), (0, 4)]) 63), rp 63, .ofNat (wd [(250, 10), (0, 4)]), by unfold reads; decide +kernel⟩,
   ⟨191, rd (wd [(250, 18), (128, 1)]), opened (rd (wd [(250, 18), (128, 1)])), rp, .ofNat (wd [(250, 18), (128, 1)]), by unfold reads; decide +kernel⟩,
   ⟨191, rd (wd [(250, 18), (0, 13)]), opened (rd (wd [(250, 18), (0, 13)])), rp, .ofNat (wd [(250, 18), (0, 13)]), by unfold reads; decide +kernel⟩,
   ⟨191, (withEng { mode := .running, plans := [rp], cursor := 1 } [(SE_SEG_LO.LENM1 191 0, 7)] 0 (fun d => d.wrLe (stepAddr 191 0) 32 (wd [(250, 1)]))), opened (withEng { mode := .running, plans := [rp], cursor := 1 } [(SE_SEG_LO.LENM1 191 0, 7)] 0 (fun d => d.wrLe (stepAddr 191 0) 32 (wd [(250, 1)]))), rp, .ofNat (wd [(250, 1)]), by unfold reads; decide +kernel⟩⟩

theorem witness_BranchDecided : ∃ (oc : OcId) (s : State) (p : Plan) (b : BranchSt) (c : CiSt), (s.dev.eng oc).plans = [p] ∧ p.branch = some b ∧ b.chosen = none ∧ p.stop ≤ s.clk.now.toNat + s.dev.lead oc ∧ b.cond < 32 ∧ s.dev.lead oc < s.dev.segDur oc p.seg ∧ c = tget {} (s.dev.eng oc).ci (b.cond % 16) :=
  ⟨191, withEng { plans := [{ rp 6 with branch := some ⟨31, 255, none⟩ }] } [(SE_SEG_HI.DUR 191 0, 65535)], { rp 6 with branch := some ⟨31, 255, none⟩ }, ⟨31, 255, none⟩, {}, by decide +kernel⟩

theorem witness_CheckTickArms : ∃ (oc : OcId) (s : State) (p : Plan), (s.dev.eng oc).plans = [p] ∧ p.checked = false ∧ p.ended = false ∧ p.stop ≤ s.clk.now.toNat + 64 :=
  ⟨191, withEng { plans := [rp 64] }, rp 64, by decide +kernel⟩

theorem witness_BoundaryStartsTheNext :
    (∃ (oc : OcId) (s : State) (p q : Plan) (rest : List Plan), (s.dev.eng oc).plans = p :: q :: rest ∧ (s.dev.eng oc).mode = .running ∧ p.starved = false ∧ p.ended = false ∧ q.starved = false ∧ p.stop ≤ s.clk.now.toNat ∧ (∀ b, p.branch = some b → b.chosen ≠ none) ∧ q.seg ≠ p.seg) ∧
    (∃ (oc : OcId) (s : State) (p q : Plan) (rest : List Plan), (s.dev.eng oc).plans = p :: q :: rest ∧ (s.dev.eng oc).mode = .starving ∧ p.starved = true ∧ p.ended = false ∧ q.starved = false ∧ p.stop ≤ s.clk.now.toNat ∧ (∀ b, p.branch = some b → b.chosen ≠ none)) :=
  ⟨⟨191, withEng { mode := .running, plans := [rp 5, { rp 9 with seg := 255 }] } [] 5, rp 5, { rp 9 with seg := 255 }, [], by decide +kernel, by decide +kernel, rfl, rfl, rfl, by decide +kernel, by simp [rp], by decide⟩,
   ⟨191, withEng { mode := .starving, plans := [{ rp 5 with starved := true }, { rp 9 with seg := 255 }] } [] 5, { rp 5 with starved := true }, { rp 9 with seg := 255 }, [], by decide +kernel, by decide +kernel, rfl, rfl, rfl, by decide +kernel, by simp [rp]⟩⟩

theorem witness_AbsentSegmentStarves : ∃ (oc : OcId) (s : State) (p : Plan), (s.dev.eng oc).plans = [p] ∧ (s.dev.eng oc).mode = .running ∧ p.starved = false ∧ p.ended = false ∧ p.readDone = true ∧ p.branch = none ∧ p.jump = none ∧ p.stop ≤ s.clk.now.toNat ∧ (s.dev.eng oc).wait = none ∧ (s.dev.eng oc).slot = none ∧ s.dev.segNext oc p.seg ≠ p.seg ∧ s.dev.segNext oc p.seg ∈ p.absent ∧ s.dev.fget (SE_SEG_LO.SHOTB oc (s.dev.segNext oc p.seg)) = 0 :=
  ⟨191, withEng { mode := .running, plans := [{ rp 5 with readDone := true, absent := [1] }] } [(SE_SEG_HI.NEXT 191 0, 1)] 5, { rp 5 with readDone := true, absent := [1] }, by decide +kernel⟩

theorem witness_EnginesAndSegments :
    (∃ (oc : OcId) (v : W32) (s : State), s.dev.domOn oc = true ∧ s.dev.rehydrating oc = false ∧ s.dev.mode.running = true ∧ ((s.dev.eng oc).mode = .idle ∨ (s.dev.eng oc).mode = .ended) ∧ s.dev.fget (OC_QCTL.EN oc) = 0 ∧ (SE_CTRL.PRIME oc).of v = 1 ∧ (SE_CTRL.HALT oc).of v = 0 ∧ s.dev.segState oc ((SE_CTRL.ENTRY oc).of v) = segValid) ∧
    (∃ (oc : OcId) (v : W32) (s : State), s.dev.domOn oc = true ∧ s.dev.rehydrating oc = false ∧ (s.dev.eng oc).call = none ∧ (s.dev.eng oc).heldFrom = none ∧ (SE_CTRL.PRIME oc).of v = 0 ∧ (SE_CTRL.HALT oc).of v = 1) ∧
    (∃ (oc : OcId) (g : Fin 16) (p : Plan) (rest : List Plan) (s : State), (s.dev.eng oc).mode = .primed ∧ (s.dev.eng oc).plans = p :: rest ∧ p.start ≤ s.clk.now.toNat ∧ (s.dev.eng oc).group = g ∧ (∀ (m : Nat) (q : Plan) (l : List Plan), (s.dev.eng m).plans = q :: l → q.seg < 256)) ∧
    (∃ (oc : OcId) (v : W32) (s : State), s.dev.domOn oc = true ∧ s.dev.rehydrating oc = false ∧ (s.dev.eng oc).call = none ∧ (s.dev.eng oc).heldFrom = none ∧ (OC_CFG.SRST oc).of v = 1 ∧ (OC_CFG.GAIN oc).of v = (OC_CFG.GAIN oc).of (s.dev.reg (OC_CFG.off oc))) ∧
    (∃ (oc : OcId) (k : Nat) (s : State), (s.dev.eng oc).rebuild = some k ∧ k ≤ s.dev.tk) ∧
    (∃ (oc : OcId) (g : Fin 256) (v : W32) (s : State), s.dev.domOn oc = true ∧ s.dev.rehydrating oc = false ∧ s.dev.fget (OC_QCTL.EN oc) = 0 ∧ (SE_SEG_LO.STATE oc g).of v = segLoading ∧ (s.dev.segState oc g = segEmpty ∨ s.dev.segState oc g = segRetired)) ∧
    (∃ (oc : OcId) (g : Fin 256) (v : W32) (s : State), s.dev.domOn oc = true ∧ s.dev.rehydrating oc = false ∧ s.dev.fget (OC_QCTL.EN oc) = 0 ∧ (SE_SEG_LO.STATE oc g).of v = segValid ∧ s.dev.segState oc g = segLoading ∧ (SE_SEG_LO.START oc g).of v + (SE_SEG_LO.LENM1 oc g).of v ≤ 8191 ∧ 1 ≤ s.dev.segDur oc g) ∧
    (∃ (oc : OcId) (g : Fin 256) (v : W32) (s : State), s.dev.domOn oc = true ∧ s.dev.rehydrating oc = false ∧ (SE_SEG_LO.STATE oc g).of v = segEmpty ∧ (s.dev.segState oc g = segEmpty ∨ s.dev.segState oc g = segLoading ∨ s.dev.segState oc g = segValid ∨ s.dev.segState oc g = segRetired)) ∧
    (∃ (oc : OcId) (g : Fin 256) (v : W32) (s : State), s.dev.domOn oc = true ∧ s.dev.rehydrating oc = false ∧ s.dev.fget (OC_QCTL.EN oc) = 0 ∧ (SE_SEG_LO.STATE oc g).of v = s.dev.segState oc g ∧ (s.dev.segState oc g = segEmpty ∨ s.dev.segState oc g = segLoading ∨ s.dev.segState oc g = segRetired)) ∧
    (∃ (oc : OcId) (g : Fin 256) (_v : W32) (s : State), s.dev.domOn oc = true ∧ s.dev.rehydrating oc = false ∧ (s.dev.segState oc g = segEmpty ∨ s.dev.segState oc g = segLoading ∨ s.dev.segState oc g = segRetired)) ∧
    (∃ (oc : OcId) (g : Fin 256) (_v : W32) (s : State), s.dev.domOn oc = true ∧ s.dev.rehydrating oc = false ∧ s.dev.segState oc g ≠ segEmpty ∧ s.dev.segState oc g ≠ segLoading ∧ s.dev.segState oc g ≠ segRetired) :=
  ⟨⟨191, fv [(SE_CTRL.PRIME 191, 1), (SE_CTRL.ENTRY 191, 255)], full [(SE_SEG_LO.STATE 191 255, 2)], by decide +kernel⟩,
   ⟨191, fv [(SE_CTRL.HALT 191, 1)], full [], by decide +kernel⟩,
   ⟨191, 15, { rp 9 with seg := 255 }, [], withEng { mode := .primed, group := 15, plans := [{ rp 9 with seg := 255 }] } [(SE_CTRL.GROUP 191, 15)], by decide +kernel, by decide +kernel, by decide +kernel, by decide +kernel, fun m q l h => by
    have e : (withEng { mode := .primed, group := 15, plans := [{ rp 9 with seg := 255 }] } [(SE_CTRL.GROUP 191, 15)]).dev.eng m =
      if m = 191 then { mode := .primed, group := 15, plans := [{ rp 9 with seg := 255 }] } else {} := eng_setEng _ _ _ _
    rw [e] at h
    split at h
    · obtain ⟨rfl, rfl⟩ := List.cons.inj h; decide
    · cases h⟩,
   ⟨191, fv [(OC_CFG.SRST 191, 1)], full [], by decide +kernel⟩,
   ⟨191, 7, withEng { rebuild := some 7 } [] 0 (fun d => { d with tk := 7 }), by decide +kernel⟩,
   ⟨191, 255, fv [(SE_SEG_LO.STATE 191 255, 1)], full [(SE_SEG_LO.STATE 191 255, 5)], by decide +kernel⟩,
   ⟨191, 255, fv [(SE_SEG_LO.STATE 191 255, 2), (SE_SEG_LO.START 191 255, 8184), (SE_SEG_LO.LENM1 191 255, 7)], full [(SE_SEG_LO.STATE 191 255, 1), (SE_SEG_HI.DUR 191 255, 1)], by decide +kernel⟩,
   ⟨191, 255, 0, full [(SE_SEG_LO.STATE 191 255, 2)], by decide +kernel⟩,
   ⟨191, 255, fv [(SE_SEG_LO.STATE 191 255, 5)], full [(SE_SEG_LO.STATE 191 255, 5)], by decide +kernel⟩,
   ⟨191, 255, 7, full [], by decide +kernel⟩,
   ⟨191, 255, 7, full [(SE_SEG_LO.STATE 191 255, 4)], by decide +kernel⟩⟩

theorem witness_StepStoreWrites :
    (∃ (oc : OcId) (off : Fin 0x40000) (bytes : List Byte) (s : State), s.dev.domOn oc = true ∧ s.dev.rehydrating oc = false ∧ bytes ≠ [] ∧ off.val + bytes.length ≤ 0x40000 ∧ (∀ i, s.dev.wordProtected oc i = false) ∧ dmaOutside s (bar2Base + 0x40000 * oc.val + off.val) bytes.length) ∧
    (∃ (oc : OcId) (off : Fin 0x40000) (_b : Byte) (s : State), s.dev.domOn oc = true ∧ s.dev.rehydrating oc = false ∧ s.dev.wordProtected oc (off.val / 32) = true ∧ dmaOutside s (bar2Base + 0x40000 * oc.val + off.val) 1) ∧
    (∃ (oc : OcId) (off : Fin 0x40000) (b b' : Byte) (s : State), s.dev.domOn oc = true ∧ s.dev.rehydrating oc = false ∧ s.dev.dmaTick = [(bar2Base + 0x40000 * oc.val + off.val, b')]) :=
  ⟨⟨191, 0x3FFFF, [7], full [(OC_QCTL.EN 191, 1)], by decide +kernel, by decide +kernel, by decide, by decide, fun i => by
    have e : (full [(OC_QCTL.EN 191, 1)]).dev.bit (OC_QCTL.EN 191) = true := by decide +kernel
    unfold Dev.wordProtected
    rw [show ((191 : OcId) : Nat) = 191 from rfl, e]
    rfl, by unfold dmaOutside; decide +kernel⟩,
   ⟨191, 0x3FFFF, 7, full [(SE_SEG_LO.STATE 191 255, 2), (SE_SEG_LO.START 191 255, 8184), (SE_SEG_LO.LENM1 191 255, 7)], by unfold dmaOutside; decide +kernel⟩,
   ⟨191, 0x3FFFF, 7, 8, full [] (fun d => { d with dmaTick := [(bar2Base + 0x40000 * 191 + 0x3FFFF, 8)] }), by decide +kernel⟩⟩

theorem witness_SoftResetClassE : ∃ (oc : OcId) (v : W32) (s : State), s.dev.domOn oc = true ∧ s.dev.rehydrating oc = false ∧ (s.dev.eng oc).call = none ∧ (s.dev.eng oc).heldFrom = none ∧ (OC_CFG.SRST oc).of v = 1 ∧ (OC_CFG.GAIN oc).of v = (OC_CFG.GAIN oc).of (s.dev.reg (OC_CFG.off oc)) :=
  ⟨191, fv [(OC_CFG.SRST 191, 1)], full [], by decide +kernel⟩

theorem witness_StagedValues :
    (∃ (oc : OcId) (_v : W32) (s : State), ocOpen oc s) ∧
    (∃ (oc : OcId) (_v : W32) (s : State), ocOpen oc s) ∧
    (∃ (oc : OcId) (_k : Fin 32) (_v : W32) (s : State), ocOpen oc s) ∧
    (∃ (oc : OcId) (_v : W32) (s : State), ocOpen oc s) ∧
    (∃ (oc : OcId) (_v : W32) (s : State), ocOpen oc s) ∧
    (∃ (ic : IcId) (_k : Fin 16) (_v : W32) (s : State), icOpen ic s) ∧
    (∃ (ic : IcId) (_k : Fin 16) (_v : W32) (s : State), icOpen ic s) ∧
    (∃ (oc : OcId) (x : Staged) (s : State), x.go = some true ∧ x ∈ s.dev.staged ∧ x.unit = oc ∧ x.at_ < s.dev.tk ∧ (∀ y, y ∈ s.dev.staged → y.off = x.off → y = x)) ∧
    (∃ (ic : IcId) (x : Staged) (s : State), x.go = some true ∧ x ∈ s.dev.staged ∧ x.unit = icUnit ic ∧ x.at_ < s.dev.tk ∧ (∀ y, y ∈ s.dev.staged → y.off = x.off → y = x)) :=
  ⟨⟨191, 7, full [], by unfold ocOpen; decide +kernel⟩,
   ⟨191, 7, full [], by unfold ocOpen; decide +kernel⟩,
   ⟨191, 31, 7, full [], by unfold ocOpen; decide +kernel⟩,
   ⟨191, 7, full [], by unfold ocOpen; decide +kernel⟩,
   ⟨191, 7, full [], by unfold ocOpen; decide +kernel⟩,
   ⟨31, 15, 7, full [], by unfold icOpen; decide +kernel⟩,
   ⟨31, 15, 7, full [], by unfold icOpen; decide +kernel⟩,
   ⟨191, ⟨191, TS_CPHASE.off 191, 5, 0, some true⟩, full [] (fun d => { d with staged := [⟨191, TS_CPHASE.off 191, 5, 0, some true⟩], tk := 1 }), by decide +kernel⟩,
   ⟨31, ⟨223, DT_PHASE.off 31 15, 5, 0, some true⟩, full [] (fun d => { d with staged := [⟨223, DT_PHASE.off 31 15, 5, 0, some true⟩], tk := 1 }), by decide +kernel⟩⟩

theorem witness_LateWritesAndRanges :
    (∃ (_q : QuarterId) (off : Fin 0x40000) (bytes : List Byte) (_s : State), off.val + bytes.length ≤ 0x40000) ∧
    (∃ (ic : IcId) (off : Fin 0x10000) (bytes : List Byte) (s : State), icOpen ic s ∧ off.val + bytes.length ≤ 0x10000) ∧
    (∃ (oc : OcId) (v : W32) (s : State), ocOpen oc s ∧ ocQuiet oc s ∧ s.dev.fget (OC_STATUS.MUTED oc) = 1 ∧ (OC_CFG.SRST oc).of v = 0 ∧ (OC_CFG.GAIN oc).of v ≠ s.dev.fget (OC_CFG.GAIN oc)) ∧
    (∃ (oc : OcId) (v : W32) (s : State), ocOpen oc s ∧ ocQuiet oc s ∧ s.dev.fget (OC_STATUS.MUTED oc) = 0 ∧ (OC_CFG.SRST oc).of v = 0 ∧ (OC_CFG.GAIN oc).of v ≠ s.dev.fget (OC_CFG.GAIN oc)) ∧
    (∃ (oc : OcId) (k : Nat) (s : State), (s.dev.oc oc).settle = some k ∧ k ≤ s.dev.tk) :=
  ⟨⟨3, 0x3FFFF, [7], full [], by decide +kernel⟩,
   ⟨31, 0xFFFF, [7], full [], by unfold icOpen; decide +kernel⟩,
   ⟨191, fv [(OC_CFG.GAIN 191, 1)], full [(OC_STATUS.MUTED 191, 1)], by unfold ocOpen ocQuiet; decide +kernel⟩,
   ⟨191, fv [(OC_CFG.GAIN 191, 1)], full [(OC_STATUS.MUTED 191, 0)], by unfold ocOpen ocQuiet; decide +kernel⟩,
   ⟨191, 256, full [] (fun d => { d.setOc 191 { settle := some 256 } with tk := 256 }), by decide +kernel⟩⟩

theorem witness_LoadsStrobesQueues :
    (∃ (oc : OcId) (_v : W32) (w : Nat) (s : State), ocOpen oc s ∧ (s.dev.oc oc).loadAt = some w ∧ w < s.dev.tk ∧ s.dev.fget (OC_STATUS.M_SETTLE oc) = 0 ∧ s.dev.strobeDue (s.dev.fget (OC_CFG.GROUP oc)) s.clk.now.toNat = true) ∧
    (∃ (oc : OcId) (_v : W32) (s : State), ocOpen oc s ∧ ocQuiet oc s) ∧
    (∃ (g : Fin 16) (v : W32) (_s : State), (GS_CTL.NOW g).of v = 1 ∧ (GS_CTL.ARM g).of v = 0) ∧
    (∃ (g : Fin 16) (v : W32) (s : State), s.timed = true ∧ s.dev.fget (GS_CTL.ARM g) = 0 ∧ (GS_CTL.ARM g).of v = 1 ∧ s.dev.fget (GS_PER.PER g) = 0) ∧
    (∃ (g : Fin 16) (a : Nat) (s : State), tget none s.dev.gsNext g = some a ∧ a ≤ s.clk.now.toNat ∧ s.dev.fget (GS_CTL.ARM g) = 1 ∧ g.val ∉ s.dev.gsDone) ∧
    (∃ (oc : OcId) (v : W32) (s : State), ocOpen oc s ∧ s.dev.fget (OC_QCTL.EN oc) = 0 ∧ (OC_QCTL.EN oc).of v = 1 ∧ (OC_QCTL.START oc).of v = 0 ∧ (OC_QCTL.STOP oc).of v = 0 ∧ (s.dev.eng oc).mode = .idle ∧ s.dev.segsInUse oc = [] ∧ (s.dev.ocMode oc).queues = true ∧ s.dev.queueChannels.length < 16) ∧
    (∃ (oc : OcId) (v : W32) (s : State), ocOpen oc s ∧ s.dev.fget (OC_QCTL.EN oc) = 1 ∧ (OC_QCTL.EN oc).of v = 0 ∧ (OC_QCTL.START oc).of v = 0 ∧ (OC_QCTL.STOP oc).of v = 0) ∧
    (∃ (oc : OcId) (v : W32) (s : State), ocOpen oc s ∧ s.dev.fget (OC_QCTL.EN oc) = 1 ∧ (OC_QCTL.EN oc).of v = 1 ∧ (OC_QCTL.START oc).of v = 1 ∧ (OC_QCTL.STOP oc).of v = 0 ∧ s.dev.fget (OC_QCTL.RUN oc) = 0) ∧
    (∃ (oc : OcId) (v : W32) (s : State), ocOpen oc s ∧ s.dev.fget (OC_QCTL.EN oc) = 1 ∧ (OC_QCTL.EN oc).of v = 1 ∧ (OC_QCTL.START oc).of v = 0 ∧ (OC_QCTL.STOP oc).of v = 1) ∧
    (∃ (oc : OcId) (_v : W32) (s : State), ocOpen oc s) ∧
    (∃ (oc : OcId) (s : State), s.dev.domOn oc = true) :=
  ⟨⟨191, 7, 0, full [(OC_CFG.GROUP 191, 15), (GS_CTL.SHOT 15, 1)] (fun d => { d.setOc 191 { loadAt := some 0 } with tk := 1, shotTk := some 1 }), by unfold ocOpen; decide +kernel⟩,
   ⟨191, 7, full [], by unfold ocOpen ocQuiet; decide +kernel⟩,
   ⟨15, fv [(GS_CTL.NOW 15, 1)], full [], by decide +kernel⟩,
   ⟨15, fv [(GS_CTL.ARM 15, 1)], full [(GS_AT_LO.AT_LO 15, 64)] id (beat 0), by decide +kernel⟩,
   ⟨15, 9, full [(GS_CTL.ARM 15, 1)] (fun d => { d with gsNext := [(15, some 9)] }) (beat 9), by decide +kernel⟩,
   ⟨191, fv [(OC_QCTL.EN 191, 1)], full [], by unfold ocOpen; decide +kernel⟩,
   ⟨191, 0, full [(OC_QCTL.EN 191, 1)], by unfold ocOpen; decide +kernel⟩,
   ⟨191, fv [(OC_QCTL.EN 191, 1), (OC_QCTL.START 191, 1)], full [(OC_QCTL.EN 191, 1)], by unfold ocOpen; decide +kernel⟩,
   ⟨191, fv [(OC_QCTL.EN 191, 1), (OC_QCTL.STOP 191, 1)], full [(OC_QCTL.EN 191, 1)], by unfold ocOpen; decide +kernel⟩,
   ⟨191, fv [(OC_QPTR.WR 191, 65535)], full [], by unfold ocOpen; decide +kernel⟩,
   ⟨191, full [], by decide +kernel⟩⟩

theorem witness_CaptureEngine :
    (∃ (ic : IcId) (w : CapWord) (s : State), ceReads ic s w ∧ w.op = capWindow ∧ (s.dev.dt ic w.dt).queue.length < 4 ∧ (s.dev.dt ic w.dt).lastEnd ≤ (s.dev.ic ic).cursor) ∧
    (∃ (ic : IcId) (w : CapWord) (s : State), ceReads ic s w ∧ w.op = capWindow ∧ (s.dev.dt ic w.dt).queue.length < 4 ∧ (s.dev.ic ic).cursor < (s.dev.dt ic w.dt).lastEnd) ∧
    (∃ (ic : IcId) (w : CapWord) (s : State), ceReads ic s w ∧ w.op = capIdle) ∧
    (∃ (ic : IcId) (w : CapWord) (s : State), ceReads ic s w ∧ w.op = capLoop) ∧
    (∃ (ic : IcId) (w : CapWord) (s : State), ceReads ic s w ∧ w.op = capJump) ∧
    (∃ (ic : IcId) (w : CapWord) (s : State), ceReads ic s w ∧ w.op = capShotwait) ∧
    (∃ (ic : IcId) (s : State), (s.dev.ic ic).mode = .shotwait ∧ s.dev.shotTk = some s.dev.tk ∧ (s.dev.ic ic).cursor ≤ s.clk.now.toNat) ∧
    (∃ (ic : IcId) (w : CapWord) (s : State), ceReads ic s w ∧ w.op = capEnd) ∧
    (∃ (ic : IcId) (dt : Bool) (s : State), s.dev.ceMayRead ic s.clk.now.toNat = true ∧ s.dev.capBad ic (s.dev.capWord ic (s.dev.ic ic).pos) = some dt) ∧
    (∃ (ic : IcId) (v : W32) (s : State), icOpen ic s ∧ (CE_CTRL.PRIME ic).of v = 1 ∧ (CE_CTRL.HALT ic).of v = 0 ∧ 0 < (s.dev.icMode ic).demods ∧ ((s.dev.ic ic).mode = .idle ∨ (s.dev.ic ic).mode = .ended)) ∧
    (∃ (ic : IcId) (g : Fin 16) (a : Nat) (s : State), (s.dev.ic ic).mode = .primed ∧ (s.dev.ic ic).group = g ∧ (s.dev.ic ic).startAt = some a ∧ a ≤ s.clk.now.toNat) ∧
    (∃ (ic : IcId) (v : W32) (s : State), icOpen ic s ∧ (CE_CTRL.PRIME ic).of v = 0 ∧ (CE_CTRL.HALT ic).of v = 1) ∧
    (∃ (ic : IcId) (v : W32) (s : State), icOpen ic s ∧ (IC_CFG.SRST ic).of v = 1) :=
  ⟨⟨31, .ofNat (wd [(122, 1), (118, 15), (68, 4095)]), cap (wd [(122, 1), (118, 15), (68, 4095)]) { lastEnd := 9 } 9, by unfold ceReads; decide +kernel⟩,
   ⟨31, .ofNat (wd [(122, 1), (118, 15)]), cap (wd [(122, 1), (118, 15)]) { lastEnd := 9 } 8, by unfold ceReads; decide +kernel⟩,
   ⟨31, .ofNat (wd [(122, 3), (80, 65535)]), cap (wd [(122, 3), (80, 65535)]), by unfold ceReads; decide +kernel⟩,
   ⟨31, .ofNat (wd [(122, 10), (108, 1)]), cap (wd [(122, 10), (108, 1)]), by unfold ceReads; decide +kernel⟩,
   ⟨31, .ofNat (wd [(122, 12), (44, 1023)]), cap (wd [(122, 12), (44, 1023)]), by unfold ceReads; decide +kernel⟩,
   ⟨31, .ofNat (wd [(122, 19)]), cap (wd [(122, 19)]), by unfold ceReads; decide +kernel⟩,
   ⟨31, full [] (fun d => { d.setIc 31 { mode := .shotwait, cursor := 9 } with shotTk := some 4, tk := 4 }) (beat 9), by decide +kernel⟩,
   ⟨31, .ofNat (wd [(122, 63)]), cap (wd [(122, 63)]), by unfold ceReads; decide +kernel⟩,
   ⟨31, false, cap 0, by decide +kernel⟩,
   ⟨31, fv [(CE_CTRL.PRIME 31, 1)], full [], by unfold icOpen; decide +kernel⟩,
   ⟨31, 15, 9, full [] (fun d => d.setIc 31 { mode := .primed, group := 15, startAt := some 9 }) (beat 9), by decide +kernel⟩,
   ⟨31, fv [(CE_CTRL.HALT 31, 1)], full [], by unfold icOpen; decide +kernel⟩,
   ⟨31, fv [(IC_CFG.SRST 31, 1)], full [], by unfold icOpen; decide +kernel⟩⟩

theorem witness_ResultRecordFields : ∃ (_d : Dev) (i k _now : Nat) (_w : Window), i < 32 ∧ k < 16 :=
  ⟨{}, 31, 15, 9, { ts := 5, len := 4, wbase := 0, probe := none, enter := 3 }, by decide +kernel⟩

theorem witness_WindowsAndResults :
    (∃ (ic : IcId) (dt : DtId) (w : Window) (ws : List Window) (s : State), (s.dev.dt ic dt).queue = w :: ws ∧ w.openAt ≤ s.clk.now.toNat) ∧
    (∃ (ic : IcId) (dt : DtId) (w : Window) (ws : List Window) (s : State), (s.dev.dt ic dt).open_ = w :: ws ∧ w.doneAt ≤ s.clk.now.toNat) ∧
    (∃ (ic : IcId) (dt : DtId) (r : ResultWait) (rs : List ResultWait) (s : State), (s.dev.dt ic dt).results = r :: rs ∧ r.emit ≤ s.clk.now.toNat ∧ (∀ x, x ∈ (s.dev.ic ic).dts → x.1 < dt → ∀ y, x.2.results.head? = some y → s.clk.now.toNat < y.emit) ∧ (∀ c, c ∈ s.dev.colWait → c.ic ≠ ic ∨ c.dt ≠ dt) ∧ s.dev.rbUnread ic < 65536) ∧
    (∃ (ic : IcId) (off : Fin 0x80000) (len : Nat) (s : State), s.dev.domOn (192 + ic.val) = true ∧ off.val + len ≤ 0x80000) ∧
    (∃ (ic : IcId) (_off : Fin 0x80000) (_bytes : List Byte) (s : State), icOpen ic s) ∧
    (∃ (ic : IcId) (v : W32) (s : State), icOpen ic s ∧ (s.dev.fget (IC_RB_WR.WR ic) + 131072 - (IC_RB_RD.RD ic).of v) % 131072 ≤ 65536) ∧
    (∃ (ic : IcId) (v : W32) (s : State), icOpen ic s ∧ 65536 < (s.dev.fget (IC_RB_WR.WR ic) + 131072 - (IC_RB_RD.RD ic).of v) % 131072) :=
  ⟨⟨31, 15, { ts := 5, len := 4, wbase := 0, probe := none, enter := 3 }, [], withDt { queue := [{ ts := 5, len := 4, wbase := 0, probe := none, enter := 3 }] } 5, by decide +kernel⟩,
   ⟨31, 15, { ts := 5, len := 4, wbase := 0, probe := none, enter := 3 }, [], withDt { open_ := [{ ts := 5, len := 4, wbase := 0, probe := none, enter := 3 }] } 9, by decide +kernel⟩,
   ⟨31, 15, ⟨9, 7⟩, [], withDt { results := [⟨9, 7⟩] } 9, by decide +kernel, by decide +kernel, fun x hx lt => by
    rw [show ((withDt { results := [⟨9, 7⟩] } 9).dev.ic ((31 : IcId) : Nat)).dts = [(15, { results := [⟨9, 7⟩] })] from by decide +kernel] at hx
    obtain rfl := List.mem_singleton.1 hx
    exact absurd lt (by decide), by decide +kernel, by decide +kernel⟩,
   ⟨31, 0x7FFFF, 1, full [], by decide +kernel⟩,
   ⟨31, 0x7FFFF, [7], full [], by unfold icOpen; decide +kernel⟩,
   ⟨31, fv [(IC_RB_RD.RD 31, 65536)], full [(IC_RB_WR.WR 31, 0)], by unfold icOpen; decide +kernel⟩,
   ⟨31, fv [(IC_RB_RD.RD 31, 65535)], full [(IC_RB_WR.WR 31, 0)], by unfold icOpen; decide +kernel⟩⟩

theorem witness_ConditionInputs : ∃ (oc : OcId) (ci : Fin 16) (sel : W32) (x : Transit) (s : State), arrives (fun k => match k with | .ci n j _ => n == oc.val && j == ci.val | _ => false) s x ∧ x.sink = .ci oc ci sel ∧ s.dev.domOn oc = true ∧ bitAt (s.dev.fget (SE_CICFG.PULSE oc)) ci = false ∧ (∀ w ∈ (s.dev.eng oc).wait, w.cond < 32) :=
  ⟨191, 15, 7, ⟨0, 0, .ci 191 15 7, 0⟩, full [] (fun d => { d with transit := [⟨0, 0, .ci 191 15 7, 0⟩] }), by unfold arrives; decide +kernel⟩

theorem witness_SluiceAndFrames :
    (∃ (s : State), s.dev.colTaken ≠ some s.dev.tk ∧ s.dev.sluOn = true) ∧
    (∃ (p : PortId) (m : BitVec 96) (x : Transit) (s : State), arrives (fun k => match k with | .link q _ => q == p.val | _ => false) s x ∧ x.sink = .link p m ∧ s.dev.portUp p = true ∧ (tget [] s.dev.decq p).length < 128) ∧
    (∃ (_p : PortId) (msg : BitVec 96) (s : State), s.dev.sluOn = true ∧ bits msg.toNat 85 84 = 0) ∧
    (∃ (_p : PortId) (msg : BitVec 96) (s : State), s.dev.sluOn = true ∧ bits msg.toNat 85 84 = 1 ∧ bits msg.toNat 63 56 ≤ 191) ∧
    (∃ (_p : PortId) (msg : BitVec 96) (s : State), s.dev.sluOn = true ∧ 2 ≤ bits msg.toNat 85 84) ∧
    (∃ (u : BitVec 64) (x : Transit) (s : State), arrives (fun k => match k with | .frame _ => true | _ => false) s x ∧ x.sink = .frame u ∧ bits u.toNat 63 56 ≤ 191 ∧ s.dev.domOn (bits u.toNat 63 56) = true ∧ bits u.toNat 55 52 < s.dev.toneCount (bits u.toNat 63 56)) ∧
    (∃ (c : Fin 3072) (v : W32) (_s : State), sluReserved ((SLU_CISEL.SRC c).of v) = false) ∧
    (∃ (c : Fin 3072) (v : W32) (_s : State), sluReserved ((SLU_CISEL.SRC c).of v) = true) :=
  ⟨⟨full [], by decide +kernel⟩,
   ⟨5, 7, ⟨0, 0, .link 5 7, 0⟩, full [(LNK_P_STAT.STATE 5, 3)] (fun d => { d with transit := [⟨0, 0, .link 5 7, 0⟩] }), by unfold arrives; decide +kernel⟩,
   ⟨5, 0, full [], by decide +kernel⟩,
   ⟨5, BitVec.ofNat 96 (wd [(84, 1), (56, 191)]), full [], by decide +kernel⟩,
   ⟨5, BitVec.ofNat 96 (wd [(84, 2)]), full [], by decide +kernel⟩,
   ⟨BitVec.ofNat 64 (wd [(56, 191), (52, 3)]), ⟨0, 0, .frame (BitVec.ofNat 64 (wd [(56, 191), (52, 3)])), 0⟩, full [] (fun d => { d with transit := [⟨0, 0, .frame (BitVec.ofNat 64 (wd [(56, 191), (52, 3)])), 0⟩] }), by unfold arrives; decide +kernel⟩,
   ⟨3071, fv [(SLU_CISEL.SRC 3071, 591)], full [], by decide +kernel⟩,
   ⟨3071, fv [(SLU_CISEL.SRC 3071, 592)], full [], by decide +kernel⟩⟩

theorem witness_SieveRoundsAndDecodes :
    (∃ (s : State), s.dev.round.toNat < s.dev.sieve.count ∧ s.dev.sieve.base + s.dev.sieve.first + s.dev.round.toNat * s.dev.sieve.period ≤ s.dev.tk ∧ s.dev.shotTick s.clk.now.toNat = false) ∧
    (∃ (s : State), s.dev.shotTick s.clk.now.toNat = true) ∧
    (∃ (src : Nat) (x : Transit) (s : State), arrives (fun k => match k with | .sieve _ => true | _ => false) s x ∧ x.sink = .sieve src ∧ s.dev.svOn = true ∧ s.dev.fget (SV_MAP.EN src) = 1 ∧ s.dev.fget (SV_MAP.DIFF src) = 0 ∧ s.dev.fget (SV_G_CTL.EN (s.dev.fget (SV_MAP.GRAPH src))) = 1 ∧ 1 ≤ recRound x.word ∧ recRound x.word ≤ s.dev.sieve.count ∧ recShot x.word = s.dev.shot24 ∧ (s.dev.graph (s.dev.fget (SV_MAP.GRAPH src))).closed < recRound x.word ∧ s.dev.fget (SV_MAP.DET src) ∉ ((s.dev.graph (s.dev.fget (SV_MAP.GRAPH src))).openRound (recRound x.word)).seen) ∧
    (∃ (g : GraphId) (s : State), s.dev.svOn = true ∧ s.dev.fget (SV_G_CTL.EN g) = 1 ∧ (s.dev.graph g).closed + 1 ≤ s.dev.roundsBegun ∧ (s.dev.graph g).closed + 1 ≤ s.dev.sieve.count ∧ s.dev.roundTimeout ((s.dev.graph g).closed + 1) ≤ s.dev.tk) ∧
    (∃ (p : PortId) (msg : BitVec 64) (s : State), s.dev.svOn = true ∧ bits msg.toNat 63 62 = 0 ∧ s.dev.fget (SV_HMAP.EN p (bits msg.toNat 61 58)) = 1 ∧ s.dev.fget (SV_G_CTL.EN (s.dev.fget (SV_HMAP.GRAPH p (bits msg.toNat 61 58)))) = 1 ∧ (s.dev.graph (s.dev.fget (SV_HMAP.GRAPH p (bits msg.toNat 61 58)))).closed < bits msg.toNat 57 42 ∧ bits msg.toNat 41 18 = s.dev.shot24 ∧ bits msg.toNat 17 0 / 32 + s.dev.fget (SV_HMAP.OFFSET p (bits msg.toNat 61 58)) < s.dev.gDets (s.dev.fget (SV_HMAP.GRAPH p (bits msg.toNat 61 58)))) ∧
    (∃ (p : PortId) (msg : BitVec 64) (s : State), s.dev.svOn = true ∧ bits msg.toNat 63 62 = 1 ∧ s.dev.fget (SV_HMAP.EN p (bits msg.toNat 61 58)) = 1 ∧ s.dev.fget (SV_G_CTL.EN (s.dev.fget (SV_HMAP.GRAPH p (bits msg.toNat 61 58)))) = 1 ∧ (s.dev.graph (s.dev.fget (SV_HMAP.GRAPH p (bits msg.toNat 61 58)))).closed < bits msg.toNat 57 42 ∧ bits msg.toNat 41 18 = s.dev.shot24) ∧
    (∃ (g : GraphId) (q : SvQueued) (qs : List SvQueued) (s : State), (s.dev.graph g).queue = q :: qs ∧ (s.dev.graph g).dec = none ∧ (s.dev.graph g).down = false ∧ s.dev.svOn = true ∧ s.dev.fget (SV_G_CTL.EN g) = 1 ∧ ((s.dev.graph g).window.map (fun w => w.defs.length)).foldl (· + ·) 0 + q.round.defs.length + (s.dev.graph g).toggles.length ≤ 256) ∧
    (∃ (g : GraphId) (e : SvDec) (s : State), (s.dev.graph g).dec = some e ∧ e.committed = false) ∧
    (∃ (s : State), s.dev.sieve.outTk ≠ some s.dev.tk ∧ s.dev.sieve.outq ≠ []) ∧
    (∃ (k : Fin 64) (o : SvoWait) (s : State), s.dev.sluOn = true ∧ s.dev.sieve.svo.find? (fun o => o.k == k.val && (o.ready.map (fun t => decide (t ≤ s.dev.tk))).getD false) = some o) ∧
    (∃ (g : GraphId) (w : DoneWait) (s : State), s.dev.sieve.dones.find? (fun w => w.graph == g.val) = some w) ∧
    (∃ (_p : PortId) (msg : BitVec 64) (oc tone xz : Nat) (s : State), s.dev.svOn = true ∧ bits msg.toNat 63 62 = 2 ∧ s.dev.fget (SV_G_CTL.EN (bits msg.toNat 61 58)) = 1 ∧ bits msg.toNat 13 0 < s.dev.gLabels (bits msg.toNat 61 58) ∧ entryAcc (s.dev.gEntry (bits msg.toNat 61 58) (bits msg.toNat 13 0)) = some ((0, 16 * oc + tone), (.local_ oc tone 0, xz)) ∧ xz ≠ 0) ∧
    (∃ (_p : PortId) (msg : BitVec 64) (s : State), s.dev.svOn = true ∧ bits msg.toNat 63 62 = 3) :=
  ⟨⟨full [] (fun d => { d with sieve := { count := 1 }, tk := 1 }), by decide +kernel⟩,
   ⟨full [] (fun d => { d with shotTk := some 0 }), by decide +kernel⟩,
   ⟨511, ⟨0, 0, .sieve 511, BitVec.ofNat 64 (wd [(24, 1)])⟩, full [(SV_MAP.EN 511, 1), (SV_MAP.GRAPH 511, 15), (SV_MAP.DET 511, 8191), (SV_G_CTL.EN 15, 1)] (fun d => { d with sieve := { count := 1 }, transit := [⟨0, 0, .sieve 511, BitVec.ofNat 64 (wd [(24, 1)])⟩] }), by unfold arrives; decide +kernel⟩,
   ⟨15, full [(SV_G_CTL.EN 15, 1)] (fun d => { d with sieve := { count := 1 }, round := 1, tk := 1 + max 1 (d.fget SV_CFG.CLOSE_LAG) }), by decide +kernel⟩,
   ⟨5, BitVec.ofNat 64 (wd [(58, 15), (42, 1)]), full [(SV_HMAP.EN 5 15, 1), (SV_HMAP.GRAPH 5 15, 15), (SV_G_CTL.EN 15, 1)] (fun d => d.wrLe (graphBase 15) 4 1), by decide +kernel⟩,
   ⟨5, BitVec.ofNat 64 (wd [(62, 1), (58, 15), (42, 1)]), full [(SV_HMAP.EN 5 15, 1), (SV_HMAP.GRAPH 5 15, 15), (SV_G_CTL.EN 15, 1)], by decide +kernel⟩,
   ⟨15, ⟨⟨1, 0, [], [], false, false⟩, 0, false⟩, [], full [(SV_G_CTL.EN 15, 1)] (fun d => d.setGraph 15 { queue := [⟨⟨1, 0, [], [], false, false⟩, 0, false⟩] }), by decide +kernel⟩,
   ⟨15, ⟨1, 0, 0, false, false, false⟩, full [] (fun d => d.setGraph 15 { dec := some ⟨1, 0, 0, false, false, false⟩ }), by decide +kernel⟩,
   ⟨full [] (fun d => { d with sieve := { outq := [⟨0, .flip 0 0 0, 0, 0⟩] } }), by decide +kernel⟩,
   ⟨63, ⟨63, 0, 0, false, some 0⟩, full [] (fun d => { d with sieve := { svo := [⟨63, 0, 0, false, some 0⟩] } }), by decide +kernel⟩,
   ⟨15, ⟨15, 1, 0, []⟩, full [] (fun d => { d with sieve := { dones := [⟨15, 1, 0, []⟩] } }), by decide +kernel⟩,
   ⟨5, BitVec.ofNat 64 (wd [(62, 2), (58, 15)]), 191, 15, 3, full [(SV_G_CTL.EN 15, 1)] (fun d => (d.wrLe (graphBase 15 + 8) 4 1).wrLe (graphBase 15 + 0x41000) 4 (wd [(30, 1), (22, 191), (18, 15), (16, 3)])), by decide +kernel⟩,
   ⟨5, BitVec.ofNat 64 (wd [(62, 3)]), full [], by decide +kernel⟩⟩

theorem witness_GraphsAndTiles :
    (∃ (_v : W32) (s : State), s.dev.fget (SV_G_CTL.EN (s.dev.fget SV_GADDR.GRAPH)) = 0 ∧ s.dev.fget (SV_G_STAT.BUSY (s.dev.fget SV_GADDR.GRAPH)) = 0 ∧ graphListed (s.dev.fget SV_GADDR.ADDR) = true) ∧
    (∃ (g : GraphId) (v : W32) (s : State), s.dev.fget (SV_G_CTL.EN g) = 0 ∧ s.dev.fget (SV_G_STAT.BUSY g) = 0 ∧ (SV_G_CTL.EN g).of v = 1) ∧
    (∃ (g : GraphId) (k : Nat) (s : State), (s.dev.graph g).check = true ∧ s.dev.graphFault g = none ∧ s.dev.freeTile = some k) ∧
    (∃ (g : GraphId) (v : W32) (s : State), s.dev.fget (SV_G_CTL.EN g) = 1 ∧ (SV_G_CTL.EN g).of v = 0) ∧
    (∃ (g : GraphId) (k : Nat) (s : State), (s.dev.graph g).freeAt = some k ∧ k ≤ s.dev.tk) ∧
    (∃ (g : GraphId) (k : Fin 17) (s : State), s.dev.fget (SV_G_CTL.EN g) = 1 ∧ s.dev.fget (SV_G_CTL.TILE g) = k ∧ (∀ h : GraphId, h ≠ g → s.dev.fget (SV_G_CTL.EN h) = 0) ∧ s.dev.fget SV_CTRL.ROT_EN = 1 ∧ s.dev.sieve.rot = none ∧ s.dev.sieve.rescue = none ∧ s.dev.fget SV_STATUS.SPARE ≠ 31 ∧ s.dev.svOn = true ∧ 2 ^ min 24 (s.dev.fget SV_CTRL.ROT_EXP) ≤ s.dev.sieve.rotCnt) ∧
    (∃ (g : Nat) (s : State), s.dev.sieve.rescue = none ∧ s.dev.sieve.rot = some (g, false)) ∧
    (∃ (g : Nat) (s : State), s.dev.sieve.rescue = some (g, false)) ∧
    (∃ (g : GraphId) (k : Fin 17) (_lost : Bool) (s : State), s.dev.fget (SV_G_CTL.EN g) = 1 ∧ s.dev.fget (SV_G_CTL.TILE g) = k ∧ (∀ h : GraphId, h ≠ g → s.dev.fget (SV_G_CTL.EN h) = 0)) :=
  ⟨⟨7, full [(SV_GADDR.GRAPH, 15), (SV_GADDR.ADDR, 0x50FFC)], by decide +kernel⟩,
   ⟨15, fv [(SV_G_CTL.EN 15, 1)], full [], by decide +kernel⟩,
   ⟨15, 0, full [] (fun d => (((((d.setGraph 15 { check := true }).wrLe (graphBase 15) 4 1).wrLe (graphBase 15 + 4) 4 1).wrLe (graphBase 15 + 12) 4 1).wrLe (graphBase 15 + 0x1000) 8 (wd [(36, 1), (27, 1), (13, 0x3FFF)]))), by decide +kernel⟩,
   ⟨15, 0, full [(SV_G_CTL.EN 15, 1)], by decide +kernel⟩,
   ⟨15, 0, full [] (fun d => d.setGraph 15 { freeAt := some 0 }), by decide +kernel⟩,
   ⟨15, 15, full [(SV_G_CTL.EN 15, 1), (SV_G_CTL.TILE 15, 15), (SV_CTRL.ROT_EN, 1)] (fun d => { d with sieve := { rotCnt := 2 ^ 24 } }), by decide +kernel⟩,
   ⟨15, full [] (fun d => { d with sieve := { rot := some (15, false) } }), by decide +kernel⟩,
   ⟨15, full [] (fun d => { d with sieve := { rescue := some (15, false) } }), by decide +kernel⟩,
   ⟨15, 16, true, full [(SV_G_CTL.EN 15, 1), (SV_G_CTL.TILE 15, 16)], by decide +kernel⟩⟩

theorem witness_PoolAndTriggers :
    (∃ (v : W32) (s : State), s.dev.mode.running = true ∧ ACQ_CTL.RUN.of v = 1) ∧
    (∃ (v : W32) (s : State), s.dev.fget ACQ_CTL.RUN = 1 ∧ ACQ_CTL.RUN.of v = 0) ∧
    (∃ (v : W32) (_s : State), ((List.range 32).filter (fun i => bitAt v.toNat i)).length ≤ 8) ∧
    (∃ (p : WitPeriod) (rest : List WitPeriod) (s : State), s.dev.wit.ready = p :: rest ∧ p.dueTk ≤ s.dev.tk) ∧
    (∃ (u : UnitId) (v : W32) (s : State), s.dev.fget (TU_CTL.ARM u) = 0 ∧ (TU_CTL.ARM u).of v = 1 ∧ ((bitAt ((TU_CTL.ENABLE u).of v) condRunt = false ∧ bitAt ((TU_CTL.ENABLE u).of v) condSlew = false) ∨ sext 12 (s.dev.fget (TU_LEV.LO u)) < sext 12 (s.dev.fget (TU_LEV.HI u)))) ∧
    (∃ (u : UnitId) (v : W32) (s : State), s.dev.fget (TU_CTL.ARM u) = 1 ∧ (TU_CTL.ARM u).of v = 0) ∧
    (∃ (u : UnitId) (e : TuEvidence) (s : State), (s.dev.tu u).evidence = [e] ∧ e.late = false ∧ e.bit < 6 ∧ s.dev.decideTick e.n ≤ s.clk.now.toNat ∧ s.dev.fget (TU_CTL.MODE u) = 0 ∧ s.dev.tuBusy u s.clk.now.toNat = false ∧ s.dev.recUnread + (s.dev.wit.units.map (fun x => x.2.windows.length)).foldl (· + ·) 0 + (s.dev.tu u).windows.length < 256) ∧
    (∃ (u : UnitId) (e : TuEvidence) (s : State), (s.dev.tu u).evidence.find? (·.late) = some e ∧ e.bit < 6 ∧ s.dev.fget (TU_CTL.MODE u) = 0 ∧ s.dev.tuBusy u s.clk.now.toNat = false ∧ s.dev.recUnread + (s.dev.wit.units.map (fun x => x.2.windows.length)).foldl (· + ·) 0 + (s.dev.tu u).windows.length < 256) ∧
    (∃ (u : UnitId) (w : TuWindow) (s : State), w ∈ (s.dev.tu u).windows ∧ w.s1 = none ∧ w.closeAt = none ∧ s.dev.limitTick u w ≤ s.clk.now.toNat) :=
  ⟨⟨fv [(ACQ_CTL.RUN, 1)], full [], by decide +kernel⟩,
   ⟨0, full [(ACQ_CTL.RUN, 1)], by decide +kernel⟩,
   ⟨0xFF000000, full [], by decide +kernel⟩,
   ⟨⟨0, false, [], 0⟩, [], full [] (fun d => { d with wit := { ready := [⟨0, false, [], 0⟩] } }), by decide +kernel⟩,
   ⟨7, fv [(TU_CTL.ARM 7, 1), (TU_CTL.ENABLE 7, 5)], full [(TU_LEV.LO 7, 0x800), (TU_LEV.HI 7, 0x801)], by decide +kernel⟩,
   ⟨7, 0, full [(TU_CTL.ARM 7, 1)], by decide +kernel⟩,
   ⟨7, ⟨0, 5, 0, false⟩, full [(ACQ_CTL.TDELAY, 0)] (fun d => d.setTu 7 { evidence := [⟨0, 5, 0, false⟩] }) (beat 16), by decide +kernel⟩,
   ⟨7, ⟨0, 5, 0, true⟩, full [] (fun d => d.setTu 7 { evidence := [⟨0, 5, 0, true⟩] }) (beat 16), by decide +kernel⟩,
   ⟨7, { n := 0, p := 0, cond := 0, srck := 0, pre := 0, pin := false, late := false, tsus := false, shot := 0, round := 0, start := 0 }, full [(TU_LIM.LIMIT 7, 9)] (fun d => d.setTu 7 { windows := [{ n := 0, p := 0, cond := 0, srck := 0, pre := 0, pin := false, late := false, tsus := false, shot := 0, round := 0, start := 0 }] }) (beat 9), by decide +kernel⟩⟩

theorem witness_RecordsAndStream :
    (∃ (u : UnitId) (w : TuWindow) (s : State), (∀ x, x < u.val → ∀ y, y ∈ (s.dev.tu x).windows → s.dev.recordDue s.clk.now.toNat y = false) ∧ (s.dev.tu u).windows.find? (s.dev.recordDue s.clk.now.toNat) = some w) ∧
    (∃ (v : W32) (s : State), (ACQ_REC_RD.RD.of v + 512 - s.dev.fget ACQ_REC_RD.RD) % 512 ≤ s.dev.recUnread) ∧
    (∃ (off : Fin 0x4000000) (len : Nat) (_s : State), off.val + len ≤ 0x4000000) :=
  ⟨⟨7, { n := 0, p := 0, cond := 0, srck := 0, pre := 0, pin := false, late := false, tsus := false, shot := 0, round := 0, start := 0, s1 := some 0, closeAt := some 13 }, full [] (fun d => d.setTu 7 { windows := [{ n := 0, p := 0, cond := 0, srck := 0, pre := 0, pin := false, late := false, tsus := false, shot := 0, round := 0, start := 0, s1 := some 0, closeAt := some 13 }] }) (beat 13), (fun x lt y hy => by
    have e : (full [] (fun d => d.setTu 7 { windows := [{ n := 0, p := 0, cond := 0, srck := 0, pre := 0, pin := false, late := false, tsus := false, shot := 0, round := 0, start := 0, s1 := some 0, closeAt := some 13 }] }) (beat 13)).dev.tu x = {} := tu_setTu _ _ _ _ (Nat.ne_of_lt lt)
    rw [e] at hy
    exact absurd hy (List.not_mem_nil)), by decide +kernel⟩,
   ⟨fv [(ACQ_REC_RD.RD, 256)], full [(ACQ_REC_WR.WR, 256)], by decide +kernel⟩,
   ⟨0x3FFFFFF, 1, full [], by decide +kernel⟩⟩

theorem witness_PortsStartAndTrain :
    (∃ (p : PortId) (v : W32) (s : State), s.dev.linkRuns = true ∧ (LNK_P_CTL.EN p).of v = 1 ∧ (LNK_P_CTL.SRST p).of v = 0 ∧ (s.dev.portState p = portOff ∨ s.dev.portState p = portTest)) ∧
    (∃ (p : PortId) (v : W32) (s : State), s.dev.linkRuns = true ∧ (LNK_P_CTL.EN p).of v = 0 ∧ (LNK_P_CTL.SRST p).of v = 0 ∧ (∀ q, q < 4 → s.dev.fget (LNK_PL_PAT.GEN p q) = 0 ∧ s.dev.fget (LNK_PL_PAT.CHK p q) = 0) ∧ s.dev.portState p ≠ portOff) ∧
    (∃ (p : PortId) (v : W32) (s : State), s.dev.linkRuns = true ∧ (LNK_P_CTL.EN p).of v = 1 ∧ (LNK_P_CTL.SRST p).of v = 1) ∧
    (∃ (p : PortId) (lane l : LaneId) (inv : Bool) (slip : Fin 34) (s : State), (s.dev.portState p = portTrain ∨ s.dev.portUp p = true) ∧ s.dev.fget (LNK_PL_STAT.ALIGNED p lane) = 0 ∧ (s.dev.rxLane p lane).found = some (l.val, inv) ∧ (s.dev.rxLane p lane).slip = slip ∧ (∀ x, x < 4 → x ≠ lane.val → s.dev.fget (LNK_PL_STAT.ALIGNED p x) = 0 ∨ s.dev.laneLogical p x ≠ some l.val)) ∧
    (∃ (p : PortId) (lane x l : LaneId) (inv : Bool) (slip : Fin 34) (s : State), (s.dev.portState p = portTrain ∨ s.dev.portUp p = true) ∧ s.dev.fget (LNK_PL_STAT.ALIGNED p lane) = 0 ∧ (s.dev.rxLane p lane).found = some (l.val, inv) ∧ (s.dev.rxLane p lane).slip = slip ∧ x ≠ lane ∧ s.dev.fget (LNK_PL_STAT.ALIGNED p x) = 1 ∧ s.dev.laneLogical p x = some l.val ∧ (∀ y, y < 4 → y ≠ lane.val → y ≠ x.val → s.dev.fget (LNK_PL_STAT.ALIGNED p y) = 0 ∨ s.dev.laneLogical p y ≠ some l.val)) ∧
    (∃ (p : PortId) (s : State), s.dev.portState p = portTrain ∧ (s.dev.link p).trainTk + 800000 ≤ s.dev.tk) ∧
    (∃ (p : PortId) (x : BitVec 64) (s : State), s.dev.portState p = portTrain ∧ bits x.toNat 63 56 = 0x1E ∧ bits x.toNat 44 29 ≠ s.dev.fget LNK_NODE.NODE) ∧
    (∃ (p : PortId) (x : BitVec 64) (s : State), s.dev.portState p = portTrain ∧ bits x.toNat 63 56 = 0x1E ∧ bits x.toNat 44 29 = s.dev.fget LNK_NODE.NODE) ∧
    (∃ (p : PortId) (lane : LaneId) (x : BitVec 64) (_instant : BitVec 16) (s : State), bits x.toNat 63 56 = 0x4B ∧ bits x.toNat 31 0 = 0x2D4BB4D2 ∧ s.dev.fget (LNK_PL_STAT.ALIGNED p lane) = 1 ∧ s.dev.laneLogical p lane = some (bits x.toNat 55 54)) ∧
    (∃ (p : PortId) (lane : LaneId) (s : State), s.dev.portState p = portTest ∧ patOn (s.dev.fget (LNK_PL_PAT.CHK p lane)) = true ∧ (s.dev.rxLane p lane).agree = true) :=
  ⟨⟨5, fv [(LNK_P_CTL.EN 5, 1)], full [], by decide +kernel⟩,
   ⟨5, 0, full [(LNK_P_STAT.STATE 5, 3)], by decide +kernel⟩,
   ⟨5, fv [(LNK_P_CTL.EN 5, 1), (LNK_P_CTL.SRST 5, 1)], full [], by decide +kernel⟩,
   ⟨5, 3, 3, true, 33, full [(LNK_P_STAT.STATE 5, 2)] (fun d => d.setRx 5 3 { found := some (3, true), slip := 33 }), by decide +kernel⟩,
   ⟨5, 3, 0, 2, false, 0, full [(LNK_P_STAT.STATE 5, 2), (LNK_PL_STAT.ALIGNED 5 0, 1), (LNK_P_MAP.MAP 5, 10)] (fun d => d.setRx 5 3 { found := some (2, false) }), by decide +kernel⟩,
   ⟨5, full [(LNK_P_STAT.STATE 5, 2)] (fun d => { d.setLink 5 { trainTk := 0 } with tk := 800000 }), by decide +kernel⟩,
   ⟨5, BitVec.ofNat 64 (wd [(56, 0x1E), (29, 7)]), full [(LNK_P_STAT.STATE 5, 2)], by decide +kernel⟩,
   ⟨5, BitVec.ofNat 64 (wd [(56, 0x1E), (29, 7)]), full [(LNK_P_STAT.STATE 5, 2), (LNK_NODE.NODE, 7)], by decide +kernel⟩,
   ⟨5, 0, BitVec.ofNat 64 (wd [(56, 0x4B), (0, 0x2D4BB4D2)]), 3, full [(LNK_PL_STAT.ALIGNED 5 0, 1), (LNK_P_MAP.MAP 5, 8)], by decide +kernel⟩,
   ⟨5, 3, full [(LNK_P_STAT.STATE 5, 5), (LNK_PL_PAT.CHK 5 3, 4)] (fun d => d.setRx 5 3 { agree := true }), by decide +kernel⟩⟩

theorem witness_LinkModesAndLanes :
    (∃ (p : PortId) (s : State), s.dev.portUp p = true ∧ s.dev.linkAllow p ≠ (s.dev.link p).told) ∧
    (∃ (p : PortId) (k : Nat) (s : State), s.dev.portUp p = true ∧ (s.dev.link p).reqTk = some k ∧ k + 410 ≤ s.dev.tk) ∧
    (∃ (p : PortId) (x : BitVec 64) (s : State), s.dev.portUp p = true ∧ laneOp x laneModeReq = true) ∧
    (∃ (p : PortId) (x : BitVec 64) (s : State), s.dev.portUp p = true ∧ laneOp x laneModeSet = true) ∧
    (∃ (p : PortId) (m : Bool) (s : State), s.dev.portUp p = true ∧ (s.dev.link p).setMode = some m ∧ (s.dev.link p).slot = 0 ∧ (∀ c ∈ (s.dev.link p).ctl, laneOp c.payload laneModeSet = true → c.left ≠ 3)) ∧
    (∃ (p : PortId) (lane l : LaneId) (s : State), (s.dev.rxLane p lane).lost = true ∧ s.dev.portUp p = true ∧ s.dev.laneLogical p lane = some l.val ∧ bitAt (s.dev.fget (LNK_P_STAT.WLANES p)) l = true) ∧
    (∃ (p : PortId) (s : State), s.dev.portUp p = true ∧ (s.dev.link p).lost ≠ 0 ∧ (s.dev.link p).dropTk + 26 ≤ s.dev.tk) ∧
    (∃ (p : PortId) (x : BitVec 64) (s : State), s.dev.portUp p = true ∧ laneOp x laneDrop = true ∧ (s.dev.link p).ctl = [] ∧ (s.dev.link p).txLanes = 15) ∧
    (∃ (p : PortId) (x : BitVec 64) (s : State), s.dev.portUp p = true ∧ laneOp x laneSwitch = true) ∧
    (∃ (p : PortId) (lane l : LaneId) (s : State), s.dev.portUp p = true ∧ s.dev.laneLogical p lane = some l.val ∧ s.dev.fget (LNK_PL_STAT.ALIGNED p lane) = 1 ∧ bitAt (s.dev.fget (LNK_P_STAT.WLANES p)) l = false ∧ 65536 ≤ (s.dev.rxLane p lane).clean ∧ s.dev.laneSlice p lane = false) ∧
    (∃ (p : PortId) (x : BitVec 64) (s : State), s.dev.portUp p = true ∧ laneOp x laneReady = true) :=
  ⟨⟨5, full [(LNK_P_STAT.STATE 5, 3), (LNK_P_CTL.PROT 5, 0)] (fun d => d.setLink 5 { told := true }), by decide +kernel⟩,
   ⟨5, 0, full [(LNK_P_STAT.STATE 5, 3)] (fun d => { d.setLink 5 { reqTk := some 0 } with tk := 410 }), by decide +kernel⟩,
   ⟨5, BitVec.ofNat 64 (wd [(56, 0x2D), (52, 4)]), full [(LNK_P_STAT.STATE 5, 3)], by decide +kernel⟩,
   ⟨5, BitVec.ofNat 64 (wd [(56, 0x2D), (52, 5)]), full [(LNK_P_STAT.STATE 5, 3)], by decide +kernel⟩,
   ⟨5, true, full [(LNK_P_STAT.STATE 5, 3)] (fun d => d.setLink 5 { setMode := some true }), by decide +kernel⟩,
   ⟨5, 0, 3, full [(LNK_P_STAT.STATE 5, 3), (LNK_P_MAP.MAP 5, 11), (LNK_P_STAT.WLANES 5, 8)] (fun d => d.setRx 5 0 { lost := true }), by decide +kernel⟩,
   ⟨5, full [(LNK_P_STAT.STATE 5, 3)] (fun d => { d.setLink 5 { lost := 8 } with tk := 26 }), by decide +kernel⟩,
   ⟨5, BitVec.ofNat 64 (wd [(56, 0x2D), (52, 1)]), full [(LNK_P_STAT.STATE 5, 3)] (fun d => d.setLink 5 { txLanes := 15 }), by decide +kernel⟩,
   ⟨5, BitVec.ofNat 64 (wd [(56, 0x2D), (52, 3)]), full [(LNK_P_STAT.STATE 5, 3)], by decide +kernel⟩,
   ⟨5, 0, 3, full [(LNK_P_STAT.STATE 5, 3), (LNK_P_MAP.MAP 5, 11), (LNK_PL_STAT.ALIGNED 5 0, 1), (LNK_P_STAT.WLANES 5, 7)] (fun d => d.setRx 5 0 { clean := 65536 }), by decide +kernel⟩,
   ⟨5, BitVec.ofNat 64 (wd [(56, 0x2D), (52, 2)]), full [(LNK_P_STAT.STATE 5, 3)], by decide +kernel⟩⟩

theorem witness_FlitsReceived :
    (∃ (p : PortId) (lower upper : BitVec 256) (s : State), s.dev.portUp p = true ∧ (crcOk lower = true → flVc lower ≠ 1) ∧ (crcOk lower = false → crcOk upper = true → flVc upper ≠ 1)) ∧
    (∃ (p : PortId) (lower _upper : BitVec 256) (m : Nat) (s : State), s.dev.portUp p = true ∧ s.dev.sluOn = true ∧ crcOk lower = true ∧ flVc lower = 1 ∧ flType lower = 1 ∧ vc1Msgs lower 96 2 = [m] ∧ bits m 85 84 = 1 ∧ bits m 63 56 ≤ 191) ∧
    (∃ (p : PortId) (flit : BitVec 256) (s : State), s.dev.portUp p = true ∧ (s.dev.link p).naking = none ∧ (crcOk flit = false ∨ (2 ≤ flVc flit ∧ (flVc flit = 3 → flType flit ≠ 0) ∧ flSeq flit ≠ (s.dev.link p).rxSeq))) ∧
    (∃ (p : PortId) (k : Nat) (s : State), s.dev.portUp p = true ∧ (s.dev.link p).naking = some k ∧ k + 103 ≤ s.dev.tk) ∧
    (∃ (p : PortId) (ack : BitVec 10) (u : BitVec 256) (us : List (BitVec 256)) (s : State), s.dev.portUp p = true ∧ (s.dev.link p).unacked = u :: us ∧ flSeq u = ack) ∧
    (∃ (p : PortId) (s : State), s.dev.portUp p = true ∧ (s.dev.link p).unacked ≠ [] ∧ (s.dev.link p).ackTk + 1639 ≤ s.dev.tk) ∧
    (∃ (p : PortId) (lane : LaneId) (w : List Byte) (s : State), s.dev.portUp p = true ∧ (s.dev.rxLane p lane).parity = true ∧ w.length = 136) ∧
    (∃ (p : PortId) (flit : BitVec 256) (s : State), s.dev.portUp p = true ∧ crcOk flit = true ∧ flDefined flit = false) :=
  ⟨⟨5, 0, 0, full [(LNK_P_STAT.STATE 5, 3)], by decide +kernel⟩,
   ⟨5, withCrc (BitVec.ofNat 256 (wd [(254, 1), (250, 1), (222, 1), (112 + 84, 1), (112 + 56, 191)])), 0, wd [(84, 1), (56, 191)], full [(LNK_P_STAT.STATE 5, 3)], by decide +kernel⟩,
   ⟨5, 0, full [(LNK_P_STAT.STATE 5, 3)], by decide +kernel⟩,
   ⟨5, 0, full [(LNK_P_STAT.STATE 5, 3)] (fun d => { d.setLink 5 { naking := some 0 } with tk := 103 }), by decide +kernel⟩,
   ⟨5, 7, BitVec.ofNat 256 (wd [(240, 7)]), [], full [(LNK_P_STAT.STATE 5, 3)] (fun d => d.setLink 5 { unacked := [BitVec.ofNat 256 (wd [(240, 7)])] }), by decide +kernel⟩,
   ⟨5, full [(LNK_P_STAT.STATE 5, 3)] (fun d => { d.setLink 5 { unacked := [0] } with tk := 1639 }), by decide +kernel⟩,
   ⟨5, 3, List.replicate 136 0, full [(LNK_P_STAT.STATE 5, 3)] (fun d => d.setRx 5 3 { parity := true }), by decide +kernel⟩,
   ⟨5, withCrc 0, full [(LNK_P_STAT.STATE 5, 3)], by decide +kernel⟩⟩

theorem witness_RoutesSlotsTests :
    (∃ (p e : PortId) (flit : BitVec 256) (s : State), s.dev.stripedOk p flit = true ∧ flVc flit = 2 ∧ flType flit = 1 ∧ rtPos flit < rtLen flit ∧ rtPos flit < 14 ∧ rtEntry flit (rtPos flit) = e ∧ s.dev.portUp e = true ∧ e ≠ p) ∧
    (∃ (p : PortId) (flit : BitVec 256) (s : State), s.dev.stripedOk p flit = true ∧ flVc flit = 2 ∧ (flType flit = 1 ∨ flType flit = 2) ∧ rtPos flit = rtLen flit) ∧
    (∃ (p e : PortId) (flit : BitVec 256) (s : State), s.dev.stripedOk p flit = true ∧ flVc flit = 2 ∧ flType flit = 3 ∧ 1 ≤ rtPos flit ∧ rtEntry flit (rtPos flit - 1) = e ∧ s.dev.portUp e = true ∧ e ≠ p) ∧
    (∃ (p : PortId) (flit : BitVec 256) (s : State), s.dev.stripedOk p flit = true ∧ flVc flit = 2 ∧ flType flit = 3 ∧ 1 ≤ rtPos flit ∧ rtEntry flit (rtPos flit - 1) = 7) ∧
    (∃ (p : PortId) (lane : LaneId) (v : W32) (s : State), s.dev.fget (LNK_P_CTL.EN p) = 0 ∧ s.dev.linkRuns = true ∧ patOn ((LNK_PL_PAT.GEN p lane).of v) = true) ∧
    (∃ (p : PortId) (v : W32) (s : State), s.dev.portUp p = true ∧ (LNK_P_INJ.FLIT p).of v = 1) ∧
    (∃ (p : PortId) (v : W32) (s : State), s.dev.portUp p = true ∧ (LNK_P_INJ.DROP p).of v = 1) ∧
    (∃ (p : PortId) (s : State), s.dev.portUp p = true ∧ (s.dev.link p).slot = 0 ∧ (s.dev.link p).txForced = 0 ∧ s.dev.fget (LNK_P_INJ.EVERY p) = 0 ∧ 3 ≤ lanes4 (s.dev.fget (LNK_P_STAT.WLANES p))) ∧
    (∃ (p : PortId) (_rx : List LaneRx) (s : State), s.dev.portUp p = true ∧ 3 ≤ lanes4 (s.dev.fget (LNK_P_STAT.WLANES p)) ∧ (s.dev.link p).vc0q = [] ∧ (∀ x ∈ (s.dev.link p).dupA, x.next ≠ 0) ∧ (∀ x ∈ (s.dev.link p).dupB, x.next ≠ 0)) ∧
    (∃ (p : PortId) (r : LaneRx) (s : State), s.dev.portState p = portTrain ∧ r.lock = true ∧ (s.dev.rxLane p r.lane).framed = true) ∧
    (∃ (p : PortId) (r : LaneRx) (s : State), s.dev.portState p = portTest ∧ r.lock = true ∧ patOn (s.dev.fget (LNK_PL_PAT.CHK p r.lane)) = true ∧ s.dev.fget (LNK_PL_STAT.CHK_LOCK p r.lane) = 1) :=
  ⟨⟨5, 0, withCrc (BitVec.ofNat 256 (wd [(254, 2), (250, 1), (204, 14), (200, 13)])), full [(LNK_P_STAT.STATE 5, 3), (LNK_P_STAT.STATE 0, 3)], by decide +kernel⟩,
   ⟨5, withCrc (BitVec.ofNat 256 (wd [(254, 2), (250, 2), (204, 14), (200, 14)])), full [(LNK_P_STAT.STATE 5, 3), (LNK_P_STAT.STATE 0, 3)], by decide +kernel⟩,
   ⟨5, 0, withCrc (BitVec.ofNat 256 (wd [(254, 2), (250, 3), (200, 1)])), full [(LNK_P_STAT.STATE 5, 3), (LNK_P_STAT.STATE 0, 3)], by decide +kernel⟩,
   ⟨5, withCrc (BitVec.ofNat 256 (wd [(254, 2), (250, 3), (200, 1), (197, 7)])), full [(LNK_P_STAT.STATE 5, 3), (LNK_P_STAT.STATE 0, 3)], by decide +kernel⟩,
   ⟨5, 3, fv [(LNK_PL_PAT.GEN 5 3, 4)], full [(LNK_P_CTL.EN 5, 0)], by decide +kernel⟩,
   ⟨5, fv [(LNK_P_INJ.FLIT 5, 1)], full [(LNK_P_STAT.STATE 5, 3)], by decide +kernel⟩,
   ⟨5, fv [(LNK_P_INJ.DROP 5, 1)], full [(LNK_P_STAT.STATE 5, 3)], by decide +kernel⟩,
   ⟨5, full [(LNK_P_STAT.STATE 5, 3), (LNK_P_STAT.WLANES 5, 7)], by decide +kernel⟩,
   ⟨5, [], full [(LNK_P_STAT.STATE 5, 3), (LNK_P_STAT.WLANES 5, 7)], by decide +kernel⟩,
   ⟨5, ⟨3, true, []⟩, full [(LNK_P_STAT.STATE 5, 2)] (fun d => d.setRx 5 3 { framed := true }), by decide +kernel⟩,
   ⟨5, ⟨3, true, []⟩, full [(LNK_P_STAT.STATE 5, 5), (LNK_PL_PAT.CHK 5 3, 4), (LNK_PL_STAT.CHK_LOCK 5 3, 1)], by decide +kernel⟩⟩

theorem witness_RelayedAccesses :
    (∃ (k : Fin 16) (v : W32) (s : State), (PCI_RLY_CTL.GO k).of v = 1 ∧ s.dev.fget (PCI_RLY_CTL.STATE k) ≠ 1) ∧
    (∃ (p : PortId) (f : BitVec 256) (n : Nat) (s : State), nextRequest s p f 1 ∧ s.dev.portUp p = true ∧ v2Space f = 1 ∧ v2Be f = 15 ∧ n < 192 ∧ v2Off f / 0x40000 = n ∧ s.dev.domOn n = true) ∧
    (∃ (p : PortId) (f : BitVec 256) (s : State), nextRequest s p f 1 ∧ s.dev.portUp p = true ∧ v2Space f = 0 ∧ v2Be f = 15 ∧ v2Off f < 0x2000000 ∧ bar0Reserved (v2Off f) = true) ∧
    (∃ (p : PortId) (f : BitVec 256) (ty : Nat) (s : State), nextRequest s p f ty ∧ (ty = 1 ∨ ty = 2) ∧ s.dev.portUp p = true ∧ spaceSize (v2Space f) ≤ v2Off f) ∧
    (∃ (p : PortId) (f : BitVec 256) (s : State), nextRequest s p f 2 ∧ s.dev.portUp p = true ∧ v2Space f = 2 ∧ v2Off f < 0x4000000 ∧ dmaOutside s (bar4Base + v2Off f) 4) ∧
    (∃ (arr : Nat) (f : BitVec 256) (s : State), s.dev.inbox.find? (fun x => x.2 == f && flVc x.2 == 2 && flType x.2 == 3) = some (arr, f)) ∧
    (∃ (k : Fin 16) (s : State), s.dev.fget (PCI_RLY_CTL.STATE k) = 1 ∧ tget 0 s.dev.rlyTk k + max 1 (s.dev.fget PCI_RLY_CFG.TMO) ≤ s.dev.tk) :=
  ⟨⟨15, fv [(PCI_RLY_CTL.GO 15, 1)], full [], by decide +kernel⟩,
   ⟨5, BitVec.ofNat 256 (wd [(254, 2), (250, 1), (142, 1), (144, 15), (112, 0x2FFFFFC)]), 191, full [(LNK_P_STAT.STATE 5, 3)] (fun d => { d with inbox := [(5, BitVec.ofNat 256 (wd [(254, 2), (250, 1), (142, 1), (144, 15), (112, 0x2FFFFFC)]))] }), by unfold nextRequest; decide +kernel⟩,
   ⟨5, BitVec.ofNat 256 (wd [(254, 2), (250, 1), (142, 0), (144, 15), (112, 0x1FFFFFC)]), full [(LNK_P_STAT.STATE 5, 3)] (fun d => { d with inbox := [(5, BitVec.ofNat 256 (wd [(254, 2), (250, 1), (142, 0), (144, 15), (112, 0x1FFFFFC)]))] }), by unfold nextRequest; decide +kernel⟩,
   ⟨5, BitVec.ofNat 256 (wd [(254, 2), (250, 2), (142, 3), (144, 15), (112, 0)]), 2, full [(LNK_P_STAT.STATE 5, 3)] (fun d => { d with inbox := [(5, BitVec.ofNat 256 (wd [(254, 2), (250, 2), (142, 3), (144, 15), (112, 0)]))] }), by unfold nextRequest; decide +kernel⟩,
   ⟨5, BitVec.ofNat 256 (wd [(254, 2), (250, 2), (142, 2), (144, 0), (112, 0x3FFFFFC)]), full [(LNK_P_STAT.STATE 5, 3)] (fun d => { d with inbox := [(5, BitVec.ofNat 256 (wd [(254, 2), (250, 2), (142, 2), (144, 0), (112, 0x3FFFFFC)]))] }), by unfold nextRequest dmaOutside; decide +kernel⟩,
   ⟨5, BitVec.ofNat 256 (wd [(254, 2), (250, 3), (142, 0), (144, 0), (112, 0)]), full [(LNK_P_STAT.STATE 5, 3)] (fun d => { d with inbox := [(5, BitVec.ofNat 256 (wd [(254, 2), (250, 3), (142, 0), (144, 0), (112, 0)]))] }), by decide +kernel⟩,
   ⟨15, full [(PCI_RLY_CTL.STATE 15, 1), (PCI_RLY_CFG.TMO, 0)] (fun d => { d with tk := 1 }), by decide +kernel⟩⟩

theorem witness_DmaRuns :
    (∃ (a : Auth) (c : ChanId) (v : W32) (s : State), (a ≠ .host ∨ c.val < 28) ∧ (DMA_C_CTL.START c).of v = 1 ∧ (DMA_C_CTL.STOP c).of v = 0 ∧ (DMA_C_CTL.ABORT c).of v = 0 ∧ s.dev.dmaBusy c = false) ∧
    (∃ (a : Auth) (c : ChanId) (v : W32) (_s : State), (a ≠ .host ∨ c.val < 28) ∧ (DMA_C_CTL.START c).of v = 0 ∧ (DMA_C_CTL.STOP c).of v = 1 ∧ (DMA_C_CTL.ABORT c).of v = 0) ∧
    (∃ (a : Auth) (c : ChanId) (v : W32) (s : State), (a ≠ .host ∨ c.val < 28) ∧ (DMA_C_CTL.START c).of v = 0 ∧ (DMA_C_CTL.STOP c).of v = 0 ∧ (DMA_C_CTL.ABORT c).of v = 1 ∧ s.dev.dmaBusy c = true) ∧
    (∃ (c : ChanId) (_w : BitVec 256) (s : State), (s.dev.dma c).phase = .fetch ∧ (s.dev.dma c).addr % 32 = 0 ∧ (if (s.dev.dma c).local_ then (s.dev.dma c).addr + 32 ≤ 0x8000 else (s.dev.dma c).out ≠ [])) ∧
    (∃ (c : ChanId) (s : State), (s.dev.dma c).phase = .waitreq ∧ (s.dev.dma c).lineWas = true ∧ s.dev.reqLine (s.dev.fget (DMA_C_CFG.REQ c)) = true ∧ (s.dev.dma c).desc.ssp ≠ spRemote ∧ (s.dev.dma c).desc.dsp ≠ spRemote) ∧
    (∃ (c : ChanId) (_st : CplStatus) (bs : List Byte) (r : HostReq) (s : State), (s.dev.dma c).phase = .read ∧ (s.dev.dma c).moved = 0 ∧ (s.dev.dma c).desc.ssp = spHost ∧ (s.dev.dma c).desc.dsp = spLocal ∧ lsp (s.dev.dma c).desc.dst = 1 ∧ lspOff (s.dev.dma c).desc.dst + (s.dev.dma c).desc.len ≤ 0x4000000 ∧ (s.dev.dma c).out = [r] ∧ bs.length = r.len ∧ ((s.dev.dma c).desc.cut r.addr bs).length = (s.dev.dma c).desc.len) ∧
    (∃ (c : ChanId) (_st : CplStatus) (_bs : List Byte) (s : State), (s.dev.dma c).phase = .read ∧ (s.dev.dma c).moved = 0 ∧ (s.dev.dma c).out = [] ∧ (s.dev.dma c).desc.ssp = spLocal ∧ (s.dev.dma c).desc.dsp = spHost ∧ lsp (s.dev.dma c).desc.src = 2) ∧
    (∃ (c : ChanId) (s : State), (s.dev.dma c).phase = .wrote) ∧
    (∃ (c : ChanId) (t0 : Nat) (s : State), s.dev.dmaBusy c = true ∧ t0 ∈ (s.dev.dma c).awaits ∧ t0 + 2048 ≤ s.dev.tk) ∧
    (∃ (_tag x : Nat) (xs : List Nat) (s : State), s.dev.lateReads = x :: xs ∧ (∀ k ∈ s.dev.lateReads, s.dev.tk < k + Config.cplTimeout s.dev.pci.cplTo)) ∧
    (∃ (_tag : Nat) (s : State), s.dev.lateReads = []) ∧
    (∃ (p : PortId) (f : BitVec 256) (s : State), nextBurst s p f 1 ∧ v3First f = true ∧ bitAt (v3Data f) 83 = false) ∧
    (∃ (p : PortId) (f : BitVec 256) (x : RemIn) (s : State), nextBurst s p f 1 ∧ v3First f = false ∧ v3Last f = true ∧ s.dev.portUp p = true ∧ s.dev.remotes.find? (fun e => e.1 == 32 * p.val + v3Chan f) = some (32 * p.val + v3Chan f, x) ∧ adSpace x.addr = 2 ∧ adOff x.addr + x.len ≤ 0x4000000 ∧ x.bytes.length + v3Valid f = x.len) ∧
    (∃ (arr : Nat) (f : BitVec 256) (s : State), s.dev.inbox.find? (fun e => e.2 == f) = some (arr, f) ∧ nextBurst s arr f 2 ∧ v3First f = true ∧ (s.dev.dma (v3Chan f)).phase = .sent ∧ (s.dev.dma (v3Chan f)).backs ≠ []) :=
  ⟨⟨.host, 27, fv [(DMA_C_CTL.START 27, 1)], full [], by decide +kernel⟩,
   ⟨.host, 27, fv [(DMA_C_CTL.STOP 27, 1)], full [], by decide +kernel⟩,
   ⟨.host, 27, fv [(DMA_C_CTL.ABORT 27, 1)], full [] (fun d => d.setDma 27 { phase := .fetch }), by decide +kernel⟩,
   ⟨31, 0, full [] (fun d => d.setDma 31 { phase := .fetch, addr := 0x7FE0, local_ := true }), by decide +kernel⟩,
   ⟨31, full [(DMA_C_CFG.REQ 31, 192)] (fun d => (d.setEng 191 { refill := [0] }).setDma 31 { phase := .waitreq, lineWas := true }), by decide +kernel⟩,
   ⟨31, .ok, List.replicate 64 7, { addr := 0, len := 64 }, full [] (fun d => d.setDma 31 { phase := .read, desc := { src := 63, dst := 2 ^ 32 + 0x3FFFFFF, ctl := wd [(60, 1), (0, 1)] }, out := [{ addr := 0, len := 64 }] }), by decide +kernel⟩,
   ⟨31, .ok, [], full [] (fun d => d.setDma 31 { phase := .read, desc := { src := 2 * 2 ^ 32, dst := 0xFFF, ctl := wd [(62, 1), (0, 4096)] } }), by decide +kernel⟩,
   ⟨31, full [] (fun d => d.setDma 31 { phase := .wrote }), by decide +kernel⟩,
   ⟨31, 0, full [] (fun d => { d.setDma 31 { phase := .fetch, out := [{ addr := 0, len := 32 }] } with tk := 2048 }), by decide +kernel⟩,
   ⟨7, 1, [], { dev := { lateReads := [1] } }, rfl, fun k h => by
    cases h with
    | head => exact Nat.lt_of_lt_of_le Nat.zero_lt_one (Nat.le_add_right 1 _)
    | tail _ h => cases h⟩,
   ⟨7, full [], by decide +kernel⟩,
   ⟨5, BitVec.ofNat 256 (wd [(254, 3), (250, 1), (152, 1)]), full [(LNK_P_STAT.STATE 5, 3)] (fun d => { d with inbox := [(5, BitVec.ofNat 256 (wd [(254, 3), (250, 1), (152, 1)]))] }), by unfold nextBurst; decide +kernel⟩,
   ⟨5, BitVec.ofNat 256 (wd [(254, 3), (250, 1), (151, 1), (153, 31), (146, 15)]), ⟨wd [(30, 2), (0, 0x3FFFFF0)], 16, []⟩, full [(LNK_P_STAT.STATE 5, 3)] (fun d => { d with inbox := [(5, BitVec.ofNat 256 (wd [(254, 3), (250, 1), (151, 1), (153, 31), (146, 15)]))], remotes := [(191, ⟨wd [(30, 2), (0, 0x3FFFFF0)], 16, []⟩)] }), by unfold nextBurst; decide +kernel⟩,
   ⟨5, BitVec.ofNat 256 (wd [(254, 3), (250, 2), (152, 1), (153, 31)]), full [] (fun d => { d.setDma 31 { phase := .sent, backs := [0] } with inbox := [(5, BitVec.ofNat 256 (wd [(254, 3), (250, 2), (152, 1), (153, 31)]))] }), by unfold nextBurst; decide +kernel⟩⟩

theorem witness_HostPort : ∃ (vec : Fin 256) (s : State), s.dev.pba.contains vec.val = true ∧ s.dev.fget PCI_STAT.DL_UP = 1 ∧ s.dev.mode ≠ .sleep ∧ s.dev.rdLe (msixBase + 16 * vec.val + 12) 4 % 2 = 0 :=
  ⟨255, full [(PCI_STAT.DL_UP, 1)] (fun d => ({ d with pba := [255] } : Dev).wrLe (msixBase + 16 * 255 + 12) 4 0), by decide +kernel⟩

theorem witness_RillRouting :
    (∃ (r : Fin 256) (v : W32) (s : State), s.dev.rillOwner r = 1 ∧ (RIL_RL.OWNER r).of v = 1) ∧
    (∃ (r : Fin 256) (_v : W32) (s : State), s.dev.rillOwner r = 0) ∧
    (∃ (src : SourceId) (v : W32) (s : State), src.val < 992 ∧ srcReserved src = false ∧ s.dev.rillOwner ((RIL_SRC.RILL src).of v) = 1 ∧ s.dev.fget (RIL_SRC.EN src) = 0) ∧
    (∃ (i : TaskId) (v : W32) (s : State), i.val < 480 ∧ taskReserved i = false ∧ s.dev.taskAccepts i ((RIL_TASK.RILL i).of v) = true ∧ s.dev.fget (RIL_TASK.EN i) = 0) ∧
    (∃ (k : Fin 32) (s : State), (s.dev.task (480 + k.val)).arr ≠ [] ∧ s.dev.canRaise (992 + k.val) = true ∧ s.dev.fget (RIL_SRC.EN (992 + k.val)) = 1 ∧ tget 0 s.dev.guardCnt (992 + k.val) < 1024) ∧
    (∃ (s : State), s.dev.guardWin < s.dev.xtal / 25) :=
  ⟨⟨255, fv [(RIL_RL.OWNER 255, 1)], full [(RIL_RL.OWNER 255, 1)], by decide +kernel⟩,
   ⟨255, 7, full [(RIL_RL.OWNER 255, 0)], by decide +kernel⟩,
   ⟨960, fv [(RIL_SRC.RILL 960, 255)], full [(RIL_RL.OWNER 255, 1)], by decide +kernel⟩,
   ⟨479, fv [(RIL_TASK.RILL 479, 255)], full [(RIL_RL.OWNER 255, 1), (RIL_RL.SEC 255, 1)], by decide +kernel⟩,
   ⟨31, full [(RIL_SRC.EN 1023, 1)] (fun d => { d.setTask 511 { arr := [0] } with guardCnt := [(1023, 1023)] }), by decide +kernel⟩,
   ⟨full [] (fun d => { d with xtal := 25 }), by decide +kernel⟩⟩

theorem witness_TasksFire :
    (∃ (i : TaskId) (a : Nat) (as : List Nat) (s : State), ((320 ≤ i.val ∧ i.val < 336) ∨ (352 ≤ i.val ∧ i.val < 416)) ∧ (s.dev.task i).arr = a :: as ∧ (s.dev.task i).rearming = false ∧ s.dev.taskDue i a = true ∧ s.dev.mode ≠ .sleep ∧ s.dev.ctlRestart = none) ∧
    (∃ (i : TaskId) (a : Nat) (as : List Nat) (s : State), (s.dev.task i).arr = a :: as ∧ s.dev.taskPowered i = true ∧ s.dev.taskDue i a = false) ∧
    (∃ (i : TaskId) (s : State), i.val < 480 ∧ taskReserved i = false ∧ s.dev.taskPowered i = false ∧ (s.dev.task i).arr ≠ [] ∧ (s.dev.task i).rearming = false) ∧
    (∃ (i : TaskId) (s : State), (s.dev.task i).rearming = true ∧ s.dev.rearmed i = true ∧ (s.dev.task i).arr = []) ∧
    (∃ (i : TaskId) (n : Nat) (s : State), 320 ≤ i.val ∧ i.val < 336 ∧ (s.dev.task i).rearming = true ∧ s.dev.rearmed i = true ∧ ((s.dev.task i).arr.takeWhile (fun a => s.dev.taskDue i a)).length = n + 1 ∧ s.dev.mode ≠ .sleep) ∧
    (∃ (a : Nat) (as : List Nat) (s : State), (s.dev.task 345).arr = a :: as ∧ (s.dev.task 345).rearming = false ∧ a < s.dev.xtal) ∧
    (∃ (a : Nat) (as : List Nat) (s : State), (s.dev.task 347).arr = a :: as ∧ (s.dev.task 347).rearming = false ∧ a < s.dev.xtal ∧ bitAt (s.dev.fget BBX_SAFE.PRESENT) 1 = false) :=
  ⟨⟨415, 0, [], full [] (fun d => { d.setTask 415 { arr := [0] } with tk := 1 }), by decide +kernel⟩,
   ⟨335, 5, [], full [] (fun d => { d.setTask 335 { arr := [5] } with tk := 6 }), by decide +kernel⟩,
   ⟨0, st [] (fun d => d.setTask 0 { arr := [0] }), by decide +kernel⟩,
   ⟨0, full [] (fun d => { d.setTask 0 { rearming := true } with tk := 10 }), by decide +kernel⟩,
   ⟨335, 0, full [] (fun d => { d.setTask 335 { arr := [8], rearming := true } with tk := 10 }), by decide +kernel⟩,
   ⟨0, [], full [] (fun d => { d.setTask 345 { arr := [0] } with xtal := 1 }), by decide +kernel⟩,
   ⟨0, [], full [] (fun d => { d.setTask 347 { arr := [0] } with xtal := 1 }), by decide +kernel⟩⟩

theorem witness_RegisterAccesses :
    (∃ (_a : Auth) (off : Fin 0x2000000) (w : Width) (_v : BitVec 64) (_s : State), (w = .w8 ∨ w = .w16 ∨ off.val % 4 ≠ 0) ∧ bar0Reserved (off.val / 4 * 4) = false ∧ domainAt (off.val / 4 * 4) = none) ∧
    (∃ (bar : Bar) (off : Nat) (acc : Access) (s : State), accAll (fun o => barReserved bar o = true) off acc ∧ dmaOutside s (bar2Base + off) (widthBytes (accWidth acc))) ∧
    (∃ (bar : Bar) (off n : Nat) (acc : Access) (s : State), accAll (fun o => barDomain bar o = some n) off acc ∧ s.dev.domOn n = false ∧ dmaOutside s (bar2Base + off) (widthBytes (accWidth acc))) ∧
    (∃ (oc : OcId) (_k : Fin 8) (s : State), s.dev.domOn oc = true) :=
  ⟨⟨.host, 2, .w32, 7, full [], by decide +kernel⟩,
   ⟨.bar0, 0x1FFFFF8, .write .w64 0, full [], by unfold dmaOutside accAll; decide +kernel⟩,
   ⟨.bar2, 0x2FFFFF8, 191, .read .w64, st [], by unfold dmaOutside accAll; decide +kernel⟩,
   ⟨191, 7, full [], by decide +kernel⟩⟩

theorem witness_MarkersAndCycles :
    (∃ (k : Fin 16) (rising : Bool) (_f : BitVec 10) (s : State), s.dev.mode ≠ .load ∧ s.dev.mode ≠ .sleep ∧ (s.dev.fget (MK_IN_CFG.EDGE k) = 3 ∨ (s.dev.fget (MK_IN_CFG.EDGE k) = 1 ∧ rising = true) ∨ (s.dev.fget (MK_IN_CFG.EDGE k) = 2 ∧ rising = false))) ∧
    (∃ (k : Fin 16) (rising : Bool) (_f : BitVec 10) (s : State), (s.dev.fget (MK_IN_CFG.EDGE k) = 0 ∨ (s.dev.fget (MK_IN_CFG.EDGE k) = 1 ∧ rising = false) ∨ (s.dev.fget (MK_IN_CFG.EDGE k) = 2 ∧ rising = true))) ∧
    (∃ (e : EdgePend) (s : State), s.dev.edges = [e] ∧ e.due ≤ s.dev.tk ∧ e.k < 16 ∧ s.dev.clReference e.k e.rising = false ∧ (∀ u, u < 8 → s.dev.tuOn u condExt = false) ∧ s.dev.mode ≠ .load ∧ s.dev.mode ≠ .sleep) ∧
    (∃ (s : State), (s.dev.mode = .load ∨ s.dev.mode = .sleep)) ∧
    (∃ (x : StampDue) (xs : List StampDue) (d : Dev), d.stamps = x :: xs) ∧
    (∃ (x : Nat) (s : State), s.dev.clDeadline = some x ∧ x ≤ s.clk.now.toNat ∧ s.dev.edges = []) ∧
    (∃ (w : Fin 4) (s : State), s.dev.nextWindow w s.clk.now.toNat = some s.clk.now.toNat) ∧
    (∃ (v : W32) (s : State), CL_COMMIT.COMMIT.of v = 1 ∧ s.dev.fget CL_CFG.HOLD = 1) :=
  ⟨⟨15, true, 1023, full [(MK_IN_CFG.EDGE 15, 3)], by decide +kernel⟩,
   ⟨15, false, 1023, full [(MK_IN_CFG.EDGE 15, 1)], by decide +kernel⟩,
   ⟨⟨15, true, 1023, 9⟩, full [(MK_IN_CFG.RING 15, 1), (TDC_STAT.WR, 1023)] (fun d => { d with edges := [⟨15, true, 1023, 9⟩], tk := 9 }), by decide +kernel⟩,
   ⟨st [], by decide +kernel⟩,
   ⟨⟨15, 3, true⟩, [], { stamps := [⟨15, 3, true⟩] }, by decide +kernel⟩,
   ⟨6, full [(CL_CFG.EN, 1), (CL_STAT.NACC, 1)] (fun d => { d with cycle := { hist := [0] } }) (beat 6), by decide +kernel⟩,
   ⟨3, full [(CL_CFG.HOLD, 1), (CL_WIN.LEN 3, 1)] (fun d => { d with cycle := { held := some (0, 1024000) } }) (beat 1000), by decide +kernel⟩,
   ⟨fv [(CL_COMMIT.COMMIT, 1)], full [(CL_CFG.HOLD, 1)], by decide +kernel⟩⟩

theorem witness_BootRuns :
    (∃ (_sfdp : Bool) (_reread : BitVec 512) (s : State), s.dev.boot.phase = .waiting ∧ s.dev.mode = .load ∧ s.dev.vauxLost = false ∧ s.dev.heat.shutdown = none ∧ s.dev.otp.repairs = []) ∧
    (∃ (cause : BootCause) (s : State), s.dev.boot.phase = .failing (bootCauseCode cause) ∧ bootCauseCode cause ≤ 6 ∧ (s.dev.boot.slot = 0 ∨ s.dev.boot.slot = 1) ∧ s.dev.slotFailed (1 - s.dev.boot.slot) = true ∧ CFG_BOOT.off ∉ s.dev.boot.wroteRegs ∧ s.dev.mode = .load) ∧
    (∃ (s : State), s.dev.boot.phase = .loaded ∧ s.dev.mode = .load ∧ s.dev.dogWait = false ∧ (∀ e, e ∈ s.dev.manifest → 224 ≤ e.domain)) ∧
    (∃ (s : State), s.dev.boot.phase = .calibrating ∧ s.dev.calQ = [] ∧ s.dev.mode = .calibrate) ∧
    (∃ (v : W32) (s : State), CFG_CTL.REBOOT.of v = 1 ∧ (s.dev.mode = .load ∨ s.dev.mode = .park ∨ s.dev.mode = .safe) ∧ s.dev.heat.shutdown = none ∧ s.dev.fget THM_STAT.SDLATCH = 0) ∧
    (∃ (_ok : Bool) (e : ManEntry) (s : State), s.dev.boot.phase = .done ∧ s.dev.boot.provDone = false ∧ s.dev.bootedEntry 6 = some e ∧ s.dev.otp.provisioned = false) ∧
    (∃ (k : Nat) (s : State), s.dev.boot.phase = .done ∧ s.dev.boot.logDone = false ∧ k < 64 ∧ (∀ i, i < 64 → i ≠ k → ∀ x, x < 64 → s.dev.rd8 (shutdownPage i + x) = 0xFF) ∧ (∃ x, x < 64 ∧ s.dev.rd8 (shutdownPage k + x) ≠ 0xFF)) ∧
    (∃ (s : State), s.dev.boot.phase = .done ∧ s.dev.boot.eraseDone = false) :=
  ⟨⟨true, 0, st [], by decide +kernel⟩,
   ⟨.blockCheck, st [(CFG_BOOT.FAILA, 1)] (fun d => { d with boot := { phase := .failing 6, slot := 1 } }), by decide +kernel⟩,
   ⟨st [] (fun d => { d with boot := { phase := .loaded } }), by decide +kernel⟩,
   ⟨st [(GLB_MODE.CUR, 2)] (fun d => { d with boot := { phase := .calibrating } }), by decide +kernel⟩,
   ⟨fv [(CFG_CTL.REBOOT, 1)], st [], by decide +kernel⟩,
   ⟨true, .ofBytes (leBytes 64 (wd [(0, 6), (16, 65535), (32, 0x480), (64, 4)])), st [] (fun d => { d with boot := { phase := .done, manifest := leBytes 64 (wd [(0, 6), (16, 65535), (32, 0x480), (64, 4)]) } }), by decide +kernel⟩,
   ⟨63, st [] (fun d => { d.wr8 (shutdownPage 63 + 63) 0 with boot := { phase := .done } }), by decide +kernel, by decide +kernel, by decide, by decide +kernel, ⟨63, by decide +kernel⟩⟩,
   ⟨st [] (fun d => { d with boot := { phase := .done } }), by decide +kernel⟩⟩

theorem witness_FlashDomainsReports :
    (∃ (v : W32) (s : State), CFG_FLCMD.GO.of v = 1 ∧ s.dev.flash = none) ∧
    (∃ (_status : Byte) (c : FlashCmd) (s : State), s.dev.flash = some c ∧ s.dev.loaderBusy = false ∧ s.dev.flashProtected c.op c.addr = false) ∧
    (∃ (_status : Byte) (c : FlashCmd) (s : State), s.dev.flash = some c ∧ s.dev.loaderBusy = false ∧ s.dev.flashProtected c.op c.addr = true) ∧
    (∃ (c : FlashCmd) (s : State), s.dev.flash = some c ∧ s.dev.loaderBusy = false ∧ c.tk + 312500000 ≤ s.dev.tk) ∧
    (∃ (_j : Fin 7) (_v : W32) (s : State), s.dev.mode = .park ∧ s.dev.fget CFG_REHY.ACTIVE = 0) ∧
    (∃ (dom : DomainId) (s : State), s.dev.nextRamp = some dom.val ∧ tget 0 s.dev.ramp dom < s.dev.tk ∧ s.dev.heat.shutdown = none ∧ s.dev.mode ≠ .relay) ∧
    (∃ (dom : DomainId) (s : State), s.dev.rehyQ.head? = some dom.val ∧ s.dev.fget CFG_REHY.ACTIVE = 0 ∧ s.dev.manifest.filter (fun e => e.domain == dom.val) = []) ∧
    (∃ (dom : DomainId) (s : State), s.dev.rehyQ.head? = some dom.val ∧ s.dev.fget CFG_REHY.ACTIVE = 0) ∧
    (∃ (dom : DomainId) (_ans : Bool) (e : ManEntry) (es : List ManEntry) (s : State), s.dev.rehyQ.head? = some dom.val ∧ s.dev.fget CFG_REHY.ACTIVE = 0 ∧ s.dev.manifest.filter (fun e => e.domain == dom.val) = e :: es ∧ sha256 (s.dev.blockOf s.dev.boot.slot e) ≠ e.hash) ∧
    (∃ (dom : DomainId) (s : State), s.dev.rehyQ.head? = some dom.val ∧ s.dev.fget CFG_REHY.ACTIVE = 1) ∧
    (∃ (g : GraphId) (s : State), (s.dev.graph g).lost = true ∧ s.dev.manifest.find? (fun e => e.type == 3 && e.target == g.val) = none) ∧
    (∃ (v : W32) (_s : State), SEC_CTL.ATTEST.of v = 1) ∧
    (∃ (e : ManEntry) (s : State), s.dev.attesting = true ∧ s.dev.boot.phase = .done ∧ s.dev.bootedEntry 5 = some e ∧ s.dev.mcChain.length = 32) :=
  ⟨⟨fv [(CFG_FLCMD.GO, 1), (CFG_FLCMD.OP, 2)], st [], by decide +kernel⟩,
   ⟨0, ⟨2, 0x4000000, 0⟩, st [] (fun d => { d with flash := some ⟨2, 0x4000000, 0⟩, boot := { phase := .done } }), by decide +kernel⟩,
   ⟨0, ⟨2, 0x3FFFFFF, 0⟩, st [] (fun d => { d with flash := some ⟨2, 0x3FFFFFF, 0⟩, boot := { phase := .done } }), by decide +kernel⟩,
   ⟨⟨2, 7, 0⟩, st [] (fun d => { d with flash := some ⟨2, 7, 0⟩, tk := 312500000, boot := { phase := .done } }), by decide +kernel⟩,
   ⟨6, 0, st [(GLB_MODE.CUR, 1)], by decide +kernel⟩,
   ⟨223, full [] (fun d => { d with ramp := [(223, 0)], tk := 1 }), by decide +kernel⟩,
   ⟨223, full [] (fun d => { d with rehyQ := [223] }), by decide +kernel⟩,
   ⟨223, full [] (fun d => { d with rehyQ := [223] }), by decide +kernel⟩,
   ⟨223, true, .ofBytes (leBytes 64 (wd [(0, 1), (16, 223), (32, 0x480), (64, 4)])), [], full [] (fun d => { d with rehyQ := [223], boot := { manifest := leBytes 64 (wd [(0, 1), (16, 223), (32, 0x480), (64, 4)]) } }), by decide +kernel⟩,
   ⟨223, full [(CFG_REHY.ACTIVE, 1)] (fun d => { d with rehyQ := [223] }), by decide +kernel⟩,
   ⟨15, full [] (fun d => d.setGraph 15 { lost := true }), by decide +kernel⟩,
   ⟨fv [(SEC_CTL.ATTEST, 1)], st [], by decide +kernel⟩,
   ⟨.ofBytes (leBytes 64 (wd [(0, 5), (16, 65535), (32, 0x480), (64, 4)])), full [] (fun d => { d with boot := { phase := .done, manifest := leBytes 64 (wd [(0, 5), (16, 65535), (32, 0x480), (64, 4)]) }, attesting := true }), by decide +kernel⟩⟩

theorem witness_MicroWords :
    (∃ (oc : OcId) (c : CallSt) (w : MicroWord) (s : State), microReady oc s c w) ∧
    (∃ (oc : OcId) (c : CallSt) (w : MicroWord) (s : State), s.dev.microAt oc = some (c, w) ∧ c.skip = true ∧ w.uop = uopAdd) ∧
    (∃ (oc : OcId) (c : CallSt) (w : MicroWord) (p : Plan) (s : State), s.dev.microAt oc = some (c, w) ∧ c.skip = false ∧ s.dev.mcBad.contains (oc.val / 48, c.pc) = true ∧ w.uop = uopNop ∧ (s.dev.eng oc).plans.getLast? = some p ∧ p.stop = c.stop) ∧
    (∃ (oc : OcId) (c : CallSt) (w : MicroWord) (p : Plan) (s : State), microReady oc s c w ∧ w.uop = uopRet ∧ c.fault = none ∧ (s.dev.eng oc).plans.getLast? = some p ∧ p.stop = c.stop) :=
  ⟨⟨191, callAt, .ofNat (wd [(122, uopRet)]), micro (wd [(122, uopRet)]) callAt, by unfold microReady; decide +kernel⟩,
   ⟨191, { callAt with skip := true }, .ofNat (wd [(122, uopAdd)]), micro (wd [(122, uopAdd)]) ({ callAt with skip := true }), by decide +kernel⟩,
   ⟨191, callAt, .ofNat 0, rp, { micro 0 callAt with dev := { (micro 0 callAt).dev with mcBad := [(3, 14336)] } }, by decide +kernel⟩,
   ⟨191, callAt, .ofNat (wd [(122, uopRet)]), rp, micro (wd [(122, uopRet)]) callAt, by unfold microReady; decide +kernel⟩⟩

theorem witness_MicrocodeStore :
    (∃ (v : W32) (_s : State), MCS_UCTL.COMMIT.of v = 1) ∧
    (∃ (k : Nat) (s : State), s.dev.ucommit = some k ∧ Memory.wf s.dev.mem = true) :=
  ⟨⟨fv [(MCS_UCTL.COMMIT, 1)], full [], by decide +kernel⟩,
   ⟨7, full [] (fun d => { d with ucommit := some 7 }), by decide +kernel⟩⟩

theorem witness_HeatIsJudged :
    (∃ (_counts _powers : List Nat) (s : State), s.dev.sampleDue = true ∧ s.dev.mode ≠ .sleep ∧ s.dev.heat.pinWait = false) ∧
    (∃ (_counts _powers : List Nat) (s : State), s.dev.sampleDue = true ∧ s.dev.mode = .sleep ∧ s.dev.heat.pinWait = false) ∧
    (∃ (k : Nat) (s : State), s.dev.heat.coolTk = some k ∧ k + 6250000 ≤ s.dev.tk ∧ 0 < s.dev.fget THM_STAT.LEVEL ∧ s.dev.regFail = false) ∧
    (∃ (s : State), (0 < s.dev.fget THM_STAT.LEVEL ∨ s.dev.fget HL_STAT.HOLDING ≠ 0) ∧ s.dev.askedTk + 1048576 ≤ s.dev.tk) ∧
    (∃ (s : State), ((s.dev.fget THM_STAT.LEVEL = 0 ∧ s.dev.fget HL_STAT.HOLDING = 0) ∨ s.dev.tk < s.dev.askedTk + 1048576)) ∧
    (∃ (slot : BitVec 64) (s : State), s.dev.slotAsked slot.toNat = true ∧ tget none s.dev.slots slot.toNat = none ∧ slot.toNat ≤ s.clk.now.toNat + 64 ∧ s.dev.slotHeld slot.toNat = true) :=
  ⟨⟨[], [], full [], by decide +kernel⟩,
   ⟨[], [], st [(GLB_MODE.CUR, Mode.sleep.code)], by decide +kernel⟩,
   ⟨0, full [(THM_STAT.LEVEL, 1)] (fun d => { d with heat := { coolTk := some 0 }, tk := 6250000 }), by decide +kernel⟩,
   ⟨full [(THM_STAT.LEVEL, 1)] (fun d => { d with tk := 1048576 }), by decide +kernel⟩,
   ⟨full [(THM_STAT.LEVEL, 1)] (fun d => { d with tk := 1048575 }), by decide +kernel⟩,
   ⟨64, withEng { slot := some ⟨64, 1⟩ } [(THM_STAT.LEVEL, 4)], by decide +kernel⟩⟩

theorem witness_SupplyAndLedger :
    (∃ (x : Shutdown) (s : State), s.dev.heat.shutdown = some x ∧ x.recorded = false ∧ s.dev.freeze = none ∧ s.dev.frzDue.contains x.cause = false) ∧
    (∃ (x : Shutdown) (s : State), s.dev.heat.shutdown = some x ∧ x.recorded = true ∧ s.dev.heat.pinWait = false) ∧
    (∃ (s : State), s.dev.fget THM_STAT.SDLATCH = 1 ∧ s.dev.fget THM_CTL.AUTORESTART = 1 ∧ s.dev.cooled = true) ∧
    (∃ (mv : Nat) (s : State), s.dev.mode ≠ .sleep ∧ mv < s.dev.fget THM_DROOP.UNT_MV ∧ s.dev.heat.stretch = 0) ∧
    (∃ (s : State), s.dev.heat.stretch ≠ 0 ∧ s.dev.heat.droopTk + max 1 (s.dev.fget THM_DROOP.HOLD) ≤ s.dev.tk) ∧
    (∃ (s : State), (∀ k, s.dev.heat.ledgerTk = some k → k + 6250 ≤ s.dev.tk) ∧ s.dev.mode ≠ .load ∧ s.dev.mode ≠ .sleep) :=
  ⟨⟨{ cause := 1, flags := 0, hotsns := 0, level := 0, hott := 0, time := 0, ntSec := 0, ntNs := 0, shot := 0, failed := 0 }, full [] (fun d => { d with heat := { shutdown := some { cause := 1, flags := 0, hotsns := 0, level := 0, hott := 0, time := 0, ntSec := 0, ntNs := 0, shot := 0, failed := 0 } } }), by decide +kernel⟩,
   ⟨{ cause := 1, flags := 0, hotsns := 0, level := 0, hott := 0, time := 0, ntSec := 0, ntNs := 0, shot := 0, failed := 0, recorded := true }, full [] (fun d => { d with heat := { shutdown := some { cause := 1, flags := 0, hotsns := 0, level := 0, hott := 0, time := 0, ntSec := 0, ntNs := 0, shot := 0, failed := 0, recorded := true } } }), by decide +kernel⟩,
   ⟨st [(GLB_MODE.CUR, 10), (THM_STAT.SDLATCH, 1), (THM_CTL.AUTORESTART, 1)], by decide +kernel⟩,
   ⟨0, full [], by decide +kernel⟩,
   ⟨full [(THM_DROOP.HOLD, 0)] (fun d => { d with heat := { stretch := 1 }, tk := 1 }), by decide +kernel⟩,
   ⟨full [], (fun k h => by cases (show (none : Option Nat) = some k from h)), by decide +kernel, by decide +kernel⟩⟩

theorem witness_CalibrationRuns :
    (∃ (v : W32) (_s : State), CAL_CTL.RUN.of v = 1 ∧ CAL_CTL.STORE.of v = 0) ∧
    (∃ (v : W32) (_s : State), CAL_CTL.RUN.of v = 0 ∧ CAL_CTL.STORE.of v = 1) ∧
    (∃ (g : GroupId) (_plausible : Bool) (s : State), s.dev.calQ.contains g.val = true ∧ s.dev.mode = .calibrate ∧ s.dev.ctlRestart = none ∧ 192 ≤ g.val ∧ s.dev.calQ.filter (· != g.val) ≠ []) ∧
    (∃ (g : GroupId) (_step : BitVec 8) (s : State), s.dev.calQ.contains g.val = true ∧ s.dev.mode = .calibrate ∧ s.dev.calQ.filter (· != g.val) ≠ [] ∧ s.dev.calTk + stepDeadline g ≤ s.dev.tk) ∧
    (∃ (g : GroupId) (s : State), s.dev.firmwareUp = true ∧ s.dev.calAsk.contains g.val = true ∧ 192 ≤ g.val ∧ g.val ≠ 225) ∧
    (∃ (set k start : Nat) (s : State), s.dev.calStore = some (set, k, start) ∧ set < 5 ∧ k < 2 ∧ s.dev.ctlRestart = none) ∧
    (∃ (ic : IcId) (old new : Nat) (rest more : List Nat) (s : State), (tget {} s.dev.convs ic).serving = old :: rest ∧ (tget {} s.dev.convs ic).spare = new :: more ∧ s.dev.fget CAL_CTL.BG = 1 ∧ s.dev.domOn (192 + ic.val) = true ∧ (s.dev.ic ic).mode = .idle ∧ (tget {} s.dev.convs ic).last + 625000 ≤ s.dev.tk) ∧
    (∃ (src : Fin 23) (new : Nat) (more : List Nat) (s : State), s.dev.capSpare = new :: more ∧ s.dev.fget CAL_CTL.BG = 1 ∧ s.dev.mode ≠ .sleep ∧ s.dev.capAge.find? (sourceIdle s.dev s.clk) = some src.val) :=
  ⟨⟨fv [(CAL_CTL.RUN, 1)], st [(GLB_MODE.CUR, 2)], by decide +kernel⟩,
   ⟨fv [(CAL_CTL.STORE, 1)], st [], by decide +kernel⟩,
   ⟨235, true, st [(GLB_MODE.CUR, 2)] (fun d => { d with calQ := [0, 235] }), by decide +kernel⟩,
   ⟨235, 7, st [(GLB_MODE.CUR, 2)] (fun d => { d with calQ := [0, 235], tk := 62500 }), by decide +kernel⟩,
   ⟨235, full [] (fun d => { d with calAsk := [235], boot := { phase := .done } }), by decide +kernel⟩,
   ⟨4, 1, 0, full [] (fun d => { d with calStore := some (4, 1, 0) }), by decide +kernel⟩,
   ⟨31, 0, 64, (List.range 64).drop 1, [65, 66, 67], full [(CAL_CTL.BG, 1)] (fun d => { d with tk := 625000 }), by decide +kernel⟩,
   ⟨0, 23, [24, 25], full [(CAL_CTL.BG, 1)] (fun d => { d with tk := 1000 }), by decide +kernel⟩⟩

theorem witness_SelfTest :
    (∃ (k : Fin 8) (s : State), s.dev.gapOffset k s.clk.now.toNat = some 0 ∧ s.dev.fget BST_CTL.EN = 0) ∧
    (∃ (s : State), s.dev.fget BST_CTL.EN = 1 ∧ s.dev.slices = [] ∧ s.dev.mode ≠ .load ∧ s.dev.mode ≠ .sleep) ∧
    (∃ (u start : Nat) (_el : BitVec 16) (s : State), s.dev.slices = [(0, { unit := u, start := start })] ∧ u < 1024 ∧ start + 400 ≤ s.dev.tk) ∧
    (∃ (x : SliceSt) (s : State), s.dev.slices.find? (fun e => e.1 == 11) = some (11, x)) ∧
    (∃ (dom : DomainId) (x : SliceSt) (key unit : Nat) (s : State), key = (if dom.val < 192 then 9 else 10) ∧ unit = (if dom.val < 192 then dom.val else dom.val - 192) ∧ (key, x) ∈ s.dev.slices ∧ x.unit = unit) ∧
    (∃ (q : QuarterId) (s : State), s.dev.mode ≠ .load ∧ s.dev.mode ≠ .sleep ∧ s.dev.pllOut.contains q.val = false) ∧
    (∃ (q : QuarterId) (s : State), s.dev.pllOut = [q.val]) ∧
    (∃ (v : W32) (_s : State), BST_FUSE.GO.of v = 1) :=
  ⟨⟨7, full [(BST_GW_PER.LEN 7, 1), (BST_CTL.EN, 0)], by decide +kernel⟩,
   ⟨full [(BST_CTL.EN, 1)], by decide +kernel⟩,
   ⟨1023, 0, 0, full [] (fun d => { d with slices := [(0, ⟨1023, 0⟩)], tk := 400 }), by decide +kernel⟩,
   ⟨⟨0, 0⟩, full [] (fun d => { d with slices := [(11, ⟨0, 0⟩)] }), by decide +kernel⟩,
   ⟨223, ⟨31, 0⟩, 10, 31, full [] (fun d => { d with slices := [(10, ⟨31, 0⟩)] }), by decide +kernel⟩,
   ⟨3, full [], by decide +kernel⟩,
   ⟨3, full [] (fun d => { d with pllOut := [3] }), by decide +kernel⟩,
   ⟨fv [(BST_FUSE.GO, 1)], full [], by decide +kernel⟩⟩

theorem witness_ResetsAndPower :
    (∃ (_ns : Nat) (s : State), s.dev.heat.shutdown = none ∧ s.dev.fget THM_STAT.SDLATCH = 0) ∧
    (∃ (s : State), s.dev.mode = .sleep ∧ s.dev.fget THM_STAT.SDLATCH = 0 ∧ s.dev.heat.shutdown = none) ∧
    (∃ (_strap : BitVec 3) (s : State), s.dev.vauxLost = true) ∧
    (∃ (s : State), s.dev.freeze = none) ∧
    (∃ (s : State), s.dev.mode ≠ .sleep) ∧
    (∃ (v : W32) (s : State), GLB_RST.WARM.of v = 1 ∧ s.dev.warm = false) ∧
    (∃ (s : State), s.dev.warm = true ∧ s.dev.ramp = [] ∧ s.dev.rehyQ = [] ∧ s.dev.mode ≠ .safe ∧ (s.dev.manifest.filter (fun e => decide (1 ≤ e.type ∧ e.type ≤ 3)) = [])) :=
  ⟨⟨1000, full [], by decide +kernel⟩,
   ⟨st [(GLB_MODE.CUR, 10)], by decide +kernel⟩,
   ⟨7, st [] (fun d => { d with vauxLost := true }), by decide +kernel⟩,
   ⟨full [], by decide +kernel⟩,
   ⟨full [], by decide +kernel⟩,
   ⟨fv [(GLB_RST.WARM, 1)], full [], by decide +kernel⟩,
   ⟨full [] (fun d => { d with warm := true }), by decide +kernel⟩⟩

theorem witness_ModesAndSafe :
    (∃ (v : W32) (_s : State), GLB_MODE.GO.of v = 1) ∧
    (∃ (q : ModeReq) (s : State), s.dev.modeAsk = some q ∧ q.leaving = true ∧ s.dev.leaveDue q = true ∧ q.dest ≠ .safe ∧ s.dev.mode ≠ .relay) ∧
    (∃ (q : ModeReq) (s : State), s.dev.modeAsk = some q ∧ q.leaving = false ∧ q.tk < s.dev.tk ∧ s.dev.mode ≠ .relay) ∧
    (∃ (s : State), s.dev.safeDue.contains 2 = true ∧ s.dev.modeAsk = none ∧ s.dev.mode ≠ .load ∧ s.dev.mode ≠ .sleep ∧ s.dev.mode ≠ .safe ∧ s.dev.mode ≠ .relay) ∧
    (∃ (v : W32) (_s : State), BBX_SAFE.ACK.of v = 1) :=
  ⟨⟨fv [(GLB_MODE.GO, 1)], full [], by decide +kernel⟩,
   ⟨⟨.park, true, false, 0⟩, full [] (fun d => { d with modeAsk := some ⟨.park, true, false, 0⟩, tk := 1 }), by decide +kernel⟩,
   ⟨⟨.sleep, false, false, 0⟩, full [] (fun d => { d with modeAsk := some ⟨.sleep, false, false, 0⟩, tk := 1 }), by decide +kernel⟩,
   ⟨full [] (fun d => { d with safeDue := [2] }), by decide +kernel⟩,
   ⟨fv [(BBX_SAFE.ACK, 1)], full [], by decide +kernel⟩⟩

theorem witness_SedimentAndFaults :
    (∃ (cause : FreezeCause) (s : State), (cause = .host ∨ s.dev.frzDue.contains (freezeCode cause) = true) ∧ s.dev.freeze = none ∧ s.dev.dogWait = false) ∧
    (∃ (x : Freeze) (sn : Snap) (s : State), s.dev.freeze = some x ∧ x.snap = some sn ∧ x.start + 321250 ≤ s.dev.tk ∧ s.dev.dogWait = false ∧ x.frame < 15 ∧ x.cause < 16 ∧ sn.ring.length = 0x4000) ∧
    (∃ (s : State), s.dev.mode ≠ .sleep) ∧
    (∃ (_ok : Bool) (k : Nat) (s : State), s.dev.ctlRestart = some k ∧ k < 3) :=
  ⟨⟨.host, full [], by decide +kernel⟩,
   ⟨⟨5, 14, 0, false, some ⟨List.replicate 0x4000 0, 0, 0, false, 0, 0, 0⟩⟩, ⟨List.replicate 0x4000 0, 0, 0, false, 0, 0, 0⟩, full [] (fun d => { d with tk := 321250, freeze := some ⟨5, 14, 0, false, some ⟨List.replicate 0x4000 0, 0, 0, false, 0, 0, 0⟩⟩ }), rfl, rfl, by decide, rfl, by decide, by decide, List.length_replicate⟩,
   ⟨full [], by decide +kernel⟩,
   ⟨true, 2, full [] (fun d => { d with ctlRestart := some 2 }), by decide +kernel⟩⟩

theorem witness_BallsAndScan :
    (∃ (s : State), s.dev.smbCarries = true) ∧
    (∃ (s : State), s.dev.mode = .sleep ∧ (s.dev.smb.page.toNat < 6 ∨ 10 < s.dev.smb.page.toNat)) ∧
    (∃ (s : State), s.dev.mode = .sleep ∧ s.dev.fget THM_STAT.SDLATCH = 0) ∧
    (∃ (x : Byte) (_s : State), x ≠ 1#8) ∧
    (∃ (rails : List RailReading) (_s : State), rails.length = 11) ∧
    (∃ (s : State), s.dev.mode ≠ .load ∧ s.dev.mode ≠ .sleep) :=
  ⟨⟨st [(GLB_MODE.CUR, 10)] (fun d => { d with smb := { page := 10 } }), by decide +kernel⟩,
   ⟨st [(GLB_MODE.CUR, 10)] (fun d => { d with smb := { page := 11 } }), by decide +kernel⟩,
   ⟨st [(GLB_MODE.CUR, 10)], by decide +kernel⟩,
   ⟨0, full [], by decide +kernel⟩,
   ⟨List.replicate 11 ⟨0, 0, 0⟩, full [], by decide +kernel⟩,
   ⟨full [], by decide +kernel⟩⟩

end Sys2Proof.Tests
end

section
/-! SUPPORT. Register accesses (R16 to R20, R36, R40, R45, R571): what a read returns, what the access codes of a register let a write
change, and that of an access that reaches nothing only the record in GLB_MAPERR remains. -/
namespace Sys2Proof.Machine

open Sys2Proof.Safety

/-! ### Read data -/

theorem leNat_lt (bs : List Byte) : leNat bs < 256 ^ bs.length := by
  induction bs with
  | nil => decide
  | cons b bs ih =>
    have hb := b.isLt
    rw [List.length_cons, Nat.pow_succ, leNat]
    omega

theorem Dev.rdBytes_length (d : Dev) (a n : Nat) : (d.rdBytes a n).length = n := by
  induction n generalizing a with
  | zero => rfl
  | succ n ih => rw [Dev.rdBytes, List.length_cons, ih]

theorem Dev.rdLe_lt (d : Dev) (a n : Nat) : d.rdLe a n < 256 ^ n := by
  have h := leNat_lt (d.rdBytes a n)
  rwa [Dev.rdBytes_length] at h

/-- A register read returns the register's word. -/
theorem Dev.leNat_ret32 (d : Dev) (v : W32) : leNat (d.ret32 v).rdata = v.toNat := by
  show leNat (leBytes 4 v.toNat) = v.toNat
  rw [leNat_leBytes]
  exact Nat.mod_eq_of_lt v.isLt

theorem leBytes_zero (n : Nat) : leBytes n 0 = List.replicate n 0 := by
  induction n with
  | zero => rfl
  | succ n ih =>
    rw [leBytes, Nat.zero_div, ih]
    rfl

/-! ### Frames -/

theorem State.withDev_eq_self {s : State} {f : Dev → Dev} (h : f s.dev = s.dev) : s.withDev f = s := by
  rw [State.withDev, h]

/-- What a change of the device has to leave alone for the command to leave everything alone but the registers listed. -/
theorem still_withDev {s : State} {f : Dev → Dev} {but : List Nat} (hm : (f s.dev).mem = s.dev.mem) (ho : (f s.dev).ocs = s.dev.ocs)
    (hi : (f s.dev).ics = s.dev.ics) (hr : ∀ o, o ∉ but → (f s.dev).reg o = s.dev.reg o) : still s (s.withDev f) but :=
  ⟨⟨rfl, rfl⟩, fun a => congrArg (tget (memDefault a) · a) hm, ho, hi, hr⟩

theorem onlyRegs_trans {s t u : State} {as bs : List Nat} (h : onlyRegs s t as) (k : onlyRegs t u bs) : onlyRegs s u (as ++ bs) := by
  obtain ⟨ht, hr⟩ := h
  obtain ⟨hu, kr⟩ := k
  refine ⟨by rw [hu, ht], fun o ho => ?_⟩
  rw [List.mem_append, not_or] at ho
  exact (kr o ho.2).trans (hr o ho.1)

/-! ### Writes under the access codes (Table 00-4) -/

/-- A field is a matter of its mask's bits alone. -/
theorem Fld.of_congr (f : Fld) {v w : W32} (hf : f.hi < 32) (h : v &&& f.mask = w &&& f.mask) : f.of v = f.of w := by
  apply Nat.eq_of_testBit_eq
  intro i
  rw [Fld.of_bit, Fld.of_bit]
  by_cases hi : i < f.hi + 1 - f.lo
  · have hb := congrArg (·.getLsbD (f.lo + i)) h
    have hm : f.mask.getLsbD (f.lo + i) = true := by
      rw [Fld.mask_bit f _ (by omega), decide_eq_true (by omega), decide_eq_true (by omega)]
      rfl
    simpa only [BitVec.getLsbD_and, hm, Bool.and_true, hi, decide_true, Bool.true_and] using hb
  · simp [hi]

/-- The bits that a register's codes always let a writer change take the value written (R16). -/
theorem Dev.writeCodes_takes (d : Dev) {off : Nat} {r : RegRow} (v : W32) (o : Bool) {m : W32} (hr : regRow? off = some r)
    (hm : m &&& BitVec.ofNat 32 r.rw = m) (hc : r.w1c = 0) : (d.writeCodes off v o).reg off &&& m = v &&& m := by
  have hrw : ∀ i, m.getLsbD i = true → (d.writeMask r o).getLsbD i = true := by
    intro i hi
    have hb : (BitVec.ofNat 32 r.rw).getLsbD i = true := by
      have h := congrArg (·.getLsbD i) hm
      simpa only [BitVec.getLsbD_and, hi, Bool.true_and] using h
    unfold Dev.writeMask
    dsimp only
    split
    · rw [BitVec.getLsbD_or, hb, Bool.true_or]
    · exact hb
  simp only [Dev.writeCodes, hr, Dev.reg_setReg_same, hc]
  apply BitVec.eq_of_getLsbD_eq
  intro i hi
  cases hmi : m.getLsbD i with
  | false => simp [hmi]
  | true =>
    have hw := hrw i hmi
    simp only [BitVec.getLsbD_and, BitVec.getLsbD_or, BitVec.getLsbD_not, hmi, hw, hi, decide_true, Bool.not_true, Bool.and_false,
      Bool.false_or, Bool.and_true, BitVec.and_zero, BitVec.zero_and, BitVec.getLsbD_zero, Bool.not_false]

theorem Dev.fget_writeCodes (d : Dev) (f : Fld) {r : RegRow} (v : W32) (o : Bool) (hr : regRow? f.off = some r)
    (hm : f.mask &&& BitVec.ofNat 32 r.rw = f.mask) (hc : r.w1c = 0) (hf : f.hi < 32) : (d.writeCodes f.off v o).fget f = f.of v :=
  f.of_congr hf (d.writeCodes_takes v o hr hm hc)

/-- A write under the access codes changes its own register and nothing else. -/
theorem onlyRegs_writeCodes (s : State) (off : Nat) (v : W32) (o : Bool) :
    onlyRegs s (s.withDev fun d => d.writeCodes off v o) [off] := by
  simp only [onlyRegs, State.withDev, Dev.writeCodes]
  cases regRow? off with
  | none => exact ⟨rfl, fun _ _ => rfl⟩
  | some r => exact ⟨rfl, fun x hx => Dev.reg_setReg_ne _ _ (fun e => hx (by simp [e]))⟩

/-- A word of the marker window with no rule of its own takes a write under its access codes. -/
theorem State.regWrite_marker (s : State) (a : Auth) (o : Bool) {off : Nat} (v : W32) (hr : (regRow? off).isSome = true)
    (hlo : 0x30100 ≤ off) (hhi : off < 0x38000) (hown : off < MK_OUT_LVL.off ∨ CL_COMMIT.off < off) :
    s.regWrite a o off v = s.withDev fun d => d.writeCodes off v o := by
  have hw : bar0Writable off = false := by
    simp only [bar0Writable, Bool.or_eq_false_iff, Bool.and_eq_false_iff, decide_eq_false_iff_not]
    simp only [descBase, msixBase, flBufBase]
    omega
  have hn : (regRow? off).isNone = false := by rw [← Option.not_isSome, hr]; rfl
  have hres : bar0Reserved off = false := by rw [bar0Reserved, hn]; rfl
  have hdom : domainAt off = none := by
    have hg : gsOffset off = false := by
      rw [gsOffset, decide_eq_false (show ¬0x100300 ≤ off by omega), Bool.false_and, Bool.false_and]
    rw [domainAt, hg]
    simp only [OC_CFG.off, IC_CFG.off]
    rw [if_neg (by decide), if_neg (by omega), if_neg (by omega)]
  have hmk : ∀ d : Dev, d.mkReg off v o = d.writeCodes off v o := by
    intro d
    simp only [MK_OUT_LVL.off, CL_COMMIT.off] at hown
    simp only [Dev.mkReg, TDC_RD.off, MK_OUT_LVL.off, CL_CFG.off, CL_REF_LO.off, CL_PER_HI.off, CL_COMMIT.off]
    rw [if_neg (by omega), if_neg (by omega), if_neg (by omega), if_neg (by omega), if_neg (by omega)]
  simp only [State.regWrite, hw, hres, hdom, hn, State.blockWrite, hmk, Bool.false_eq_true, if_false]
  rw [if_neg (by omega), if_neg (by omega), if_neg (by omega)]
  simp only [if_pos (show off < 0x40000 by omega)]

/-! ### GLB_MAPERR (R40, R571) -/

theorem Dev.bit_eq_true_iff (d : Dev) (f : Fld) (h : f.hi = f.lo) : d.bit f = true ↔ d.fget f = 1 := by
  have hlt := d.fget_lt f
  rw [h, show f.lo + 1 - f.lo = 1 by omega] at hlt
  simp only [Dev.bit, bne_iff_ne, ne_eq]
  omega

/-- A record that is held stays (R40). -/
theorem Dev.mapErr_held {d : Dev} (h : d.fget GLB_MAPERR.VALID = 1) (bar off : Nat) : d.mapErr bar off = d := by
  rw [Dev.mapErr, if_pos ((d.bit_eq_true_iff _ rfl).2 h)]

/-- The first access is recorded when no record is held. -/
theorem Dev.mapErr_free {d : Dev} (h : d.fget GLB_MAPERR.VALID ≠ 1) (bar off : Nat) :
    d.mapErr bar off = ((d.flag GLB_MAPERR.VALID).fset GLB_MAPERR.BAR bar).fset GLB_MAPERR.OFFSET off := by
  rw [Dev.mapErr, if_neg (fun hb => h ((d.bit_eq_true_iff _ rfl).1 hb))]

theorem Dev.mapErr_valid (d : Dev) (bar off : Nat) : (d.mapErr bar off).fget GLB_MAPERR.VALID = 1 := by
  by_cases h : d.fget GLB_MAPERR.VALID = 1
  · rw [Dev.mapErr_held h, h]
  · rw [Dev.mapErr_free h, Dev.fget_fset_bits _ GLB_MAPERR.OFFSET GLB_MAPERR.VALID _ rfl (by decide) (by decide),
      Dev.fget_fset_bits _ GLB_MAPERR.BAR GLB_MAPERR.VALID _ rfl (by decide) (by decide)]
    exact Dev.fget_fset d GLB_MAPERR.VALID _ (by decide)

theorem Dev.mapErr_bar {d : Dev} (h : d.fget GLB_MAPERR.VALID = 0) (bar off : Nat) :
    (d.mapErr bar off).fget GLB_MAPERR.BAR = bar % 4 := by
  rw [Dev.mapErr_free (by omega), Dev.fget_fset_bits _ GLB_MAPERR.OFFSET GLB_MAPERR.BAR _ rfl (by decide) (by decide)]
  exact Dev.fget_fset _ GLB_MAPERR.BAR _ (by decide)

theorem Dev.mapErr_offset {d : Dev} (h : d.fget GLB_MAPERR.VALID = 0) (bar off : Nat) :
    (d.mapErr bar off).fget GLB_MAPERR.OFFSET = off % 2 ^ 29 := by
  rw [Dev.mapErr_free (by omega)]
  exact Dev.fget_fset _ GLB_MAPERR.OFFSET _ (by decide)

theorem Dev.mapErr_reg (d : Dev) (bar off : Nat) {o : Nat} (h : o ≠ GLB_MAPERR.off) : (d.mapErr bar off).reg o = d.reg o := by
  unfold Dev.mapErr
  split
  · rfl
  · rw [Dev.reg_fset_ne _ _ _ h, Dev.reg_fset_ne _ _ _ h]
    exact Dev.reg_fset_ne d GLB_MAPERR.VALID _ h

/-- Of the device a record changes registers and the W1C bits of the tick alone. -/
theorem Dev.mapErr_part {β : Type} (g : Dev → β) (hg : ∀ (d : Dev) rs ws, g { d with regs := rs, w1cNow := ws } = g d) (d : Dev)
    (bar off : Nat) : g (d.mapErr bar off) = g d := by
  unfold Dev.mapErr
  split
  · rfl
  · exact hg d _ _

theorem Dev.mapErr_domOn (d : Dev) (bar off n : Nat) : (d.mapErr bar off).domOn n = d.domOn n := by
  have hreg : ∀ f : Fld, f.off ≠ GLB_MAPERR.off → (d.mapErr bar off).fget f = d.fget f := fun f hf => by
    rw [Dev.fget, Dev.mapErr_reg _ _ _ hf, Dev.fget]
  unfold Dev.domOn Dev.mode
  rw [hreg GLB_MODE.CUR (by decide), hreg GLB_PWRIC.ON (by decide), hreg (GLB_PWROC.ON (n / 32)) (show 0x60 + 0x4 * (n / 32) ≠ 0x20 by omega),
    Dev.mapErr_part Dev.ramp (fun _ _ _ => rfl), Dev.mapErr_part Dev.relayUp (fun _ _ _ => rfl)]

/-! ### Accesses that reach nothing (R40, R571) -/

/-- An offset of a BAR reaches nothing: it is reserved, or its domain is off. -/
def Dev.lostAt (d : Dev) (bar : Bar) (off : Nat) : Prop :=
  barReserved bar off = true ∨ ∃ n, barDomain bar off = some n ∧ d.domOn n = false

theorem Dev.lostAt_mapErr {d : Dev} {bar : Bar} {off : Nat} (h : d.lostAt bar off) (code o : Nat) : (d.mapErr code o).lostAt bar off := by
  simpa only [Dev.lostAt, Dev.mapErr_domOn] using h

/-- In BAR0 a whole word reaches nothing with any of its bytes. -/
theorem Dev.lostAt_word {d : Dev} {off : Nat} (h : d.lostAt .bar0 off) : d.lostAt .bar0 (off / 4 * 4) := by
  have hw : off / 4 * 4 / 4 * 4 = off / 4 * 4 := by omega
  simp only [Dev.lostAt, barReserved, barDomain, hw, Bool.and_eq_true, decide_eq_true_eq] at h ⊢
  exact h.imp_left fun ⟨hlt, hr⟩ => ⟨by omega, hr⟩

/-- The channel windows of BAR0 hold registers alone. -/
theorem bar0_window {off n : Nat} (h : domainAt off = some n) :
    bar0Readable off = false ∧ inPba off = false ∧ inIdentity off = false := by
  have hr : 0x100000 ≤ off ∧ off < 0x1000000 := by
    simp only [domainAt, OC_CFG.off, IC_CFG.off] at h
    split at h
    · cases h
    · split at h
      · omega
      · split at h
        · omega
        · cases h
  simp only [bar0Readable, bar0Writable, inPba, inIdentity, Bool.or_eq_false_iff, Bool.and_eq_false_iff, decide_eq_false_iff_not]
  simp only [descBase, msixBase, flBufBase, bbxBase, reportBase]
  omega

/-- An aligned word of BAR0 that reaches nothing: no memory stands there, and no register or one of a domain that is off. -/
theorem Dev.lostAt_bar0 {d : Dev} {off : Nat} (ha : off % 4 = 0) (h : d.lostAt .bar0 off) :
    bar0Readable off = false ∧ inPba off = false ∧ inIdentity off = false ∧
      ((regRow? off).isNone = true ∨ (regRow? off).isNone = false ∧ ∃ n, domainAt off = some n ∧ d.domOn n = false) := by
  have hw : off / 4 * 4 = off := by omega
  rcases h with h | ⟨n, h, hoff⟩
  · simp only [barReserved, hw, bar0Reserved, Bool.and_eq_true, Bool.not_eq_true', decide_eq_true_eq] at h
    obtain ⟨-, ⟨⟨hn, hm⟩, hp⟩, hi⟩ := h
    exact ⟨hm, hp, hi, .inl hn⟩
  · simp only [barDomain, hw] at h
    cases hres : bar0Reserved off with
    | true => simp [hres] at h
    | false =>
      rw [hres, if_neg (by decide)] at h
      obtain ⟨hm, hp, hi⟩ := bar0_window h
      refine ⟨hm, hp, hi, .inr ⟨?_, n, h, hoff⟩⟩
      simpa [bar0Reserved, hm, hp, hi] using hres

theorem widthBytes_pos (w : Width) : 0 < widthBytes w := by cases w <;> decide

section
variable {s : State} (hv : s.dev.fget GLB_MAPERR.VALID = 1)
include hv

theorem State.withDev_mapErr_held (bar off : Nat) : (s.withDev fun d => d.mapErr bar off) = s :=
  State.withDev_eq_self (Dev.mapErr_held hv bar off)

/-- With a record held, a word that reaches nothing reads 0 and its read has no effect. -/
theorem State.regRead_lost (a : Auth) {off : Nat} (ha : off % 4 = 0) (h : s.dev.lostAt .bar0 off) : s.regRead a off = (0, s) := by
  obtain ⟨hm, hp, hi, hn | ⟨hn, n, hd, hoff⟩⟩ := Dev.lostAt_bar0 ha h
  · simp only [State.regRead, hm, hp, hi, hn, Bool.false_eq_true, if_false, if_true, State.withDev_mapErr_held hv]
  · simp only [State.regRead, hm, hp, hi, hn, hd, hoff, Bool.false_eq_true, if_false, Bool.not_false, if_true,
      State.withDev_mapErr_held hv]

/-- With a record held, a write of a domain that is off has no effect (R571). -/
theorem Dev.domWrite_off {n : Nat} (h : s.dev.domOn n = false) (bar off : Nat) (f : Dev → Dev) : s.dev.domWrite n bar off f = s.dev := by
  simp only [Dev.domWrite, h, Bool.false_eq_true, if_false, Bool.not_false, if_true, Dev.mapErr_held hv]

/-- With a record held, the host's write of a word that reaches nothing has no effect. -/
theorem State.regWrite_lost (o : Bool) {off : Nat} (v : W32) (ha : off % 4 = 0) (h : s.dev.lostAt .bar0 off) :
    s.regWrite .host o off v = s := by
  obtain ⟨hm, hp, hi, hn⟩ := Dev.lostAt_bar0 ha h
  have hw : bar0Writable off = false := by
    simp only [bar0Readable, Bool.or_eq_false_iff] at hm
    exact hm.1.1.1.1
  rcases hn with hn | ⟨hn, n, hd, hoff⟩
  · have hres : bar0Reserved off = true := by simp [bar0Reserved, hn, hm, hp, hi]
    rw [State.regWrite, hw, hres, if_neg (by decide), if_pos rfl, State.withDev_mapErr_held hv]
  · have hres : bar0Reserved off = false := by simp [bar0Reserved, hn]
    rw [State.regWrite, hw, hres, if_neg (by decide), if_neg (by decide), hd]
    exact State.withDev_eq_self (Dev.domWrite_off hv hoff _ _ _)

/-- The same for a write that is narrow or misaligned (R19). -/
theorem Dev.narrowWrite_lost {off : Nat} (h : s.dev.lostAt .bar0 off) : s.dev.narrowWrite off = s.dev := by
  obtain ⟨hm, hp, hi, hn⟩ := Dev.lostAt_bar0 (by omega) (Dev.lostAt_word h)
  rcases hn with hn | ⟨hn, n, hd, hoff⟩
  · simp only [Dev.narrowWrite, bar0Reserved, hm, hp, hi, hn, Bool.not_false, Bool.and_self, if_true, Dev.mapErr_held hv]
  · simp only [Dev.narrowWrite, bar0Reserved, hn, Bool.false_and, Bool.false_eq_true, if_false, hd, hoff, Dev.mapErr_held hv]

/-- With a record held, an access of BAR0 all of whose bytes reach nothing reads 0 and has no effect. -/
theorem State.busRead_lost (a : Auth) {off : Nat} (w : Width) (h : accAll (s.dev.lostAt .bar0) off (.read w)) :
    s.busRead a off w = (List.replicate (widthBytes w) 0, s) := by
  have hword := State.regRead_lost hv a (Nat.mul_mod_left _ _) (Dev.lostAt_word (h 0 (widthBytes_pos w)).1)
  simp only [Nat.add_zero] at hword
  cases w with
  | w64 =>
    have hlo : s.dev.lostAt .bar0 (off / 8 * 8) := (h 0 (by decide)).2
    have hhi : s.dev.lostAt .bar0 (off / 8 * 8 + 4) := (h 4 (by decide)).2
    simp only [State.busRead, State.regRead_lost hv a (by omega) hlo, State.regRead_lost hv a (by omega) hhi]
    rfl
  | _ =>
    simp only [State.busRead, hword, widthBytes]
    rw [show (0 : W32).toNat = 0 from rfl, leBytes_zero, List.drop_replicate, List.take_replicate]
    congr 2
    omega

/-- The same for a host write of any width. -/
theorem State.busWrite_lost {off : Nat} (w : Width) (v : BitVec 64) (h : accAll (s.dev.lostAt .bar0) off (.write w v)) :
    s.busWrite .host off w v = s := by
  have h0 : s.dev.lostAt .bar0 off := (h 0 (widthBytes_pos w)).1
  have hnarrow : (s.withDev fun d => d.narrowWrite off) = s := State.withDev_eq_self (Dev.narrowWrite_lost hv h0)
  unfold State.busWrite
  split
  · exact hnarrow
  · next ha =>
    rw [ne_eq, Decidable.not_not] at ha
    cases w with
    | w8 => exact hnarrow
    | w16 => exact hnarrow
    | w32 => exact State.regWrite_lost hv _ _ ha h0
    | w64 =>
      dsimp only
      rw [State.regWrite_lost hv _ _ ha h0, State.regWrite_lost hv _ _ (by omega) (h 4 (show 4 < 8 by decide)).1]

end

/-! ### The same in BAR2 -/

/-- A part of BAR2 ends behind every offset in it. -/
theorem bar2Part_stop {off : Nat} (h : off < 0x20000000) : off < (bar2Part off).2 := by
  unfold bar2Part
  repeat' split
  all_goals
    dsimp only
    omega

/-- Every channel domain's part lies inside BAR2. -/
theorem bar2Part_domain_lt {off n : Nat} (h : (bar2Part off).1.domain = some n) : off < 0x20000000 := by
  refine Nat.lt_of_not_le fun hge => ?_
  have hp : bar2Part off = (.reserved, 0x20000000) := by
    unfold bar2Part
    repeat rw [if_neg (by omega)]
  rw [hp] at h
  cases h

/-- An offset of BAR2 that reaches nothing lies in a reserved part or in one of a domain that is off. -/
theorem Dev.lostAt_bar2 {d : Dev} {off : Nat} (h : d.lostAt .bar2 off) :
    off < 0x20000000 ∧ ((bar2Part off).1 = .reserved ∨
      (bar2Part off).1 ≠ .reserved ∧ ∃ n, (bar2Part off).1.domain = some n ∧ d.domOn n = false) := by
  rcases h with h | ⟨n, h, hoff⟩
  · simp only [barReserved, Bool.and_eq_true, decide_eq_true_eq, beq_iff_eq] at h
    exact ⟨h.1, .inl h.2⟩
  · have hd : (bar2Part off).1.domain = some n := h
    refine ⟨bar2Part_domain_lt hd, .inr ⟨fun hr => ?_, n, hd, hoff⟩⟩
    rw [hr] at hd
    cases hd

section
variable {s : State} (hv : s.dev.fget GLB_MAPERR.VALID = 1)
include hv

/-- With a record held, a read of BAR2 bytes that reach nothing gives zeros, part by part, and has no effect. -/
theorem Dev.bar2Read_lost (fuel off len : Nat) (hf : len ≤ fuel) (h : ∀ j, j < len → s.dev.lostAt .bar2 (off + j)) :
    s.dev.bar2Read true fuel off len = (List.replicate len 0, s.dev) := by
  induction fuel generalizing off len with
  | zero => rw [Nat.le_zero.1 hf]; rfl
  | succ fuel ih =>
    rw [Dev.bar2Read]
    by_cases hl : len = 0
    · rw [if_pos (.inl hl), hl]; rfl
    · obtain ⟨hlt, hp⟩ := Dev.lostAt_bar2 (h 0 (by omega))
      rw [Nat.add_zero] at hlt hp
      have hstop := bar2Part_stop hlt
      rw [if_neg (by omega)]
      have hrest := ih (bar2Part off).2 (len - min len ((bar2Part off).2 - off)) (by omega) (fun j hj => by
        have := h ((bar2Part off).2 - off + j) (by omega)
        rwa [show off + ((bar2Part off).2 - off + j) = (bar2Part off).2 + j by omega] at this)
      have hsum : min len ((bar2Part off).2 - off) + (len - min len ((bar2Part off).2 - off)) = len := by omega
      rcases hp with hr | ⟨hr, n, hd, hoff⟩
      · simp only [hr, if_true, Dev.mapErr_held hv, hrest, List.replicate_append_replicate, hsum]
      · simp only [hr, hd, hoff, if_false, if_true, Bool.false_eq_true, Dev.mapErr_held hv, hrest, List.replicate_append_replicate, hsum]

/-- With a record held, a host write of BAR2 bytes that reach nothing has no effect. -/
theorem Dev.bar2Write_lost (fuel off : Nat) (bs : List Byte) (h : ∀ j, j < bs.length → s.dev.lostAt .bar2 (off + j)) :
    s.dev.bar2Write true false fuel off bs = s.dev := by
  induction fuel generalizing off bs with
  | zero => rfl
  | succ fuel ih =>
    rw [Dev.bar2Write]
    split
    · rfl
    · next hne =>
      rw [not_or, List.isEmpty_iff, ← List.length_eq_zero_iff] at hne
      obtain ⟨hlt, hp⟩ := Dev.lostAt_bar2 (h 0 (by omega))
      rw [Nat.add_zero] at hlt hp
      have hstop := bar2Part_stop hlt
      have hchunk : s.dev.bar2Chunk true (bar2Part off).1 off (bs.take ((bar2Part off).2 - off)) false = s.dev := by
        rcases hp with hr | ⟨hr, n, hd, hoff⟩
        · simp only [Dev.bar2Chunk, hr, Bar2Part.domain, if_true, Dev.mapErr_held hv]
        · simp only [Dev.bar2Chunk, hd, Bool.not_true, Bool.false_and, Bool.false_eq_true, if_false, Dev.domWrite_off hv hoff]
      dsimp only
      rw [hchunk]
      refine ih _ _ fun j hj => ?_
      rw [List.length_drop] at hj
      have := h ((bar2Part off).2 - off + j) (by omega)
      rwa [show off + ((bar2Part off).2 - off + j) = (bar2Part off).2 + j by omega] at this

end

/-- A write that meets no byte that DMA wrote on this tick needs no repair (R340). -/
theorem Dev.dmaStands_outside (d : Dev) (a n : Nat) (h : ∀ e ∈ d.dmaTick, e.1 < a ∨ a + n ≤ e.1) : d.dmaStands a n = d := by
  unfold Dev.dmaStands
  generalize d.dmaTick = l at h
  induction l with
  | nil => rfl
  | cons e l ih =>
    rw [List.foldl_cons, if_pos (h e List.mem_cons_self)]
    exact ih fun x hx => h x (List.mem_cons_of_mem _ hx)

/-- What an access that reaches nothing answers with, once it is recorded: zeros to a read. -/
def Dev.lostReply (d : Dev) : Access → Dev
  | .read w => d.retBytes (List.replicate (widthBytes w) 0)
  | .write _ _ => d

/-- An access all of whose bytes reach nothing is recorded, reads 0, and has no other effect (R40, R571). -/
theorem State.lostAccess_lost {s : State} {bar : Bar} {off : Nat} {acc : Access} (code : Nat)
    (h : accAll (s.dev.lostAt bar) off acc) (hdma : dmaOutside s (bar2Base + off) (widthBytes (accWidth acc))) :
    s.lostAccess bar code off acc = s.withDev fun d => (d.mapErr code off).lostReply acc := by
  have hv := Dev.mapErr_valid s.dev code off
  have hl : accAll ((s.dev.mapErr code off).lostAt bar) off acc := fun j hj =>
    ⟨Dev.lostAt_mapErr (h j hj).1 code off, Dev.lostAt_mapErr (h j hj).2 code off⟩
  cases bar with
  | bar0 =>
    cases acc with
    | read w =>
      rw [State.lostAccess, State.busRead_lost (s := s.withDev fun d => d.mapErr code off) hv .host w hl]
      rfl
    | write w v => exact State.busWrite_lost (s := s.withDev fun d => d.mapErr code off) hv w v hl
  | bar2 =>
    have hfuel : widthBytes (accWidth acc) ≤ 9 := by cases accWidth acc <;> decide
    cases acc with
    | read w =>
      have hr := Dev.bar2Read_lost (s := s.withDev fun d => d.mapErr code off) hv 9 off (widthBytes w) hfuel fun j hj => (hl j hj).1
      rw [State.withDev_dev] at hr
      simp only [State.lostAccess, State.withDev, hr, Dev.lostReply]
    | write w v =>
      have hw := Dev.bar2Write_lost (s := s.withDev fun d => d.mapErr code off) hv 9 off (leBytes (widthBytes w) v.toNat)
        fun j hj => (hl j (by rwa [leBytes_length] at hj)).1
      have hd : ∀ e ∈ (s.dev.mapErr code off).dmaTick, e.1 < bar2Base + off ∨ bar2Base + off + widthBytes w ≤ e.1 := by
        rw [Dev.mapErr_part Dev.dmaTick (fun _ _ _ => rfl)]
        exact hdma
      rw [State.withDev_dev] at hw
      simp only [State.lostAccess, State.withDev, hw, Dev.dmaStands_outside _ _ _ hd, Dev.lostReply]

theorem Dev.lostReply_regs (d : Dev) (acc : Access) : (d.lostReply acc).regs = d.regs := by cases acc <;> rfl

theorem Dev.lostReply_fget (d : Dev) (acc : Access) (f : Fld) : (d.lostReply acc).fget f = d.fget f := by cases acc <;> rfl

theorem Dev.lostReply_rdata (d : Dev) {acc : Access} {w : Width} (h : acc = .read w) :
    (d.lostReply acc).rdata = List.replicate (widthBytes w) 0 := by
  subst h
  rfl

/-- What stays of an access that reaches nothing: everything but GLB_MAPERR. -/
theorem still_lost (s : State) (code off : Nat) (acc : Access) :
    still s (s.withDev fun d => (d.mapErr code off).lostReply acc) [GLB_MAPERR.off] := by
  have hpart : ∀ {β : Type} (g : Dev → β), (∀ (d : Dev) rs ws, g { d with regs := rs, w1cNow := ws } = g d) →
      (∀ (d : Dev) bs, g (d.retBytes bs) = g d) → g ((s.dev.mapErr code off).lostReply acc) = g s.dev := by
    intro β g hg hb
    rw [← Dev.mapErr_part g hg s.dev code off]
    cases acc with
    | read w => exact hb _ _
    | write w v => rfl
  refine still_withDev (hpart Dev.mem (fun _ _ _ => rfl) fun _ _ => rfl) (hpart Dev.ocs (fun _ _ _ => rfl) fun _ _ => rfl)
    (hpart Dev.ics (fun _ _ _ => rfl) fun _ _ => rfl) fun o ho => ?_
  rw [Dev.reg, Dev.lostReply_regs]
  exact Dev.mapErr_reg _ _ _ (by simpa using ho)

/-- A record held keeps every register as it was. -/
theorem regsSame_lost {s : State} (h : s.dev.fget GLB_MAPERR.VALID = 1) (code off : Nat) (acc : Access) :
    regsSame s (s.withDev fun d => (d.mapErr code off).lostReply acc) [] := by
  intro o _
  show ((s.dev.mapErr code off).lostReply acc).reg o = _
  rw [Dev.reg, Dev.lostReply_regs, Dev.mapErr_held h]
  rfl

/-! ### The commands -/

/-- Of the device a write of the shot counter changes the counter and its staged half alone. -/
theorem Dev.wrShotLo_part {β : Type} (g : Dev → β) (hg : ∀ (d : Dev) x, g { d with shotLo := x } = g d) (d : Dev) (v : W32) :
    g (d.wrShotLo v) = g d := by
  unfold Dev.wrShotLo
  split
  · exact hg d _
  · rfl

theorem Dev.wrShotHi_part {β : Type} (g : Dev → β) (hg : ∀ (d : Dev) n x, g { d with shot := n, shotLo := x } = g d) (d : Dev)
    (v : W32) : g (d.wrShotHi v) = g d := by
  unfold Dev.wrShotHi
  split
  · exact hg d _ _
  · rfl

/-- In PARK a write of the high half commits both (R36). -/
theorem Dev.wrShotHi_park {d : Dev} (h : d.mode = .park) (v : W32) :
    (d.wrShotHi v).shot.toNat = v.toNat % 2 ^ 16 * 2 ^ 32 + (d.shotLo.getD 0).toNat ∧ (d.wrShotHi v).shotLo = none := by
  have hlo := (d.shotLo.getD 0).isLt
  have hhi : GLB_SHOT_HI.SHOT_HI.of v = v.toNat % 2 ^ 16 := by simp [Fld.of]
  rw [Dev.wrShotHi, if_pos h, BitVec.toNat_ofNat, hhi]
  exact ⟨Nat.mod_eq_of_lt (by omega), rfl⟩

theorem shotLoWrite_effect (v : W32) (s : State) : completes (.shotLoWrite v) s fun t =>
    (s.dev.mode = .park → t.dev.shotLo = some v) ∧ (s.dev.mode ≠ .park → t = s) ∧ t.dev.shot = s.dev.shot ∧ still s t [] := by
  refine ⟨_, rfl, fun h => ?_, fun h => State.withDev_eq_self (if_neg h), Dev.wrShotLo_part Dev.shot (fun _ _ => rfl) _ _,
    still_withDev (Dev.wrShotLo_part Dev.mem (fun _ _ => rfl) _ _) (Dev.wrShotLo_part Dev.ocs (fun _ _ => rfl) _ _)
      (Dev.wrShotLo_part Dev.ics (fun _ _ => rfl) _ _) fun o _ => Dev.wrShotLo_part (·.reg o) (fun _ _ => rfl) _ _⟩
  rw [State.withDev_dev, Dev.wrShotLo, if_pos h]

theorem shotHiWrite_effect (v : W32) (s : State) : completes (.shotHiWrite v) s fun t =>
    (s.dev.mode = .park → t.dev.shot.toNat = v.toNat % 2 ^ 16 * 2 ^ 32 + (s.dev.shotLo.getD 0).toNat ∧ t.dev.shotLo = none) ∧
    (s.dev.mode ≠ .park → t = s) ∧ still s t [] :=
  ⟨_, rfl, fun h => Dev.wrShotHi_park h v, fun h => State.withDev_eq_self (if_neg h),
    still_withDev (Dev.wrShotHi_part Dev.mem (fun _ _ _ => rfl) _ _) (Dev.wrShotHi_part Dev.ocs (fun _ _ _ => rfl) _ _)
      (Dev.wrShotHi_part Dev.ics (fun _ _ _ => rfl) _ _) fun o _ => Dev.wrShotHi_part (·.reg o) (fun _ _ _ => rfl) _ _⟩

theorem shotLoRead_effect (s : State) : completes .shotLoRead s fun t =>
    leNat t.dev.rdata = s.dev.shot.toNat % 2 ^ 32 ∧ t.dev.shotHiShadow.toNat = s.dev.shot.toNat / 2 ^ 32 ∧ t.dev.shot = s.dev.shot ∧
    still s t [] := by
  have hexec : exec .shotLoRead s = .next (s.withDev fun d =>
      ({ d with shotHiShadow := BitVec.ofNat 16 (d.shot.toNat / 2 ^ 32) } : Dev).ret32 (BitVec.ofNat 32 d.shot.toNat)) := rfl
  refine ⟨_, hexec, ?_, ?_, rfl, still_withDev rfl rfl rfl fun _ _ => rfl⟩
  · rw [State.withDev_dev, Dev.leNat_ret32, BitVec.toNat_ofNat]
  · have h := s.dev.shot.isLt
    show (BitVec.ofNat 16 (s.dev.shot.toNat / 2 ^ 32)).toNat = _
    rw [BitVec.toNat_ofNat]
    omega

theorem regRow_MK_IN_CFG : ∀ k : Fin 16, regRow? (MK_IN_CFG.off k) = some ⟨0x30100, [(16, 0x8)], .c, 0x5, 0xe0000fff, 0, 0, 0⟩ := by
  decide +kernel

theorem regRow_CL_WIN : ∀ w : Fin 4, regRow? (CL_WIN.off w) = some ⟨0x30440, [(4, 0x4)], .c, 0, 0xffffffff, 0, 0, 0⟩ := by
  decide +kernel

theorem registerWrite_MK_IN_CFG (a : Auth) (k : Fin 16) (v : BitVec 64) (s : State) (h : MK_IN_CFG.off k < 0x2000000) :
    completes (.registerWrite a ⟨MK_IN_CFG.off k, h⟩ .w32 v) s fun t =>
      t.dev.fget (MK_IN_CFG.EDGE k) = (MK_IN_CFG.EDGE k).of (v.setWidth 32) ∧
      t.dev.fget (MK_IN_CFG.RING k) = (MK_IN_CFG.RING k).of (v.setWidth 32) ∧
      t.dev.fget (MK_IN_CFG.HOLDOFF k) = (MK_IN_CFG.HOLDOFF k).of (v.setWidth 32) ∧ onlyRegs s t [MK_IN_CFG.off k] := by
  have hrow := regRow_MK_IN_CFG k
  have hk := k.isLt
  have hwrite : s.busWrite a (MK_IN_CFG.off k) .w32 v = s.withDev fun d => d.writeCodes (MK_IN_CFG.off k) (v.setWidth 32) := by
    unfold State.busWrite
    rw [if_neg (show ¬(0x30100 + 8 * k.val) % 4 ≠ 0 by omega)]
    exact s.regWrite_marker a false _ (by rw [hrow]; rfl) (Nat.le_add_right _ _) (show 0x30100 + 8 * k.val < _ by omega)
      (.inl (show 0x30100 + 8 * k.val < 0x30280 by omega))
  refine ⟨_, congrArg Host.Outcome.next hwrite, ?_, ?_, ?_, onlyRegs_writeCodes s _ _ _⟩
  · exact Dev.fget_writeCodes s.dev (MK_IN_CFG.EDGE k) _ _ hrow (by simp only [Fld.mask]; decide) rfl (by simp)
  · exact Dev.fget_writeCodes s.dev (MK_IN_CFG.RING k) _ _ hrow (by simp only [Fld.mask]; decide) rfl (by simp)
  · exact Dev.fget_writeCodes s.dev (MK_IN_CFG.HOLDOFF k) _ _ hrow (by simp only [Fld.mask]; decide) rfl (by simp)

/-- A CL_WIN register takes every bit of a word. -/
theorem Dev.reg_writeCodes_CL_WIN (d : Dev) (w : Fin 4) (v : W32) (o : Bool) :
    (d.writeCodes (CL_WIN.off w) v o).reg (CL_WIN.off w) = v := by
  have h := d.writeCodes_takes v o (m := BitVec.allOnes 32) (regRow_CL_WIN w) (by decide) rfl
  rwa [BitVec.and_allOnes, BitVec.and_allOnes] at h

theorem State.regWrite_CL_WIN (s : State) (a : Auth) (w : Fin 4) (v : W32) :
    s.regWrite a false (CL_WIN.off w) v = s.withDev fun d => d.writeCodes (CL_WIN.off w) v := by
  have hw := w.isLt
  exact s.regWrite_marker a false v (by rw [regRow_CL_WIN]; rfl) (show 0x30100 ≤ 0x30440 + 4 * w.val by omega)
    (show 0x30440 + 4 * w.val < _ by omega) (.inr (show 0x3041c < 0x30440 + 4 * w.val by omega))

theorem registerWrite_CL_WIN (a : Auth) (v : BitVec 64) (s : State) (h : CL_WIN.off 0 < 0x2000000) :
    completes (.registerWrite a ⟨CL_WIN.off 0, h⟩ .w64 v) s fun t =>
      t.dev.reg (CL_WIN.off 0) = v.setWidth 32 ∧ t.dev.reg (CL_WIN.off 1) = (v >>> 32).setWidth 32 ∧
      onlyRegs s t [CL_WIN.off 0, CL_WIN.off 1] := by
  have hlo := onlyRegs_writeCodes s (CL_WIN.off 0) (v.setWidth 32) false
  have hhi := onlyRegs_writeCodes (s.withDev fun d => d.writeCodes (CL_WIN.off 0) (v.setWidth 32)) (CL_WIN.off 1)
    ((v >>> 32).setWidth 32) false
  have hwrite : s.busWrite a (CL_WIN.off 0) .w64 v = (s.withDev fun d => d.writeCodes (CL_WIN.off 0) (v.setWidth 32)).withDev
      fun d => d.writeCodes (CL_WIN.off 1) ((v >>> 32).setWidth 32) := by
    unfold State.busWrite
    rw [if_neg (by decide)]
    show (s.regWrite a false (CL_WIN.off (0 : Fin 4)) _).regWrite a false (CL_WIN.off (1 : Fin 4)) _ = _
    rw [State.regWrite_CL_WIN, State.regWrite_CL_WIN]
    rfl
  refine ⟨_, congrArg Host.Outcome.next hwrite, ?_, Dev.reg_writeCodes_CL_WIN _ 1 _ _, onlyRegs_trans hlo hhi⟩
  exact (hhi.2 _ (by decide)).trans (Dev.reg_writeCodes_CL_WIN s.dev 0 _ _)

theorem registerWrite_narrow (a : Auth) (off : Fin 0x2000000) (w : Width) (v : BitVec 64) (s : State)
    (hw : w = .w8 ∨ w = .w16 ∨ off.val % 4 ≠ 0) (hr : bar0Reserved (off.val / 4 * 4) = false) (hd : domainAt (off.val / 4 * 4) = none) :
    completes (.registerWrite a off w v) s fun t => t = s := by
  have hnarrow : (s.withDev fun d => d.narrowWrite off.val) = s := State.withDev_eq_self (by
    rw [Dev.narrowWrite]
    simp only [hr, hd, Bool.false_eq_true, if_false])
  refine ⟨_, rfl, ?_⟩
  unfold State.busWrite
  split
  · exact hnarrow
  · next ha =>
    rcases hw with rfl | rfl | hm
    · exact hnarrow
    · exact hnarrow
    · exact absurd hm ha

theorem reservedRangeAccess_effect (bar : Bar) (off : Nat) (acc : Access) (s : State)
    (h : accAll (fun o => barReserved bar o = true) off acc) (hdma : dmaOutside s (bar2Base + off) (widthBytes (accWidth acc))) :
    completes (.reservedRangeAccess bar off acc) s fun t =>
      (∀ w, acc = .read w → t.dev.rdata = List.replicate (widthBytes w) 0) ∧ t.dev.fget GLB_MAPERR.VALID = 1 ∧
      (s.dev.fget GLB_MAPERR.VALID = 0 →
        t.dev.fget GLB_MAPERR.BAR = (if bar = .bar0 then 0 else 1) ∧ t.dev.fget GLB_MAPERR.OFFSET = off) ∧
      (s.dev.fget GLB_MAPERR.VALID = 1 → regsSame s t []) ∧ still s t [GLB_MAPERR.off] := by
  have h0 : barReserved bar off = true := (h 0 (widthBytes_pos _)).1
  have hfits : off < 2 ^ 29 := by
    cases bar <;> simp only [barReserved, Bool.and_eq_true, decide_eq_true_eq] at h0 <;> omega
  have hl : accAll (s.dev.lostAt bar) off acc := fun j hj => ⟨.inl (h j hj).1, .inl (h j hj).2⟩
  have hexec : exec (.reservedRangeAccess bar off acc) s =
      .next (s.withDev fun d => (d.mapErr (if bar = .bar0 then 0 else 1) off).lostReply acc) := by
    rw [exec_reservedRangeAccess, execReservedRangeAccess, if_pos h0, State.lostAccess_lost _ hl hdma]
  refine ⟨_, hexec, fun w hw => Dev.lostReply_rdata _ hw, ?_, fun hv => ⟨?_, ?_⟩, fun hv => regsSame_lost hv _ _ _, still_lost _ _ _ _⟩
  · exact (Dev.lostReply_fget _ _ _).trans (Dev.mapErr_valid _ _ _)
  · rw [State.withDev_dev, Dev.lostReply_fget, Dev.mapErr_bar hv]
    cases bar <;> rfl
  · rw [State.withDev_dev, Dev.lostReply_fget, Dev.mapErr_offset hv, Nat.mod_eq_of_lt hfits]

theorem poweredOffDomainAccess_effect (bar : Bar) (off n : Nat) (acc : Access) (s : State)
    (h : accAll (fun o => barDomain bar o = some n) off acc) (hoff : s.dev.domOn n = false)
    (hdma : dmaOutside s (bar2Base + off) (widthBytes (accWidth acc))) :
    completes (.poweredOffDomainAccess bar off acc) s fun t =>
      (∀ w, acc = .read w → t.dev.rdata = List.replicate (widthBytes w) 0) ∧ t.dev.fget GLB_MAPERR.VALID = 1 ∧
      (s.dev.fget GLB_MAPERR.VALID = 0 → t.dev.fget GLB_MAPERR.BAR = (if bar = .bar0 then 2 else 3)) ∧
      (s.dev.fget GLB_MAPERR.VALID = 1 → regsSame s t []) ∧ still s t [GLB_MAPERR.off] := by
  have h0 : barDomain bar off = some n := (h 0 (widthBytes_pos _)).1
  have hl : accAll (s.dev.lostAt bar) off acc := fun j hj => ⟨.inr ⟨n, (h j hj).1, hoff⟩, .inr ⟨n, (h j hj).2, hoff⟩⟩
  have hexec : exec (.poweredOffDomainAccess bar off acc) s =
      .next (s.withDev fun d => (d.mapErr (if bar = .bar0 then 2 else 3) off).lostReply acc) := by
    rw [exec_poweredOffDomainAccess, execPoweredOffDomainAccess, h0]
    simp only [hoff, Bool.false_eq_true, if_false, State.lostAccess_lost _ hl hdma]
  refine ⟨_, hexec, fun w hw => Dev.lostReply_rdata _ hw, ?_, fun hv => ?_, fun hv => regsSame_lost hv _ _ _, still_lost _ _ _ _⟩
  · exact (Dev.lostReply_fget _ _ _).trans (Dev.mapErr_valid _ _ _)
  · rw [State.withDev_dev, Dev.lostReply_fget, Dev.mapErr_bar hv]
    cases bar <;> rfl

theorem uregLoRead_effect (oc : OcId) (k : Fin 8) (s : State) (h : s.dev.domOn oc = true) :
    completes (.uregLoRead oc k) s fun t =>
      let x := ((s.dev.eng oc).ureg (8 + k.val)).toNat
      leNat t.dev.rdata = x % 2 ^ 32 ∧ (tget 0 (t.dev.eng oc).ureadHi k).toNat = x / 2 ^ 32 ∧
      (t.dev.eng oc).u = (s.dev.eng oc).u ∧ ocsSame s t oc ∧ devOnly s t ∧ memSame s t ∧ regsSame s t [] := by
  have hexec : exec (.uregLoRead oc k) s =
      .next (s.withDev fun d => (d.rdUregLo oc.val k.val).2.ret32 (d.rdUregLo oc.val k.val).1) := by
    rw [exec_uregLoRead, execUregLoRead]
    simp only [State.withDev, h, if_true]
  have heng : ∀ e : Engine, ((s.dev.setEng oc e).oc oc).eng = e := fun e => by
    rw [Dev.setEng, Dev.oc, Dev.setOc, tget_tset_same]
  refine ⟨_, hexec, ?_, ?_, ?_, fun m hm => tget_tset_ne _ _ _ _ hm, ⟨rfl, rfl⟩, fun _ => rfl, fun _ _ => rfl⟩
  · exact (Dev.leNat_ret32 _ _).trans (BitVec.toNat_ofNat ..)
  · have hx := ((s.dev.eng oc).ureg (8 + k.val)).isLt
    show (tget 0 ((s.dev.setEng oc _).oc oc).eng.ureadHi k).toNat = _
    rw [heng, tget_tset_same, BitVec.toNat_ofNat]
    omega
  · show ((s.dev.setEng oc _).oc oc).eng.u = _
    rw [heng]

theorem stagingRead_effect (s : State) : completes .stagingRead s fun t =>
    leNat t.dev.rdata = s.dev.rdLe (stagingBase + s.dev.fget MCS_UADDR.ADDR) 4 ∧
    t.dev.fget MCS_UADDR.ADDR = (s.dev.fget MCS_UADDR.ADDR + 4) % 2 ^ 15 ∧ still s t [MCS_UADDR.off] := by
  refine ⟨_, rfl, ?_, Dev.fget_fset _ MCS_UADDR.ADDR _ (by decide), still_withDev rfl rfl rfl fun o ho => ?_⟩
  · exact (Dev.leNat_ret32 s.dev _).trans ((BitVec.toNat_ofNat ..).trans (Nat.mod_eq_of_lt (Dev.rdLe_lt _ _ 4)))
  · exact Dev.reg_fset_ne _ MCS_UADDR.ADDR _ (by simpa using ho)

theorem nvdataRead_effect (s : State) : completes .nvdataRead s fun t =>
    leNat t.dev.rdata = s.dev.rdLe (nvBase + s.dev.fget CFG_NVADDR.ADDR) 4 ∧
    t.dev.fget CFG_NVADDR.ADDR = (s.dev.fget CFG_NVADDR.ADDR + 4) % (CFG_NVADDR.ADDR.max + 1) ∧ still s t [CFG_NVADDR.off] := by
  refine ⟨_, rfl, ?_, Dev.fget_fset _ CFG_NVADDR.ADDR _ (by decide), still_withDev rfl rfl rfl fun o ho => ?_⟩
  · exact (Dev.leNat_ret32 s.dev _).trans ((BitVec.toNat_ofNat ..).trans (Nat.mod_eq_of_lt (Dev.rdLe_lt _ _ 4)))
  · exact Dev.reg_fset_ne _ CFG_NVADDR.ADDR _ (by simpa using ho)

theorem bstSigLoRead_effect (a : Auth) (s : State) : completes (.bstSigLoRead a) s fun t =>
    let sig := if a = .host ∧ s.dev.otp.provisioned = true then 0#64 else Config.bistSignature (s.dev.fget BST_SIGSEL.PART)
    leNat t.dev.rdata = sig.toNat % 2 ^ 32 ∧ t.dev.sigHi.toNat = sig.toNat / 2 ^ 32 ∧ still s t [] := by
  refine ⟨_, rfl, ?_, ?_, still_withDev rfl rfl rfl fun _ _ => rfl⟩
  · exact (Dev.leNat_ret32 _ _).trans (BitVec.toNat_setWidth ..)
  · refine (BitVec.toNat_setWidth ..).trans ?_
    rw [BitVec.toNat_ushiftRight, Nat.shiftRight_eq_div_pow]
    exact Nat.mod_eq_of_lt (Nat.div_lt_of_lt_mul (BitVec.isLt _))

theorem clRefLoRead_effect (s : State) : completes .clRefLoRead s fun t =>
    leNat t.dev.rdata = s.dev.clRead.1 / 1024 % 2 ^ 32 ∧
    t.dev.cycle.shRefHi = BitVec.ofNat 32 (s.dev.clRead.1 / 1024 / 2 ^ 32) ∧
    t.dev.cycle.shPerLo = BitVec.ofNat 32 s.dev.clRead.2 ∧ still s t [] :=
  ⟨_, rfl, (Dev.leNat_ret32 _ _).trans (BitVec.toNat_ofNat ..), rfl, rfl, still_withDev rfl rfl rfl fun _ _ => rfl⟩

end Sys2Proof.Machine

open Sys2Proof Sys2Proof.Machine Sys2Proof.Safety

/-- Settles O47: each command by its own lemma. An access that reaches nothing is first recorded, and with the record held no further
byte of it changes anything. -/
theorem registerAccesses : Obligations.RegisterAccesses := by
  unfold Obligations.RegisterAccesses
  exact ⟨shotLoWrite_effect, shotHiWrite_effect, shotLoRead_effect, fun a k v s => registerWrite_MK_IN_CFG a k v s _,
    fun a v s => registerWrite_CL_WIN a v s _, registerWrite_narrow, reservedRangeAccess_effect, poweredOffDomainAccess_effect,
    uregLoRead_effect, stagingRead_effect, nvdataRead_effect, bstSigLoRead_effect, clRefLoRead_effect⟩
end

section
/-! SUPPORT. Flags that raise their own source (R20, R377), and writes of registers with W1C bits beside the writable ones (R16): what
each sets and what it leaves alone. -/
namespace Sys2Proof.Machine

open Sys2Proof.Safety

/-! ### Frames -/

theorem not_inRill_of_lt {o : Nat} (h : o < 0x40000) : ¬ inRill o := fun hr => absurd hr.1 (by omega)

theorem Dev.rd8_congr {d e : Dev} (h : e.mem = d.mem) (a : Nat) : e.rd8 a = d.rd8 a := congrArg (tget (memDefault a) · a) h

/-! ### Writes under the access codes -/

theorem Dev.reg_writeCodes_ne (d : Dev) {off x : Nat} (v : W32) (o : Bool) (h : x ≠ off) : (d.writeCodes off v o).reg x = d.reg x :=
  (onlyRegs_writeCodes { dev := d } off v o).2 x (by simpa using h)

theorem Dev.writeCodes_mem (d : Dev) (off : Nat) (v : W32) (o : Bool) : (d.writeCodes off v o).mem = d.mem :=
  congrArg (·.dev.mem) (onlyRegs_writeCodes { dev := d } off v o).1

/-- A field that is always writable and has no W1C bit takes the value written, whatever other bits its register has (R16). -/
theorem Dev.fget_writeCodes_rw (d : Dev) (f : Fld) {r : RegRow} (v : W32) (o : Bool) (hr : regRow? f.off = some r)
    (hm : f.mask &&& BitVec.ofNat 32 r.rw = f.mask) (hc : f.mask &&& BitVec.ofNat 32 r.w1c = 0) (hf : f.hi < 32) :
    (d.writeCodes f.off v o).fget f = f.of v := by
  refine f.of_congr hf ?_
  simp only [Dev.writeCodes, hr, Dev.reg_setReg_same, Dev.writeMask]
  apply BitVec.eq_of_getLsbD_eq
  intro i _
  have hrw := congrArg (·.getLsbD i) hm
  have hw1c := congrArg (·.getLsbD i) hc
  simp only [BitVec.getLsbD_and] at hrw hw1c
  cases hfi : f.mask.getLsbD i with
  | false => simp [hfi]
  | true =>
    rw [hfi, Bool.true_and] at hrw hw1c
    split <;> simp_all

/-! ### Flags and events -/

theorem Dev.raise_mem (d : Dev) (s : Nat) : (d.raise s).mem = d.mem := eventsOnly_part Dev.mem (fun _ => rfl) (eventsOnly_raise d s)

theorem Dev.fget_raise (d : Dev) (s : Nat) (f : Fld) (h : ¬ inRill f.off) : (d.raise s).fget f = d.fget f :=
  eventsOnly_fget (eventsOnly_raise d s) f h

theorem Dev.reg_flag_ne (d : Dev) (f : Fld) {o : Nat} (h : o ≠ f.off) : (d.flag f).reg o = d.reg o := Dev.reg_fset_ne d f _ h

/-- A one-bit flag reads 1. -/
theorem Dev.fget_flag_bit (d : Dev) (f : Fld) (h : f.hi = f.lo) (hlt : f.hi < 32) : (d.flag f).fget f = 1 := by
  refine (d.fget_fset f f.max hlt).trans ?_
  simp [Fld.max, h]

/-- A flag leaves the other fields of its register alone. -/
theorem Dev.fget_flag_bits (d : Dev) (f g : Fld) (ho : g.off = f.off) (hg : g.hi < 32) (h : f.hi < g.lo ∨ g.hi < f.lo) :
    (d.flag f).fget g = d.fget g :=
  d.fget_fset_bits f g _ ho hg h

/-! ### TML_ERR -/

theorem not_inRill_tmlErr : ¬ inRill TML_ERR.off := not_inRill_of_lt (by decide)

theorem Dev.tmlErr_mem (d : Dev) (f : Fld) : (d.tmlErr f).mem = d.mem := Dev.raise_mem _ _

/-- An error bit sets its own bit of TML_ERR. -/
theorem Dev.fget_tmlErr_same (d : Dev) (i : Nat) (hi : i < 32) : (d.tmlErr ⟨TML_ERR.off, i, i⟩).fget ⟨TML_ERR.off, i, i⟩ = 1 :=
  (Dev.fget_raise _ _ _ not_inRill_tmlErr).trans (d.fget_flag_bit _ rfl hi)

/-- An error bit leaves the other bits of TML_ERR alone. -/
theorem Dev.fget_tmlErr_other (d : Dev) {i j : Nat} (hj : j < 32) (h : i < j ∨ j < i) :
    (d.tmlErr ⟨TML_ERR.off, i, i⟩).fget ⟨TML_ERR.off, j, j⟩ = d.fget ⟨TML_ERR.off, j, j⟩ :=
  (Dev.fget_raise _ _ _ not_inRill_tmlErr).trans (d.fget_flag_bits _ _ rfl hj h)

/-- An error bit leaves every other register alone, but for the rill network that carries its event. -/
theorem Dev.reg_tmlErr_ne (d : Dev) (i : Nat) {o : Nat} (h : o ≠ TML_ERR.off) (hr : ¬ inRill o) :
    (d.tmlErr ⟨TML_ERR.off, i, i⟩).reg o = d.reg o :=
  ((eventsOnly_raise _ _).2 o hr).trans (d.reg_flag_ne _ h)

end Sys2Proof.Machine
end

section
/-! SUPPORT. Timed actions (R71 to R74): what a write that arms an entry does, when an armed entry is due, and what a firing leaves in
it. -/
namespace Sys2Proof.Machine

open Sys2Proof.Safety

/-! ### Arming -/

theorem regRow_TML_ACT_CTL :
    ∀ n : Fin 16, regRow? (TML_ACT_CTL.off n) = some ⟨0x20108, [(16, 0x10)], .c, 0, 0xc0000fff, 0, 0x18000000, 0x20000000⟩ := by
  decide +kernel

theorem Dev.fget_writeCodes_ARM (d : Dev) (n : Fin 16) (v : W32) :
    (d.writeCodes (TML_ACT_CTL.off n) v).fget (TML_ACT_CTL.ARM n) = (TML_ACT_CTL.ARM n).of v :=
  d.fget_writeCodes_rw (TML_ACT_CTL.ARM n) v false (regRow_TML_ACT_CTL n) (by simp only [Fld.mask]; decide)
    (by simp only [Fld.mask]; decide) (by simp)

theorem Dev.fget_writeCodes_ASAP (d : Dev) (n : Fin 16) (v : W32) :
    (d.writeCodes (TML_ACT_CTL.off n) v).fget (TML_ACT_CTL.ASAP n) = (TML_ACT_CTL.ASAP n).of v :=
  d.fget_writeCodes_rw (TML_ACT_CTL.ASAP n) v false (regRow_TML_ACT_CTL n) (by simp only [Fld.mask]; decide)
    (by simp only [Fld.mask]; decide) (by simp)

theorem TML_ACT_CTL.off_not_inRill (n : Fin 16) : ¬ inRill (TML_ACT_CTL.off n) :=
  not_inRill_of_lt (show 0x20108 + 0x10 * n.val < 0x40000 by omega)

theorem TML_ACT_CTL.off_ne_TML_ERR (n : Nat) : TML_ACT_CTL.off n ≠ TML_ERR.off := show 0x20108 + 0x10 * n ≠ 0x20018 by omega

theorem TML_ACT_CTL.off_ne_DONE (n : Nat) : TML_ACT_CTL.off n ≠ TML_ACT_DONE.off n :=
  show 0x20108 + 0x10 * n ≠ 0x2010c + 0x10 * n by omega

/-- A write of an entry's control word leaves the value it is armed on. -/
theorem Dev.actValue_writeCodes (d : Dev) (n : Nat) (v : W32) (o : Bool) :
    (d.writeCodes (TML_ACT_CTL.off n) v o).actValue n = d.actValue n := by
  have hlo : TML_ACT_LO.off n ≠ TML_ACT_CTL.off n := show 0x20100 + 0x10 * n ≠ 0x20108 + 0x10 * n by omega
  have hhi : TML_ACT_HI.off n ≠ TML_ACT_CTL.off n := show 0x20104 + 0x10 * n ≠ 0x20108 + 0x10 * n by omega
  simp only [Dev.actValue, Dev.fget, Dev.reg_writeCodes_ne _ _ _ hlo, Dev.reg_writeCodes_ne _ _ _ hhi]

/-- A write that arms an entry on its value: the control word is taken, then the value is judged (R71). -/
theorem Dev.wrActCtl_arm {d : Dev} {n : Fin 16} {v : W32} (now : Nat) (hd : d.fget (TML_ACT_CTL.ARM n) = 0)
    (harm : (TML_ACT_CTL.ARM n).of v = 1) (hcancel : (TML_ACT_CTL.CANCEL n).of v = 0) (hasap : (TML_ACT_CTL.ASAP n).of v = 0) :
    d.wrActCtl n v now true = (d.writeCodes (TML_ACT_CTL.off n) v).actCheck n now := by
  have hasap' := (d.fget_writeCodes_ASAP n v).trans hasap
  simp [Dev.wrActCtl, Dev.bit, hd, harm, hcancel, hasap']

/-- R71: an entry whose value lies below now + MIN_LEAD is disarmed and dropped, and LATE is raised. -/
theorem Dev.actCheck_late {d : Dev} {n now : Nat} (h : d.actValue n < now + 64) :
    d.actCheck n now = ((d.fset (TML_ACT_CTL.ARM n) 0).flag (TML_ACT_CTL.DROPPED n)).tmlErr TML_ERR.LATE := if_pos h

theorem Dev.actCheck_intime {d : Dev} {n now : Nat} (h : now + 64 ≤ d.actValue n) : d.actCheck n now = d := if_neg (by omega)

/-- What a dropped entry reads as. -/
theorem Dev.actCheck_late_reads {d : Dev} {n : Fin 16} {now : Nat} (h : d.actValue n < now + 64) :
    (d.actCheck n now).fget (TML_ACT_CTL.ARM n) = 0 ∧ (d.actCheck n now).fget (TML_ACT_CTL.DROPPED n) = 1 ∧
    (d.actCheck n now).fget TML_ERR.LATE = 1 := by
  have hctl : ∀ e : Dev, (e.tmlErr TML_ERR.LATE).reg (TML_ACT_CTL.off n) = e.reg (TML_ACT_CTL.off n) := fun e =>
    e.reg_tmlErr_ne 0 (TML_ACT_CTL.off_ne_TML_ERR n) (TML_ACT_CTL.off_not_inRill n)
  rw [Dev.actCheck_late h]
  refine ⟨?_, ?_, Dev.fget_tmlErr_same _ 0 (by decide)⟩
  · rw [Dev.fget, hctl]
    exact (Dev.fget_flag_bits _ (TML_ACT_CTL.DROPPED n) (TML_ACT_CTL.ARM n) rfl (by simp) (by simp)).trans
      (d.fget_fset (TML_ACT_CTL.ARM n) 0 (by simp))
  · rw [Dev.fget, hctl]
    exact Dev.fget_flag_bit _ (TML_ACT_CTL.DROPPED n) rfl (by simp)

/-- What the judgement of an entry can write. -/
theorem Dev.actCheck_reg (d : Dev) (n now : Nat) {o : Nat} (hctl : o ≠ TML_ACT_CTL.off n) (herr : o ≠ TML_ERR.off)
    (hr : ¬ inRill o) : (d.actCheck n now).reg o = d.reg o := by
  unfold Dev.actCheck
  split
  · rw [Dev.reg_tmlErr_ne _ 0 herr hr, Dev.reg_flag_ne _ _ hctl, Dev.reg_fset_ne _ _ _ hctl]
  · rfl

theorem Dev.actCheck_mem (d : Dev) (n now : Nat) : (d.actCheck n now).mem = d.mem := by
  unfold Dev.actCheck
  split
  · exact Dev.tmlErr_mem _ _
  · rfl

section
variable {n : Fin 16} {v : W32} {s : State} (hfree : s.dev.fget (TML_ACT_CTL.ARM n) = 0) (htimed : s.clk.timed = true)
  (harm : (TML_ACT_CTL.ARM n).of v = 1) (hcancel : (TML_ACT_CTL.CANCEL n).of v = 0) (hasap : (TML_ACT_CTL.ASAP n).of v = 0)
include hfree htimed harm hcancel hasap

/-- ACTION_ARM of a free entry on its value. -/
theorem exec_actionArm_value : exec (.actionArm n v) s =
    .next (s.withDev fun d => (d.writeCodes (TML_ACT_CTL.off n) v).actCheck n s.clk.now.toNat) := by
  rw [exec_actionArm, execActionArm, htimed]
  exact congrArg (fun d => Host.Outcome.next { s with dev := d }) (Dev.wrActCtl_arm _ hfree harm hcancel hasap)

theorem actionArm_late (hlate : s.dev.actValue n < s.clk.now.toNat + 64) : completes (.actionArm n v) s fun t =>
    t.dev.fget (TML_ACT_CTL.ARM n) = 0 ∧ t.dev.fget (TML_ACT_CTL.DROPPED n) = 1 ∧ t.dev.fget TML_ERR.LATE = 1 ∧
    devOnly s t ∧ regsSameEv s t [TML_ACT_CTL.off n, TML_ERR.off] ∧ memSame s t := by
  have hlate' : (s.dev.writeCodes (TML_ACT_CTL.off n) v).actValue n < s.clk.now.toNat + 64 := by rwa [Dev.actValue_writeCodes]
  obtain ⟨hARM, hDROPPED, hLATE⟩ := Dev.actCheck_late_reads hlate'
  refine ⟨_, exec_actionArm_value hfree htimed harm hcancel hasap, hARM, hDROPPED, hLATE, ⟨rfl, rfl⟩, fun o ho hr => ?_,
    Dev.rd8_congr ((Dev.actCheck_mem _ _ _).trans (Dev.writeCodes_mem _ _ _ _))⟩
  have hctl : o ≠ TML_ACT_CTL.off n := fun e => ho (by simp [e])
  have herr : o ≠ TML_ERR.off := fun e => ho (by simp [e])
  exact (Dev.actCheck_reg _ _ _ hctl herr hr).trans (Dev.reg_writeCodes_ne _ _ _ hctl)

theorem actionArm_intime (hval : s.clk.now.toNat + 64 ≤ s.dev.actValue n) : completes (.actionArm n v) s fun t =>
    t.dev.fget (TML_ACT_CTL.ARM n) = 1 ∧ t.dev.actValue n = s.dev.actValue n ∧ devOnly s t ∧
    regsSame s t [TML_ACT_CTL.off n] ∧ memSame s t := by
  have hexec : exec (.actionArm n v) s = .next (s.withDev fun d => d.writeCodes (TML_ACT_CTL.off n) v) := by
    rw [exec_actionArm_value hfree htimed harm hcancel hasap]
    exact congrArg (fun d => Host.Outcome.next { s with dev := d })
      (Dev.actCheck_intime (Nat.le_trans hval (Nat.le_of_eq (Dev.actValue_writeCodes _ _ _ _).symm)))
  exact ⟨_, hexec, (Dev.fget_writeCodes_ARM _ _ _).trans harm, Dev.actValue_writeCodes _ _ _ _, ⟨rfl, rfl⟩,
    fun o ho => Dev.reg_writeCodes_ne _ _ _ (by simpa using ho), Dev.rd8_congr (Dev.writeCodes_mem _ _ _ _)⟩

end

/-! ### Firing -/

theorem Dev.actDue_unarmed {d : Dev} {n : Nat} (now : Nat) (h : d.fget (TML_ACT_CTL.ARM n) = 0) : d.actDue n now = false := by
  simp [Dev.actDue, Dev.bit, h]

/-- An entry armed on its value is due from that value on (R71). -/
theorem Dev.actDue_value {d : Dev} {n : Nat} (now : Nat) (harm : d.fget (TML_ACT_CTL.ARM n) = 1)
    (hasap : d.fget (TML_ACT_CTL.ASAP n) = 0) : d.actDue n now = decide (d.actValue n ≤ now) := by
  simp [Dev.actDue, Dev.bit, harm, hasap]

/-- With no lower entry armed it is the entry's turn as soon as it is due (R74). -/
theorem Dev.actTurn_lowest {d : Dev} {n : Nat} (now : Nat) (h : ∀ k, k < n → d.fget (TML_ACT_CTL.ARM k) = 0) :
    d.actTurn n now = d.actDue n now := by
  have hall : (List.range n).all (fun k => !d.actDue k now) = true := by
    rw [List.all_eq_true]
    intro k hk
    rw [Dev.actDue_unarmed now (h k (List.mem_range.1 hk))]
    rfl
  rw [Dev.actTurn, hall, Bool.and_true]

theorem State.actFire_turn {s : State} {n : Nat} {code : Nat → Bool} (f : State → Nat → State) (hc : s.clk.counting = true)
    (ht : s.dev.actTurn n s.clk.now.toNat = true) (hk : code (s.dev.fget (TML_ACT_CTL.CODE n)) = true) :
    s.actFire n code f = f (s.withDev fun d => d.actLog n s.clk.now.toNat) (s.dev.fget (TML_ACT_CTL.ARG n)) := by
  simp only [State.actFire, hc, ht, hk, Bool.and_self, if_true]

theorem State.actFire_noturn {s : State} {n : Nat} (code : Nat → Bool) (f : State → Nat → State)
    (ht : s.dev.actTurn n s.clk.now.toNat = false) : s.actFire n code f = s := by
  simp [State.actFire, ht]

/-- What every firing leaves in its entry (R72). -/
theorem Dev.actLog_reads (d : Dev) (n : Fin 16) (now : Nat) :
    (d.actLog n now).fget (TML_ACT_CTL.ARM n) = 0 ∧ (d.actLog n now).fget (TML_ACT_CTL.FIRED n) = 1 ∧
    (d.actLog n now).fget (TML_ACT_DONE.DONE n) = now % 2 ^ 32 := by
  have hdone : ¬ inRill (TML_ACT_DONE.off n) := not_inRill_of_lt (show 0x2010c + 0x10 * n.val < 0x40000 by omega)
  have hne := TML_ACT_CTL.off_ne_DONE n
  unfold Dev.actLog
  refine ⟨?_, ?_, ?_⟩
  · rw [Dev.fget_raise _ _ _ (TML_ACT_CTL.off_not_inRill n), Dev.fget_fset_off _ _ _ _ hne,
      Dev.fget_flag_bits _ (TML_ACT_CTL.FIRED n) (TML_ACT_CTL.ARM n) rfl (by simp) (by simp)]
    exact Dev.fget_fset _ (TML_ACT_CTL.ARM n) 0 (by simp)
  · rw [Dev.fget_raise _ _ _ (TML_ACT_CTL.off_not_inRill n), Dev.fget_fset_off _ _ _ _ hne]
    exact Dev.fget_flag_bit _ (TML_ACT_CTL.FIRED n) rfl (by simp)
  · rw [Dev.fget_raise _ _ _ hdone]
    exact Dev.fget_fset _ (TML_ACT_DONE.DONE n) now (by simp)

/-- An entry with a code of no effect, armed on its value: it fires there and not before (R71). -/
theorem actNone_onValue {n : Fin 16} {s : State} (hcount : s.clk.counting = true) (harm : s.dev.fget (TML_ACT_CTL.ARM n) = 1)
    (hasap : s.dev.fget (TML_ACT_CTL.ASAP n) = 0) (hcode : s.dev.fget (TML_ACT_CTL.CODE n) = 0)
    (hlow : ∀ k, k < n.val → s.dev.fget (TML_ACT_CTL.ARM k) = 0) : completes (.actNone n) s fun t =>
      (s.dev.actValue n = s.clk.now.toNat → firedEntry n s t) ∧ (s.clk.now.toNat < s.dev.actValue n → t = s) := by
  have hturn : s.dev.actTurn n s.clk.now.toNat = decide (s.dev.actValue n ≤ s.clk.now.toNat) :=
    (Dev.actTurn_lowest _ hlow).trans (Dev.actDue_value _ harm hasap)
  refine ⟨_, rfl, fun hval => ?_, fun hval => ?_⟩
  · rw [State.actFire_turn _ hcount (hturn.trans (decide_eq_true (Nat.le_of_eq hval))) (by rw [hcode]; rfl)]
    obtain ⟨hARM, hFIRED, hDONE⟩ := s.dev.actLog_reads n s.clk.now.toNat
    exact ⟨hARM, hFIRED, hDONE, rfl⟩
  · exact State.actFire_noturn _ _ (hturn.trans (decide_eq_false (by omega)))

end Sys2Proof.Machine

open Sys2Proof Sys2Proof.Machine Sys2Proof.Safety

/-- Settles O8: an entry armed late is dropped by the judgement of its value; one armed on now + MIN_LEAD passes it; and with no
lower entry armed an entry's turn comes when the count reaches its value. -/
theorem lateActionDropped : Obligations.LateActionDropped := by
  unfold Obligations.LateActionDropped
  exact ⟨fun _ _ _ hfree htimed harm hcancel hasap => actionArm_late hfree htimed harm hcancel hasap,
    fun _ _ _ hfree htimed harm hcancel hasap hval => actionArm_intime hfree htimed harm hcancel hasap (Nat.le_of_eq hval.symm),
    fun _ _ hcount _ harm hasap hcode hlow => actNone_onValue hcount harm hasap hcode hlow⟩
end

section
/-! SUPPORT. TIMEBEAT edges on an aligned device (R48, R79): judging an edge and copying network time leave the count and the bits of
TML_ERR that are not their own. -/
namespace Sys2Proof.Machine

open Sys2Proof.Safety

/-! ### Network time copied at an edge -/

/-- Judging a pulse generator raises PG_LATE alone of the bits of TML_ERR (R83, R84). -/
theorem Dev.fget_pgSchedule_BEAT_ERR (d : Dev) (c : Clock) (n : Nat) :
    (d.pgSchedule c n).fget TML_ERR.BEAT_ERR = d.fget TML_ERR.BEAT_ERR := by
  have hlate : ∀ e : Dev, (e.tmlErr TML_ERR.PG_LATE).fget TML_ERR.BEAT_ERR = e.fget TML_ERR.BEAT_ERR := fun e =>
    e.fget_tmlErr_other (i := 8) (j := 5) (by decide) (by decide)
  have hpg : ∀ (e : Dev) (x : PgSt), (e.setPg n x).fget TML_ERR.BEAT_ERR = e.fget TML_ERR.BEAT_ERR := fun _ _ => rfl
  have hne : TML_ERR.off ≠ NT_PG_CTL.off n := show 0x20018 ≠ 0x2050c + 0x10 * n by omega
  unfold Dev.pgSchedule
  dsimp only
  split
  · split
    · rw [hlate, Dev.fget_fset_off _ _ _ _ hne, hpg]
    · rw [hpg]
  · split
    · rw [hlate, hpg]
    · rw [hpg]

theorem Dev.fget_pgRecheck_BEAT_ERR (d : Dev) (c : Clock) : (d.pgRecheck c).fget TML_ERR.BEAT_ERR = d.fget TML_ERR.BEAT_ERR := by
  unfold Dev.pgRecheck
  generalize List.range 4 = l
  induction l generalizing d with
  | nil => rfl
  | cons n l ih =>
    rw [List.foldl_cons, ih]
    split
    · exact d.fget_pgSchedule_BEAT_ERR c n
    · rfl

/-- A new value of the clock writes TML_STATUS, and its change of state raises an event: no other register changes. -/
theorem State.setClk_reg_ne (s : State) (c : Clock) {o : Nat} (h : o ≠ TML_STATUS.off) (hr : ¬ inRill o) :
    (s.setClk c).dev.reg o = s.dev.reg o := by
  show (if _ then _ else _ : Dev).reg o = _
  split
  · exact Dev.reg_setReg_ne _ _ h
  · exact ((eventsOnly_raise _ _).2 o hr).trans (Dev.reg_setReg_ne _ _ h)

/-- The count, the state of the timeline block, whether the tick runs, and BEAT_ERR: what the work after the judgement of an edge
leaves as it was. -/
def beatSame (s t : State) : Prop :=
  t.clk.now = s.clk.now ∧ t.clk.tstate = s.clk.tstate ∧ t.clk.counting = s.clk.counting ∧
    t.dev.fget TML_ERR.BEAT_ERR = s.dev.fget TML_ERR.BEAT_ERR

theorem beatSame_ntCopyFrom (s : State) (q : Acq) : beatSame s (s.ntCopyFrom q) := by
  refine ⟨rfl, rfl, rfl, (Dev.fget_pgRecheck_BEAT_ERR _ _).trans ?_⟩
  rw [Dev.fget, State.setClk_reg_ne _ _ (by decide) not_inRill_tmlErr, Dev.fget]

/-! ### Edges -/

/-- An edge is noted: it is stamped when TDC_CTL asks for it, and its tick is kept (R48, R388). -/
def State.beatNoted (s : State) (f : Nat) : State :=
  { s with
    clk := { s.clk with lastBeat := some s.dev.tk }
    dev := if s.dev.bit TDC_CTL.TB then s.dev.stampAdd (1024 * s.clk.now.toNat + f) 16 true else s.dev }

/-- An edge off the beat grid of an aligned device raises BEAT_ERR (R48). -/
def State.beatJudged (s : State) : State :=
  if s.clk.aligned && s.clk.now.toNat % 320 != 0 then s.withDev fun d => d.tmlErr TML_ERR.BEAT_ERR else s

/-- A copy of network time that waits for an edge is made in LOCKED, and is dropped otherwise (R79). -/
def State.ntCopyDue (s : State) : State :=
  match s.clk.ntCopy with
  | some q => if s.clk.tstate = .locked then s.ntCopyFrom q else { s with clk := { s.clk with ntCopy := none } }
  | none => s

/-- With no START and no exchange waiting, an edge is noted and judged, and network time copied. -/
theorem State.timebeat_idle {s : State} (f : Nat) (hstart : s.clk.startPend = false) (hacq : s.clk.acq = none) :
    s.timebeat f = ((s.beatNoted f).beatJudged).ntCopyDue := by
  unfold State.timebeat State.beatNoted
  cases s.dev.bit TDC_CTL.TB <;> simp [hstart, hacq, State.beatJudged, State.ntCopyDue, State.withDev] <;> rfl

theorem beatSame_ntCopyDue (s : State) : beatSame s s.ntCopyDue := by
  unfold State.ntCopyDue
  split
  · split
    · exact beatSame_ntCopyFrom s _
    · exact ⟨rfl, rfl, rfl, rfl⟩
  · exact ⟨rfl, rfl, rfl, rfl⟩

theorem State.beatJudged_clk (s : State) : s.beatJudged.clk = s.clk := by
  unfold State.beatJudged
  split <;> rfl

theorem State.beatJudged_offGrid {s : State} (ha : s.clk.aligned = true) (hg : s.clk.now.toNat % 320 ≠ 0) :
    s.beatJudged.dev.fget TML_ERR.BEAT_ERR = 1 := by
  rw [State.beatJudged, if_pos (by simp [ha, hg])]
  exact Dev.fget_tmlErr_same _ 5 (by decide)

theorem timebeatEdge_aligned {f : BitVec 10} {s : State} (hcount : s.clk.counting = true) (halign : s.clk.aligned = true)
    (hstart : s.clk.startPend = false) (hacq : s.clk.acq = none) : completes (.timebeatEdge f) s fun t =>
      t.clk.now = s.clk.now ∧ t.clk.tstate = s.clk.tstate ∧ t.clk.counting = true ∧
      (s.clk.now.toNat % 320 ≠ 0 → t.dev.fget TML_ERR.BEAT_ERR = 1) := by
  have hexec : exec (.timebeatEdge f) s = .next ((s.beatNoted f.toNat).beatJudged).ntCopyDue := by
    rw [exec_timebeatEdge, execTimebeatEdge, if_pos hcount, State.timebeat_idle _ hstart hacq]
  have hclk := (s.beatNoted f.toNat).beatJudged_clk
  obtain ⟨hnow, htst, hcnt, herr⟩ := beatSame_ntCopyDue (s.beatNoted f.toNat).beatJudged
  rw [hclk] at hnow htst hcnt
  exact ⟨_, hexec, hnow, htst, hcnt.trans hcount, fun hgrid => herr.trans (State.beatJudged_offGrid halign hgrid)⟩

theorem timebeatMissing_onGrid {s : State} (hcount : s.clk.counting = true) (halign : s.clk.aligned = true)
    (hgrid : s.clk.now.toNat % 320 = 0) (hlast : s.clk.lastBeat ≠ some s.dev.tk) : completes .timebeatMissing s fun t =>
      t.dev.fget TML_ERR.BEAT_ERR = 1 ∧ devOnly s t ∧ regsSameEv s t [TML_ERR.off] ∧ memSame s t := by
  have hexec : exec .timebeatMissing s = .next (s.withDev fun d => d.tmlErr TML_ERR.BEAT_ERR) := by
    rw [exec_timebeatMissing, execTimebeatMissing, State.beatMissing, if_pos (by simp [hcount, halign, hgrid, hlast])]
  exact ⟨_, hexec, Dev.fget_tmlErr_same _ 5 (by decide), ⟨rfl, rfl⟩,
    fun o ho hr => Dev.reg_tmlErr_ne _ 5 (by simpa using ho) hr, Dev.rd8_congr (Dev.tmlErr_mem _ _)⟩

end Sys2Proof.Machine

open Sys2Proof Sys2Proof.Machine Sys2Proof.Safety

/-- Settles O11: an edge that no START and no exchange waits for is noted and judged, and the copy of network time after it moves
neither the count nor BEAT_ERR. -/
theorem timebeatMovesNothing : Obligations.TimebeatMovesNothing := by
  unfold Obligations.TimebeatMovesNothing
  exact ⟨fun _ _ hcount halign hstart hacq => timebeatEdge_aligned hcount halign hstart hacq,
    fun _ hcount halign hgrid hlast => timebeatMissing_onGrid hcount halign hgrid hlast⟩
end

section
/-! SUPPORT. The mean path delay (R60): a DRESP that answers this port's DREQ. -/
namespace Sys2Proof.Machine

open Sys2Proof.Safety

theorem Clock.port_setPort_same (c : Clock) (p : Nat) (x : PortSync) : (c.setPort p x).port p = x := tget_tset_same _ _ _ _

/-- What DRESP_RECEIVE keeps of a delay: it is cut to 0 to 2²² − 1 (R60). -/
def cutDelay (m : Int) : Nat := if m < 0 then 0 else min (2 ^ 22 - 1) m.toNat

theorem cutDelay_eq (m : Int) : (cutDelay m : Int) = max 0 (min (2 ^ 22 - 1) m) := by
  unfold cutDelay
  split <;> omega

theorem cutDelay_lt (m : Int) : cutDelay m < 2 ^ 22 := by
  unfold cutDelay
  split <;> omega

/-- TML_MEANp takes a delay and is valid. -/
def Dev.setMean (d : Dev) (p m : Nat) : Dev := (d.fset (TML_MEAN.MEAN p) m).fset (TML_MEAN.VALID p) 1

theorem Dev.fget_setMean_VALID (d : Dev) (p m : Nat) : (d.setMean p m).fget (TML_MEAN.VALID p) = 1 :=
  Dev.fget_fset _ (TML_MEAN.VALID p) 1 (by simp)

theorem Dev.fget_setMean_MEAN (d : Dev) (p m : Nat) (h : m < 2 ^ 22) : (d.setMean p m).fget (TML_MEAN.MEAN p) = m :=
  calc (d.setMean p m).fget (TML_MEAN.MEAN p)
    _ = (d.fset (TML_MEAN.MEAN p) m).fget (TML_MEAN.MEAN p) :=
        Dev.fget_fset_bits _ (TML_MEAN.VALID p) (TML_MEAN.MEAN p) 1 rfl (by simp) (by simp)
    _ = m % 2 ^ 22 := d.fget_fset (TML_MEAN.MEAN p) m (by simp)
    _ = m := Nat.mod_eq_of_lt h

theorem Dev.reg_setMean_ne (d : Dev) (p m : Nat) {o : Nat} (h : o ≠ TML_MEAN.off p) : (d.setMean p m).reg o = d.reg o :=
  (Dev.reg_fset_ne _ _ _ h).trans (Dev.reg_fset_ne _ _ _ h)

/-- A DRESP with the identifier of the port's DREQ ends the exchange. -/
theorem exec_drespReceive_answered {p : PortId} {xid : BitVec 8} (t4 : BitVec 74) {s : State} (hup : s.dev.portUp p = true)
    (hx : (s.clk.port p).dreqXid = some xid) :
    let x := s.clk.port p
    exec (.drespReceive p xid t4) s = .next { s with
      clk := s.clk.setPort p { x with dreqXid := none }
      dev := s.dev.setMean p (cutDelay ((stampDiff t4.toNat x.t1 - ((x.t3 : Int) - (x.t2 : Int)) + 1) / 2)) } := by
  rw [exec_drespReceive, execDrespReceive, if_pos hup, State.drespReceive, if_pos hx]
  rfl

end Sys2Proof.Machine

open Sys2Proof Sys2Proof.Machine Sys2Proof.Safety

/-- Settles O13: the mean register takes the half of the difference of the differences, cut to its field. -/
theorem meanPathDelay : Obligations.MeanPathDelay := by
  unfold Obligations.MeanPathDelay
  intro p xid t4 s hup hx
  refine ⟨_, exec_drespReceive_answered t4 hup hx, Dev.fget_setMean_VALID _ _ _, ?_, ?_, rfl, rfl,
    fun o ho => Dev.reg_setMean_ne _ _ _ (by simpa using ho), fun _ => rfl⟩
  · rw [Dev.fget_setMean_MEAN _ _ _ (cutDelay_lt _), cutDelay_eq]
  · rw [Clock.port_setPort_same]
end

section
/-! SUPPORT. The decision of a BRANCH (R112, R113, R116, R118): what it does to the condition input it reads, and which segment it
selects. -/
namespace Sys2Proof.Machine

open Sys2Proof.Safety

/-! ### Engines and counters -/

theorem Dev.eng_setEng_same (d : Dev) (n : Nat) (e : Engine) : (d.setEng n e).eng n = e := congrArg OcSt.eng (tget_tset_same _ _ _ _)

theorem Dev.oc_setEng_ne (d : Dev) {n m : Nat} (e : Engine) (h : m ≠ n) : (d.setEng n e).oc m = d.oc m := tget_tset_ne _ _ _ _ h

/-- A saturating counter stops at the largest value of its field (R13). -/
theorem Dev.fget_satAdd (d : Dev) (f : Fld) (k : Nat) (h : f.hi < 32) : (d.satAdd f k).fget f = min f.max (d.fget f + k) := by
  have hpos : 0 < 2 ^ (f.hi + 1 - f.lo) := Nat.pow_pos (by decide)
  refine (d.fget_fset f _ h).trans (Nat.mod_eq_of_lt ?_)
  rw [Fld.max]
  omega

/-- A decision leaves its condition input not fresh (R116). -/
theorem Engine.consume_fresh (e : Engine) (k : Nat) : (tget {} (e.consume k).ci k).fresh = false :=
  congrArg CiSt.fresh (tget_tset_same _ _ _ _)

/-! ### The condition input of a decision -/

/-- What a decision does to its condition input: a fresh one is consumed, one that is not counts in NO_COND (R116, R118). -/
def Dev.condRead (d : Dev) (n k : Nat) (fresh : Bool) : Dev :=
  if fresh then d.setEng n ((d.eng n).consume k) else d.satAdd (SE_CNT0.NO_COND n) 1

theorem Dev.condRead_plans (d : Dev) (n k : Nat) (fresh : Bool) : ((d.condRead n k fresh).eng n).plans = (d.eng n).plans := by
  cases fresh with
  | true => rw [Dev.condRead, if_pos rfl, Dev.eng_setEng_same, Engine.consume]
  | false => rfl

theorem Dev.condRead_fresh (d : Dev) (n k : Nat) : (tget {} ((d.condRead n k true).eng n).ci k).fresh = false := by
  rw [Dev.condRead, if_pos rfl, Dev.eng_setEng_same]
  exact Engine.consume_fresh _ k

theorem Dev.condRead_stale (d : Dev) (n k : Nat) :
    (d.condRead n k false).fget (SE_CNT0.NO_COND n) = min 65535 (d.fget (SE_CNT0.NO_COND n) + 1) :=
  d.fget_satAdd (SE_CNT0.NO_COND n) 1 (by simp)

theorem Dev.condRead_reg (d : Dev) (n k : Nat) (fresh : Bool) {o : Nat} (h : o ≠ SE_CNT0.off n) :
    (d.condRead n k fresh).reg o = d.reg o := by
  cases fresh with
  | true => rfl
  | false => exact d.reg_fset_ne _ _ h

theorem Dev.condRead_mem (d : Dev) (n k : Nat) (fresh : Bool) : (d.condRead n k fresh).mem = d.mem := by
  cases fresh <;> rfl

theorem Dev.condRead_oc_ne (d : Dev) {n m : Nat} (k : Nat) (fresh : Bool) (h : m ≠ n) : (d.condRead n k fresh).oc m = d.oc m := by
  cases fresh with
  | true => exact d.oc_setEng_ne _ h
  | false => rfl

theorem SE_SEG_HI.off_ne_SE_CNT0 (n g : Nat) : SE_SEG_HI.off n g ≠ SE_CNT0.off n :=
  show 0x101004 + 0x10000 * n + 0x8 * g ≠ 0x100810 + 0x10000 * n by omega

theorem Dev.condRead_segDur (d : Dev) (n k g : Nat) (fresh : Bool) : (d.condRead n k fresh).segDur n g = d.segDur n g := by
  simp only [Dev.segDur, Dev.fget, d.condRead_reg n k fresh (SE_SEG_HI.off_ne_SE_CNT0 n g)]

theorem Dev.condRead_segNext (d : Dev) (n k g : Nat) (fresh : Bool) : (d.condRead n k fresh).segNext n g = d.segNext n g := by
  simp only [Dev.segNext, Dev.fget, d.condRead_reg n k fresh (SE_SEG_HI.off_ne_SE_CNT0 n g)]

/-- BRANCH_LEAD in force is a matter of the mode and of SE_CTRL alone. -/
theorem Dev.condRead_lead (d : Dev) (n k : Nat) (fresh : Bool) : (d.condRead n k fresh).lead n = d.lead n := by
  have hreg : ∀ f : Fld, f.off < 0x100810 + 0x10000 * n → (d.condRead n k fresh).fget f = d.fget f := fun f hf => by
    rw [Dev.fget, d.condRead_reg n k fresh (Nat.ne_of_lt hf), Dev.fget]
  have hctl : SE_CTRL.off n < 0x100810 + 0x10000 * n := by
    simp only [SE_CTRL.off]
    omega
  have hglb : ∀ o, o < 0x100810 → o < 0x100810 + 0x10000 * n := fun _ h => Nat.lt_add_right _ h
  simp only [Dev.lead, Dev.ocMode, Dev.quarterMode, Dev.mode, hreg (SE_CTRL.BRANCH_LEAD n) hctl, hreg GLB_MODE.CUR (hglb _ (by decide)),
    hreg GLB_QMODE.Q0 (hglb _ (by decide)), hreg GLB_QMODE.Q1 (hglb _ (by decide)), hreg GLB_QMODE.Q2 (hglb _ (by decide)),
    hreg GLB_QMODE.Q3 (hglb _ (by decide))]

/-! ### The decision -/

/-- Whether a decision finds its condition input fresh: an event in time, not consumed before (R113, R116). -/
def Dev.condFresh (d : Dev) (n : Nat) (p : Plan) (b : BranchSt) : Bool :=
  let c := tget {} (d.eng n).ci (b.cond % 16)
  c.fresh && decide (c.at_ + d.lead n ≤ p.stop)

/-- The segment a decision selects: TARGET when the condition, false unless fresh and then inverted by COND[4], holds (R112, R118). -/
def Dev.branchSelect (d : Dev) (n : Nat) (p : Plan) (b : BranchSt) : Nat :=
  if (d.condFresh n p b && (tget {} (d.eng n).ci (b.cond % 16)).value) != bitAt b.cond 4 then b.target else d.segNext n p.seg

/-- A branch that is due, in a segment longer than BRANCH_LEAD and with a COND below 32: its input is read and its plan takes the
segment selected. -/
theorem Dev.branchDecide_due {d : Dev} {n now : Nat} {p : Plan} {b : BranchSt} (hplans : (d.eng n).plans = [p])
    (hbranch : p.branch = some b) (hopen : b.chosen = none) (hdue : p.stop ≤ now + d.lead n) (hcond : b.cond < 32)
    (hdur : d.lead n < d.segDur n p.seg) :
    let e := d.condRead n (b.cond % 16) (d.condFresh n p b)
    d.branchDecide n now =
      e.setEng n { e.eng n with plans := [{ p with branch := some { b with chosen := some (d.branchSelect n p b) } }] } := by
  have hfind : (d.eng n).plans.find? (fun q => (d.branchDue n now q).isSome) = some p := by
    simp [hplans, Dev.branchDue, hbranch, hopen, hdue]
  have hlong : ¬ (d.condRead n (b.cond % 16) (d.condFresh n p b)).segDur n p.seg ≤
      (d.condRead n (b.cond % 16) (d.condFresh n p b)).lead n := by
    rw [Dev.condRead_segDur, Dev.condRead_lead]
    omega
  simp only [Dev.branchDecide, hfind, hbranch]
  rw [← Dev.condFresh, ← Dev.condRead]
  rw [if_neg hlong, Dev.condTrue, if_neg (by omega), Dev.condRead_segNext, Dev.condRead_plans, hplans]
  simp only [List.map_singleton, if_true, Dev.branchSelect]

theorem exec_branchDecision_due {oc : OcId} {s : State} {p : Plan} {b : BranchSt} (hplans : (s.dev.eng oc).plans = [p])
    (hbranch : p.branch = some b) (hopen : b.chosen = none) (hdue : p.stop ≤ s.clk.now.toNat + s.dev.lead oc) (hcond : b.cond < 32)
    (hdur : s.dev.lead oc < s.dev.segDur oc p.seg) :
    let e := s.dev.condRead oc (b.cond % 16) (s.dev.condFresh oc p b)
    exec (.branchDecision oc) s = .next (s.withDev fun _ =>
      e.setEng oc { e.eng oc with plans := [{ p with branch := some { b with chosen := some (s.dev.branchSelect oc p b) } }] }) := by
  rw [exec_branchDecision, execBranchDecision]
  exact congrArg (fun d => Host.Outcome.next { s with dev := d }) (Dev.branchDecide_due hplans hbranch hopen hdue hcond hdur)

end Sys2Proof.Machine

open Sys2Proof Sys2Proof.Machine Sys2Proof.Safety

/-- Settles O19: the decision reads its condition input, which is consumed when fresh and counted when not, and its plan alone takes
the segment selected. -/
theorem branchDecided : Obligations.BranchDecided := by
  unfold Obligations.BranchDecided
  rintro oc s p b _ hplans hbranch hopen hdue hcond hdur rfl
  refine ⟨_, exec_branchDecision_due hplans hbranch hopen hdue hcond hdur, congrArg Engine.plans (Dev.eng_setEng_same _ _ _),
    fun hfresh => ⟨?_, fun o _ => ?_⟩, fun hstale => ?_, ⟨rfl, rfl⟩, Dev.rd8_congr (s.dev.condRead_mem _ _ _),
    fun m hm => (Dev.oc_setEng_ne _ _ hm).trans (s.dev.condRead_oc_ne _ _ hm),
    fun o ho => s.dev.condRead_reg _ _ _ (by simpa using ho)⟩
  · have hread : s.dev.condFresh oc p b = true := hfresh
    rw [State.withDev_dev, hread, Dev.eng_setEng_same]
    exact Dev.condRead_fresh _ _ _
  · have hread : s.dev.condFresh oc p b = true := hfresh
    rw [State.withDev_dev, hread]
    rfl
  · have hread : s.dev.condFresh oc p b = false := hstale
    rw [State.withDev_dev, hread]
    exact s.dev.condRead_stale oc (b.cond % 16)
end

section
/-! SUPPORT. A rotation of the sieve's tiles held for a graph that does not exist, and a start on a segment with SHOTB: the shot boundary
of the start writes the tile of that graph's SV_Gg_CTL (R273), whose place in BAR0 is the segment's entry. -/
namespace Sys2Proof.Machine

open Sys2Proof.Safety

/-- The graph whose SV_Gg_CTL would stand where the entry of segment 0 of channel 0 stands; the device has graphs 0 to 15 (R244). -/
def strayGraph : Nat := (SE_SEG_LO.off 0 0 - SV_G_CTL.off 0) / 8

/-- Engine 0 PRIMED and about to start on its segment 0, ARMED with SHOTB, while a finished rotation of the stray graph waits for a shot
boundary. -/
def strayRotation : State where
  dev := {
    regs := [(SE_SEG_LO.off 0 0, (SE_SEG_LO.SHOTB 0 0).put ((SE_SEG_LO.STATE 0 0).put 0 segArmed) 1)]
    ocs := [(0, { eng := { mode := .primed, plans := [{ seg := 0, start := 0, stop := 1 }] } })]
    sieve := { rot := some (strayGraph, true) } }

/-- Engine 0 alone has a plan. -/
theorem strayRotation_plans {m : Nat} {q : Plan} {l : List Plan} (h : (strayRotation.dev.eng m).plans = q :: l) : q.seg < 256 := by
  have heng : strayRotation.dev.eng m = (if 0 = m then _ else ({} : OcSt)).eng := rfl
  rw [heng] at h
  split at h
  · obtain ⟨rfl, -⟩ := List.cons.inj h
    decide
  · cases h

/-- The start leaves the segment EMPTY: TILE takes the spare tile's number 16, and its low bits are those of STATE. -/
theorem strayRotation_start : (strayRotation.dev.engineStart 0 0).segState 0 0 = segEmpty := by decide +kernel

end Sys2Proof.Machine

open Sys2Proof Sys2Proof.Machine Sys2Proof.Safety

/-- Refutes O23: its clause on ENGINE_START allows any state of the sieve. A rotation held for a graph above 15, which no command
brings about, writes its tile into the entry of the segment that starts, so that the segment is not ACTIVE. -/
theorem not_enginesAndSegments : ¬ Obligations.EnginesAndSegments := by
  unfold Obligations.EnginesAndSegments
  rintro ⟨-, -, hstart, -⟩
  obtain ⟨t, hexec, -, -, hactive, -⟩ :=
    hstart 0 0 { seg := 0, start := 0, stop := 1 } [] strayRotation rfl rfl (by decide) rfl fun _ _ _ => strayRotation_plans
  rw [← Host.Outcome.next.inj hexec] at hactive
  exact absurd (strayRotation_start.symm.trans hactive) (by decide)
end

section
/-! SUPPORT. Staged channel values (R158, R159, R197): what the staging of a value and its move into force change, and what they leave
alone. OCs and ICs differ in their unit number and in where PENDING stands. -/
namespace Sys2Proof.Machine

open Sys2Proof.Safety

/-! ### Writes that reach their channel -/

theorem Dev.domWrite_open {d : Dev} {n : Nat} (hon : d.domOn n = true) (hre : d.rehydrating n = false) (bar off : Nat)
    (f : Dev → Dev) : d.domWrite n bar off f = f d := by
  simp [Dev.domWrite, hon, hre]

theorem Dev.ocWrite_open {s : State} {n : Nat} (h : ocOpen n s) (off : Nat) (f : Dev → Dev) : s.dev.ocWrite n off f = f s.dev :=
  Dev.domWrite_open h.1 h.2 2 off f

theorem Dev.icWrite_open {s : State} {i : Nat} (h : icOpen i s) (off : Nat) (f : Dev → Dev) : s.dev.icWrite i off f = f s.dev :=
  Dev.domWrite_open h.1 h.2 2 off f

theorem exec_tsStagedWrite_open {oc : OcId} {s : State} (h : ocOpen oc s) (r : TsReg) (v : W32) :
    exec (.tsStagedWrite oc r v) s = .next (s.withDev fun d => d.wrTs oc r v) := by
  rw [exec_tsStagedWrite, execTsStagedWrite, State.withDev, Dev.ocWrite_open h]
  rfl

theorem exec_carrierLoWrite_open {oc : OcId} {s : State} (h : ocOpen oc s) (v : W32) :
    exec (.carrierLoWrite oc v) s = .next (s.withDev fun d => d.stageLo (TS_CARRIER_LO.off oc) v) := by
  rw [exec_carrierLoWrite, execCarrierLoWrite, State.withDev, Dev.ocWrite_open h]
  rfl

theorem exec_carrierHiWrite_open {oc : OcId} {s : State} (h : ocOpen oc s) (v : W32) :
    exec (.carrierHiWrite oc v) s =
      .next (s.withDev fun d => d.stageHi oc (TS_CARRIER_LO.off oc) (TS_CARRIER_HI.off oc) (v &&& 0xFFFF#32)) := by
  rw [exec_carrierHiWrite, execCarrierHiWrite, State.withDev, Dev.ocWrite_open h]
  rfl

theorem exec_dtStagedWrite_open {ic : IcId} {s : State} (h : icOpen ic s) (r : DtReg) (v : W32) :
    exec (.dtStagedWrite ic r v) s = .next (s.withDev fun d => d.wrDt ic r v) := by
  rw [exec_dtStagedWrite, execDtStagedWrite, State.withDev, Dev.icWrite_open h]
  rfl

/-- A field is untouched by a mask that holds all its bits. -/
theorem Fld.of_and (f : Fld) (w : W32) {m : W32} (hf : f.hi < 32) (h : m &&& f.mask = f.mask) : f.of (w &&& m) = f.of w :=
  f.of_congr hf (by rw [BitVec.and_assoc, h])

/-! ### PENDING -/

/-- The PENDING field that shows whether a unit has staged values (R158, R197). -/
def pendFld (u : Nat) : Fld := if u < 192 then TS_STAT.PENDING u else IC_STATUS.PENDING (u - 192)

theorem pendFld_oc (oc : OcId) : pendFld oc = TS_STAT.PENDING oc := if_pos oc.isLt

theorem pendFld_ic (ic : IcId) : pendFld (icUnit ic) = IC_STATUS.PENDING ic := by
  rw [pendFld, icUnit, if_neg (by omega), Nat.add_sub_cancel_left]

theorem pendFld_bit (u : Nat) : (pendFld u).hi = (pendFld u).lo ∧ (pendFld u).hi < 32 := by
  unfold pendFld
  split <;> exact ⟨rfl, by simp⟩

theorem ocUnit_lt (oc : OcId) : oc.val < 224 := by omega

theorem icUnit_lt (ic : IcId) : icUnit ic < 224 := by
  rw [icUnit]
  omega

theorem Dev.pendUpdate_unit (d : Dev) {u : Nat} (hu : u < 224) :
    d.pendUpdate u = d.fsetB (pendFld u) (d.staged.any fun x => x.unit == u) := by
  by_cases h : u < 192 <;> simp [Dev.pendUpdate, pendFld, h, hu]

/-- PENDING follows in a register; nothing else changes. -/
theorem Dev.pendUpdate_part {β : Type} (g : Dev → β) (hg : ∀ (d : Dev) off v, g (d.setReg off v) = g d) (d : Dev) (u : Nat) :
    g (d.pendUpdate u) = g d := by
  unfold Dev.pendUpdate
  split
  · exact hg _ _ _
  · split
    · exact hg _ _ _
    · rfl

theorem Dev.reg_pendUpdate_ne (d : Dev) {u o : Nat} (hu : u < 224) (h : o ≠ (pendFld u).off) : (d.pendUpdate u).reg o = d.reg o := by
  rw [Dev.pendUpdate_unit d hu]
  exact d.reg_fset_ne _ _ h

theorem Dev.fget_pendUpdate_staged {d : Dev} {x : Staged} (hx : x ∈ d.staged) (hu : x.unit < 224) :
    (d.pendUpdate x.unit).fget (pendFld x.unit) = 1 := by
  obtain ⟨hbit, hlt⟩ := pendFld_bit x.unit
  have hany : (d.staged.any fun y => y.unit == x.unit) = true := List.any_eq_true.2 ⟨x, hx, beq_self_eq_true _⟩
  rw [Dev.pendUpdate_unit d hu, hany]
  refine (d.fget_fset _ _ hlt).trans ?_
  rw [hbit, Nat.add_sub_cancel_left]
  rfl

/-! ### Staging a value -/

theorem Dev.stage_part {β : Type} (g : Dev → β) (hreg : ∀ (d : Dev) off v, g (d.setReg off v) = g d)
    (hst : ∀ (d : Dev) l, g { d with staged := l } = g d) (d : Dev) (u off : Nat) (v : W32) : g (d.stage u off v) = g d :=
  (Dev.pendUpdate_part g hreg _ u).trans ((hst _ _).trans (hreg d off v))

theorem Dev.stage_staged (d : Dev) (u off : Nat) (v : W32) :
    (d.stage u off v).staged = d.staged.filter (fun x => x.off != off) ++ [⟨u, off, v, d.tk, none⟩] :=
  Dev.pendUpdate_part Dev.staged (fun _ _ _ => rfl) _ u

/-- The value staged is the only one of its register. -/
theorem Dev.mem_stage_same (d : Dev) (u off : Nat) (v : W32) (x : Staged) :
    x ∈ (d.stage u off v).staged ∧ x.off = off ↔ x = ⟨u, off, v, d.tk, none⟩ := by
  rw [Dev.stage_staged, List.mem_append, List.mem_filter, List.mem_singleton, bne_iff_ne]
  constructor
  · rintro ⟨⟨-, hne⟩ | hx, hoff⟩
    · exact absurd hoff hne
    · exact hx
  · rintro rfl
    exact ⟨.inr rfl, rfl⟩

/-- The values staged for other registers wait on. -/
theorem Dev.mem_stage_ne (d : Dev) (u : Nat) {off : Nat} (v : W32) {x : Staged} (h : x.off ≠ off) :
    x ∈ (d.stage u off v).staged ↔ x ∈ d.staged := by
  rw [Dev.stage_staged, List.mem_append, List.mem_filter, List.mem_singleton, bne_iff_ne]
  constructor
  · rintro (⟨hx, -⟩ | rfl)
    · exact hx
    · exact absurd rfl h
  · exact fun hx => .inl ⟨hx, h⟩

theorem Dev.reg_stage_same (d : Dev) {u off : Nat} (v : W32) (hu : u < 224) (h : off ≠ (pendFld u).off) :
    (d.stage u off v).reg off = v :=
  (Dev.reg_pendUpdate_ne _ hu h).trans (d.reg_setReg_same off v)

theorem Dev.reg_stage_ne (d : Dev) {u off o : Nat} (v : W32) (hu : u < 224) (hp : o ≠ (pendFld u).off) (h : o ≠ off) :
    (d.stage u off v).reg o = d.reg o :=
  (Dev.reg_pendUpdate_ne _ hu hp).trans (d.reg_setReg_ne v h)

theorem Dev.fget_stage_pending (d : Dev) {u : Nat} (off : Nat) (v : W32) (hu : u < 224) :
    (d.stage u off v).fget (pendFld u) = 1 :=
  Dev.fget_pendUpdate_staged (x := ⟨u, off, v, d.tk, none⟩) (List.mem_append_right _ (List.mem_singleton_self _)) hu

/-! ### The frame of staging -/

theorem stageFrame_trans {s t u : State} {as bs cs : List Nat} (h : stageFrame s t as) (k : stageFrame t u bs) (ha : as ⊆ cs)
    (hb : bs ⊆ cs) : stageFrame s u cs := by
  obtain ⟨⟨hclk, hpend⟩, hmem, hforce, hocs, hics, hregs, hstaged⟩ := h
  obtain ⟨⟨kclk, kpend⟩, kmem, kforce, kocs, kics, kregs, kstaged⟩ := k
  exact ⟨⟨kclk.trans hclk, kpend.trans hpend⟩, fun a => (kmem a).trans (hmem a), kforce.trans hforce, kocs.trans hocs,
    kics.trans hics, fun o ho => (kregs o fun hm => ho (hb hm)).trans (hregs o fun hm => ho (ha hm)),
    fun x hx => (kstaged x fun hm => hx (hb hm)).trans (hstaged x fun hm => hx (ha hm))⟩

theorem stageFrame_stage (s : State) {u : Nat} (off : Nat) (v : W32) (hu : u < 224) :
    stageFrame s (s.withDev fun d => d.stage u off v) [off, (pendFld u).off] := by
  refine ⟨⟨rfl, rfl⟩, Dev.rd8_congr (Dev.stage_part Dev.mem (fun _ _ _ => rfl) (fun _ _ => rfl) _ _ _ _),
    Dev.stage_part Dev.force (fun _ _ _ => rfl) (fun _ _ => rfl) _ _ _ _,
    Dev.stage_part Dev.ocs (fun _ _ _ => rfl) (fun _ _ => rfl) _ _ _ _,
    Dev.stage_part Dev.ics (fun _ _ _ => rfl) (fun _ _ => rfl) _ _ _ _, fun o ho => ?_, fun x hx => ?_⟩
  · rw [List.mem_cons, List.mem_singleton, not_or] at ho
    exact s.dev.reg_stage_ne v hu ho.2 ho.1
  · rw [List.mem_cons, List.mem_singleton, not_or] at hx
    exact s.dev.mem_stage_ne u v hx.1

theorem stageFrame_stageLo (s : State) (lo : Nat) (v : W32) : stageFrame s (s.withDev fun d => d.stageLo lo v) [lo] :=
  ⟨⟨rfl, rfl⟩, fun _ => rfl, rfl, rfl, rfl, fun _ ho => s.dev.reg_setReg_ne v (fun h => ho (List.mem_singleton.2 h)),
    fun _ _ => Iff.rfl⟩

theorem stageFrame_lateReg (s : State) (f : Fld) (v : Nat) : stageFrame s (s.withDev fun d => d.lateReg f v) [] :=
  ⟨⟨rfl, rfl⟩, fun _ => rfl, rfl, rfl, rfl, fun _ _ => rfl, fun _ _ => Iff.rfl⟩

/-! ### Two-register values -/

theorem mem_insNat (k : Nat) (l : List Nat) : k ∈ insNat k l := by
  induction l with
  | nil => exact List.mem_singleton_self k
  | cons a l ih =>
    rw [insNat]
    split
    · exact List.mem_cons_self
    · split
      · next h => exact h ▸ List.mem_cons_self
      · exact List.mem_cons_of_mem _ ih

/-- The low half that a write of the high half commits (R159, R197). -/
def Dev.lowHalf (d : Dev) (lo : Nat) : W32 := if lo ∈ d.loWrites then d.reg lo else d.inForce lo

theorem Dev.stageHi_lowHalf (d : Dev) (u lo hi : Nat) (v : W32) :
    d.stageHi u lo hi v = (({ d with loWrites := d.loWrites.filter (· != lo) } : Dev).stage u lo (d.lowHalf lo)).stage u hi v := by
  simp only [Dev.stageHi, Dev.lowHalf, List.contains_iff_mem]

theorem Dev.reg_stageHi_lo (d : Dev) {u lo hi : Nat} (v : W32) (hu : u < 224) (hlo : lo ≠ (pendFld u).off) (hne : lo ≠ hi) :
    (d.stageHi u lo hi v).reg lo = d.lowHalf lo := by
  rw [Dev.stageHi_lowHalf, Dev.reg_stage_ne _ v hu hlo hne, Dev.reg_stage_same _ _ hu hlo]

theorem Dev.mem_stageHi_lo (d : Dev) (u : Nat) {lo hi : Nat} (v : W32) (hne : lo ≠ hi) (x : Staged) :
    x ∈ (d.stageHi u lo hi v).staged ∧ x.off = lo ↔ x = ⟨u, lo, d.lowHalf lo, d.tk, none⟩ := by
  rw [Dev.stageHi_lowHalf]
  refine Iff.trans (and_congr_left fun hx => ?_) (Dev.mem_stage_same { d with loWrites := d.loWrites.filter (· != lo) } u lo _ x)
  exact Dev.mem_stage_ne _ u v (fun hhi => hne (hx.symm.trans hhi))

theorem stageFrame_stageHi (s : State) {u : Nat} (lo hi : Nat) (v : W32) (hu : u < 224) :
    stageFrame s (s.withDev fun d => d.stageHi u lo hi v) [lo, hi, (pendFld u).off] := by
  rw [State.withDev, Dev.stageHi_lowHalf]
  exact stageFrame_trans (stageFrame_stage (s.withDev fun d => { d with loWrites := d.loWrites.filter (· != lo) }) lo _ hu)
    (stageFrame_stage _ hi v hu) (by simp) (by simp)

/-! ### Values that move into force -/

/-- The table in force once the values of a list have moved into it, in their order. -/
def intoForce (f : Tbl W32) (l : List Staged) : Tbl W32 := l.foldl (fun f x => tset (regReset x.off) f x.off x.val) f

/-- A register has the value in force that every value moved in for it has, if there is one, and else keeps its own. -/
theorem forceVal_intoForce {f : Tbl W32} {l : List Staged} {off : Nat} {v : W32} (hall : ∀ y ∈ l, y.off = off → y.val = v)
    (h : forceVal f off = v ∨ ∃ y ∈ l, y.off = off) : forceVal (intoForce f l) off = v := by
  induction l generalizing f with
  | nil => exact h.resolve_right (by simp)
  | cons y l ih =>
    refine ih (fun z hz => hall z (List.mem_cons_of_mem _ hz)) ?_
    by_cases hy : y.off = off
    · subst hy
      exact .inl ((tget_tset_same _ _ _ _).trans (hall y List.mem_cons_self rfl))
    · refine h.imp (fun hf => (tget_tset_ne _ _ _ _ (Ne.symm hy)).trans hf) ?_
      rintro ⟨z, hz, hoff⟩
      exact ⟨z, (List.mem_cons.1 hz).resolve_left (fun e => hy (e ▸ hoff)), hoff⟩

/-- The staged values that a commit moves into force: those chosen, staged on the tick before this one or earlier (R158). -/
def Dev.moving (d : Dev) (who : Staged → Bool) : List Staged := d.staged.filter fun x => who x && decide (x.at_ < d.tk)

theorem Dev.mem_moving_goes (d : Dev) (u : Nat) (y : Staged) :
    y ∈ d.moving (Staged.goes u) ↔ y ∈ d.staged ∧ y.unit = u ∧ y.go = some true ∧ y.at_ < d.tk := by
  simp only [Dev.moving, Staged.goes, List.mem_filter, Bool.and_eq_true, beq_iff_eq, decide_eq_true_eq, and_assoc]

theorem Dev.foldl_pendUpdate_part {β : Type} (g : Dev → β) (hg : ∀ (d : Dev) off v, g (d.setReg off v) = g d) (l : List Staged)
    (d : Dev) : g (l.foldl (fun d x => d.pendUpdate x.unit) d) = g d := by
  induction l generalizing d with
  | nil => rfl
  | cons x l ih => exact (ih _).trans (Dev.pendUpdate_part g hg d x.unit)

theorem Dev.reg_foldl_pendUpdate_ne {l : List Staged} {u o : Nat} (hu : u < 224) (hl : ∀ x ∈ l, x.unit = u)
    (h : o ≠ (pendFld u).off) (d : Dev) : (l.foldl (fun d x => d.pendUpdate x.unit) d).reg o = d.reg o := by
  induction l generalizing d with
  | nil => rfl
  | cons x l ih =>
    refine (ih (fun y hy => hl y (List.mem_cons_of_mem _ hy)) _).trans ?_
    have hx := hl x List.mem_cons_self
    exact d.reg_pendUpdate_ne (hx ▸ hu) (hx ▸ h)

/-- With no value to move nothing happens. -/
theorem Dev.commitStaged_none {d : Dev} {who : Staged → Bool} (h : d.moving who = []) : d.commitStaged who = d := by
  rw [Dev.commitStaged, ← Dev.moving, h, List.isEmpty_nil]
  exact if_pos rfl

/-- The values that move leave the list and enter the table in force together; PENDING of their units follows. -/
theorem Dev.commitStaged_some {d : Dev} {who : Staged → Bool} (h : d.moving who ≠ []) :
    d.commitStaged who = (d.moving who).foldl (fun d x => d.pendUpdate x.unit)
      (({ d with staged := d.staged.filter fun x => !(who x && decide (x.at_ < d.tk)) } : Dev).pushEra
        (intoForce d.force (d.moving who))) := by
  rw [Dev.commitStaged, ← Dev.moving, if_neg (by simpa using h)]
  rfl

theorem Dev.commitStaged_part {β : Type} (g : Dev → β) (hreg : ∀ (d : Dev) off v, g (d.setReg off v) = g d)
    (hst : ∀ (d : Dev) l f e, g { d with staged := l, force := f, eras := e } = g d) (d : Dev) (who : Staged → Bool) :
    g (d.commitStaged who) = g d := by
  by_cases h : d.moving who = []
  · rw [Dev.commitStaged_none h]
  · rw [Dev.commitStaged_some h, Dev.foldl_pendUpdate_part g hreg]
    exact hst d _ _ _

theorem Dev.commitStaged_force (d : Dev) (who : Staged → Bool) : (d.commitStaged who).force = intoForce d.force (d.moving who) := by
  by_cases h : d.moving who = []
  · rw [Dev.commitStaged_none h, h]
    rfl
  · rw [Dev.commitStaged_some h]
    exact Dev.foldl_pendUpdate_part Dev.force (fun _ _ _ => rfl) _ _

theorem Dev.mem_commitStaged (d : Dev) (who : Staged → Bool) (y : Staged) :
    y ∈ (d.commitStaged who).staged ↔ y ∈ d.staged ∧ y ∉ d.moving who := by
  by_cases h : d.moving who = []
  · simp [Dev.commitStaged_none h, h]
  · rw [Dev.commitStaged_some h, Dev.foldl_pendUpdate_part Dev.staged fun _ _ _ => rfl]
    rw [Dev.moving, Dev.pushEra, List.mem_filter, List.mem_filter, Bool.not_eq_true', ← Bool.not_eq_true]
    exact and_congr_right fun hy => not_congr (and_iff_right hy).symm

theorem Dev.reg_commitStaged_ne (d : Dev) {u o : Nat} (hu : u < 224) (h : o ≠ (pendFld u).off) :
    (d.commitStaged (Staged.goes u)).reg o = d.reg o := by
  by_cases hm : d.moving (Staged.goes u) = []
  · rw [Dev.commitStaged_none hm]
  · rw [Dev.commitStaged_some hm, Dev.reg_foldl_pendUpdate_ne hu (fun x hx => ((d.mem_moving_goes u x).1 hx).2.1) h]
    rfl

theorem Dev.inForce_commitStaged_ne (d : Dev) {u off : Nat} (h : ∀ y, y ∈ d.staged → y.unit = u → y.off ≠ off) :
    (d.commitStaged (Staged.goes u)).inForce off = d.inForce off := by
  rw [Dev.inForce, Dev.commitStaged_force]
  refine forceVal_intoForce (fun y hy hoff => ?_) (.inl rfl)
  obtain ⟨hs, hunit, -, -⟩ := (d.mem_moving_goes u y).1 hy
  exact absurd hoff (h y hs hunit)

section
variable {d : Dev} {x : Staged} (hgo : x.go = some true) (hx : x ∈ d.staged) (hat : x.at_ < d.tk)
include hgo hx hat

theorem Dev.inForce_commitStaged (hone : ∀ y, y ∈ d.staged → y.off = x.off → y = x) :
    (d.commitStaged (Staged.goes x.unit)).inForce x.off = x.val := by
  rw [Dev.inForce, Dev.commitStaged_force]
  refine forceVal_intoForce (fun y hy hoff => ?_) (.inr ⟨x, (d.mem_moving_goes x.unit x).2 ⟨hx, rfl, hgo, hat⟩, rfl⟩)
  rw [hone y ((d.mem_moving_goes x.unit y).1 hy).1 hoff]

theorem Dev.not_mem_commitStaged : x ∉ (d.commitStaged (Staged.goes x.unit)).staged := by
  rw [Dev.mem_commitStaged]
  exact fun h => h.2 ((d.mem_moving_goes x.unit x).2 ⟨hx, rfl, hgo, hat⟩)

end

/-! ### The commands -/

section
variable {oc : OcId} {ic : IcId} {s : State}

/-- A command that stages a value, for a register that does not hold PENDING. -/
theorem completes_stage {c : Instr} {u off : Nat} {v : W32} {p : Fld} (hu : u < 224) (hp : pendFld u = p) (hne : off ≠ p.off)
    (hexec : exec c s = .next (s.withDev fun d => d.stage u off v)) : completes c s fun t =>
      t.dev.reg off = v ∧ (∀ x, x ∈ t.dev.staged ∧ x.off = off ↔ x = ⟨u, off, v, s.dev.tk, none⟩) ∧ t.dev.fget p = 1 ∧
      stageFrame s t [off, p.off] := by
  subst hp
  exact ⟨_, hexec, Dev.reg_stage_same _ v hu hne, Dev.mem_stage_same _ u off v, Dev.fget_stage_pending _ off v hu,
    stageFrame_stage s off v hu⟩

theorem TS_CPHASE.off_ne_TS_STAT (n : Nat) : TS_CPHASE.off n ≠ TS_STAT.off n := by simp
theorem TS_CFG.off_ne_TS_STAT (n : Nat) : TS_CFG.off n ≠ TS_STAT.off n := by simp
theorem TS_CARRIER_LO.off_ne_TS_STAT (n : Nat) : TS_CARRIER_LO.off n ≠ TS_STAT.off n := by simp
theorem TS_CARRIER_HI.off_ne_TS_STAT (n : Nat) : TS_CARRIER_HI.off n ≠ TS_STAT.off n := by simp
theorem TS_CARRIER_LO.off_ne_TS_CARRIER_HI (n : Nat) : TS_CARRIER_LO.off n ≠ TS_CARRIER_HI.off n := by simp

theorem TS_EQ.off_ne_TS_STAT (n k : Nat) : TS_EQ.off n k ≠ TS_STAT.off n :=
  show 0x100440 + 0x10000 * n + 0x4 * k ≠ 0x100410 + 0x10000 * n by omega

theorem DT_PHASE.off_ne_IC_STATUS (n k : Nat) : DT_PHASE.off n k ≠ IC_STATUS.off n :=
  show 0xe00208 + 0x10000 * n + 0x40 * k ≠ 0xe00008 + 0x10000 * n by omega

theorem tsStagedWrite_cphase_effect (v : W32) (h : ocOpen oc s) : completes (.tsStagedWrite oc .cphase v) s fun t =>
    t.dev.reg (TS_CPHASE.off oc) = v ∧
    (∀ x, x ∈ t.dev.staged ∧ x.off = TS_CPHASE.off oc ↔ x = ⟨oc, TS_CPHASE.off oc, v, s.dev.tk, none⟩) ∧
    t.dev.fget (TS_STAT.PENDING oc) = 1 ∧ stageFrame s t [TS_CPHASE.off oc, TS_STAT.off oc] :=
  completes_stage (ocUnit_lt oc) (pendFld_oc oc) (TS_CPHASE.off_ne_TS_STAT oc) (exec_tsStagedWrite_open h .cphase v)

theorem tsStagedWrite_eq_effect (k : Fin 32) (v : W32) (h : ocOpen oc s) : completes (.tsStagedWrite oc (.eq k) v) s fun t =>
    t.dev.fget (TS_EQ.COEF oc k) = (TS_EQ.COEF oc k).of v ∧ t.dev.fget (TS_STAT.PENDING oc) = 1 ∧
    stageFrame s t [TS_EQ.off oc k, TS_STAT.off oc] := by
  obtain ⟨t, hexec, hreg, -, hpend, hframe⟩ :=
    completes_stage (ocUnit_lt oc) (pendFld_oc oc) (TS_EQ.off_ne_TS_STAT oc k) (exec_tsStagedWrite_open h (.eq k) v)
  refine ⟨t, hexec, ?_, hpend, hframe⟩
  rw [Dev.fget, hreg]
  exact Fld.of_and _ v (by simp) (by simp [Fld.mask])

/-- The word that a write of TS_CFG stages: SCALE as written, CLIP_TAINT as it stands on this tick. -/
def Dev.tsCfgWord (d : Dev) (n : Nat) (v : W32) : W32 :=
  (TS_CFG.CLIP_TAINT n).put (v &&& 0x8000FFFF#32) (d.fget (TS_CFG.CLIP_TAINT n))

theorem Dev.wrTs_cfg (d : Dev) (n : Nat) (v : W32) :
    d.wrTs n .cfg v =
      (d.stage n (TS_CFG.off n) (d.tsCfgWord n v)).lateReg (TS_CFG.CLIP_TAINT n) ((TS_CFG.CLIP_TAINT n).of v) := rfl

theorem Dev.tsCfgWord_SCALE (d : Dev) (n : Nat) (v : W32) : (TS_CFG.SCALE n).of (d.tsCfgWord n v) = (TS_CFG.SCALE n).of v :=
  (Fld.of_put_ne _ _ _ _ (by simp) (by simp)).trans (Fld.of_and _ v (by simp) (by simp [Fld.mask]))

theorem Dev.tsCfgWord_CLIP_TAINT (d : Dev) (n : Nat) (v : W32) :
    (TS_CFG.CLIP_TAINT n).of (d.tsCfgWord n v) = d.fget (TS_CFG.CLIP_TAINT n) :=
  (Fld.of_put _ _ _ (by simp)).trans (Nat.mod_eq_of_lt (d.fget_lt _))

theorem tsStagedWrite_cfg_effect (v : W32) (h : ocOpen oc s) : completes (.tsStagedWrite oc .cfg v) s fun t =>
    t.dev.fget (TS_CFG.SCALE oc) = (TS_CFG.SCALE oc).of v ∧
    t.dev.fget (TS_CFG.CLIP_TAINT oc) = s.dev.fget (TS_CFG.CLIP_TAINT oc) ∧
    t.dev.fget (TS_STAT.PENDING oc) = 1 ∧ stageFrame s t [TS_CFG.off oc, TS_STAT.off oc] := by
  have hp := pendFld_oc oc
  have hne : TS_CFG.off oc ≠ (pendFld oc).off := hp ▸ TS_CFG.off_ne_TS_STAT oc
  have hreg : (s.dev.stage oc (TS_CFG.off oc) (s.dev.tsCfgWord oc v)).reg (TS_CFG.off oc) = s.dev.tsCfgWord oc v :=
    Dev.reg_stage_same _ _ (ocUnit_lt oc) hne
  have hframe := stageFrame_stage s (TS_CFG.off oc) (s.dev.tsCfgWord oc v) (ocUnit_lt oc)
  rw [hp] at hframe
  refine ⟨_, exec_tsStagedWrite_open h .cfg v, ?_, ?_, ?_, ?_⟩ <;> rw [State.withDev, Dev.wrTs_cfg]
  · exact (congrArg (TS_CFG.SCALE oc).of hreg).trans (s.dev.tsCfgWord_SCALE oc v)
  · exact (congrArg (TS_CFG.CLIP_TAINT oc).of hreg).trans (s.dev.tsCfgWord_CLIP_TAINT oc v)
  · exact hp ▸ Dev.fget_stage_pending s.dev (TS_CFG.off oc) (s.dev.tsCfgWord oc v) (ocUnit_lt oc)
  · exact stageFrame_trans hframe (stageFrame_lateReg _ _ _) (List.Subset.refl _) (List.nil_subset _)

theorem carrierLoWrite_effect (v : W32) (h : ocOpen oc s) : completes (.carrierLoWrite oc v) s fun t =>
    t.dev.reg (TS_CARRIER_LO.off oc) = v ∧ TS_CARRIER_LO.off oc ∈ t.dev.loWrites ∧ t.dev.staged = s.dev.staged ∧
    stageFrame s t [TS_CARRIER_LO.off oc] :=
  ⟨_, exec_carrierLoWrite_open h v, s.dev.reg_setReg_same _ v, mem_insNat _ _, rfl, stageFrame_stageLo s _ v⟩

theorem carrierHiWrite_effect (v : W32) (h : ocOpen oc s) : completes (.carrierHiWrite oc v) s fun t =>
    t.dev.fget (TS_CARRIER_HI.CAR_HI oc) = (TS_CARRIER_HI.CAR_HI oc).of v ∧
    t.dev.reg (TS_CARRIER_LO.off oc) = s.dev.lowHalf (TS_CARRIER_LO.off oc) ∧
    (∀ x, x ∈ t.dev.staged ∧ x.off = TS_CARRIER_LO.off oc ↔
      x = ⟨oc, TS_CARRIER_LO.off oc, s.dev.lowHalf (TS_CARRIER_LO.off oc), s.dev.tk, none⟩) ∧
    t.dev.fget (TS_STAT.PENDING oc) = 1 ∧
    stageFrame s t [TS_CARRIER_LO.off oc, TS_CARRIER_HI.off oc, TS_STAT.off oc] := by
  have hp := pendFld_oc oc
  have hlo : TS_CARRIER_LO.off oc ≠ (pendFld oc).off := hp ▸ TS_CARRIER_LO.off_ne_TS_STAT oc
  have hhi : TS_CARRIER_HI.off oc ≠ (pendFld oc).off := hp ▸ TS_CARRIER_HI.off_ne_TS_STAT oc
  have hframe := stageFrame_stageHi s (TS_CARRIER_LO.off oc) (TS_CARRIER_HI.off oc) (v &&& 0xFFFF#32) (ocUnit_lt oc)
  rw [hp] at hframe
  refine ⟨_, exec_carrierHiWrite_open h v, (congrArg (TS_CARRIER_HI.CAR_HI oc).of (Dev.reg_stage_same _ _ (ocUnit_lt oc) hhi)).trans
      (Fld.of_and _ v (by simp) (by simp [Fld.mask])),
    Dev.reg_stageHi_lo _ _ (ocUnit_lt oc) hlo (TS_CARRIER_LO.off_ne_TS_CARRIER_HI oc),
    Dev.mem_stageHi_lo _ _ _ (TS_CARRIER_LO.off_ne_TS_CARRIER_HI oc), hp ▸ Dev.fget_stage_pending _ _ _ (ocUnit_lt oc), hframe⟩

theorem dtStagedWrite_phase_effect (k : Fin 16) (v : W32) (h : icOpen ic s) : completes (.dtStagedWrite ic (.phase k) v) s fun t =>
    t.dev.reg (DT_PHASE.off ic k) = v ∧ t.dev.fget (IC_STATUS.PENDING ic) = 1 ∧
    (∀ x, x ∈ t.dev.staged ∧ x.off = DT_PHASE.off ic k ↔ x = ⟨icUnit ic, DT_PHASE.off ic k, v, s.dev.tk, none⟩) ∧
    stageFrame s t [DT_PHASE.off ic k, IC_STATUS.off ic] := by
  obtain ⟨t, hexec, hreg, hstaged, hpend, hframe⟩ :=
    completes_stage (icUnit_lt ic) (pendFld_ic ic) (DT_PHASE.off_ne_IC_STATUS ic k) (exec_dtStagedWrite_open h (.phase k) v)
  exact ⟨t, hexec, hreg, hpend, hstaged, hframe⟩

theorem dtStagedWrite_freqLo_effect (k : Fin 16) (v : W32) (h : icOpen ic s) : completes (.dtStagedWrite ic (.freqLo k) v) s fun t =>
    t.dev.reg (DT_FREQ_LO.off ic k) = v ∧ t.dev.staged = s.dev.staged ∧ stageFrame s t [DT_FREQ_LO.off ic k] :=
  ⟨_, exec_dtStagedWrite_open h (.freqLo k) v, s.dev.reg_setReg_same _ v, rfl, stageFrame_stageLo s _ v⟩

/-- A command that commits the staged values of a unit: what every target has in common. -/
theorem completes_commitStaged {c : Instr} {x : Staged} {p : Fld} (hu : x.unit < 224) (hp : pendFld x.unit = p)
    (hexec : exec c s = .next (s.withDev fun d => d.commitStaged (Staged.goes x.unit))) (hgo : x.go = some true)
    (hx : x ∈ s.dev.staged) (hat : x.at_ < s.dev.tk) (hone : ∀ y, y ∈ s.dev.staged → y.off = x.off → y = x) :
    completes c s fun t =>
      t.dev.inForce x.off = x.val ∧ x ∉ t.dev.staged ∧ (∀ y, y ∈ s.dev.staged → y.unit ≠ x.unit → y ∈ t.dev.staged) ∧
      devOnly s t ∧ memSame s t ∧ t.dev.ocs = s.dev.ocs ∧ t.dev.ics = s.dev.ics ∧
      (∀ off, (∀ y, y ∈ s.dev.staged → y.unit = x.unit → y.off ≠ off) → t.dev.inForce off = s.dev.inForce off) ∧
      regsSame s t [p.off] := by
  subst hp
  refine ⟨_, hexec, Dev.inForce_commitStaged hgo hx hat hone, Dev.not_mem_commitStaged hgo hx hat, fun y hy hne => ?_, ⟨rfl, rfl⟩,
    Dev.rd8_congr (Dev.commitStaged_part Dev.mem (fun _ _ _ => rfl) (fun _ _ _ _ => rfl) _ _),
    Dev.commitStaged_part Dev.ocs (fun _ _ _ => rfl) (fun _ _ _ _ => rfl) _ _,
    Dev.commitStaged_part Dev.ics (fun _ _ _ => rfl) (fun _ _ _ _ => rfl) _ _, fun off hoff => s.dev.inForce_commitStaged_ne hoff,
    fun o ho => s.dev.reg_commitStaged_ne hu (fun h => ho (List.mem_singleton.2 h))⟩
  refine (s.dev.mem_commitStaged _ y).2 ⟨hy, fun hm => hne ?_⟩
  exact ((s.dev.mem_moving_goes _ y).1 hm).2.1

end

end Sys2Proof.Machine

open Sys2Proof Sys2Proof.Machine Sys2Proof.Safety

/-- Settles O26: each write stages its value under its unit, and a commit moves what the engine let go into force. -/
theorem stagedValues : Obligations.StagedValues := by
  unfold Obligations.StagedValues
  refine ⟨fun _ v _ => tsStagedWrite_cphase_effect v, fun _ v _ => tsStagedWrite_cfg_effect v,
    fun _ k v _ => tsStagedWrite_eq_effect k v, fun _ v _ => carrierLoWrite_effect v,
    fun _ v _ => carrierHiWrite_effect v, fun _ k v _ => dtStagedWrite_phase_effect k v,
    fun _ k v _ => dtStagedWrite_freqLo_effect k v, fun oc x s hgo hx hunit hat hone => ?_, fun ic x s hgo hx hunit hat hone => ?_⟩
  · obtain ⟨t, hexec, hforce, hgone, hstay, hdev, hmem, hocs, -, hkeep, hregs⟩ :=
      completes_commitStaged (c := .stagedValueCommit (.oc oc)) (hunit ▸ ocUnit_lt oc)
        ((congrArg pendFld hunit).trans (pendFld_oc oc)) (by rw [hunit]; rfl) hgo hx hat hone
    rw [hunit] at hstay hkeep
    exact ⟨t, hexec, hforce, hgone, hstay, hdev, hmem, hocs, hkeep, hregs⟩
  · obtain ⟨t, hexec, hforce, hgone, -, hdev, hmem, -, hics, -, hregs⟩ :=
      completes_commitStaged (c := .stagedValueCommit (.ic ic)) (hunit ▸ icUnit_lt ic)
        ((congrArg pendFld hunit).trans (pendFld_ic ic)) (by rw [hunit]; rfl) hgo hx hat hone
    exact ⟨t, hexec, hforce, hgone, hdev, hmem, hics, hregs⟩
end

section
/-! SUPPORT. Windows, results and the result buffer (R205, R206, R215 to R220, R571): what becomes of the front window or result of a
demodulator, what a record and a read of the buffer move, and what a write of RD may set. -/
namespace Sys2Proof.Machine

open Sys2Proof.Safety

/-! ### Commands that change registers and raise events -/

/-- A command whose effect on the device is a change `e` followed by `g`: what `g` leaves alone is then as `e` has it. -/
theorem exec_of_stages {c : Instr} {s : State} {f g : Dev → Dev} {e : Dev} (hexec : exec c s = .next (s.withDev f))
    (h : f s.dev = g e) : exec c s = .next ((s.withDev fun _ => e).withDev g) := by
  rw [hexec, State.withDev, h]
  rfl

theorem devOnly_stages (s : State) (f g : Dev → Dev) : devOnly s ((s.withDev f).withDev g) := ⟨rfl, rfl⟩

theorem onlyRegsEv_trans {s t u : State} {as bs : List Nat} (h : onlyRegsEv s t as) (k : onlyRegsEv t u bs) :
    onlyRegsEv s u (as ++ bs) := by
  obtain ⟨⟨hclk, hpend⟩, hdev, hreg⟩ := h
  obtain ⟨⟨kclk, kpend⟩, kdev, kreg⟩ := k
  refine ⟨⟨kclk.trans hclk, kpend.trans hpend⟩, kdev.trans hdev, fun o ho hr => ?_⟩
  rw [List.mem_append, not_or] at ho
  exact (kreg o ho.2 hr).trans (hreg o ho.1 hr)

theorem onlyRegsEv_refl (s : State) (but : List Nat) : onlyRegsEv s s but := ⟨⟨rfl, rfl⟩, rfl, fun _ _ _ => rfl⟩

theorem onlyRegsEv_fset (s : State) (f : Fld) (v : Nat) : onlyRegsEv s (s.withDev fun d => d.fset f v) [f.off] :=
  ⟨⟨rfl, rfl⟩, rfl, fun _ ho _ => s.dev.reg_fset_ne f v (fun h => ho (List.mem_singleton.2 h))⟩

theorem onlyRegsEv_raise (s : State) (src : Nat) : onlyRegsEv s (s.withDev fun d => d.raise src) [] :=
  ⟨⟨rfl, rfl⟩, (eventsOnly_raise s.dev src).1, fun o _ => (eventsOnly_raise s.dev src).2 o⟩

theorem onlyRegsEv_icErr (s : State) (i : Nat) (f : Fld) : onlyRegsEv s (s.withDev fun d => d.icErr i f) [f.off] :=
  ⟨⟨rfl, rfl⟩, (eventsOnly_raise (s.dev.flag f) _).1, fun o ho hr =>
    ((eventsOnly_raise (s.dev.flag f) _).2 o hr).trans (s.dev.reg_flag_ne f (fun h => ho (List.mem_singleton.2 h)))⟩

section
variable {s t : State} {but : List Nat} (h : onlyRegsEv s t but)
include h

/-- A part of the device that neither events nor registers reach is as before. -/
theorem onlyRegsEv_part {β : Type} (g : Dev → β) (hg : ∀ d, g (noEvents d) = g d) : g t.dev = g s.dev := by
  rw [← hg t.dev, h.2.1, hg]

theorem onlyRegsEv_regsSameEv : regsSameEv s t but := h.2.2

theorem onlyRegsEv_memSame : memSame s t := Dev.rd8_congr (onlyRegsEv_part h Dev.mem fun _ => rfl)

theorem onlyRegsEv_ic (i : Nat) : t.dev.ic i = s.dev.ic i := onlyRegsEv_part h (fun d => d.ic i) fun _ => rfl

theorem onlyRegsEv_dt (i k : Nat) : t.dev.dt i k = s.dev.dt i k := onlyRegsEv_part h (fun d => d.dt i k) fun _ => rfl

theorem onlyRegsEv_ics : t.dev.ics = s.dev.ics := onlyRegsEv_part h Dev.ics fun _ => rfl

theorem onlyRegsEv_fget (f : Fld) (hf : f.off ∉ but) (hr : ¬ inRill f.off) : t.dev.fget f = s.dev.fget f := by
  rw [Dev.fget, onlyRegsEv_regsSameEv h _ hf hr, Dev.fget]

end

/-! ### Registers of an input channel -/

theorem not_inRill_of_ge {o : Nat} (h : 0x50000 ≤ o) : ¬ inRill o := fun hr => absurd hr.2 (by omega)

theorem IC_ERR.off_not_inRill (i : Nat) : ¬ inRill (IC_ERR.off i) := not_inRill_of_ge (show 0x50000 ≤ 0xe0000c + 0x10000 * i by omega)

theorem IC_CNT1.off_not_inRill (i : Nat) : ¬ inRill (IC_CNT1.off i) :=
  not_inRill_of_ge (show 0x50000 ≤ 0xe00014 + 0x10000 * i by omega)

theorem IC_RB_WR.off_not_inRill (i : Nat) : ¬ inRill (IC_RB_WR.off i) :=
  not_inRill_of_ge (show 0x50000 ≤ 0xe00024 + 0x10000 * i by omega)

theorem IC_RB_RD.off_not_inRill (i : Nat) : ¬ inRill (IC_RB_RD.off i) :=
  not_inRill_of_ge (show 0x50000 ≤ 0xe00028 + 0x10000 * i by omega)

/-- An error bit of an input channel reads 1 once set. -/
theorem Dev.fget_icErr (d : Dev) (i b : Nat) (hb : b < 32) : (d.icErr i ⟨IC_ERR.off i, b, b⟩).fget ⟨IC_ERR.off i, b, b⟩ = 1 :=
  (Dev.fget_raise _ _ _ (IC_ERR.off_not_inRill i)).trans (d.fget_flag_bit _ rfl hb)

/-! ### Demodulators -/

theorem Dev.ic_setIc_same (d : Dev) (i : Nat) (x : IcSt) : (d.setIc i x).ic i = x := tget_tset_same _ _ _ _

theorem Dev.ic_setIc_ne (d : Dev) {i j : Nat} (x : IcSt) (h : j ≠ i) : (d.setIc i x).ic j = d.ic j := tget_tset_ne _ _ _ _ h

theorem Dev.ic_setDt_ne (d : Dev) {i j : Nat} (k : Nat) (x : DtSt) (h : j ≠ i) : (d.setDt i k x).ic j = d.ic j :=
  d.ic_setIc_ne _ h

theorem Dev.ic_setDt_same (d : Dev) (i k : Nat) (x : DtSt) :
    (d.setDt i k x).ic i = { d.ic i with dts := tset {} (d.ic i).dts k x } := d.ic_setIc_same i _

theorem Dev.dt_setDt_same (d : Dev) (i k : Nat) (x : DtSt) : (d.setDt i k x).dt i k = x := by
  rw [Dev.dt, Dev.ic_setDt_same]
  exact tget_tset_same _ _ _ _

/-! ### A window opens (R206) -/

/-- The front window of a demodulator's queue opens. -/
def Dev.openFirst (d : Dev) (i k : Nat) (w : Window) (ws : List Window) : Dev :=
  d.setDt i k { d.dt i k with queue := ws, open_ := (d.dt i k).open_ ++ [w] }

/-- A window that opens late is counted and sets WLATE (R206). -/
def Dev.lateNote (d : Dev) (i : Nat) (late : Bool) : Dev :=
  if late then (d.satAdd (IC_CNT1.LATE_WIN i) 1).icErr i (IC_ERR.WLATE i) else d

theorem onlyRegsEv_lateNote (s : State) (i : Nat) (late : Bool) :
    onlyRegsEv s (s.withDev fun d => d.lateNote i late) [IC_CNT1.off i, IC_ERR.off i] := by
  cases late with
  | true => exact onlyRegsEv_trans (onlyRegsEv_fset s (IC_CNT1.LATE_WIN i) _) (onlyRegsEv_icErr _ i (IC_ERR.WLATE i))
  | false => exact onlyRegsEv_refl s _

theorem Dev.fget_lateNote_WLATE (d : Dev) (i : Nat) : (d.lateNote i true).fget (IC_ERR.WLATE i) = 1 :=
  Dev.fget_icErr _ i 5 (by decide)

theorem Dev.fget_lateNote_LATE_WIN (d : Dev) (i : Nat) :
    (d.lateNote i true).fget (IC_CNT1.LATE_WIN i) = min 65535 (d.fget (IC_CNT1.LATE_WIN i) + 1) :=
  calc (d.lateNote i true).fget (IC_CNT1.LATE_WIN i)
    _ = (d.satAdd (IC_CNT1.LATE_WIN i) 1).fget (IC_CNT1.LATE_WIN i) :=
        onlyRegsEv_fget (onlyRegsEv_icErr { dev := d.satAdd (IC_CNT1.LATE_WIN i) 1 } i (IC_ERR.WLATE i)) (IC_CNT1.LATE_WIN i)
          (by simp) (IC_CNT1.off_not_inRill i)
    _ = min 65535 (d.fget (IC_CNT1.LATE_WIN i) + 1) := d.fget_satAdd (IC_CNT1.LATE_WIN i) 1 (by simp)

theorem Dev.windowOpen_due {d : Dev} {i k now : Nat} {w : Window} {ws : List Window} (hq : (d.dt i k).queue = w :: ws)
    (hdue : w.openAt ≤ now) : d.windowOpen i k now = (d.openFirst i k w ws).lateNote i w.late := by
  simp only [Dev.windowOpen, hq, if_pos hdue]
  rfl

theorem windowOpen_effect {ic : IcId} {dt : DtId} {w : Window} {ws : List Window} {s : State} (hq : (s.dev.dt ic dt).queue = w :: ws)
    (hdue : w.openAt ≤ s.clk.now.toNat) : completes (.windowOpen ic dt) s fun t =>
      (t.dev.dt ic dt).queue = ws ∧ (t.dev.dt ic dt).open_ = (s.dev.dt ic dt).open_ ++ [w] ∧
      (w.late = true → t.dev.fget (IC_ERR.WLATE ic) = 1 ∧
        t.dev.fget (IC_CNT1.LATE_WIN ic) = min 65535 (s.dev.fget (IC_CNT1.LATE_WIN ic) + 1)) ∧
      (w.late = false → regsSame s t []) ∧
      devOnly s t ∧ memSame s t ∧ icsSame s t ic ∧ regsSameEv s t [IC_ERR.off ic, IC_CNT1.off ic] := by
  let o := s.withDev fun _ => s.dev.openFirst ic dt w ws
  have hexec : exec (.windowOpen ic dt) s = .next (o.withDev fun d => d.lateNote ic w.late) :=
    exec_of_stages (exec_windowOpen s ic dt) (Dev.windowOpen_due hq hdue)
  have hnote := onlyRegsEv_lateNote o ic w.late
  have hdt := (onlyRegsEv_dt hnote ic dt).trans (s.dev.dt_setDt_same ic dt _)
  have hmem := onlyRegsEv_memSame hnote
  refine ⟨_, hexec, congrArg DtSt.queue hdt, congrArg DtSt.open_ hdt, fun hlate => ?_, fun hlate => ?_, devOnly_stages s _ _, hmem,
    fun j hj => (onlyRegsEv_ic hnote j).trans (s.dev.ic_setDt_ne dt _ hj),
    fun x hx => onlyRegsEv_regsSameEv hnote x fun h => hx ((List.Perm.swap _ _ _).subset h)⟩
  · rw [State.withDev, hlate]
    exact ⟨o.dev.fget_lateNote_WLATE ic, o.dev.fget_lateNote_LATE_WIN ic⟩
  · rw [State.withDev, hlate]
    exact fun _ _ => rfl

/-! ### A window ends (R205, R215) -/

theorem Dev.ic_ceFinish_same (d : Dev) (i : Nat) :
    (d.ceFinish i).ic i =
      { d.ic i with mode := if (d.ic i).mode = .ending ∧ (d.ic i).windowsDone then .ended else (d.ic i).mode } := by
  simp only [Dev.ceFinish]
  split
  · exact d.ic_setIc_same i _
  · rfl

theorem Dev.ic_ceFinish_ne (d : Dev) {i j : Nat} (h : j ≠ i) : (d.ceFinish i).ic j = d.ic j := by
  simp only [Dev.ceFinish]
  split
  · exact d.ic_setIc_ne _ h
  · rfl

/-- Of the device the end of a capture engine changes the input channels alone. -/
theorem Dev.ceFinish_part {β : Type} (g : Dev → β) (hg : ∀ (d : Dev) x, g { d with ics := x } = g d) (d : Dev) (i : Nat) :
    g (d.ceFinish i) = g d := by
  simp only [Dev.ceFinish]
  split
  · exact hg d _
  · rfl

/-- The front open window of a demodulator ends with result `r`, and its engine with it when it was the last. -/
def Dev.closeFirst (d : Dev) (i k : Nat) (w : Window) (ws : List Window) (r : BitVec 64) : Dev :=
  (d.setDt i k { d.dt i k with
    open_ := ws, results := (d.dt i k).results ++ [⟨w.doneAt + (d.icMode i).readDelay, r⟩] }).ceFinish i

/-- A result whose integrated value was clipped sets ZCLIP (R209). -/
def Dev.clipNote (d : Dev) (i : Nat) (clip : Bool) : Dev := if clip then d.icErr i (IC_ERR.ZCLIP i) else d

theorem onlyRegsEv_clipNote (s : State) (i : Nat) (clip : Bool) :
    onlyRegsEv s (s.withDev fun d => d.clipNote i clip) [IC_ERR.off i] := by
  cases clip with
  | true => exact onlyRegsEv_icErr s i (IC_ERR.ZCLIP i)
  | false => exact onlyRegsEv_refl s _

theorem Dev.dt_closeFirst (d : Dev) (i k : Nat) (w : Window) (ws : List Window) (r : BitVec 64) :
    (d.closeFirst i k w ws r).dt i k =
      { d.dt i k with open_ := ws, results := (d.dt i k).results ++ [⟨w.doneAt + (d.icMode i).readDelay, r⟩] } := by
  rw [Dev.dt, Dev.closeFirst, Dev.ic_ceFinish_same]
  exact d.dt_setDt_same i k _

theorem Dev.ic_closeFirst_ne (d : Dev) {i j : Nat} (k : Nat) (w : Window) (ws : List Window) (r : BitVec 64) (h : j ≠ i) :
    (d.closeFirst i k w ws r).ic j = d.ic j := (Dev.ic_ceFinish_ne _ h).trans (d.ic_setDt_ne k _ h)

/-- An engine that was ending has ended once its windows are done. -/
theorem Dev.mode_closeFirst (d : Dev) (i k : Nat) (w : Window) (ws : List Window) (r : BitVec 64) :
    ((d.closeFirst i k w ws r).ic i).mode =
      if (d.ic i).mode = .ending ∧ ((d.closeFirst i k w ws r).ic i).windowsDone then .ended else (d.ic i).mode := by
  rw [Dev.closeFirst, Dev.ic_ceFinish_same, Dev.ic_setDt_same]
  rfl

theorem Dev.closeFirst_part {β : Type} (g : Dev → β) (hg : ∀ (d : Dev) x, g { d with ics := x } = g d) (d : Dev) (i k : Nat)
    (w : Window) (ws : List Window) (r : BitVec 64) : g (d.closeFirst i k w ws r) = g d := (Dev.ceFinish_part g hg _ i).trans (hg d _)

theorem Dev.windowEnd_due {d : Dev} {i k now : Nat} {w : Window} {ws : List Window} (hq : (d.dt i k).open_ = w :: ws)
    (hdue : w.doneAt ≤ now) :
    d.windowEnd i k now = (d.closeFirst i k w ws (d.windowResult i k now w).1).clipNote i (d.windowResult i k now w).2 := by
  simp only [Dev.windowEnd, hq, if_pos hdue]
  rfl

theorem windowEnd_effect {ic : IcId} {dt : DtId} {w : Window} {ws : List Window} {s : State} (hq : (s.dev.dt ic dt).open_ = w :: ws)
    (hdue : w.doneAt ≤ s.clk.now.toNat) : completes (.windowEnd ic dt) s fun t =>
      let r := s.dev.windowResult ic dt s.clk.now.toNat w
      (t.dev.dt ic dt).open_ = ws ∧
      (t.dev.dt ic dt).results = (s.dev.dt ic dt).results ++ [⟨w.doneAt + (s.dev.icMode ic).readDelay, r.1⟩] ∧
      (r.2 = true → t.dev.fget (IC_ERR.ZCLIP ic) = 1) ∧
      (t.dev.ic ic).mode = (if (s.dev.ic ic).mode = .ending ∧ (t.dev.ic ic).windowsDone then .ended else (s.dev.ic ic).mode) ∧
      devOnly s t ∧ memSame s t ∧ icsSame s t ic ∧ regsSameEv s t [IC_ERR.off ic] := by
  let r := s.dev.windowResult ic dt s.clk.now.toNat w
  let o := s.withDev fun _ => s.dev.closeFirst ic dt w ws r.1
  have hexec : exec (.windowEnd ic dt) s = .next (o.withDev fun d => d.clipNote ic r.2) :=
    exec_of_stages (exec_windowEnd s ic dt) (Dev.windowEnd_due hq hdue)
  have hnote := onlyRegsEv_clipNote o ic r.2
  have hdt := (onlyRegsEv_dt hnote ic dt).trans (s.dev.dt_closeFirst ic dt w ws r.1)
  have hmem : memSame s o := Dev.rd8_congr (Dev.closeFirst_part Dev.mem (fun _ _ => rfl) _ _ _ _ _ _)
  have hreg : ∀ x, o.dev.reg x = s.dev.reg x := fun x => Dev.closeFirst_part (Dev.reg · x) (fun _ _ => rfl) _ _ _ _ _ _
  refine ⟨_, hexec, congrArg DtSt.open_ hdt, congrArg DtSt.results hdt, fun hclip => ?_, ?_, devOnly_stages s _ _,
    fun a => (onlyRegsEv_memSame hnote a).trans (hmem a),
    fun j hj => (onlyRegsEv_ic hnote j).trans (s.dev.ic_closeFirst_ne dt w ws r.1 hj),
    fun x hx hr => (onlyRegsEv_regsSameEv hnote x hx hr).trans (hreg x)⟩
  · have hr : r.2 = true := hclip
    rw [hr]
    exact o.dev.fget_icErr ic 7 (by decide)
  · rw [onlyRegsEv_ic hnote]
    exact s.dev.mode_closeFirst ic dt w ws r.1

/-! ### The result buffer (R217, R218) -/

theorem onlyRegsEv_rbUpdate (s : State) (i : Nat) : onlyRegsEv s (s.withDev fun d => d.rbUpdate i) [IC_STATUS.off i] := by
  have hline := onlyRegsEv_fset s (IC_STATUS.RB_REQ i) (decide (rbThresh (s.dev.fget (IC_RB_CFG.THRESH i)) ≤ s.dev.rbUnread i)).toNat
  simp only [State.withDev, Dev.rbUpdate]
  split
  · exact onlyRegsEv_trans hline (onlyRegsEv_raise _ _)
  · exact hline

/-- A pointer of the result buffer is set and the request line follows. -/
theorem onlyRegsEv_fset_rbUpdate (s : State) (i : Nat) (f : Fld) (v : Nat) :
    onlyRegsEv s (s.withDev fun d => (d.fset f v).rbUpdate i) [f.off, IC_STATUS.off i] :=
  onlyRegsEv_trans (onlyRegsEv_fset s f v) (onlyRegsEv_rbUpdate _ i)

theorem Dev.fget_fset_rbUpdate (d : Dev) (i : Nat) (f : Fld) {v : Nat} (hf : f.off ≠ IC_STATUS.off i) (hr : ¬ inRill f.off)
    (hb : f.hi < 32) (hv : v < 2 ^ (f.hi + 1 - f.lo)) : ((d.fset f v).rbUpdate i).fget f = v :=
  calc ((d.fset f v).rbUpdate i).fget f
    _ = (d.fset f v).fget f := onlyRegsEv_fget (onlyRegsEv_rbUpdate { dev := d.fset f v } i) f (by simpa using hf) hr
    _ = v % 2 ^ (f.hi + 1 - f.lo) := d.fget_fset f v hb
    _ = v := Nat.mod_eq_of_lt hv

theorem Dev.fget_rbUpdate_WR (d : Dev) (i v : Nat) (hv : v < 131072) :
    ((d.fset (IC_RB_WR.WR i) v).rbUpdate i).fget (IC_RB_WR.WR i) = v :=
  d.fget_fset_rbUpdate i (IC_RB_WR.WR i) (by simp) (IC_RB_WR.off_not_inRill i) (by simp) (by simpa using hv)

theorem Dev.fget_rbUpdate_RD (d : Dev) (i v : Nat) (hv : v < 131072) :
    ((d.fset (IC_RB_RD.RD i) v).rbUpdate i).fget (IC_RB_RD.RD i) = v :=
  d.fget_fset_rbUpdate i (IC_RB_RD.RD i) (by simp) (IC_RB_RD.off_not_inRill i) (by simp) (by simpa using hv)

/-! ### A record is emitted (R215, R225) -/

theorem mem_colInsert (c x : ColWait) (l : List ColWait) : x ∈ colInsert c l ↔ x = c ∨ x ∈ l := by
  induction l with
  | nil => exact List.mem_cons
  | cons y l ih =>
    rw [colInsert]
    split
    · exact List.mem_cons
    · rw [List.mem_cons, ih, List.mem_cons, or_left_comm]

/-- Of the device a write of bytes changes the memory alone. -/
theorem Dev.wrBytes_part {β : Type} (g : Dev → β) (hg : ∀ (d : Dev) m, g { d with mem := m } = g d) (d : Dev) (a : Nat)
    (bs : List Byte) : g (d.wrBytes a bs) = g d := by
  induction bs generalizing d a with
  | nil => rfl
  | cons b bs ih => exact (ih _ _).trans (hg d _)

theorem Dev.wrLe_part {β : Type} (g : Dev → β) (hg : ∀ (d : Dev) m, g { d with mem := m } = g d) (d : Dev) (a n v : Nat) :
    g (d.wrLe a n v) = g d := Dev.wrBytes_part g hg d a _

theorem Dev.rd8_wrLe_out (d : Dev) (a n v : Nat) {x : Nat} (h : x < a ∨ a + n ≤ x) : (d.wrLe a n v).rd8 x = d.rd8 x :=
  d.rd8_wrBytes_out a x _ (by rwa [leBytes_length])

theorem Dev.rdLe_congr {d e : Dev} (h : ∀ a, e.rd8 a = d.rd8 a) (a n : Nat) : e.rdLe a n = d.rdLe a n :=
  congrArg leNat (Dev.rdBytes_congr e d a n fun x _ _ => h x)

/-- Where the next record of a result buffer goes (R217). -/
def Dev.rbPlace (d : Dev) (i : Nat) : Nat := resultBase i + 8 * (d.fget (IC_RB_WR.WR i) % 65536)

/-- A record takes the next place of a buffer that has room, WR advances, and the request line follows. -/
theorem Dev.rbWrite_room {d : Dev} {i : Nat} (r : BitVec 64) (h : d.rbUnread i < 65536) :
    d.rbWrite i r =
      ((d.wrLe (d.rbPlace i) 8 r.toNat).fset (IC_RB_WR.WR i) ((d.fget (IC_RB_WR.WR i) + 1) % 131072)).rbUpdate i := by
  rw [Dev.rbWrite, if_neg (Nat.not_le.2 h)]
  rfl

/-- The front result of a demodulator is taken and joins the records that wait for the collector. -/
def Dev.takeFirst (d : Dev) (i k : Nat) (r : ResultWait) (rs : List ResultWait) : Dev :=
  { d.setDt i k { d.dt i k with results := rs } with colWait := colInsert ⟨d.tk, i, k, r.word⟩ d.colWait }

/-- The front result is taken, and its copy goes to the next place of the result buffer. -/
def Dev.emitFirst (d : Dev) (i k : Nat) (r : ResultWait) (rs : List ResultWait) : Dev :=
  (d.takeFirst i k r rs).wrLe (d.rbPlace i) 8 r.word.toNat

section
variable (d : Dev) (i k : Nat) (r : ResultWait) (rs : List ResultWait)

theorem Dev.dt_emitFirst : (d.emitFirst i k r rs).dt i k = { d.dt i k with results := rs } :=
  (Dev.wrLe_part (fun d => d.dt i k) (fun _ _ => rfl) _ _ _ _).trans (d.dt_setDt_same i k _)

theorem Dev.ic_emitFirst_ne {j : Nat} (h : j ≠ i) : (d.emitFirst i k r rs).ic j = d.ic j :=
  (Dev.wrLe_part (fun d => d.ic j) (fun _ _ => rfl) _ _ _ _).trans (d.ic_setDt_ne k _ h)

theorem Dev.colWait_emitFirst : (d.emitFirst i k r rs).colWait = colInsert ⟨d.tk, i, k, r.word⟩ d.colWait :=
  Dev.wrLe_part Dev.colWait (fun _ _ => rfl) _ _ _ _

theorem Dev.reg_emitFirst (o : Nat) : (d.emitFirst i k r rs).reg o = d.reg o :=
  Dev.wrLe_part (fun d => d.reg o) (fun _ _ => rfl) _ _ _ _

theorem Dev.rdLe_emitFirst : (d.emitFirst i k r rs).rdLe (d.rbPlace i) 8 = r.word.toNat :=
  (Dev.rdLe_wrLe _ _ 8 _).trans (Nat.mod_eq_of_lt r.word.isLt)

theorem Dev.rd8_emitFirst_out {x : Nat} (h : x < d.rbPlace i ∨ d.rbPlace i + 8 ≤ x) : (d.emitFirst i k r rs).rd8 x = d.rd8 x :=
  Dev.rd8_wrLe_out _ _ _ _ h

end

/-- A result that is due, behind no other of its channel, with no record of its demodulator waiting for the collector. -/
theorem Dev.resultEmit_due {d : Dev} {i k now : Nat} {r : ResultWait} {rs : List ResultWait} (hq : (d.dt i k).results = r :: rs)
    (hdue : r.emit ≤ now) (hturn : ∀ x, x ∈ (d.ic i).dts → x.1 < k → ∀ y, x.2.results.head? = some y → now < y.emit)
    (hfree : ∀ c, c ∈ d.colWait → c.ic ≠ i ∨ c.dt ≠ k) (hroom : d.rbUnread i < 65536) :
    d.resultEmit i k now =
      ((d.emitFirst i k r rs).fset (IC_RB_WR.WR i) ((d.fget (IC_RB_WR.WR i) + 1) % 131072)).rbUpdate i := by
  have hfirst : ((d.ic i).dts.any fun x =>
      decide (x.1 < k) && (x.2.results.head?.map fun r => decide (r.emit ≤ now)).getD false) = false := by
    rw [List.any_eq_false]
    intro x hx hlate
    rw [Bool.and_eq_true, decide_eq_true_eq] at hlate
    obtain ⟨hk, hlate⟩ := hlate
    cases hy : x.2.results.head? with
    | none => simp [hy] at hlate
    | some y =>
      have hsoon := hturn x hx hk y hy
      simp only [hy, Option.map_some, Option.getD_some, decide_eq_true_eq] at hlate
      omega
  have hnone : (d.setDt i k { d.dt i k with results := rs }).colWait.find? (fun c => c.ic == i && c.dt == k) = none := by
    rw [List.find?_eq_none]
    intro c hc hsame
    rw [Bool.and_eq_true, beq_iff_eq, beq_iff_eq] at hsame
    exact (hfree c hc).elim (· hsame.1) (· hsame.2)
  simp only [Dev.resultEmit, hfirst, Bool.false_eq_true, if_false, hq, if_pos hdue, hnone]
  exact Dev.rbWrite_room (d := d.takeFirst i k r rs) r.word hroom

theorem resultEmit_effect {ic : IcId} {dt : DtId} {r : ResultWait} {rs : List ResultWait} {s : State}
    (hq : (s.dev.dt ic dt).results = r :: rs) (hdue : r.emit ≤ s.clk.now.toNat)
    (hturn : ∀ x, x ∈ (s.dev.ic ic).dts → x.1 < dt → ∀ y, x.2.results.head? = some y → s.clk.now.toNat < y.emit)
    (hfree : ∀ c, c ∈ s.dev.colWait → c.ic ≠ ic ∨ c.dt ≠ dt) (hroom : s.dev.rbUnread ic < 65536) :
    completes (.resultEmit ic dt) s fun t =>
      (t.dev.dt ic dt).results = rs ∧ (∀ c, c ∈ t.dev.colWait ↔ c = ⟨s.dev.tk, ic, dt, r.word⟩ ∨ c ∈ s.dev.colWait) ∧
      t.dev.rdLe (s.dev.rbPlace ic) 8 = r.word.toNat ∧
      t.dev.fget (IC_RB_WR.WR ic) = (s.dev.fget (IC_RB_WR.WR ic) + 1) % 131072 ∧ devOnly s t ∧
      memOutside s t (s.dev.rbPlace ic) 8 ∧ icsSame s t ic ∧ regsSameEv s t [IC_RB_WR.off ic, IC_STATUS.off ic] := by
  let o := s.withDev fun _ => s.dev.emitFirst ic dt r rs
  let wr := (s.dev.fget (IC_RB_WR.WR ic) + 1) % 131072
  have hexec : exec (.resultEmit ic dt) s = .next (o.withDev fun d => (d.fset (IC_RB_WR.WR ic) wr).rbUpdate ic) :=
    exec_of_stages (exec_resultEmit s ic dt) (Dev.resultEmit_due hq hdue hturn hfree hroom)
  have hptr := onlyRegsEv_fset_rbUpdate o ic (IC_RB_WR.WR ic) wr
  have hmem := onlyRegsEv_memSame hptr
  have hdt := (onlyRegsEv_dt hptr ic dt).trans (s.dev.dt_emitFirst ic dt r rs)
  have hcol := (onlyRegsEv_part hptr Dev.colWait fun _ => rfl).trans (s.dev.colWait_emitFirst ic dt r rs)
  have hrec := (Dev.rdLe_congr hmem _ _).trans (s.dev.rdLe_emitFirst ic dt r rs)
  exact ⟨_, hexec, congrArg DtSt.results hdt, fun c => hcol ▸ mem_colInsert _ c _, hrec,
    o.dev.fget_rbUpdate_WR ic wr (Nat.mod_lt _ (by decide)), devOnly_stages s _ _,
    fun x hx => (hmem x).trans (s.dev.rd8_emitFirst_out ic dt r rs hx),
    fun j hj => (onlyRegsEv_ic hptr j).trans (s.dev.ic_emitFirst_ne ic dt r rs hj),
    fun x hx hr => (onlyRegsEv_regsSameEv hptr x hx hr).trans (s.dev.reg_emitFirst ic dt r rs x)⟩

/-! ### The buffer is read (R218) -/

/-- What a read of the buffer moves: with AUTORD, one that starts at RD advances it. -/
def Dev.rbAdvance (d : Dev) (i off len : Nat) : Dev :=
  if d.bit (IC_RB_CFG.AUTORD i) ∧ off = 8 * (d.fget (IC_RB_RD.RD i) % 65536) then
    (d.fset (IC_RB_RD.RD i) ((d.fget (IC_RB_RD.RD i) + min (len / 8) (d.rbUnread i)) % 131072)).rbUpdate i
  else d

theorem Dev.rbRead_within (d : Dev) (i : Nat) {off len : Nat} (h : off + len ≤ 0x80000) :
    d.rbRead i off len = (d.rdBytes (resultBase i + off) len, d.rbAdvance i off len) := by
  simp only [Dev.rbRead, Nat.min_eq_left (show len ≤ 0x80000 - off by omega), Dev.rbAdvance]
  split <;> rfl

theorem onlyRegsEv_rbAdvance (s : State) (i off len : Nat) :
    onlyRegsEv s (s.withDev fun d => d.rbAdvance i off len) [IC_RB_RD.off i, IC_STATUS.off i] := by
  simp only [State.withDev, Dev.rbAdvance]
  split
  · exact onlyRegsEv_fset_rbUpdate s i (IC_RB_RD.RD i) _
  · exact onlyRegsEv_refl s _

theorem Dev.rbAdvance_moves {d : Dev} {i off : Nat} (len : Nat) (hauto : d.fget (IC_RB_CFG.AUTORD i) = 1)
    (hoff : off = 8 * (d.fget (IC_RB_RD.RD i) % 65536)) :
    (d.rbAdvance i off len).fget (IC_RB_RD.RD i) = (d.fget (IC_RB_RD.RD i) + min (len / 8) (d.rbUnread i)) % 131072 := by
  rw [Dev.rbAdvance, if_pos ⟨(d.bit_eq_true_iff _ rfl).2 hauto, hoff⟩]
  exact d.fget_rbUpdate_RD i _ (Nat.mod_lt _ (by decide))

theorem Dev.rbAdvance_stays {d : Dev} {i : Nat} (off len : Nat) (hauto : d.fget (IC_RB_CFG.AUTORD i) = 0) : d.rbAdvance i off len = d :=
  if_neg fun h => by
    have hon := (d.bit_eq_true_iff _ rfl).1 h.1
    omega

theorem resultBufferRead_effect {ic : IcId} {off : Fin 0x80000} {len : Nat} {s : State} (hon : s.dev.domOn (192 + ic.val) = true)
    (hin : off.val + len ≤ 0x80000) : completes (.resultBufferRead ic off len) s fun t =>
      t.dev.rdata = s.dev.rdBytes (resultBase ic.val + off.val) len ∧
      (s.dev.fget (IC_RB_CFG.AUTORD ic) = 1 → off.val = 8 * (s.dev.fget (IC_RB_RD.RD ic) % 65536) →
        t.dev.fget (IC_RB_RD.RD ic) = (s.dev.fget (IC_RB_RD.RD ic) + min (len / 8) (s.dev.rbUnread ic)) % 131072) ∧
      (s.dev.fget (IC_RB_CFG.AUTORD ic) = 0 → regsSame s t []) ∧
      devOnly s t ∧ memSame s t ∧ t.dev.ics = s.dev.ics ∧ regsSameEv s t [IC_RB_RD.off ic, IC_STATUS.off ic] := by
  let bs := s.dev.rdBytes (resultBase ic + off) len
  have hexec : exec (.resultBufferRead ic off len) s = .next (s.withDev fun d => (d.rbAdvance ic off len).retBytes bs) := by
    rw [exec_resultBufferRead, execResultBufferRead, State.withDev, if_pos hon, Dev.rbRead_within _ _ hin]
    rfl
  have hmoves := onlyRegsEv_rbAdvance s ic off len
  have hmem := onlyRegsEv_memSame hmoves
  have hics := onlyRegsEv_ics hmoves
  have hregs := onlyRegsEv_regsSameEv hmoves
  refine ⟨_, hexec, rfl, fun hauto hoff => Dev.rbAdvance_moves len hauto hoff, fun hauto o _ => ?_, ⟨rfl, rfl⟩, hmem, hics,
    hregs⟩
  exact congrArg (fun d => (d.retBytes bs).reg o) (Dev.rbAdvance_stays off len hauto)

/-! ### Writes of the buffer and of RD (R217, R219) -/

theorem resultBufferWriteDrop_effect {ic : IcId} (off : Fin 0x80000) (bytes : List Byte) {s : State} (h : icOpen ic s) :
    completes (.resultBufferWriteDrop ic off bytes) s fun t => t = s := by
  refine ⟨s, ?_, rfl⟩
  rw [exec_resultBufferWriteDrop, execResultBufferWriteDrop, State.withDev_eq_self (Dev.domWrite_open h.1 h.2 3 _ id)]

theorem exec_rbRdWrite_open {ic : IcId} {s : State} (h : icOpen ic s) (v : W32) :
    exec (.rbRdWrite ic v) s = .next (s.withDev fun d => d.wrRbRd ic v) := by
  rw [exec_rbRdWrite, execRbRdWrite, State.withDev, Dev.icWrite_open h]
  rfl

theorem rbRdWrite_accepted {ic : IcId} {v : W32} {s : State} (h : icOpen ic s)
    (hv : (s.dev.fget (IC_RB_WR.WR ic) + 131072 - (IC_RB_RD.RD ic).of v) % 131072 ≤ 65536) : completes (.rbRdWrite ic v) s fun t =>
      t.dev.fget (IC_RB_RD.RD ic) = (IC_RB_RD.RD ic).of v ∧ onlyRegsEv s t [IC_RB_RD.off ic, IC_STATUS.off ic] := by
  refine ⟨_, exec_rbRdWrite_open h v, ?_⟩
  rw [State.withDev, Dev.wrRbRd, if_pos hv]
  exact ⟨s.dev.fget_rbUpdate_RD ic _ ((IC_RB_RD.RD ic).of_lt v), onlyRegsEv_fset_rbUpdate s ic (IC_RB_RD.RD ic) _⟩

theorem rbRdWrite_refused {ic : IcId} {v : W32} {s : State} (h : icOpen ic s)
    (hv : 65536 < (s.dev.fget (IC_RB_WR.WR ic) + 131072 - (IC_RB_RD.RD ic).of v) % 131072) : completes (.rbRdWrite ic v) s fun t =>
      t.dev.fget (IC_RB_RD.RD ic) = s.dev.fget (IC_RB_RD.RD ic) ∧ t.dev.fget (IC_ERR.RB_PTR ic) = 1 ∧
      onlyRegsEv s t [IC_ERR.off ic] := by
  have herr := onlyRegsEv_icErr s ic (IC_ERR.RB_PTR ic)
  refine ⟨_, exec_rbRdWrite_open h v, ?_⟩
  rw [State.withDev, Dev.wrRbRd, if_neg (Nat.not_le.2 hv)]
  exact ⟨onlyRegsEv_fget herr (IC_RB_RD.RD ic) (by simp) (IC_RB_RD.off_not_inRill ic), s.dev.fget_icErr ic 9 (by decide), herr⟩

end Sys2Proof.Machine

open Sys2Proof Sys2Proof.Machine Sys2Proof.Safety

/-- Settles O31: the front window or result of a demodulator moves on when it is due, and the pointers of the result buffer move with
the records written and read. -/
theorem windowsAndResults : Obligations.WindowsAndResults :=
  ⟨fun _ _ _ _ _ => windowOpen_effect, fun _ _ _ _ _ => windowEnd_effect, fun _ _ _ _ _ => resultEmit_effect,
    fun _ _ _ _ => resultBufferRead_effect, fun _ off bytes _ => resultBufferWriteDrop_effect off bytes,
    fun _ _ _ => rbRdWrite_accepted, fun _ _ _ => rbRdWrite_refused⟩
end

section
/-! SUPPORT. Link ports: what a command of a port leaves alone, the registers of a port, its state, and what a port that stops has lost
(R300, R326). -/
namespace Sys2Proof.Machine

open Sys2Proof.Safety

/-! ### What a command of a port leaves alone -/

/-- The device without its registers and what a command of a link port touches beside them: the event network, the ports' run-time state
and the message queues. -/
def noLinks (d : Dev) : Dev := { noEvents d with links := [], decq := [], sieveq := [], trigq := [] }

/-- `e` differs from `d` at most in the state of port `p`, the message queues, the event network and the registers listed. -/
structure portOnly (p : Nat) (but : List Nat) (d e : Dev) : Prop where
  rest : noLinks e = noLinks d
  links : ∀ q, q ≠ p → e.link q = d.link q
  regs : ∀ o, o ∉ but → ¬ inRill o → e.reg o = d.reg o

theorem portOnly_refl (p : Nat) (but : List Nat) (d : Dev) : portOnly p but d d := ⟨rfl, fun _ _ => rfl, fun _ _ _ => rfl⟩

theorem Dev.link_setLink_same (d : Dev) (p : Nat) (x : LinkSt) : (d.setLink p x).link p = x := tget_tset_same _ _ _ _

theorem Dev.link_setLink_ne (d : Dev) {p q : Nat} (x : LinkSt) (h : q ≠ p) : (d.setLink p x).link q = d.link q := tget_tset_ne _ _ _ _ h

theorem Dev.link_fset (d : Dev) (f : Fld) (v q : Nat) : (d.fset f v).link q = d.link q := rfl

theorem Dev.fget_setLink (d : Dev) (p : Nat) (x : LinkSt) (f : Fld) : (d.setLink p x).fget f = d.fget f := rfl

theorem Dev.fget_linkFlush (d : Dev) (p : Nat) (f : Fld) : (d.linkFlush p).fget f = d.fget f := rfl

/-- The message queues of a port of the device. -/
def Dev.portQueues (d : Dev) (p : Nat) : List (BitVec 96) × List (BitVec 64) × List (BitVec 64) :=
  (tget [] d.decq p, tget [] d.sieveq p, tget [] d.trigq p)

theorem Dev.portQueues_linkFlush (d : Dev) (p : Nat) : (d.linkFlush p).portQueues p = ([], [], []) := by
  simp [Dev.portQueues, Dev.linkFlush]

theorem Dev.portQueues_setLink (d : Dev) (p q : Nat) (x : LinkSt) : (d.setLink p x).portQueues q = d.portQueues q := rfl

theorem Dev.portQueues_fset (d : Dev) (q v : Nat) (f : Fld) : (d.fset f v).portQueues q = d.portQueues q := rfl

theorem eventsOnly_link {d e : Dev} (h : eventsOnly d e) (q : Nat) : e.link q = d.link q :=
  eventsOnly_part (Dev.link · q) (fun _ => rfl) h

section
variable {p : Nat} {but : List Nat} {d e f : Dev} (h : portOnly p but d e)
include h

theorem portOnly.trans (k : portOnly p but e f) : portOnly p but d f :=
  ⟨k.rest.trans h.rest, fun q hq => (k.links q hq).trans (h.links q hq), fun o ho hr => (k.regs o ho hr).trans (h.regs o ho hr)⟩

theorem portOnly.mono {more : List Nat} (hsub : but ⊆ more) : portOnly p more d e :=
  ⟨h.rest, h.links, fun o ho => h.regs o fun hb => ho (hsub hb)⟩

theorem portOnly.fset (g : Fld) (v : Nat) (hg : g.off ∈ but) : portOnly p but d (e.fset g v) :=
  h.trans ⟨rfl, fun _ _ => rfl, fun _ ho _ => e.reg_fset_ne g v fun ho' => ho (ho' ▸ hg)⟩

theorem portOnly.setLink (x : LinkSt) : portOnly p but d (e.setLink p x) :=
  h.trans ⟨rfl, fun _ hq => e.link_setLink_ne x hq, fun _ _ _ => rfl⟩

theorem portOnly.events (k : eventsOnly e f) : portOnly p but d f :=
  h.trans ⟨eventsOnly_part noLinks (fun _ => rfl) k, fun q _ => eventsOnly_link k q, fun o _ => k.2 o⟩

theorem portOnly.lnkErr (g : Fld) (hg : g.off ∈ but) : portOnly p but d (e.lnkErr p g) :=
  have hflag : portOnly p but e (e.flag g) := ⟨rfl, fun _ _ => rfl, fun _ ho _ => e.reg_flag_ne g fun ho' => ho (ho' ▸ hg)⟩
  (h.trans hflag).events (eventsOnly_raise _ _)

theorem portOnly.setPortState (st : Nat) (hs : LNK_P_STAT.off p ∈ but) : portOnly p but d (e.setPortState p st) := by
  rw [Dev.setPortState]
  split
  · exact h
  · exact (h.fset _ st hs).events (eventsOnly_raise _ _)

theorem portOnly.fget (g : Fld) (hg : g.off ∉ but) (hr : ¬ inRill g.off) : e.fget g = d.fget g := by
  rw [Dev.fget, h.regs _ hg hr, Dev.fget]

/-- A part of the device that a port's command does not reach is as before. -/
theorem portOnly.part {β : Type} (g : Dev → β) (hg : ∀ d, g (noLinks d) = g d) : g e = g d := by rw [← hg e, h.rest, hg d]

theorem portOnly.linkFlush : portOnly p but d (e.linkFlush p) := h.trans ⟨rfl, fun _ _ => rfl, fun _ _ _ => rfl⟩

end

/-! ### Registers of a port -/

/-- A field written reads as its value, cut to the field. -/
theorem Dev.fget_fset_same (d : Dev) (off v : Nat) {hi lo : Nat} (h : hi < 32) :
    (d.fset ⟨off, hi, lo⟩ v).fget ⟨off, hi, lo⟩ = v % 2 ^ (hi + 1 - lo) := d.fget_fset _ v h

/-- A field keeps its value when one beside it in the same register is written. -/
theorem Dev.fget_fset_apart (d : Dev) (off v : Nat) {hi lo hi' lo' : Nat} (hb : hi' < 32) (h : hi < lo' ∨ hi' < lo) :
    (d.fset ⟨off, hi, lo⟩ v).fget ⟨off, hi', lo'⟩ = d.fget ⟨off, hi', lo'⟩ := d.fget_fset_bits _ _ v rfl hb h

/-- The status registers of a port's lanes. -/
def laneRegs (p : Nat) : List Nat := (List.range 4).map (LNK_PL_STAT.off p)

theorem laneReg_mem {p q : Nat} (hq : q ∈ List.range 4) : LNK_PL_STAT.off p q ∈ laneRegs p := List.mem_map_of_mem hq

theorem laneRegs_subset (p : Nat) : laneRegs p ⊆ portRegs p := fun _ h => List.mem_cons_of_mem _ (List.mem_cons_of_mem _ h)

/-- The status register and those of the lanes, which a port that stops loses. -/
theorem statRegs_subset (p : Nat) : LNK_P_STAT.off p :: laneRegs p ⊆ portRegs p := List.subset_cons_self _ _

theorem not_mem_laneRegs {p o : Nat} (h : o < 0xa0140 + 0x100 * p) : o ∉ laneRegs p := fun hm => by
  obtain ⟨q, -, rfl⟩ := List.mem_map.1 hm
  exact absurd h (show ¬ 0xa0140 + 0x100 * p + 0x10 * q < 0xa0140 + 0x100 * p by omega)

theorem LNK_P_STAT.off_not_inRill (p : Nat) : ¬ inRill (LNK_P_STAT.off p) :=
  not_inRill_of_ge (show 0x50000 ≤ 0xa0104 + 0x100 * p by omega)

theorem LNK_P_CTL.off_not_inRill (p : Nat) : ¬ inRill (LNK_P_CTL.off p) :=
  not_inRill_of_ge (show 0x50000 ≤ 0xa0100 + 0x100 * p by omega)

theorem LNK_P_ERR.off_not_inRill (p : Nat) : ¬ inRill (LNK_P_ERR.off p) :=
  not_inRill_of_ge (show 0x50000 ≤ 0xa0108 + 0x100 * p by omega)

theorem LNK_P_MAP.off_not_inRill (p : Nat) : ¬ inRill (LNK_P_MAP.off p) :=
  not_inRill_of_ge (show 0x50000 ≤ 0xa0118 + 0x100 * p by omega)

theorem LNK_PL_STAT.off_not_inRill (p q : Nat) : ¬ inRill (LNK_PL_STAT.off p q) :=
  not_inRill_of_ge (show 0x50000 ≤ 0xa0140 + 0x100 * p + 0x10 * q by omega)

theorem LNK_PL_STAT.off_ne_LNK_P_STAT (p q : Nat) : LNK_PL_STAT.off p q ≠ LNK_P_STAT.off p :=
  show 0xa0140 + 0x100 * p + 0x10 * q ≠ 0xa0104 + 0x100 * p by omega

theorem LNK_PL_STAT.off_ne_LNK_P_ERR (p q : Nat) : LNK_PL_STAT.off p q ≠ LNK_P_ERR.off p :=
  show 0xa0140 + 0x100 * p + 0x10 * q ≠ 0xa0108 + 0x100 * p by omega

theorem LNK_PL_STAT.off_ne_LNK_P_MAP (p q : Nat) : LNK_PL_STAT.off p q ≠ LNK_P_MAP.off p :=
  show 0xa0140 + 0x100 * p + 0x10 * q ≠ 0xa0118 + 0x100 * p by omega

theorem LNK_PL_STAT.off_ne {p q x : Nat} (h : q ≠ x) : LNK_PL_STAT.off p q ≠ LNK_PL_STAT.off p x :=
  show 0xa0140 + 0x100 * p + 0x10 * q ≠ 0xa0140 + 0x100 * p + 0x10 * x by omega

/-! ### Port states (R300) -/

/-- A part of the device that neither registers nor events reach is as before. -/
theorem Dev.setPortState_part {β : Type} (g : Dev → β) (hg : ∀ d, g (noEvents d) = g d) (d : Dev) (p st : Nat) :
    g (d.setPortState p st) = g d := by
  rw [Dev.setPortState]
  split
  · rfl
  · exact (eventsOnly_part g hg (eventsOnly_raise _ _)).trans ((hg _).symm.trans (hg d))

theorem Dev.link_setPortState (d : Dev) (p st q : Nat) : (d.setPortState p st).link q = d.link q :=
  Dev.setPortState_part (Dev.link · q) (fun _ => rfl) d p st

theorem Dev.portState_setPortState (d : Dev) (p : Nat) {st : Nat} (h : st < 8) : (d.setPortState p st).portState p = st := by
  rw [Dev.setPortState]
  split
  case isTrue heq => exact heq
  case isFalse =>
    rw [Dev.portState, Dev.fget_raise _ _ _ (LNK_P_STAT.off_not_inRill p), Dev.fget_fset _ _ _ (by simp)]
    exact Nat.mod_eq_of_lt h

/-- The fields of the status register below STATE. -/
theorem Dev.fget_setPortState_stat (d : Dev) (p st : Nat) {f : Fld} (ho : f.off = LNK_P_STAT.off p) (hf : f.hi < 29) :
    (d.setPortState p st).fget f = d.fget f := by
  rw [Dev.setPortState]
  split
  · rfl
  · rw [Dev.fget_raise _ _ _ (ho ▸ LNK_P_STAT.off_not_inRill p)]
    exact d.fget_fset_bits _ f st ho (by omega) (.inr hf)

theorem Dev.fget_setPortState_ne (d : Dev) (p st : Nat) {f : Fld} (ho : f.off ≠ LNK_P_STAT.off p) (hr : ¬ inRill f.off) :
    (d.setPortState p st).fget f = d.fget f :=
  ((portOnly_refl p [LNK_P_STAT.off p] d).setPortState st (List.mem_singleton_self _)).fget f (by simpa using ho) hr

/-! ### A port stops (R300, R326) -/

/-- A lane of a stopped port has lost lock and alignment. -/
def Dev.laneStop (d : Dev) (p q : Nat) : Dev :=
  ((d.fset (LNK_PL_STAT.LOCK p q) 0).fset (LNK_PL_STAT.ALIGNED p q) 0).fset (LNK_PL_STAT.CHK_LOCK p q) 0

theorem portOnly.laneStop {p : Nat} {but : List Nat} {d e : Dev} (h : portOnly p but d e) {q : Nat} (hq : LNK_PL_STAT.off p q ∈ but) :
    portOnly p but d (e.laneStop p q) := ((h.fset _ 0 hq).fset _ 0 hq).fset _ 0 hq

theorem Dev.fget_laneStop_ALIGNED (d : Dev) (p q : Nat) : (d.laneStop p q).fget (LNK_PL_STAT.ALIGNED p q) = 0 := by
  simp [Dev.laneStop, Dev.fget_fset_apart, Dev.fget_fset_same]

/-- A fold over a list reaches what the step of one entry sets and every other step keeps. -/
theorem foldl_reaches {α β : Type} {step : α → β → α} {I P : α → Prop} {q : β} {l : List β} (hI : ∀ d y, I d → I (step d y))
    (hset : ∀ d, I d → P (step d q)) (hkeep : ∀ d y, I d → P d → P (step d y)) (hq : q ∈ l) {d : α} (h : I d) :
    P (l.foldl step d) := by
  obtain ⟨l1, l2, rfl⟩ := List.append_of_mem hq
  rw [List.foldl_append, List.foldl_cons]
  have hbefore : I (l1.foldl step d) := List.foldlRecOn l1 step h fun d hd y _ => hI d y hd
  have hafter : I (step (l1.foldl step d) q) ∧ P (step (l1.foldl step d) q) := ⟨hI _ q hbefore, hset _ hbefore⟩
  exact (List.foldlRecOn (motive := fun d => I d ∧ P d) l2 step hafter fun d hd y _ => ⟨hI d y hd.1, hkeep d y hd.1 hd.2⟩).2

/-- Every lane of a port stopped. -/
def Dev.lanesStop (d : Dev) (p : Nat) : Dev := (List.range 4).foldl (fun d q => d.laneStop p q) d

/-- A port's lanes stopped and its queues emptied, its state not yet changed. -/
def Dev.linkHalt (d : Dev) (p : Nat) : Dev :=
  (((d.lanesStop p).linkFlush p).setLink p { trainTk := (d.lanesStop p).tk }).fset (LNK_P_STAT.WLANES p) 0

section
variable (d : Dev) (p : Nat)

theorem Dev.linkStop_eq (st : Nat) : d.linkStop p st = (d.linkHalt p).setPortState p st := by
  simp only [Dev.linkStop, Dev.linkHalt, Dev.lanesStop, Dev.laneStop]

theorem portOnly_lanesStop : portOnly p (laneRegs p) d (d.lanesStop p) :=
  List.foldlRecOn _ _ (portOnly_refl p _ d) fun _ h _ hq => h.laneStop (laneReg_mem hq)

theorem portOnly_linkHalt : portOnly p (LNK_P_STAT.off p :: laneRegs p) d (d.linkHalt p) := by
  have hlanes := (portOnly_lanesStop d p).mono (List.subset_cons_self (LNK_P_STAT.off p) _)
  exact (hlanes.linkFlush.setLink _).fset (LNK_P_STAT.WLANES p) 0 List.mem_cons_self

theorem portOnly_linkStop (st : Nat) : portOnly p (LNK_P_STAT.off p :: laneRegs p) d (d.linkStop p st) :=
  d.linkStop_eq p st ▸ (portOnly_linkHalt d p).setPortState st List.mem_cons_self

theorem Dev.portState_linkStop {st : Nat} (h : st < 8) : (d.linkStop p st).portState p = st :=
  d.linkStop_eq p st ▸ Dev.portState_setPortState _ p h

theorem Dev.link_linkStop (st : Nat) : (d.linkStop p st).link p = { trainTk := d.tk } := by
  have htk : (d.lanesStop p).tk = d.tk := (portOnly_lanesStop d p).part Dev.tk fun _ => rfl
  rw [Dev.linkStop_eq, Dev.link_setPortState, Dev.linkHalt, Dev.link_fset, Dev.link_setLink_same, htk]

theorem Dev.fget_linkStop_WLANES (st : Nat) : (d.linkStop p st).fget (LNK_P_STAT.WLANES p) = 0 := by
  rw [Dev.linkStop_eq, Dev.fget_setPortState_stat _ p st rfl (by simp), Dev.linkHalt, Dev.fget_fset_same _ _ _ (by simp), Nat.zero_mod]

theorem Dev.fget_lanesStop_ALIGNED {q : Nat} (hq : q < 4) : (d.lanesStop p).fget (LNK_PL_STAT.ALIGNED p q) = 0 := by
  have hset (d : Dev) := d.fget_laneStop_ALIGNED p q
  refine foldl_reaches (I := fun _ => True) (P := fun d : Dev => d.fget (LNK_PL_STAT.ALIGNED p q) = 0) (fun _ _ _ => trivial)
    (fun d _ => hset d) (fun d y _ h => ?_) (List.mem_range.2 hq) trivial
  by_cases hy : y = q
  · exact hy ▸ hset d
  · have hlane := (portOnly_refl p [LNK_PL_STAT.off p y] d).laneStop (List.mem_singleton_self _)
    exact (hlane.fget _ (fun hm => LNK_PL_STAT.off_ne (Ne.symm hy) (List.mem_singleton.1 hm)) (LNK_PL_STAT.off_not_inRill p q)).trans h

theorem Dev.fget_linkStop_ALIGNED (st : Nat) {q : Nat} (hq : q < 4) : (d.linkStop p st).fget (LNK_PL_STAT.ALIGNED p q) = 0 := by
  have hoff := LNK_PL_STAT.off_ne_LNK_P_STAT p q
  rw [Dev.linkStop_eq, Dev.fget_setPortState_ne _ p st hoff (LNK_PL_STAT.off_not_inRill p q), Dev.linkHalt,
    Dev.fget_fset_off _ _ _ _ hoff, Dev.fget_setLink, Dev.fget_linkFlush, Dev.fget_lanesStop_ALIGNED d p hq]

/-- The message queues of a stopped port are empty (R326). -/
theorem Dev.portQueues_linkStop (st : Nat) : (d.linkStop p st).portQueues p = ([], [], []) := by
  rw [Dev.linkStop_eq, Dev.setPortState_part (Dev.portQueues · p) (fun _ => rfl), Dev.linkHalt, Dev.portQueues_fset,
    Dev.portQueues_setLink, Dev.portQueues_linkFlush]

end
end Sys2Proof.Machine
end

section
/-! SUPPORT. Writes of LNK_Pp_CTL (R300, R514): when a port starts and stops, and what its soft reset clears. -/
namespace Sys2Proof.Machine

open Sys2Proof.Safety

/-! ### Commands of a port -/

/-- A command that turns the device into `e`. -/
theorem completes_of_dev {c : Instr} {s : State} {f : Dev → Dev} {e : Dev} {P : State → Prop} (hexec : exec c s = .next (s.withDev f))
    (hdev : f s.dev = e) (h : P (s.withDev fun _ => e)) : completes c s P := ⟨_, hexec, by rwa [State.withDev, hdev]⟩

theorem portOnly.linkFrame {p : Nat} {but : List Nat} {s : State} {e : Dev} (h : portOnly p but s.dev e) :
    linkFrame p s (s.withDev fun _ => e) but :=
  ⟨⟨rfl, rfl⟩, Dev.rd8_congr (h.part Dev.mem fun _ => rfl), h.part Dev.ocs fun _ => rfl, h.part Dev.ics fun _ => rfl, h.links, h.regs⟩

theorem Dev.linkRuns_congr {d e : Dev} (h : e.reg GLB_MODE.off = d.reg GLB_MODE.off) : e.linkRuns = d.linkRuns := by
  have hmode : e.mode = d.mode := by rw [Dev.mode, Dev.fget, h]; rfl
  rw [Dev.linkRuns, hmode, Dev.linkRuns]

theorem Dev.linkRuns_linkStop (d : Dev) (p st : Nat) : (d.linkStop p st).linkRuns = d.linkRuns := by
  refine Dev.linkRuns_congr ((portOnly_linkStop d p st).regs _ ?_ (not_inRill_of_lt (by decide)))
  rw [List.mem_cons, not_or]
  exact ⟨show 0x40 ≠ 0xa0104 + 0x100 * p by omega, not_mem_laneRegs (show 0x40 < 0xa0140 + 0x100 * p by omega)⟩

theorem Dev.linkRuns_fset_STATE (d : Dev) (p st : Nat) : (d.fset (LNK_P_STAT.STATE p) st).linkRuns = d.linkRuns :=
  Dev.linkRuns_congr (d.reg_fset_ne _ _ (show 0x40 ≠ 0xa0104 + 0x100 * p by omega))

theorem Dev.fget_linkStop_EN (d : Dev) (p st : Nat) : (d.linkStop p st).fget (LNK_P_CTL.EN p) = d.fget (LNK_P_CTL.EN p) :=
  (portOnly_linkStop d p st).fget _ (by simp [not_mem_laneRegs]) (LNK_P_CTL.off_not_inRill p)

section
variable {d : Dev} {p : Nat} (hrun : d.linkRuns = true)
include hrun

theorem Dev.portApply_start (hen : d.fget (LNK_P_CTL.EN p) = 1) (hst : d.portState p = portOff ∨ d.portState p = portTest) :
    d.portApply p = d.linkStop p portTrain := by
  have hbit := (d.bit_eq_true_iff (LNK_P_CTL.EN p) rfl).2 hen
  simp [Dev.portApply, hrun, hbit, hst]

theorem Dev.portApply_trains (hen : d.fget (LNK_P_CTL.EN p) = 1) (hst : d.portState p = portTrain) : d.portApply p = d := by
  have hbit := (d.bit_eq_true_iff (LNK_P_CTL.EN p) rfl).2 hen
  simp [Dev.portApply, hrun, hbit, hst, portTrain, portOff, portTest]

theorem Dev.portApply_end (hen : d.fget (LNK_P_CTL.EN p) = 0)
    (hpat : ∀ q, q < 4 → d.fget (LNK_PL_PAT.GEN p q) = 0 ∧ d.fget (LNK_PL_PAT.CHK p q) = 0) (hst : d.portState p ≠ portOff) :
    d.portApply p = d.linkStop p portOff := by
  have hnone : (List.range 4).any (fun q => patOn (d.fget (LNK_PL_PAT.GEN p q)) || patOn (d.fget (LNK_PL_PAT.CHK p q))) = false := by
    rw [List.any_eq_false]
    intro q hq
    obtain ⟨hgen, hchk⟩ := hpat q (List.mem_range.1 hq)
    rw [hgen, hchk]
    decide
  have hst0 : d.portState p ≠ 0 := hst
  simp [Dev.portApply, hrun, Dev.bit, hen, hnone, hst0, portTrain, portOff]

end

/-! ### Registers of a port under their access codes and reset classes -/

theorem regRow_LNK_P_CTL :
    ∀ p : Fin 6, regRow? (LNK_P_CTL.off p) = some ⟨0xa0100, [(6, 0x100)], .b, 0x5, 0xc0000000, 0xf, 0, 0x20000000⟩ := by
  decide +kernel

theorem regRow_LNK_P_ERR : ∀ p : Fin 6, regRow? (LNK_P_ERR.off p) = some ⟨0xa0108, [(6, 0x100)], .e, 0, 0, 0, 0x1ff, 0⟩ := by
  decide +kernel

theorem regRow_LNK_P_CNT0 : ∀ p : Fin 6, regRow? (LNK_P_CNT0.off p) = some ⟨0xa010c, [(6, 0x100)], .e, 0, 0xffffffff, 0, 0, 0⟩ := by
  decide +kernel

theorem regRow_LNK_P_CNT1 : ∀ p : Fin 6, regRow? (LNK_P_CNT1.off p) = some ⟨0xa0110, [(6, 0x100)], .e, 0, 0xffffffff, 0, 0, 0⟩ := by
  decide +kernel

theorem Dev.fget_writeCodes_EN (d : Dev) (p : Fin 6) (v : W32) :
    (d.writeCodes (LNK_P_CTL.off p) v).fget (LNK_P_CTL.EN p) = (LNK_P_CTL.EN p).of v :=
  d.fget_writeCodes_rw (LNK_P_CTL.EN p) v false (regRow_LNK_P_CTL p) (by simp only [Fld.mask]; decide)
    (by simp only [Fld.mask]; decide) (by simp)

/-- Of the device a write of a register changes the registers alone. -/
theorem Dev.writeCodes_part {β : Type} (g : Dev → β) (hg : ∀ (d : Dev) rs, g { d with regs := rs } = g d) (d : Dev) (off : Nat)
    (v : W32) (o : Bool) : g (d.writeCodes off v o) = g d := by
  have hdev : d.writeCodes off v o = { d with regs := (d.writeCodes off v o).regs } :=
    congrArg State.dev (onlyRegs_writeCodes { dev := d } off v o).1
  rw [hdev, hg]

theorem portOnly_writeCodes (d : Dev) (p : Nat) (v : W32) : portOnly p [LNK_P_CTL.off p] d (d.writeCodes (LNK_P_CTL.off p) v) where
  rest := Dev.writeCodes_part noLinks (fun _ _ => rfl) d _ v false
  links q _ := Dev.writeCodes_part (Dev.link · q) (fun _ _ => rfl) d _ v false
  regs _ ho _ := d.reg_writeCodes_ne v false fun h => ho (List.mem_singleton.2 h)

/-- The rest of a port's status and the mode survive a write of its control register. -/
theorem Dev.writeCodes_keeps (d : Dev) (p : Nat) (v : W32) {f : Fld} (h : f.off ≠ LNK_P_CTL.off p) :
    (d.writeCodes (LNK_P_CTL.off p) v).fget f = d.fget f := by
  rw [Dev.fget, Dev.reg_writeCodes_ne _ _ _ h, Dev.fget]

theorem Dev.linkRuns_writeCodes (d : Dev) (p : Nat) (v : W32) : (d.writeCodes (LNK_P_CTL.off p) v).linkRuns = d.linkRuns :=
  Dev.linkRuns_congr (d.reg_writeCodes_ne v false (show 0x40 ≠ 0xa0100 + 0x100 * p by omega))

/-! ### Enabling and disabling (R300) -/

/-- A write of the control register and then a stop. -/
theorem portOnly_ctlStop (d : Dev) (p : Nat) (v : W32) (st : Nat) :
    portOnly p (portRegs p) d ((d.writeCodes (LNK_P_CTL.off p) v).linkStop p st) :=
  ((portOnly_writeCodes d p v).mono (by simp [portRegs])).trans ((portOnly_linkStop _ p st).mono (statRegs_subset p))

theorem LNK_PL_PAT.off_ne_LNK_P_CTL (p q : Nat) : LNK_PL_PAT.off p q ≠ LNK_P_CTL.off p :=
  show 0xa0144 + 0x100 * p + 0x10 * q ≠ 0xa0100 + 0x100 * p by omega

theorem portEnable_starts {p : PortId} {v : W32} {s : State} (hrun : s.dev.linkRuns = true) (hen : (LNK_P_CTL.EN p).of v = 1)
    (hrst : (LNK_P_CTL.SRST p).of v = 0) (hst : s.dev.portState p = portOff ∨ s.dev.portState p = portTest) :
    completes (.portEnable p v) s fun t =>
      t.dev.portState p = portTrain ∧ t.dev.fget (LNK_P_CTL.EN p) = 1 ∧ t.dev.link p = { trainTk := s.dev.tk } ∧
      (∀ q, q < 4 → t.dev.fget (LNK_PL_STAT.ALIGNED p q) = 0) ∧ linkFrame p s t (portRegs p) := by
  let w := s.dev.writeCodes (LNK_P_CTL.off p) v
  have hwEn : w.fget (LNK_P_CTL.EN p) = 1 := (s.dev.fget_writeCodes_EN p v).trans hen
  have hwSt : w.portState p = s.dev.portState p := s.dev.writeCodes_keeps p v (by simp)
  have hwRun : w.linkRuns = true := (s.dev.linkRuns_writeCodes p v).trans hrun
  have hdev : s.dev.wrLnkCtl p v = w.linkStop p portTrain := by
    rw [Dev.wrLnkCtl, if_neg (by omega), Dev.portApply_start hwRun hwEn (hwSt ▸ hst)]
  have hwTk : w.tk = s.dev.tk := (portOnly_writeCodes s.dev p v).part Dev.tk fun _ => rfl
  exact completes_of_dev (exec_portEnable s p v) hdev
    ⟨w.portState_linkStop p (by decide), (w.fget_linkStop_EN p portTrain).trans hwEn, hwTk ▸ w.link_linkStop p portTrain,
      fun q hq => w.fget_linkStop_ALIGNED p portTrain hq, (portOnly_ctlStop s.dev p v portTrain).linkFrame⟩

theorem portEnable_stops {p : PortId} {v : W32} {s : State} (hrun : s.dev.linkRuns = true) (hen : (LNK_P_CTL.EN p).of v = 0)
    (hrst : (LNK_P_CTL.SRST p).of v = 0)
    (hpat : ∀ q, q < 4 → s.dev.fget (LNK_PL_PAT.GEN p q) = 0 ∧ s.dev.fget (LNK_PL_PAT.CHK p q) = 0)
    (hst : s.dev.portState p ≠ portOff) :
    completes (.portEnable p v) s fun t =>
      t.dev.portState p = portOff ∧ t.dev.fget (LNK_P_STAT.WLANES p) = 0 ∧ tget [] t.dev.decq p = [] ∧
      tget [] t.dev.sieveq p = [] ∧ tget [] t.dev.trigq p = [] ∧ linkFrame p s t (portRegs p) := by
  let w := s.dev.writeCodes (LNK_P_CTL.off p) v
  have hwEn : w.fget (LNK_P_CTL.EN p) = 0 := (s.dev.fget_writeCodes_EN p v).trans hen
  have hwSt : w.portState p = s.dev.portState p := s.dev.writeCodes_keeps p v (by simp)
  have hwRun : w.linkRuns = true := (s.dev.linkRuns_writeCodes p v).trans hrun
  have hwPat : ∀ q, q < 4 → w.fget (LNK_PL_PAT.GEN p q) = 0 ∧ w.fget (LNK_PL_PAT.CHK p q) = 0 := by
    intro q hq
    have hoff := LNK_PL_PAT.off_ne_LNK_P_CTL p q
    rw [s.dev.writeCodes_keeps p v (f := LNK_PL_PAT.GEN p q) hoff, s.dev.writeCodes_keeps p v (f := LNK_PL_PAT.CHK p q) hoff]
    exact hpat q hq
  have hdev : s.dev.wrLnkCtl p v = w.linkStop p portOff := by
    rw [Dev.wrLnkCtl, if_neg (by omega), Dev.portApply_end hwRun hwEn hwPat (hwSt ▸ hst)]
  have hqueues := w.portQueues_linkStop p portOff
  simp only [Dev.portQueues, Prod.mk.injEq] at hqueues
  obtain ⟨hdec, hsieve, htrig⟩ := hqueues
  exact completes_of_dev (exec_portEnable s p v) hdev
    ⟨w.portState_linkStop p (by decide), w.fget_linkStop_WLANES p portOff, hdec, hsieve, htrig,
      (portOnly_ctlStop s.dev p v portOff).linkFrame⟩

/-! ### Soft reset (R514) -/

theorem Dev.reg_resetRegs_in (d : Dev) {lo hi o : Nat} {cls : RClass → Bool} {r : RegRow} (hlo : lo ≤ o) (hhi : o < hi)
    (hr : regRow? o = some r) (hc : cls r.cls = true) : (d.resetRegs lo hi cls).reg o = regReset o :=
  tget_filter_out _ _ _ fun _ => by simp [hlo, hhi, hr, hc]

theorem Dev.reg_resetRegs_class (d : Dev) (lo hi : Nat) {o : Nat} {cls : RClass → Bool} {r : RegRow} (hr : regRow? o = some r)
    (hc : cls r.cls = false) : (d.resetRegs lo hi cls).reg o = d.reg o :=
  tget_filter_ne _ _ _ fun _ => by simp [hr, hc]

theorem Dev.reg_resetRegs_below (d : Dev) {lo o : Nat} (hi : Nat) (cls : RClass → Bool) (h : o < lo) :
    (d.resetRegs lo hi cls).reg o = d.reg o :=
  tget_filter_ne _ _ _ fun _ => by simp [Nat.not_le.2 h]

/-- A port whose control register has been written and whose class E registers have returned to default. -/
def Dev.portReset (d : Dev) (p : Nat) (v : W32) : Dev :=
  (d.writeCodes (LNK_P_CTL.off p) v).resetRegs (LNK_P_CTL.off p) (LNK_P_CTL.off p + 0x100) (· == .e)

/-- The same with the state as it was. -/
def Dev.portCleared (d : Dev) (p : Nat) (v : W32) : Dev :=
  (d.portReset p v).fset (LNK_P_STAT.STATE p) ((d.writeCodes (LNK_P_CTL.off p) v).portState p)

section
variable (d : Dev) (p : Fin 6) (v : W32)

/-- Of the device the write and the reset change registers alone. -/
theorem Dev.portCleared_part {β : Type} (g : Dev → β) (hg : ∀ (d : Dev) rs, g { d with regs := rs } = g d) :
    g (d.portCleared p v) = g d := (hg (d.writeCodes (LNK_P_CTL.off p) v) _).trans (Dev.writeCodes_part g hg d _ v false)

theorem Dev.reg_portCleared {o : Nat} {r : RegRow} (hlo : LNK_P_CTL.off p ≤ o) (hhi : o < LNK_P_CTL.off p + 0x100)
    (hr : regRow? o = some r) (hc : r.cls = .e) (ho : o ≠ LNK_P_STAT.off p) : (d.portCleared p v).reg o = regReset o := by
  rw [Dev.portCleared, Dev.reg_fset_ne _ _ _ ho, Dev.portReset, Dev.reg_resetRegs_in _ hlo hhi hr (by rw [hc]; rfl)]

theorem Dev.fget_portReset_EN : (d.portReset p v).fget (LNK_P_CTL.EN p) = (LNK_P_CTL.EN p).of v := by
  rw [Dev.portReset, Dev.fget, Dev.reg_resetRegs_class _ _ _ (regRow_LNK_P_CTL p) rfl]
  exact d.fget_writeCodes_EN p v

theorem Dev.linkRuns_portReset : (d.portReset p v).linkRuns = d.linkRuns := by
  have hlow : GLB_MODE.off < LNK_P_CTL.off p := show 0x40 < 0xa0100 + 0x100 * p.val by omega
  refine Dev.linkRuns_congr ?_
  rw [Dev.portReset, Dev.reg_resetRegs_below _ _ _ hlow, Dev.reg_writeCodes_ne _ _ _ (Nat.ne_of_lt hlow)]

/-- R514: a soft reset clears the port's class E registers and has an enabled port train anew. -/
theorem Dev.wrLnkCtl_reset (hrun : d.linkRuns = true) (hen : (LNK_P_CTL.EN p).of v = 1) (hrst : (LNK_P_CTL.SRST p).of v = 1) :
    d.wrLnkCtl p v = (d.portCleared p v).linkStop p portTrain := by
  have hrEn := (d.fget_portReset_EN p v).trans hen
  have hrBit : (d.portReset p v).bit (LNK_P_CTL.EN p) = true := ((d.portReset p v).bit_eq_true_iff _ rfl).2 hrEn
  have hrRun := (d.linkRuns_portReset p v).trans hrun
  have htEn : ((d.portCleared p v).linkStop p portTrain).fget (LNK_P_CTL.EN p) = 1 := by
    rw [Dev.fget_linkStop_EN, Dev.portCleared, Dev.fget_fset_off _ _ _ _ (by simp), hrEn]
  have htRun : ((d.portCleared p v).linkStop p portTrain).linkRuns = true := by
    rw [Dev.linkRuns_linkStop, Dev.portCleared, Dev.linkRuns_fset_STATE, hrRun]
  have hdev : d.wrLnkCtl p v = ((d.portCleared p v).linkStop p portTrain).portApply p := by
    simp only [Dev.wrLnkCtl, if_pos hrst, Dev.portCleared]
    simp only [Dev.portReset] at hrRun hrBit ⊢
    rw [hrRun, hrBit, Bool.and_true, if_pos rfl]
  rw [hdev, Dev.portApply_trains htRun htEn (Dev.portState_linkStop _ p (by decide))]

end

/-- A class E register of the port between its status and its lanes, of reset value 0, is 0 after a soft reset. -/
theorem Dev.reg_softReset (d : Dev) (p : Fin 6) (v : W32) {o : Nat} {r : RegRow} (hlo : LNK_P_STAT.off p < o)
    (hhi : o < 0xa0140 + 0x100 * p.val) (hr : regRow? o = some r) (hc : r.cls = .e) (h0 : r.reset = 0) :
    ((d.portCleared p v).linkStop p portTrain).reg o = 0 := by
  have hctl : LNK_P_CTL.off p < LNK_P_STAT.off p := show 0xa0100 + 0x100 * p.val < 0xa0104 + 0x100 * p.val by omega
  have hend : 0xa0140 + 0x100 * p.val < LNK_P_CTL.off p + 0x100 := show _ < 0xa0100 + 0x100 * p.val + 0x100 by omega
  have hin : o ∉ LNK_P_STAT.off p :: laneRegs p := by simp [Nat.ne_of_gt hlo, not_mem_laneRegs hhi]
  have hrill : ¬ inRill o := not_inRill_of_ge (Nat.le_trans (show 0x50000 ≤ 0xa0104 + 0x100 * p.val by omega) (Nat.le_of_lt hlo))
  rw [(portOnly_linkStop (d.portCleared p v) p portTrain).regs o hin hrill,
    d.reg_portCleared p v (by omega) (by omega) hr hc (by omega), regReset, hr]
  simp [h0]

theorem portSoftReset_trains {p : PortId} {v : W32} {s : State} (hrun : s.dev.linkRuns = true) (hen : (LNK_P_CTL.EN p).of v = 1)
    (hrst : (LNK_P_CTL.SRST p).of v = 1) : completes (.portSoftReset p v) s fun t =>
      t.dev.portState p = portTrain ∧ t.dev.link p = { trainTk := s.dev.tk } ∧ t.dev.reg (LNK_P_ERR.off p) = 0 ∧
      t.dev.reg (LNK_P_CNT0.off p) = 0 ∧ t.dev.reg (LNK_P_CNT1.off p) = 0 ∧ devOnly s t ∧ memSame s t ∧ t.dev.ocs = s.dev.ocs := by
  let c := s.dev.portCleared p v
  have hstop := portOnly_linkStop c p portTrain
  have htk : c.tk = s.dev.tk := s.dev.portCleared_part p v Dev.tk fun _ _ => rfl
  have hmem : c.mem = s.dev.mem := s.dev.portCleared_part p v Dev.mem fun _ _ => rfl
  have hocs : c.ocs = s.dev.ocs := s.dev.portCleared_part p v Dev.ocs fun _ _ => rfl
  exact completes_of_dev (exec_portSoftReset s p v) (s.dev.wrLnkCtl_reset p v hrun hen hrst)
    ⟨c.portState_linkStop p (by decide), htk ▸ c.link_linkStop p portTrain,
      s.dev.reg_softReset p v (by simp) (by simp) (regRow_LNK_P_ERR p) rfl rfl,
      s.dev.reg_softReset p v (by simp) (by simp) (regRow_LNK_P_CNT0 p) rfl rfl,
      s.dev.reg_softReset p v (by simp) (by simp) (regRow_LNK_P_CNT1 p) rfl rfl,
      ⟨rfl, rfl⟩, Dev.rd8_congr ((hstop.part Dev.mem fun _ => rfl).trans hmem), (hstop.part Dev.ocs fun _ => rfl).trans hocs⟩

end Sys2Proof.Machine
end

section
/-! SUPPORT. Training of a port (R303 to R306): what a port knows of its lanes, when it comes up, and the fields that a flagged error
leaves. -/
namespace Sys2Proof.Machine

open Sys2Proof.Safety

/-! ### Lanes of a port (R302, R303) -/

theorem Dev.rxLane_setRx_same (d : Dev) (p q : Nat) (x : RxLane) : (d.setRx p q x).rxLane p q = x := by
  rw [Dev.rxLane, Dev.setRx, Dev.link_setLink_same]
  exact tget_tset_same _ _ _ _

theorem Dev.rxLane_setRx_ne (d : Dev) (p : Nat) {q y : Nat} (x : RxLane) (h : y ≠ q) : (d.setRx p q x).rxLane p y = d.rxLane p y := by
  rw [Dev.rxLane, Dev.setRx, Dev.link_setLink_same]
  exact tget_tset_ne _ _ _ _ h

theorem Dev.fget_setRx (d : Dev) (p q : Nat) (x : RxLane) (f : Fld) : (d.setRx p q x).fget f = d.fget f := rfl

theorem portOnly.setRx {p : Nat} {but : List Nat} {d e : Dev} (h : portOnly p but d e) (q : Nat) (x : RxLane) :
    portOnly p but d (e.setRx p q x) := h.setLink _

/-- Two devices agree on what port `p` knows of its lanes: what each has received, which are aligned, and their logical numbers. -/
structure sameLanes (p : Nat) (d e : Dev) : Prop where
  rx : (e.link p).rx = (d.link p).rx
  aligned : ∀ q, e.fget (LNK_PL_STAT.ALIGNED p q) = d.fget (LNK_PL_STAT.ALIGNED p q)
  map : e.fget (LNK_P_MAP.MAP p) = d.fget (LNK_P_MAP.MAP p)

section
variable {p : Nat} {d e : Dev}

/-- Commands that leave the lanes' registers alone. -/
theorem sameLanes_of_portOnly (h : portOnly p [LNK_P_STAT.off p, LNK_P_ERR.off p] d e) (hrx : (e.link p).rx = (d.link p).rx) :
    sameLanes p d e where
  rx := hrx
  aligned q := h.fget _ (by simp [LNK_PL_STAT.off_ne_LNK_P_STAT, LNK_PL_STAT.off_ne_LNK_P_ERR]) (LNK_PL_STAT.off_not_inRill p q)
  map := h.fget _ (by simp) (LNK_P_MAP.off_not_inRill p)

variable (h : sameLanes p d e)
include h

theorem sameLanes.rxLane (q : Nat) : e.rxLane p q = d.rxLane p q := by rw [Dev.rxLane, h.rx, Dev.rxLane]

theorem sameLanes.bit (q : Nat) : e.bit (LNK_PL_STAT.ALIGNED p q) = d.bit (LNK_PL_STAT.ALIGNED p q) := by
  rw [Dev.bit, h.aligned, Dev.bit]

theorem sameLanes.laneLogical (q : Nat) : e.laneLogical p q = d.laneLogical p q := by rw [Dev.laneLogical, h.map, Dev.laneLogical]

theorem sameLanes.alignedMask : e.alignedMask p = d.alignedMask p := by
  simp only [Dev.alignedMask, h.laneLogical, h.bit]

theorem sameLanes.skewSlots : e.skewSlots p = d.skewSlots p := by simp only [Dev.skewSlots, h.bit, h.rxLane]

theorem sameLanes.skewOk : e.skewOk p = d.skewOk p := by rw [Dev.skewOk, h.skewSlots, Dev.skewOk]

end

/-! ### Coming up (R304) -/

section
variable (d : Dev) (p : Nat)

/-- What lets a port in TRAIN enter UP4: four lanes aligned here and there, a peer that is another device, and a small skew. -/
def Dev.up4Ready : Prop :=
  d.alignedMask p = 15 ∧ (d.link p).peerOk = 15 ∧ (d.link p).peerSelf = false ∧ d.skewOk p = true

/-- The mode in which a port comes up: PROTECTED when both ends allow it (R306). -/
def Dev.upMode : Bool := d.linkAllow p && (d.link p).peerProt

/-- The run-time state of a port that comes up on the lanes `tx`. -/
def Dev.linkUpSt (tx : Nat) : LinkSt :=
  { d.link p with txLanes := tx, cred2 := 32, cred3 := 256, told := d.linkAllow p, ackTk := d.tk, upWait := true,
                  txMode := d.upMode p, rxMode := d.upMode p }

/-- A port that comes up, its state not yet changed. -/
def Dev.linkReady (tx rx : Nat) : Dev :=
  ((d.setLink p (d.linkUpSt p tx)).fset (LNK_P_STAT.WLANES p) rx).fset (LNK_P_STAT.MODE p) (d.upMode p).toNat

variable (tx rx st : Nat)

theorem Dev.linkUp_eq : d.linkUp p tx rx st = (d.linkReady p tx rx).setPortState p st := rfl

theorem portOnly_linkUp : portOnly p [LNK_P_STAT.off p] d (d.linkUp p tx rx st) := by
  have hstat : LNK_P_STAT.off p ∈ [LNK_P_STAT.off p] := List.mem_singleton_self _
  rw [Dev.linkUp_eq, Dev.linkReady]
  exact ((((portOnly_refl p _ d).setLink _).fset _ rx hstat).fset _ _ hstat).setPortState st hstat

theorem Dev.link_linkUp : (d.linkUp p tx rx st).link p = d.linkUpSt p tx := by
  rw [Dev.linkUp_eq, Dev.link_setPortState, Dev.linkReady, Dev.link_fset, Dev.link_fset, Dev.link_setLink_same]

theorem Dev.fget_linkUp_WLANES : (d.linkUp p tx rx st).fget (LNK_P_STAT.WLANES p) = rx % 16 := by
  rw [Dev.linkUp_eq, Dev.fget_setPortState_stat _ p st rfl (by simp), Dev.linkReady, Dev.fget_fset_apart _ _ _ (by simp) (by simp)]
  exact Dev.fget_fset_same _ _ rx (by simp)

theorem Dev.fget_linkUp_MODE : (d.linkUp p tx rx st).fget (LNK_P_STAT.MODE p) = (d.upMode p).toNat := by
  rw [Dev.linkUp_eq, Dev.fget_setPortState_stat _ p st rfl (by simp), Dev.linkReady, Dev.fget_fset_same _ _ _ (by simp)]
  cases d.upMode p <;> rfl

/-- The fields of the status register below WLANES. -/
theorem Dev.fget_linkUp_low {hi lo : Nat} (h : hi < 24) :
    (d.linkUp p tx rx st).fget ⟨LNK_P_STAT.off p, hi, lo⟩ = d.fget ⟨LNK_P_STAT.off p, hi, lo⟩ := by
  rw [Dev.linkUp_eq, Dev.fget_setPortState_stat _ p st rfl (by simp; omega), Dev.linkReady,
    Dev.fget_fset_apart _ _ _ (by omega) (by omega), Dev.fget_fset_apart _ _ _ (by omega) (by omega), Dev.fget_setLink]

theorem sameLanes_linkUp : sameLanes p d (d.linkUp p tx rx st) :=
  sameLanes_of_portOnly ((portOnly_linkUp d p tx rx st).mono (by simp)) (by rw [Dev.link_linkUp, Dev.linkUpSt])

end

section
variable {d : Dev} {p : Nat}

theorem Dev.tryUp4_ready (ht : d.portState p = portTrain) (h : d.up4Ready p) : d.tryUp4 p = d.linkUp p 15 15 portUp4 := by
  obtain ⟨hmask, hok, hself, hskew⟩ := h
  simp [Dev.tryUp4, ht, hmask, hok, hself, hskew]

theorem Dev.tryUp4_idle (h : ¬ d.up4Ready p) : d.tryUp4 p = d := by
  rw [Dev.tryUp4, if_neg]
  rintro ⟨-, hmask, hok, hself, hskew⟩
  exact h ⟨hmask, hok, by simpa using hself, hskew⟩

theorem Dev.tryUp4_up (ht : d.portState p ≠ portTrain) : d.tryUp4 p = d := if_neg fun h => ht h.1

/-- Everything that an attempt to come up can do. -/
theorem Dev.tryUp4_cases (d : Dev) (p : Nat) :
    d.tryUp4 p = d ∨ (d.portState p = portTrain ∧ d.up4Ready p ∧ d.tryUp4 p = d.linkUp p 15 15 portUp4) := by
  by_cases ht : d.portState p = portTrain
  · by_cases h : d.up4Ready p
    · exact .inr ⟨ht, h, Dev.tryUp4_ready ht h⟩
    · exact .inl (Dev.tryUp4_idle h)
  · exact .inl (Dev.tryUp4_up ht)

theorem portState_tryUp4_iff (ht : d.portState p = portTrain) : (d.tryUp4 p).portState p = portUp4 ↔ d.up4Ready p := by
  by_cases h : d.up4Ready p
  · rw [Dev.tryUp4_ready ht h]
    exact iff_of_true (Dev.portState_setPortState _ p (by decide)) h
  · rw [Dev.tryUp4_idle h, ht]
    exact iff_of_false (by decide) h

theorem portOnly.tryUp4 {but : List Nat} {b : Dev} (h : portOnly p but b d) (hs : LNK_P_STAT.off p ∈ but) :
    portOnly p but b (d.tryUp4 p) := by
  rcases d.tryUp4_cases p with heq | ⟨-, -, heq⟩ <;> rw [heq]
  · exact h
  · exact h.trans ((portOnly_linkUp d p 15 15 portUp4).mono (by simpa using hs))

theorem sameLanes_tryUp4 (d : Dev) (p : Nat) : sameLanes p d (d.tryUp4 p) := by
  rcases d.tryUp4_cases p with heq | ⟨-, -, heq⟩ <;> rw [heq]
  · exact ⟨rfl, fun _ => rfl, rfl⟩
  · exact sameLanes_linkUp d p 15 15 portUp4

/-- What is known of the peer. -/
theorem Dev.peer_tryUp4 (d : Dev) (p : Nat) :
    ((d.tryUp4 p).link p).peerOk = (d.link p).peerOk ∧ ((d.tryUp4 p).link p).peerSelf = (d.link p).peerSelf := by
  rcases d.tryUp4_cases p with heq | ⟨-, -, heq⟩ <;> rw [heq]
  · exact ⟨rfl, rfl⟩
  · rw [Dev.link_linkUp]
    exact ⟨rfl, rfl⟩

theorem Dev.fget_tryUp4_low (d : Dev) (p : Nat) {hi lo : Nat} (h : hi < 24) :
    (d.tryUp4 p).fget ⟨LNK_P_STAT.off p, hi, lo⟩ = d.fget ⟨LNK_P_STAT.off p, hi, lo⟩ := by
  rcases d.tryUp4_cases p with heq | ⟨-, -, heq⟩ <;> rw [heq]
  exact d.fget_linkUp_low p 15 15 portUp4 h

end

/-! ### Errors of a port -/

theorem Dev.fget_lnkErr_same (d : Dev) (p b : Nat) (hb : b < 32) :
    (d.lnkErr p ⟨LNK_P_ERR.off p, b, b⟩).fget ⟨LNK_P_ERR.off p, b, b⟩ = 1 :=
  (Dev.fget_raise _ _ _ (LNK_P_ERR.off_not_inRill p)).trans (d.fget_flag_bit _ rfl hb)

theorem Dev.fget_lnkErr_ne (d : Dev) (p : Nat) {f g : Fld} (h : g.off ≠ f.off) (hr : ¬ inRill g.off) :
    (d.lnkErr p f).fget g = d.fget g :=
  ((portOnly_refl p [f.off] d).lnkErr f (List.mem_singleton_self _)).fget g (by simpa using h) hr

theorem Dev.link_lnkErr (d : Dev) (p : Nat) (f : Fld) (q : Nat) : (d.lnkErr p f).link q = d.link q :=
  eventsOnly_link (eventsOnly_raise (d.flag f) _) q

end Sys2Proof.Machine
end

section
/-! SUPPORT. The end of the time in TRAIN and TRAIN blocks (R304, R305). -/
namespace Sys2Proof.Machine

open Sys2Proof.Safety

/-! ### 800,000 tk in TRAIN (R304) -/

/-- What lets a port come up in UP3 at the end of its time in TRAIN. -/
def Dev.up3Ready (d : Dev) (p : Nat) : Prop :=
  3 ≤ lanes4 (d.alignedMask p) ∧ 3 ≤ lanes4 (d.link p).peerOk ∧ (d.link p).peerSelf = false ∧ d.skewOk p = true

/-- A failed training is counted and flagged. -/
def Dev.trainFail (d : Dev) (p : Nat) : Dev := (d.satAdd (LNK_P_CNT1.RETRAINS p) 1).lnkErr p (LNK_P_ERR.TRAIN_TO p)

section
variable {d : Dev} {p : Nat} (ht : d.portState p = portTrain) (hdue : (d.link p).trainTk + 800000 ≤ d.tk)
include ht hdue

theorem Dev.trainTimeout_up (h : d.up3Ready p) : d.trainTimeout p = d.linkUp p (d.link p).peerOk (d.alignedMask p) portUp3 := by
  obtain ⟨hmask, hok, hself, hskew⟩ := h
  simp [Dev.trainTimeout, ht, hdue, hmask, hok, hself, hskew]

theorem Dev.trainTimeout_fail (h : ¬ d.up3Ready p) : d.trainTimeout p = (d.trainFail p).linkStop p portTrain := by
  rw [Dev.trainTimeout, if_pos ⟨ht, hdue⟩, if_neg, Dev.trainFail]
  rintro ⟨hmask, hok, hself, hskew⟩
  exact h ⟨hmask, hok, by simpa using hself, hskew⟩

end

theorem portOnly_trainFail (d : Dev) (p : Nat) : portOnly p [LNK_P_ERR.off p, LNK_P_CNT1.off p] d (d.trainFail p) :=
  ((portOnly_refl p _ d).fset (LNK_P_CNT1.RETRAINS p) _ (by simp)).lnkErr (LNK_P_ERR.TRAIN_TO p) (by simp)

theorem portOnly_trainTimeout {d : Dev} {p : Nat} (ht : d.portState p = portTrain) (hdue : (d.link p).trainTk + 800000 ≤ d.tk) :
    portOnly p (LNK_P_ERR.off p :: LNK_P_CNT1.off p :: portRegs p) d (d.trainTimeout p) := by
  by_cases h : d.up3Ready p
  · rw [Dev.trainTimeout_up ht hdue h]
    exact (portOnly_linkUp d p _ _ portUp3).mono (by simp [portRegs])
  · rw [Dev.trainTimeout_fail ht hdue h]
    have hstop := (portOnly_linkStop (d.trainFail p) p portTrain).mono (statRegs_subset p)
    exact ((portOnly_trainFail d p).mono (by simp)).trans
      (hstop.mono fun _ ho => List.mem_cons_of_mem _ (List.mem_cons_of_mem _ ho))

theorem trainTimeout_effect {p : PortId} {s : State} (ht : s.dev.portState p = portTrain)
    (hdue : (s.dev.link p).trainTk + 800000 ≤ s.dev.tk) : completes (.trainTimeout p) s fun t =>
      let ok := 3 ≤ lanes4 (s.dev.alignedMask p) ∧ 3 ≤ lanes4 (s.dev.link p).peerOk ∧ (s.dev.link p).peerSelf = false ∧
        s.dev.skewOk p = true
      (ok → t.dev.portState p = portUp3 ∧ t.dev.fget (LNK_P_STAT.WLANES p) = s.dev.alignedMask p % 16 ∧
        (t.dev.link p).txLanes = (s.dev.link p).peerOk ∧ (t.dev.link p).cred2 = 32 ∧ (t.dev.link p).cred3 = 256 ∧
        (t.dev.link p).txMode = (s.dev.linkAllow p && (s.dev.link p).peerProt) ∧
        t.dev.fget (LNK_P_STAT.MODE p) = (s.dev.linkAllow p && (s.dev.link p).peerProt).toNat) ∧
      (¬ ok → t.dev.portState p = portTrain ∧ t.dev.fget (LNK_P_ERR.TRAIN_TO p) = 1 ∧ t.dev.link p = { trainTk := s.dev.tk }) ∧
      linkFrame p s t (LNK_P_ERR.off p :: LNK_P_CNT1.off p :: portRegs p) := by
  refine completes_of_dev (exec_trainTimeout s p) rfl ⟨fun h => ?_, fun h => ?_, (portOnly_trainTimeout ht hdue).linkFrame⟩
  · rw [State.withDev, Dev.trainTimeout_up ht hdue h]
    have hlink := s.dev.link_linkUp p (s.dev.link p).peerOk (s.dev.alignedMask p) portUp3
    exact ⟨Dev.portState_setPortState _ p (by decide), s.dev.fget_linkUp_WLANES p _ _ portUp3, congrArg LinkSt.txLanes hlink,
      congrArg LinkSt.cred2 hlink, congrArg LinkSt.cred3 hlink, congrArg LinkSt.txMode hlink, s.dev.fget_linkUp_MODE p _ _ portUp3⟩
  · rw [State.withDev, Dev.trainTimeout_fail ht hdue h]
    have htk : (s.dev.trainFail p).tk = s.dev.tk := (portOnly_trainFail s.dev p).part Dev.tk fun _ => rfl
    have hflag : (s.dev.trainFail p).fget (LNK_P_ERR.TRAIN_TO p) = 1 := Dev.fget_lnkErr_same _ p 8 (by decide)
    exact ⟨Dev.portState_linkStop _ p (by decide),
      ((portOnly_linkStop _ p portTrain).fget _ (by simp [not_mem_laneRegs]) (LNK_P_ERR.off_not_inRill p)).trans hflag,
      htk ▸ (s.dev.trainFail p).link_linkStop p portTrain⟩

/-! ### TRAIN blocks (R304, R305) -/

/-- A port's run-time state with what a TRAIN block says of the peer. -/
def Dev.peerSt (d : Dev) (p : Nat) (x : BitVec 64) (self : Bool) : LinkSt :=
  { d.link p with peerOk := bits x.toNat 53 50, peerProt := bitAt x.toNat 49 && !bitAt x.toNat 48, peerSelf := self }

/-- A port that has noted what a TRAIN block says of the peer. -/
def Dev.peerNote (d : Dev) (p : Nat) (x : BitVec 64) (self : Bool) : Dev :=
  ((d.fset (LNK_P_STAT.PEER_NODE p) (bits x.toNat 44 29)).fset (LNK_P_STAT.PEER_PORT p) (bits x.toNat 47 45)).setLink p
    (d.peerSt p x self)

section
variable (d : Dev) (p : Nat) (x : BitVec 64) (self : Bool)

theorem portOnly_peerNote : portOnly p [LNK_P_STAT.off p] d (d.peerNote p x self) := by
  have hstat : LNK_P_STAT.off p ∈ [LNK_P_STAT.off p] := List.mem_singleton_self _
  rw [Dev.peerNote]
  exact (((portOnly_refl p _ d).fset _ _ hstat).fset _ _ hstat).setLink _

theorem Dev.link_peerNote : (d.peerNote p x self).link p = d.peerSt p x self :=
  Dev.link_setLink_same _ p _

theorem Dev.portState_peerNote : (d.peerNote p x self).portState p = d.portState p := by
  rw [Dev.portState, Dev.peerNote, Dev.fget_setLink, Dev.fget_fset_apart _ _ _ (by simp) (by simp),
    Dev.fget_fset_apart _ _ _ (by simp) (by simp), Dev.portState]

theorem Dev.fget_peerNote_NODE : (d.peerNote p x self).fget (LNK_P_STAT.PEER_NODE p) = bits x.toNat 44 29 := by
  rw [Dev.peerNote, Dev.fget_setLink, Dev.fget_fset_apart _ _ _ (by simp) (by simp), Dev.fget_fset_same _ _ _ (by simp)]
  exact Nat.mod_mod _ _

theorem Dev.fget_peerNote_PORT : (d.peerNote p x self).fget (LNK_P_STAT.PEER_PORT p) = bits x.toNat 47 45 := by
  rw [Dev.peerNote, Dev.fget_setLink, Dev.fget_fset_same _ _ _ (by simp)]
  exact Nat.mod_mod _ _

theorem sameLanes_peerNote : sameLanes p d (d.peerNote p x self) :=
  sameLanes_of_portOnly ((portOnly_peerNote d p x self).mono (by simp)) (by rw [Dev.link_peerNote, Dev.peerSt])

end

section
variable {d : Dev} {p : Nat} {x : BitVec 64} (ht : d.portState p = portTrain) (hop : bits x.toNat 63 56 = 0x1E)
include ht hop

theorem Dev.rxTrain_other (hnode : bits x.toNat 44 29 ≠ d.fget LNK_NODE.NODE) :
    d.rxTrain p x = (d.peerNote p x false).tryUp4 p := by
  have hself : (bits x.toNat 44 29 == d.fget LNK_NODE.NODE) = false := beq_false_of_ne hnode
  simp only [Dev.rxTrain, hop, ht, hself, Dev.peerNote, Dev.peerSt]
  rfl

/-- A port connected to its own device stays in TRAIN (R305). -/
theorem Dev.rxTrain_self (hnode : bits x.toNat 44 29 = d.fget LNK_NODE.NODE) :
    d.rxTrain p x = (d.peerNote p x true).lnkErr p (LNK_P_ERR.PEER_SELF p) := by
  have hself : (bits x.toNat 44 29 == d.fget LNK_NODE.NODE) = true := beq_iff_eq.2 hnode
  have hidle : ¬ ((d.peerNote p x true).lnkErr p (LNK_P_ERR.PEER_SELF p)).up4Ready p := by
    rintro ⟨-, -, hpeer, -⟩
    rw [Dev.link_lnkErr, Dev.link_peerNote] at hpeer
    cases hpeer
  rw [← Dev.tryUp4_idle hidle]
  simp only [Dev.rxTrain, hop, ht, hself, Dev.peerNote, Dev.peerSt]
  rfl

end

theorem rxTrainBlock_other {p : PortId} {x : BitVec 64} {s : State} (ht : s.dev.portState p = portTrain)
    (hop : bits x.toNat 63 56 = 0x1E) (hnode : bits x.toNat 44 29 ≠ s.dev.fget LNK_NODE.NODE) :
    completes (.rxTrainBlock p x) s fun t =>
      t.dev.fget (LNK_P_STAT.PEER_NODE p) = bits x.toNat 44 29 ∧ t.dev.fget (LNK_P_STAT.PEER_PORT p) = bits x.toNat 47 45 ∧
      (t.dev.link p).peerOk = bits x.toNat 53 50 ∧ (t.dev.link p).peerSelf = false ∧
      (t.dev.portState p = portUp4 ↔
        s.dev.alignedMask p = 15 ∧ bits x.toNat 53 50 = 15 ∧ s.dev.skewOk p = true) ∧
      linkFrame p s t [LNK_P_STAT.off p] := by
  let n := s.dev.peerNote p x false
  have hlanes : sameLanes p s.dev n := sameLanes_peerNote s.dev p x false
  have hlink := s.dev.link_peerNote p x false
  have hready : n.up4Ready p ↔ s.dev.alignedMask p = 15 ∧ bits x.toNat 53 50 = 15 ∧ s.dev.skewOk p = true := by
    rw [Dev.up4Ready, hlanes.alignedMask, hlanes.skewOk, hlink]
    simp [Dev.peerSt]
  refine completes_of_dev (exec_rxTrainBlock s p x) (Dev.rxTrain_other ht hop hnode) ⟨?_, ?_, ?_, ?_, ?_, ?_⟩
  · exact (n.fget_tryUp4_low p (by decide)).trans (s.dev.fget_peerNote_NODE p x false)
  · exact (n.fget_tryUp4_low p (by decide)).trans (s.dev.fget_peerNote_PORT p x false)
  · exact (n.peer_tryUp4 p).1.trans (congrArg LinkSt.peerOk hlink)
  · exact (n.peer_tryUp4 p).2.trans (congrArg LinkSt.peerSelf hlink)
  · exact (portState_tryUp4_iff ((s.dev.portState_peerNote p x false).trans ht)).trans hready
  · exact ((portOnly_peerNote s.dev p x false).tryUp4 (List.mem_singleton_self _)).linkFrame

theorem rxTrainBlock_self {p : PortId} {x : BitVec 64} {s : State} (ht : s.dev.portState p = portTrain)
    (hop : bits x.toNat 63 56 = 0x1E) (hnode : bits x.toNat 44 29 = s.dev.fget LNK_NODE.NODE) :
    completes (.rxTrainBlock p x) s fun t =>
      t.dev.fget (LNK_P_STAT.PEER_NODE p) = bits x.toNat 44 29 ∧ t.dev.fget (LNK_P_STAT.PEER_PORT p) = bits x.toNat 47 45 ∧
      t.dev.portState p = portTrain ∧ t.dev.fget (LNK_P_ERR.PEER_SELF p) = 1 ∧
      linkFrame p s t [LNK_P_STAT.off p, LNK_P_ERR.off p] := by
  let n := s.dev.peerNote p x true
  have hkeep (f : Fld) (hf : f.off = LNK_P_STAT.off p) : (n.lnkErr p (LNK_P_ERR.PEER_SELF p)).fget f = n.fget f :=
    n.fget_lnkErr_ne p (by simp [hf]) (hf ▸ LNK_P_STAT.off_not_inRill p)
  exact completes_of_dev (exec_rxTrainBlock s p x) (Dev.rxTrain_self ht hop hnode)
    ⟨(hkeep _ rfl).trans (s.dev.fget_peerNote_NODE p x true), (hkeep _ rfl).trans (s.dev.fget_peerNote_PORT p x true),
      (hkeep _ rfl).trans ((s.dev.portState_peerNote p x true).trans ht), n.fget_lnkErr_same p 7 (by decide),
      (((portOnly_peerNote s.dev p x true).mono (by simp)).lnkErr _ (by simp)).linkFrame⟩

end Sys2Proof.Machine
end

section
/-! SUPPORT. Logical lanes (R301, R302): the entries of the lane map, and what a lane whose search has ended changes. -/
namespace Sys2Proof.Machine

open Sys2Proof.Safety

/-! ### The map of logical lanes (R302) -/

/-- A lane map with the entry of one physical lane replaced. -/
def mapWith (m q n : Nat) : Nat := m - bits m (4 * q + 3) (4 * q) * 2 ^ (4 * q) + n * 2 ^ (4 * q)

theorem bits_mapWith {m q n : Nat} (hq : q < 4) (hm : m < 65536) (hn : n < 16) :
    bits (mapWith m q n % 65536) (4 * q + 3) (4 * q) = n := by
  have hcases : q = 0 ∨ q = 1 ∨ q = 2 ∨ q = 3 := by omega
  rcases hcases with rfl | rfl | rfl | rfl
  · show (m - m / 1 % 16 * 1 + n * 1) % 65536 / 1 % 16 = n
    omega
  · show (m - m / 16 % 16 * 16 + n * 16) % 65536 / 16 % 16 = n
    omega
  · show (m - m / 256 % 16 * 256 + n * 256) % 65536 / 256 % 16 = n
    omega
  · show (m - m / 4096 % 16 * 4096 + n * 4096) % 65536 / 4096 % 16 = n
    omega

/-- A bit of an entry of the map. -/
theorem bitAt_entry (v q i : Nat) (hi : i < 4) : bitAt v (4 * q + i) = bitAt (bits v (4 * q + 3) (4 * q)) i := by
  have hw : 4 * q + 3 + 1 - 4 * q = 4 := by omega
  have hsplit : v / 2 ^ (4 * q + i) = v / 2 ^ (4 * q) / 2 ^ i := by rw [Nat.pow_add, Nat.div_div_eq_div_mul]
  have hbit := Nat.testBit_mod_two_pow (v / 2 ^ (4 * q)) 4 i
  rw [decide_eq_true hi, Bool.true_and] at hbit
  simp only [Nat.testBit_eq_decide_div_mod_eq, decide_eq_decide] at hbit
  simp only [bitAt, bits, hw, hsplit]
  rw [Bool.eq_iff_iff, beq_iff_eq, beq_iff_eq]
  exact hbit.symm

/-- The entry of a lane that has read logical number `l`: valid, polarity, number. -/
def laneEntry (l : Nat) (inv : Bool) : Nat := 8 + 4 * inv.toNat + l

theorem laneEntry_lt {l : Nat} (hl : l < 4) (inv : Bool) : laneEntry l inv < 16 := by cases inv <;> simp [laneEntry] <;> omega

theorem bitAt_laneEntry (l : Fin 4) (inv : Bool) :
    bitAt (laneEntry l inv) 3 = true ∧ bitAt (laneEntry l inv) 2 = inv ∧ laneEntry l inv % 4 = l := by
  revert l inv; decide

/-! ### A lane is found (R301, R302) -/

/-- A lane that has read a given ALIGN block: no history yet. -/
def freshLane (x : RxLane) : RxLane := { x with clean := 0, hist := [], lost := false, at_ := none }

/-- A lane with lock, at the slip its search has kept. -/
def Dev.laneLock (d : Dev) (p q : Nat) : Dev := (d.fset (LNK_PL_STAT.LOCK p q) 1).fset (LNK_PL_STAT.SLIP p q) (d.rxLane p q).slip

/-- The lane aligned and named in the map. -/
def Dev.laneName (d : Dev) (p q l : Nat) (inv : Bool) : Dev :=
  (((d.laneLock p q).fset (LNK_P_MAP.MAP p) (mapWith (d.fget (LNK_P_MAP.MAP p)) q (laneEntry l inv))).fset
    (LNK_PL_STAT.ALIGNED p q) 1).setRx p q (freshLane (d.rxLane p q))

/-- Two lanes of a port that read one number, both of which search again. -/
def Dev.lanePair (d : Dev) (p q x : Nat) : Dev :=
  (((d.laneLock p q).fset (LNK_PL_STAT.ALIGNED p x) 0).setRx p x {}).setRx p q {}

section
variable (d : Dev) (p q : Nat)

theorem portOnly_laneLock : portOnly p [LNK_PL_STAT.off p q] d (d.laneLock p q) :=
  have hstat : LNK_PL_STAT.off p q ∈ [LNK_PL_STAT.off p q] := List.mem_singleton_self _
  ((portOnly_refl p _ d).fset (LNK_PL_STAT.LOCK p q) 1 hstat).fset (LNK_PL_STAT.SLIP p q) (d.rxLane p q).slip hstat

theorem Dev.fget_laneLock_ALIGNED : (d.laneLock p q).fget (LNK_PL_STAT.ALIGNED p q) = d.fget (LNK_PL_STAT.ALIGNED p q) := by
  rw [Dev.laneLock, Dev.fget_fset_apart _ _ _ (by simp) (by simp), Dev.fget_fset_apart _ _ _ (by simp) (by simp)]

theorem portOnly_lanePair (x : Nat) : portOnly p [LNK_PL_STAT.off p q, LNK_PL_STAT.off p x] d (d.lanePair p q x) := by
  have hlock := (portOnly_laneLock d p q).mono (more := [LNK_PL_STAT.off p q, LNK_PL_STAT.off p x]) (by simp)
  rw [Dev.lanePair]
  exact ((hlock.fset (LNK_PL_STAT.ALIGNED p x) 0 (by simp)).setRx x _).setRx q _

theorem Dev.fget_lanePair_twin (x : Nat) : (d.lanePair p q x).fget (LNK_PL_STAT.ALIGNED p x) = 0 := by
  rw [Dev.lanePair, Dev.fget_setRx, Dev.fget_setRx, Dev.fget_fset_same _ _ _ (by simp), Nat.zero_mod]

theorem Dev.fget_lanePair_ALIGNED {q x : Nat} (h : x ≠ q) :
    (d.lanePair p q x).fget (LNK_PL_STAT.ALIGNED p q) = d.fget (LNK_PL_STAT.ALIGNED p q) := by
  rw [Dev.lanePair, Dev.fget_setRx, Dev.fget_setRx, Dev.fget_fset_off _ _ _ _ (LNK_PL_STAT.off_ne h.symm), Dev.fget_laneLock_ALIGNED]

variable (l : Nat) (inv : Bool)

theorem portOnly_laneName : portOnly p [LNK_PL_STAT.off p q, LNK_P_MAP.off p] d (d.laneName p q l inv) := by
  have hlock := (portOnly_laneLock d p q).mono (more := [LNK_PL_STAT.off p q, LNK_P_MAP.off p]) (by simp)
  rw [Dev.laneName]
  exact ((hlock.fset (LNK_P_MAP.MAP p) _ (by simp)).fset (LNK_PL_STAT.ALIGNED p q) 1 (by simp)).setRx q _

theorem Dev.rxLane_laneName : (d.laneName p q l inv).rxLane p q = freshLane (d.rxLane p q) := Dev.rxLane_setRx_same _ p q _

theorem Dev.fget_laneName_ALIGNED : (d.laneName p q l inv).fget (LNK_PL_STAT.ALIGNED p q) = 1 := by
  rw [Dev.laneName, Dev.fget_setRx]
  exact Dev.fget_fset_same _ _ 1 (by simp)

/-- LOCK and SLIP stand as the search left them. -/
theorem Dev.fget_laneName_stat {hi lo : Nat} (hb : hi < 32) (h : hi < 30 ∨ 30 < lo) :
    (d.laneName p q l inv).fget ⟨LNK_PL_STAT.off p q, hi, lo⟩ = (d.laneLock p q).fget ⟨LNK_PL_STAT.off p q, hi, lo⟩ := by
  rw [Dev.laneName, Dev.fget_setRx, Dev.fget_fset_apart _ _ _ hb h.symm, Dev.fget_fset_off _ _ _ _ (LNK_PL_STAT.off_ne_LNK_P_MAP p q)]

theorem Dev.fget_laneName_LOCK : (d.laneName p q l inv).fget (LNK_PL_STAT.LOCK p q) = 1 := by
  rw [Dev.fget_laneName_stat d p q l inv (by simp) (by simp), Dev.laneLock, Dev.fget_fset_apart _ _ _ (by simp) (by simp)]
  exact Dev.fget_fset_same _ _ 1 (by simp)

theorem Dev.fget_laneName_SLIP (h : (d.rxLane p q).slip < 64) :
    (d.laneName p q l inv).fget (LNK_PL_STAT.SLIP p q) = (d.rxLane p q).slip := by
  rw [Dev.fget_laneName_stat d p q l inv (by simp) (by simp), Dev.laneLock, Dev.fget_fset_same _ _ _ (by simp)]
  exact Nat.mod_eq_of_lt h

theorem Dev.bits_laneName_MAP (hq : q < 4) (hl : l < 4) :
    bits ((d.laneName p q l inv).fget (LNK_P_MAP.MAP p)) (4 * q + 3) (4 * q) = laneEntry l inv := by
  rw [Dev.laneName, Dev.fget_setRx, Dev.fget_fset_off _ _ _ _ (LNK_PL_STAT.off_ne_LNK_P_MAP p q).symm, Dev.fget_fset_same _ _ _ (by simp)]
  exact bits_mapWith hq (d.fget_lt (LNK_P_MAP.MAP p)) (laneEntry_lt hl inv)

end

theorem Dev.laneLogical_laneName (d : Dev) (p : Nat) (q l : Fin 4) (inv : Bool) :
    (d.laneName p q l inv).laneLogical p q = some l.val := by
  obtain ⟨hvalid, -, hnum⟩ := bitAt_laneEntry l inv
  rw [Dev.laneLogical, d.bits_laneName_MAP p q l inv q.isLt l.isLt]
  simp only [hvalid, hnum, if_true]

/-- The skew is not known while an aligned lane has brought no ALIGN block since (R303). -/
theorem Dev.skewSlots_unmeasured {d : Dev} {p q : Nat} (hq : q < 4) (hal : d.fget (LNK_PL_STAT.ALIGNED p q) = 1)
    (hat : (d.rxLane p q).at_ = none) : d.skewSlots p = none := by
  have hbit : d.bit (LNK_PL_STAT.ALIGNED p q) = true := (d.bit_eq_true_iff _ rfl).2 hal
  rw [Dev.skewSlots]
  refine if_pos (List.length_filterMap_lt_length_iff_exists.2 ⟨q, ?_, hat⟩)
  exact List.mem_filter.2 ⟨List.mem_range.2 hq, hbit⟩

theorem Dev.tryUp4_unmeasured {d : Dev} {p q : Nat} (hq : q < 4) (hal : d.fget (LNK_PL_STAT.ALIGNED p q) = 1)
    (hat : (d.rxLane p q).at_ = none) : d.tryUp4 p = d := by
  refine Dev.tryUp4_idle fun h => ?_
  obtain ⟨-, -, -, hskew⟩ := h
  rw [Dev.skewOk, Dev.skewSlots_unmeasured hq hal hat] at hskew
  cases hskew

/-! ### Lanes that read one number (R302) -/

theorem Dev.rxLane_fset (d : Dev) (p q v : Nat) (f : Fld) : (d.fset f v).rxLane p q = d.rxLane p q := rfl

/-- Whether lane `x` is another aligned lane that has read logical number `l`. -/
def Dev.twinOf (d : Dev) (p q l x : Nat) : Bool := x != q && d.bit (LNK_PL_STAT.ALIGNED p x) && d.laneLogical p x == some l

/-- Another aligned lane that has read logical number `l`. -/
def Dev.laneTwin (d : Dev) (p q l : Nat) : Option Nat :=
  (List.range 4).find? (d.twinOf p q l)

theorem Dev.laneTwin_eq (d : Dev) (p q l : Nat) : d.laneTwin p q l =
    (List.range 4).find? (fun x => x != q && d.bit (LNK_PL_STAT.ALIGNED p x) && d.laneLogical p x == some l) := rfl

theorem Dev.twinOf_iff (d : Dev) (p q l x : Nat) :
    d.twinOf p q l x = true ↔ x ≠ q ∧ d.fget (LNK_PL_STAT.ALIGNED p x) ≠ 0 ∧ d.laneLogical p x = some l := by
  simp [Dev.twinOf, Dev.bit, and_assoc]

theorem Dev.laneTwin_none {d : Dev} {p q l : Nat}
    (h : ∀ x, x < 4 → x ≠ q → d.fget (LNK_PL_STAT.ALIGNED p x) = 0 ∨ d.laneLogical p x ≠ some l) : d.laneTwin p q l = none := by
  rw [Dev.laneTwin, List.find?_eq_none]
  intro x hx htwin
  obtain ⟨hne, hal, hl⟩ := (d.twinOf_iff p q l x).1 htwin
  exact (h x (List.mem_range.1 hx) hne).elim hal fun hl' => hl' hl

theorem Dev.laneTwin_some {d : Dev} {p q l x : Nat} (hx : x < 4) (hne : x ≠ q) (hal : d.fget (LNK_PL_STAT.ALIGNED p x) = 1)
    (hl : d.laneLogical p x = some l)
    (h : ∀ y, y < 4 → y ≠ q → y ≠ x → d.fget (LNK_PL_STAT.ALIGNED p y) = 0 ∨ d.laneLogical p y ≠ some l) :
    d.laneTwin p q l = some x := by
  cases hfind : d.laneTwin p q l with
  | none =>
    refine absurd ((d.twinOf_iff p q l x).2 ⟨hne, by omega, hl⟩) ?_
    exact List.find?_eq_none.1 hfind x (List.mem_range.2 hx)
  | some y =>
    obtain ⟨hyq, hyal, hyl⟩ := (d.twinOf_iff p q l y).1 (List.find?_some (p := d.twinOf p q l) hfind)
    have hy : y < 4 := List.mem_range.1 (List.mem_of_find?_eq_some hfind)
    refine congrArg some (Decidable.byContradiction fun hyx => ?_)
    exact (h y hy hyq hyx).elim hyal fun hyl' => hyl' hyl

/-! ### The end of a search -/

section
variable {d : Dev} {p q l : Nat} {inv : Bool} (hst : d.portState p = portTrain ∨ d.portUp p = true)
  (hal : d.fget (LNK_PL_STAT.ALIGNED p q) = 0) (hfound : (d.rxLane p q).found = some (l, inv))
include hst hal hfound

/-- A command that is due: the lane is not aligned yet, and its search has ended as the command says. -/
theorem Dev.laneAligned_due :
    ¬ ((d.rxLane p q).found ≠ some (l, inv) ∨ (d.portState p ≠ portTrain ∧ !d.portUp p) ∨ d.bit (LNK_PL_STAT.ALIGNED p q)) := by
  rintro (h | ⟨ht, hup⟩ | hbit)
  · exact h hfound
  · rcases hst with h | h
    · exact ht h
    · rw [h] at hup; cases hup
  · simp [Dev.bit, hal] at hbit

theorem Dev.laneAligned_pair {x : Nat} (htwin : d.laneTwin p q l = some x) : d.laneAligned p q (l, inv) = d.lanePair p q x := by
  rw [Dev.laneTwin_eq] at htwin
  rw [Dev.laneAligned, if_neg (Dev.laneAligned_due hst hal hfound)]
  simp only [htwin, Dev.lanePair, Dev.laneLock]

theorem Dev.laneAligned_alone (htwin : d.laneTwin p q l = none) :
    d.laneAligned p q (l, inv) =
      if (d.laneName p q l inv).portState p = portTrain then
        ((d.laneName p q l inv).fset (LNK_P_STAT.WLANES p) ((d.laneName p q l inv).alignedMask p)).tryUp4 p
      else d.laneName p q l inv := by
  rw [Dev.laneTwin_eq] at htwin
  rw [Dev.laneAligned, if_neg (Dev.laneAligned_due hst hal hfound)]
  simp only [htwin, Dev.laneName, Dev.laneLock, mapWith, laneEntry, freshLane, Dev.rxLane_fset]
  rfl

/-- A lane that comes in alone is named; in TRAIN the port shows its lanes, and does not come up before their skew is measured. -/
theorem Dev.laneAligned_named (hq : q < 4) (htwin : d.laneTwin p q l = none) :
    ∃ e, d.laneAligned p q (l, inv) = e ∧ portOnly p [LNK_P_STAT.off p] (d.laneName p q l inv) e ∧
      e.link p = (d.laneName p q l inv).link p ∧ e.portState p = (d.laneName p q l inv).portState p := by
  let n := d.laneName p q l inv
  let w := n.fset (LNK_P_STAT.WLANES p) (n.alignedMask p)
  have hidle : w.tryUp4 p = w := by
    refine Dev.tryUp4_unmeasured hq ?_ ?_
    · exact (n.fget_fset_off _ _ _ (LNK_PL_STAT.off_ne_LNK_P_STAT p q)).trans (d.fget_laneName_ALIGNED p q l inv)
    · exact congrArg RxLane.at_ ((n.rxLane_fset p q _ _).trans (d.rxLane_laneName p q l inv))
  rw [Dev.laneAligned_alone hst hal hfound htwin]
  split
  · exact ⟨w, hidle, (portOnly_refl p _ n).fset _ _ (List.mem_singleton_self _), n.link_fset _ _ p,
      n.fget_fset_apart _ _ (by simp) (by simp)⟩
  · exact ⟨n, rfl, portOnly_refl p _ n, rfl, rfl⟩

end

theorem Dev.portState_laneName (d : Dev) (p q l : Nat) (inv : Bool) : (d.laneName p q l inv).portState p = d.portState p :=
  (portOnly_laneName d p q l inv).fget _ (by simp [(LNK_PL_STAT.off_ne_LNK_P_STAT p q).symm]) (LNK_P_STAT.off_not_inRill p)

section
variable {p : PortId} {lane l : LaneId} {inv : Bool} {slip : Fin 34} {s : State}
  (hst : s.dev.portState p = portTrain ∨ s.dev.portUp p = true) (hal : s.dev.fget (LNK_PL_STAT.ALIGNED p lane) = 0)
  (hfound : (s.dev.rxLane p lane).found = some (l.val, inv)) (hslip : (s.dev.rxLane p lane).slip = slip)
include hst hal hfound hslip

theorem laneAligned_alone_effect
    (hfree : ∀ x, x < 4 → x ≠ lane.val → s.dev.fget (LNK_PL_STAT.ALIGNED p x) = 0 ∨ s.dev.laneLogical p x ≠ some l.val) :
    completes (.laneAligned p lane l inv slip) s fun t =>
      t.dev.fget (LNK_PL_STAT.LOCK p lane) = 1 ∧ t.dev.fget (LNK_PL_STAT.SLIP p lane) = slip ∧
      t.dev.fget (LNK_PL_STAT.ALIGNED p lane) = 1 ∧ t.dev.laneLogical p lane = some l.val ∧
      bitAt (t.dev.fget (LNK_P_MAP.MAP p)) (4 * lane + 2) = inv ∧ (t.dev.rxLane p lane).clean = 0 ∧
      t.dev.portState p = s.dev.portState p ∧
      linkFrame p s t [LNK_PL_STAT.off p lane, LNK_P_MAP.off p, LNK_P_STAT.off p] := by
  let n := s.dev.laneName p lane l inv
  obtain ⟨e, hdev, hone, hlink, hstate⟩ := Dev.laneAligned_named hst hal hfound lane.isLt (Dev.laneTwin_none hfree)
  have hname := portOnly_laneName s.dev p lane l inv
  have hlanes : sameLanes p n e := sameLanes_of_portOnly (hone.mono (by simp)) (by rw [hlink])
  have hstat (f : Fld) (hf : f.off = LNK_PL_STAT.off p lane) : e.fget f = n.fget f :=
    hone.fget f (by simp [hf, LNK_PL_STAT.off_ne_LNK_P_STAT]) (hf ▸ LNK_PL_STAT.off_not_inRill p lane)
  have hinv : bitAt (n.fget (LNK_P_MAP.MAP p)) (4 * lane + 2) = inv := by
    rw [bitAt_entry _ _ _ (by decide), s.dev.bits_laneName_MAP p lane l inv lane.isLt l.isLt]
    exact (bitAt_laneEntry l inv).2.1
  refine completes_of_dev (exec_laneAligned s p lane l inv slip) ((if_pos hslip).trans hdev)
    ⟨?_, ?_, ?_, ?_, hlanes.map ▸ hinv, ?_, hstate.trans (s.dev.portState_laneName p lane l inv), portOnly.linkFrame ?_⟩
  · exact (hstat _ rfl).trans (s.dev.fget_laneName_LOCK p lane l inv)
  · exact (hstat _ rfl).trans ((s.dev.fget_laneName_SLIP p lane l inv (by omega)).trans hslip)
  · exact (hlanes.aligned _).trans (s.dev.fget_laneName_ALIGNED p lane l inv)
  · exact (hlanes.laneLogical _).trans (s.dev.laneLogical_laneName p lane l inv)
  · exact congrArg RxLane.clean ((hlanes.rxLane lane).trans (s.dev.rxLane_laneName p lane l inv))
  · exact (hname.mono (by simp)).trans (hone.mono (by simp))

theorem laneAligned_pair_effect {x : LaneId} (hne : x ≠ lane) (hxal : s.dev.fget (LNK_PL_STAT.ALIGNED p x) = 1)
    (hx : s.dev.laneLogical p x = some l.val)
    (honly : ∀ y, y < 4 → y ≠ lane.val → y ≠ x.val →
      s.dev.fget (LNK_PL_STAT.ALIGNED p y) = 0 ∨ s.dev.laneLogical p y ≠ some l.val) :
    completes (.laneAligned p lane l inv slip) s fun t =>
      t.dev.fget (LNK_PL_STAT.ALIGNED p lane) = 0 ∧ t.dev.fget (LNK_PL_STAT.ALIGNED p x) = 0 ∧ t.dev.rxLane p lane = {} ∧
      t.dev.rxLane p x = {} ∧ t.dev.portState p = s.dev.portState p ∧
      linkFrame p s t [LNK_PL_STAT.off p lane, LNK_PL_STAT.off p x] := by
  have hne' : x.val ≠ lane.val := fun e => hne (Fin.ext e)
  have hpair := Dev.laneAligned_pair hst hal hfound (Dev.laneTwin_some x.isLt hne' hxal hx honly)
  have honly := portOnly_lanePair s.dev p lane x
  refine completes_of_dev (exec_laneAligned s p lane l inv slip) ((if_pos hslip).trans hpair)
    ⟨?_, ?_, Dev.rxLane_setRx_same _ p lane _, ?_, ?_, honly.linkFrame⟩
  · exact (s.dev.fget_lanePair_ALIGNED p hne').trans hal
  · exact s.dev.fget_lanePair_twin p lane x
  · exact (Dev.rxLane_setRx_ne _ p _ hne').trans (Dev.rxLane_setRx_same _ p x _)
  · exact honly.fget _ (by simp [(LNK_PL_STAT.off_ne_LNK_P_STAT _ _).symm]) (LNK_P_STAT.off_not_inRill p)

end
end Sys2Proof.Machine
end

section
/-! SUPPORT. SKEW and deskew (R303, R319), and the pattern checker (R327). -/
namespace Sys2Proof.Machine

open Sys2Proof.Safety

/-! ### SKEW of the lanes (R319) -/

/-- A lane that has brought an ALIGN block shows its skew against instant `t0`. -/
def Dev.skewLane (d : Dev) (p : Nat) (t0 : Int) (q : Nat) : Dev :=
  match (d.rxLane p q).at_ with
  | some t => if d.bit (LNK_PL_STAT.ALIGNED p q) then d.fset (LNK_PL_STAT.SKEW p q) (satInt 16 (t - t0)) else d
  | none => d

/-- Every lane shows its skew. -/
def Dev.skewLanes (d : Dev) (p : Nat) (t0 : Int) : Dev := (List.range 4).foldl (fun d q => d.skewLane p t0 q) d

section
variable {d : Dev} {p : Nat}

theorem Dev.skewShow_hidden (hw : bitAt (d.fget (LNK_P_STAT.WLANES p)) 0 = false) : d.skewShow p = d := by
  rw [Dev.skewShow]
  split
  · rfl
  · split
    · rfl
    · rw [hw]; rfl

theorem Dev.skewShow_shown {z : Nat} {t0 : Int} (hz : d.physLane p 0 = some z) (ht : (d.rxLane p z).at_ = some t0)
    (hw : bitAt (d.fget (LNK_P_STAT.WLANES p)) 0 = true) : d.skewShow p = d.skewLanes p t0 := by
  simp only [Dev.skewShow, hz, ht, hw]
  rfl

/-- Everything that showing the skew can do. -/
theorem Dev.skewShow_cases (d : Dev) (p : Nat) : d.skewShow p = d ∨ ∃ t0, d.skewShow p = d.skewLanes p t0 := by
  cases hw : bitAt (d.fget (LNK_P_STAT.WLANES p)) 0 with
  | false => exact .inl (Dev.skewShow_hidden hw)
  | true =>
    cases hz : d.physLane p 0 with
    | none => left; rw [Dev.skewShow, hz]
    | some z =>
      cases ht : (d.rxLane p z).at_ with
      | none => left; simp only [Dev.skewShow, hz, ht]
      | some t0 => exact .inr ⟨t0, Dev.skewShow_shown hz ht hw⟩

end

/-- `e` differs from `d` at most in the lanes' registers, and there not in ALIGNED. -/
structure skewOnly (p : Nat) (d e : Dev) : Prop where
  port : portOnly p (laneRegs p) d e
  link : e.link p = d.link p
  aligned : ∀ q, e.fget (LNK_PL_STAT.ALIGNED p q) = d.fget (LNK_PL_STAT.ALIGNED p q)

section
variable {p : Nat} {d e : Dev}

theorem skewOnly.sameLanes (h : skewOnly p d e) : sameLanes p d e where
  rx := by rw [h.link]
  aligned := h.aligned
  map := h.port.fget _ (not_mem_laneRegs (show 0xa0118 + 0x100 * p < 0xa0140 + 0x100 * p by omega)) (LNK_P_MAP.off_not_inRill p)

theorem skewOnly.stat (h : skewOnly p d e) {f : Fld} (hf : f.off = LNK_P_STAT.off p) : e.fget f = d.fget f :=
  h.port.fget f (hf ▸ not_mem_laneRegs (show 0xa0104 + 0x100 * p < 0xa0140 + 0x100 * p by omega)) (hf ▸ LNK_P_STAT.off_not_inRill p)

/-- What a lane's step does: it writes the lane's skew, or nothing. -/
theorem Dev.skewLane_cases (d : Dev) (p : Nat) (t0 : Int) (q : Nat) :
    d.skewLane p t0 q = d ∨ ∃ v, d.skewLane p t0 q = d.fset (LNK_PL_STAT.SKEW p q) v := by
  rw [Dev.skewLane]
  split
  · split
    · exact .inr ⟨_, rfl⟩
    · exact .inl rfl
  · exact .inl rfl

theorem Dev.fget_fset_SKEW_ALIGNED (d : Dev) (p q v y : Nat) :
    (d.fset (LNK_PL_STAT.SKEW p q) v).fget (LNK_PL_STAT.ALIGNED p y) = d.fget (LNK_PL_STAT.ALIGNED p y) := by
  by_cases hy : y = q
  · subst hy
    exact d.fget_fset_apart _ v (by simp) (by simp)
  · exact d.fget_fset_off _ _ v (LNK_PL_STAT.off_ne hy)

theorem skewOnly.skewLane (h : skewOnly p d e) (t0 : Int) {q : Nat} (hq : q ∈ List.range 4) : skewOnly p d (e.skewLane p t0 q) := by
  obtain ⟨hone, hlink, hal⟩ := h
  rcases e.skewLane_cases p t0 q with heq | ⟨v, heq⟩ <;> rw [heq]
  · exact ⟨hone, hlink, hal⟩
  · refine ⟨hone.fset _ v (laneReg_mem hq), (e.link_fset _ v p).trans hlink, fun y => ?_⟩
    exact (e.fget_fset_SKEW_ALIGNED p q v y).trans (hal y)

theorem skewOnly_skewLanes (d : Dev) (p : Nat) (t0 : Int) : skewOnly p d (d.skewLanes p t0) :=
  List.foldlRecOn _ _ ⟨portOnly_refl p _ d, rfl, fun _ => rfl⟩ fun _ h _ hq => h.skewLane t0 hq

theorem skewOnly_skewShow (d : Dev) (p : Nat) : skewOnly p d (d.skewShow p) := by
  rcases d.skewShow_cases p with heq | ⟨t0, heq⟩ <;> rw [heq]
  · exact ⟨portOnly_refl p _ d, rfl, fun _ => rfl⟩
  · exact skewOnly_skewLanes d p t0

end

theorem satInt_lt (x : Int) : satInt 16 x < 65536 := by
  simp only [satInt]
  omega

/-- A lane that is aligned and measured shows its skew. -/
theorem Dev.fget_skewLane_SKEW {d : Dev} {p q : Nat} {t0 t : Int} (hal : d.fget (LNK_PL_STAT.ALIGNED p q) = 1)
    (ht : (d.rxLane p q).at_ = some t) : (d.skewLane p t0 q).fget (LNK_PL_STAT.SKEW p q) = satInt 16 (t - t0) := by
  have hbit : d.bit (LNK_PL_STAT.ALIGNED p q) = true := (d.bit_eq_true_iff _ rfl).2 hal
  simp only [Dev.skewLane, ht, hbit, if_true]
  rw [Dev.fget_fset_same _ _ _ (by simp)]
  exact Nat.mod_eq_of_lt (satInt_lt _)

theorem Dev.fget_skewLanes_SKEW {d : Dev} {p q : Nat} {t0 t : Int} (hq : q < 4) (hal : d.fget (LNK_PL_STAT.ALIGNED p q) = 1)
    (ht : (d.rxLane p q).at_ = some t) : (d.skewLanes p t0).fget (LNK_PL_STAT.SKEW p q) = satInt 16 (t - t0) := by
  refine foldl_reaches (I := fun e : Dev => e.fget (LNK_PL_STAT.ALIGNED p q) = 1 ∧ (e.rxLane p q).at_ = some t)
    (P := fun e : Dev => e.fget (LNK_PL_STAT.SKEW p q) = satInt 16 (t - t0)) (fun e y h => ?_)
    (fun e h => Dev.fget_skewLane_SKEW h.1 h.2) (fun e y h hskew => ?_) (List.mem_range.2 hq) ⟨hal, ht⟩
  · rcases e.skewLane_cases p t0 y with heq | ⟨v, heq⟩ <;> rw [heq]
    · exact h
    · exact ⟨(e.fget_fset_SKEW_ALIGNED p y v q).trans h.1, h.2⟩
  · by_cases hy : q = y
    · subst hy
      exact Dev.fget_skewLane_SKEW h.1 h.2
    · rcases e.skewLane_cases p t0 y with heq | ⟨v, heq⟩ <;> rw [heq]
      · exact hskew
      · exact (e.fget_fset_off _ _ v (LNK_PL_STAT.off_ne hy)).trans hskew

/-! ### ALIGN blocks (R303, R319) -/

theorem Dev.link_setRx (d : Dev) (p q : Nat) (x : RxLane) :
    (d.setRx p q x).link p = { d.link p with rx := tset {} (d.link p).rx q x } := d.link_setLink_same p _

/-- A lane has brought an ALIGN block at an instant, and the skew is shown. -/
def Dev.alignNote (d : Dev) (p q : Nat) (instant : BitVec 16) : Dev :=
  (d.setRx p q { d.rxLane p q with at_ := some instant.toInt }).skewShow p

/-- The deskew of a known skew, and what follows from it: an error, or an attempt to come up. -/
def Dev.deskewTo (d : Dev) (p slots : Nat) : Dev :=
  let d := d.fset (LNK_P_STAT.DESKEW p) (min 31 slots)
  if 24 < slots then d.lnkErr p (LNK_P_ERR.SKEW_BIG p) else d.tryUp4 p

/-- The same once the skew is known. -/
def Dev.deskew (d : Dev) (p : Nat) : Dev := (d.skewSlots p).elim d (d.deskewTo p)

theorem Dev.rxAlign_named {d : Dev} {p q : Nat} {x : BitVec 64} (instant : BitVec 16) (hop : bits x.toNat 63 56 = 0x4B)
    (hword : bits x.toNat 31 0 = 0x2D4BB4D2) (hal : d.fget (LNK_PL_STAT.ALIGNED p q) = 1)
    (hl : d.laneLogical p q = some (bits x.toNat 55 54)) : d.rxAlign p q x instant = (d.alignNote p q instant).deskew p := by
  have hbit : d.bit (LNK_PL_STAT.ALIGNED p q) = true := (d.bit_eq_true_iff _ rfl).2 hal
  rw [Dev.rxAlign, if_neg (by simp [hop, hword, hbit]), if_neg (by simp [hl]), Dev.deskew]
  cases h : (d.alignNote p q instant).skewSlots p with
  | none =>
    rw [Dev.alignNote] at h
    simp only [h]
    rfl
  | some slots => 
    rw [Dev.alignNote] at h
    simp only [h]
    rfl

section
variable (d : Dev) (p slots : Nat)

theorem portOnly_deskewTo : portOnly p [LNK_P_STAT.off p, LNK_P_ERR.off p] d (d.deskewTo p slots) := by
  have hset := (portOnly_refl p [LNK_P_STAT.off p, LNK_P_ERR.off p] d).fset (LNK_P_STAT.DESKEW p) (min 31 slots) (by simp)
  rw [Dev.deskewTo]
  split
  · exact hset.lnkErr _ (by simp)
  · exact hset.tryUp4 (by simp)

theorem sameLanes_deskewTo : sameLanes p d (d.deskewTo p slots) := by
  refine sameLanes_of_portOnly (portOnly_deskewTo d p slots) ?_
  rw [Dev.deskewTo]
  split
  · rw [Dev.link_lnkErr, Dev.link_fset]
  · rw [(sameLanes_tryUp4 _ p).rx, Dev.link_fset]

theorem Dev.fget_deskewTo_DESKEW : (d.deskewTo p slots).fget (LNK_P_STAT.DESKEW p) = min 31 slots := by
  have hset : (d.fset (LNK_P_STAT.DESKEW p) (min 31 slots)).fget (LNK_P_STAT.DESKEW p) = min 31 slots :=
    (d.fget_fset_same _ _ (by simp)).trans (Nat.mod_eq_of_lt (show min 31 slots < 32 by omega))
  rw [Dev.deskewTo]
  split
  · exact (Dev.fget_lnkErr_ne _ p (by simp) (LNK_P_STAT.off_not_inRill p)).trans hset
  · exact (Dev.fget_tryUp4_low _ p (by simp)).trans hset

/-- A skew above 24 slots is flagged, and the port stays where it is (R303). -/
theorem Dev.deskewTo_big {slots : Nat} (h : 24 < slots) :
    (d.deskewTo p slots).fget (LNK_P_ERR.SKEW_BIG p) = 1 ∧ (d.deskewTo p slots).portState p = d.portState p := by
  rw [Dev.deskewTo, if_pos h]
  refine ⟨Dev.fget_lnkErr_same _ p 1 (by decide), ?_⟩
  exact (Dev.fget_lnkErr_ne _ p (by simp) (LNK_P_STAT.off_not_inRill p)).trans (d.fget_fset_apart _ _ (by simp) (by simp))

/-- A known skew of at most 24 slots was what a port with four good lanes waited for (R304). -/
theorem Dev.deskewTo_up {d : Dev} {p slots : Nat} (hskew : d.skewSlots p = some slots) (h : slots ≤ 24)
    (ht : d.portState p = portTrain) (hmask : d.alignedMask p = 15) (hok : (d.link p).peerOk = 15)
    (hself : (d.link p).peerSelf = false) : (d.deskewTo p slots).portState p = portUp4 := by
  let w := d.fset (LNK_P_STAT.DESKEW p) (min 31 slots)
  have hlanes : sameLanes p d w :=
    sameLanes_of_portOnly ((portOnly_refl p _ d).fset (LNK_P_STAT.DESKEW p) _ (by simp)) (by rw [Dev.link_fset])
  have hwt : w.portState p = portTrain := (d.fget_fset_apart _ _ (by simp) (by simp)).trans ht
  have hready : w.up4Ready p :=
    ⟨hlanes.alignedMask.trans hmask, hok, hself, by rw [hlanes.skewOk, Dev.skewOk, hskew]; simpa using h⟩
  rw [Dev.deskewTo, if_neg (by omega)]
  exact (portState_tryUp4_iff hwt).2 hready

theorem sameLanes_deskew : sameLanes p d (d.deskew p) := by
  rw [Dev.deskew]
  cases d.skewSlots p with
  | none => exact ⟨rfl, fun _ => rfl, rfl⟩
  | some slots => exact sameLanes_deskewTo d p slots

theorem portOnly_deskew : portOnly p [LNK_P_STAT.off p, LNK_P_ERR.off p] d (d.deskew p) := by
  rw [Dev.deskew]
  cases d.skewSlots p with
  | none => exact portOnly_refl p _ d
  | some slots => exact portOnly_deskewTo d p slots

theorem Dev.deskew_known {d : Dev} {p slots : Nat} (h : (d.deskew p).skewSlots p = some slots) : d.deskew p = d.deskewTo p slots := by
  rw [(sameLanes_deskew d p).skewSlots] at h
  rw [Dev.deskew, h]
  rfl

end

/-- The instant of the block is noted and the skew shown; the lanes are otherwise as before. -/
theorem portOnly_alignNote (d : Dev) (p q : Nat) (instant : BitVec 16) : portOnly p (laneRegs p) d (d.alignNote p q instant) :=
  ((portOnly_refl p _ d).setRx q _).trans (skewOnly_skewShow _ p).port

section
variable {p : PortId} {lane : LaneId} {x : BitVec 64} {s : State} (instant : BitVec 16)

theorem Dev.fget_alignNote_SKEW {d : Dev} {p q z : Nat} {t0 : Int} (hq : q < 4) (hal : d.fget (LNK_PL_STAT.ALIGNED p q) = 1)
    (hz : d.physLane p 0 = some z) (hzq : z ≠ q) (ht : (d.rxLane p z).at_ = some t0)
    (hw : bitAt (d.fget (LNK_P_STAT.WLANES p)) 0 = true) :
    (d.alignNote p q instant).fget (LNK_PL_STAT.SKEW p q) = satInt 16 (instant.toInt - t0) := by
  let r := d.setRx p q { d.rxLane p q with at_ := some instant.toInt }
  have hrz : (r.rxLane p z).at_ = some t0 := (congrArg RxLane.at_ (d.rxLane_setRx_ne p _ hzq)).trans ht
  have hrq : (r.rxLane p q).at_ = some instant.toInt := congrArg RxLane.at_ (d.rxLane_setRx_same p q _)
  have hshown : r.skewShow p = r.skewLanes p t0 := Dev.skewShow_shown hz hrz hw
  rw [Dev.alignNote, hshown]
  exact Dev.fget_skewLanes_SKEW hq hal hrq

theorem rxAlignBlock_effect (hop : bits x.toNat 63 56 = 0x4B) (hword : bits x.toNat 31 0 = 0x2D4BB4D2)
    (hal : s.dev.fget (LNK_PL_STAT.ALIGNED p lane) = 1) (hl : s.dev.laneLogical p lane = some (bits x.toNat 55 54)) :
    completes (.rxAlignBlock p lane x instant) s fun t =>
      t.dev.rxLane p lane = { s.dev.rxLane p lane with at_ := some instant.toInt } ∧
      (∀ z t0, s.dev.physLane p 0 = some z → z ≠ lane.val → (s.dev.rxLane p z).at_ = some t0 →
        bitAt (s.dev.fget (LNK_P_STAT.WLANES p)) 0 = true →
        t.dev.fget (LNK_PL_STAT.SKEW p lane) = satInt 16 (instant.toInt - t0)) ∧
      (bitAt (s.dev.fget (LNK_P_STAT.WLANES p)) 0 = false →
        ∀ q, q < 4 → t.dev.fget (LNK_PL_STAT.SKEW p q) = s.dev.fget (LNK_PL_STAT.SKEW p q)) ∧
      (∀ n, t.dev.skewSlots p = some n → t.dev.fget (LNK_P_STAT.DESKEW p) = min 31 n ∧
        (24 < n → t.dev.fget (LNK_P_ERR.SKEW_BIG p) = 1 ∧ t.dev.portState p = s.dev.portState p) ∧
        (n ≤ 24 → s.dev.portState p = portTrain → s.dev.alignedMask p = 15 → (s.dev.link p).peerOk = 15 →
          (s.dev.link p).peerSelf = false → t.dev.portState p = portUp4)) ∧
      linkFrame p s t (LNK_P_ERR.off p :: portRegs p) := by
  let r := s.dev.setRx p lane { s.dev.rxLane p lane with at_ := some instant.toInt }
  let n := s.dev.alignNote p lane instant
  have hshow : skewOnly p r n := skewOnly_skewShow r p
  have hdeskew := portOnly_deskew n p
  have hskew (q : Nat) : (n.deskew p).fget (LNK_PL_STAT.SKEW p q) = n.fget (LNK_PL_STAT.SKEW p q) :=
    hdeskew.fget _ (by simp [LNK_PL_STAT.off_ne_LNK_P_STAT, LNK_PL_STAT.off_ne_LNK_P_ERR]) (LNK_PL_STAT.off_not_inRill p q)
  have hstate : n.portState p = s.dev.portState p := hshow.stat rfl
  have hlink : n.link p = r.link p := hshow.link
  refine completes_of_dev (exec_rxAlignBlock s p lane x instant) (Dev.rxAlign_named instant hop hword hal hl)
    ⟨?_, fun z t0 hz hzl ht hw => ?_, fun hw q _ => ?_, fun m hm => ?_, portOnly.linkFrame ?_⟩
  · exact ((sameLanes_deskew n p).rxLane lane).trans ((hshow.sameLanes.rxLane lane).trans (s.dev.rxLane_setRx_same p lane _))
  · exact (hskew lane).trans (Dev.fget_alignNote_SKEW instant lane.isLt hal hz hzl ht hw)
  · have hhidden : n = r := Dev.skewShow_hidden hw
    exact (hskew q).trans (by rw [hhidden]; rfl)
  · have hknown : n.skewSlots p = some m := (sameLanes_deskew n p).skewSlots ▸ hm
    rw [State.withDev, Dev.deskew_known hm]
    refine ⟨n.fget_deskewTo_DESKEW p m, fun hbig => ?_, fun hle ht hmask hok hself => ?_⟩
    · obtain ⟨hflag, hstay⟩ := n.deskewTo_big p hbig
      exact ⟨hflag, hstay.trans hstate⟩
    · refine Dev.deskewTo_up hknown hle (hstate.trans ht) (hshow.sameLanes.alignedMask.trans hmask) ?_ ?_
      · rw [hlink, s.dev.link_setRx, hok]
      · rw [hlink, s.dev.link_setRx, hself]
  · have hnote := (portOnly_alignNote s.dev p lane instant).mono (laneRegs_subset p)
    exact (hnote.mono (List.subset_cons_self _ _)).trans (hdeskew.mono (by simp [portRegs]))

end

/-! ### Patterns (R327) -/

theorem patternCheckerSync_effect {p : PortId} {lane : LaneId} {s : State} (ht : s.dev.portState p = portTest)
    (hchk : patOn (s.dev.fget (LNK_PL_PAT.CHK p lane)) = true) (hagree : (s.dev.rxLane p lane).agree = true) :
    completes (.patternCheckerSync p lane) s fun t =>
      t.dev.fget (LNK_PL_STAT.CHK_LOCK p lane) = 1 ∧ onlyRegs s t [LNK_PL_STAT.off p lane] := by
  refine completes_of_dev (exec_patternCheckerSync s p lane) (if_pos ⟨ht, hchk, hagree⟩) ⟨?_, rfl, fun o ho => ?_⟩
  · exact (s.dev.fget_fset_same _ 1 (by simp)).trans rfl
  · exact s.dev.reg_fset_ne _ 1 fun h => ho (List.mem_singleton.2 h)

end Sys2Proof.Machine

open Sys2Proof Sys2Proof.Machine Sys2Proof.Safety

/-- Settles O38: what enabling, disabling, soft reset and each step of training make of a port, each from the effect of its command. -/
theorem portsStartAndTrain : Obligations.PortsStartAndTrain :=
  ⟨fun _ _ _ => portEnable_starts, fun _ _ _ => portEnable_stops, fun _ _ _ => portSoftReset_trains,
    fun _ _ _ _ _ _ => laneAligned_alone_effect,
    fun _ _ _ _ _ _ _ hst hal hfound hslip => laneAligned_pair_effect hst hal hfound hslip,
    fun _ _ => trainTimeout_effect, fun _ _ _ => rxTrainBlock_other, fun _ _ _ => rxTrainBlock_self,
    fun _ _ _ instant _ => rxAlignBlock_effect instant, fun p lane s => ⟨s, exec_rxIdleBlock s p lane, rfl⟩,
    fun _ _ _ => patternCheckerSync_effect⟩
end

section
/-! SUPPORT. Raised sources (R363): a source that can raise stands among those of the tick afterwards. -/
namespace Sys2Proof.Machine

open Sys2Proof.Safety

theorem mem_insNat_of_mem {a : Nat} {l : List Nat} (k : Nat) (h : a ∈ l) : a ∈ insNat k l := by
  induction l with
  | nil => cases h
  | cons b l ih =>
    rw [insNat]
    split
    · exact List.mem_cons_of_mem _ h
    · split
      · exact h
      · rcases List.mem_cons.1 h with rfl | h
        · exact List.mem_cons_self
        · exact List.mem_cons_of_mem _ (ih h)

theorem Dev.rillEvent_raised (d : Dev) (r : Nat) : (d.rillEvent r).raised = d.raised := by
  rw [Dev.rillEvent]
  refine List.foldlRecOn (motive := fun e : Dev => e.raised = d.raised) _ _ ?_ fun _ h _ _ => h
  split <;> rfl

theorem Dev.raiseUnguarded_raised (d : Dev) (s : Nat) : (d.raiseUnguarded s).raised = insNat s d.raised := by
  unfold Dev.raiseUnguarded
  extract_lets d1 d2
  have hbbx : d2.raised = insNat s d.raised := by
    show (if _ then _ else _ : Dev).raised = _
    split <;> rfl
  split
  · exact (Dev.rillEvent_raised _ _).trans hbbx
  · exact hbbx

theorem Dev.raiseRilErr_keeps {d : Dev} {s : Nat} (h : s ∈ d.raised) : s ∈ d.raiseRilErr.raised := by
  rw [Dev.raiseRilErr]
  split
  · rw [Dev.raiseUnguarded_raised]
    exact mem_insNat_of_mem _ h
  · exact h

theorem Dev.guardNote_raised (d : Dev) (s : Nat) : (d.guardNote s).raised = d.raised := by
  unfold Dev.guardNote
  dsimp only
  split <;> rfl

theorem Dev.mem_raised_guardTrip (d : Dev) (s : Nat) : s ∈ (d.guardTrip s).raised := by
  refine Dev.raiseRilErr_keeps ?_
  rw [Dev.guardNote_raised]
  show s ∈ (if _ then _ else _ : Dev).raised
  split <;> exact mem_insNat s _

/-- A source that can raise has raised, past its guard too: the guard keeps the event from its rill alone (R371). -/
theorem Dev.mem_raised_raise {d : Dev} {s : Nat} (h : d.canRaise s = true) : s ∈ (d.raise s).raised := by
  have hun (e : Dev) : s ∈ (e.raiseUnguarded s).raised := e.raiseUnguarded_raised s ▸ mem_insNat s _
  rw [Dev.raise, h, if_neg (by decide)]
  split
  · next h895 => exact h895 ▸ hun d
  · dsimp only
    split
    · exact Dev.mem_raised_guardTrip _ s
    · exact hun _

/-- A part of the device that events do not reach is as before. -/
theorem Dev.raise_part {β : Type} (g : Dev → β) (hg : ∀ d, g (noEvents d) = g d) (d : Dev) (s : Nat) : g (d.raise s) = g d :=
  eventsOnly_part g hg (eventsOnly_raise d s)

/-- The same for the write of a field. -/
theorem Dev.fset_part {β : Type} (g : Dev → β) (hg : ∀ d, g (noEvents d) = g d) (d : Dev) (f : Fld) (v : Nat) :
    g (d.fset f v) = g d := (hg _).symm.trans (hg d)

theorem Dev.fget_congr {d e : Dev} (h : e.regs = d.regs) (f : Fld) : e.fget f = d.fget f := by
  rw [Dev.fget, Dev.reg, h, ← Dev.reg, ← Dev.fget]

theorem Dev.mode_congr {d e : Dev} (h : e.fget GLB_MODE.CUR = d.fget GLB_MODE.CUR) : e.mode = d.mode := congrArg Mode.ofCode h

theorem Dev.canRaise_congr {d e : Dev} (hr : e.raised = d.raised) (hm : e.mode = d.mode) (s : Nat) : e.canRaise s = d.canRaise s := by
  rw [Dev.canRaise, hr, hm, Dev.canRaise]

/-- What a change of the device has to leave alone for the command to leave everything alone but the registers listed and the rill
network. -/
theorem plain_withDev {s : State} {f : Dev → Dev} {but : List Nat} (hm : (f s.dev).mem = s.dev.mem)
    (ho : (f s.dev).ocs = s.dev.ocs) (hi : (f s.dev).ics = s.dev.ics)
    (hr : ∀ o, o ∉ but → ¬ inRill o → (f s.dev).reg o = s.dev.reg o) : plain s (s.withDev f) but :=
  ⟨⟨rfl, rfl⟩, Dev.rd8_congr hm, ho, hi, hr⟩

/-- A field written changes nothing but its register. -/
theorem onlyRegs_fset (s : State) (f : Fld) (v : Nat) : onlyRegs s (s.withDev fun _ => s.dev.fset f v) [f.off] :=
  ⟨rfl, fun _ ho => s.dev.reg_fset_ne f v fun h => ho (List.mem_singleton.2 h)⟩

theorem onlyRegs_refl (s : State) (but : List Nat) : onlyRegs s s but := ⟨rfl, fun _ _ => rfl⟩

theorem not_load_or_sleep {m : Mode} (hl : m ≠ .load) (hs : m ≠ .sleep) : ¬ (m = .load ∨ m = .sleep) := not_or.2 ⟨hl, hs⟩

end Sys2Proof.Machine
end

section
/-! SUPPORT. Marker edges (R381 to R385): which transitions count, where an edge falls after the one before, and what its registration
six ticks later does. -/
namespace Sys2Proof.Machine

open Sys2Proof.Safety

/-! ### Transitions -/

/-- EDGE selects both polarities with 3, the rising one with 1 and the falling one with 2. -/
theorem Dev.edgeSelected_iff (d : Dev) (k : Nat) (rising : Bool) :
    d.edgeSelected k rising = true ↔ d.fget (MK_IN_CFG.EDGE k) = 3 ∨ (d.fget (MK_IN_CFG.EDGE k) = 1 ∧ rising = true) ∨
      (d.fget (MK_IN_CFG.EDGE k) = 2 ∧ rising = false) := by
  cases rising <;> simp [Dev.edgeSelected, or_comm]

theorem Dev.mkEdge_ignored {d : Dev} {k : Nat} {rising : Bool}
    (h : d.fget (MK_IN_CFG.EDGE k) = 0 ∨ (d.fget (MK_IN_CFG.EDGE k) = 1 ∧ rising = false) ∨
      (d.fget (MK_IN_CFG.EDGE k) = 2 ∧ rising = true)) (f now : Nat) : d.mkEdge k rising f now = d := by
  have hsel : d.edgeSelected k rising = false := by
    rw [← Bool.not_eq_true, Dev.edgeSelected_iff]
    rcases h with h | ⟨h, rfl⟩ | ⟨h, rfl⟩ <;> simp [h]
  rw [Dev.mkEdge, hsel]
  exact if_pos (.inr (.inr rfl))

/-- An edge that is taken waits six ticks for its registration (R384). -/
def Dev.edgeWaits (d : Dev) (k : Nat) (rising : Bool) (f now : Nat) : Dev :=
  { d with
    mkIn := tset {} d.mkIn k { tget {} d.mkIn k with last := some (1024 * d.tk + f) }
    edges := d.edges ++ [⟨k, rising, 1024 * now + f, d.tk + 6⟩] }

/-- An edge within 1.5 ticks of the last is lost (R383). -/
def Dev.edgeLost (d : Dev) (k : Nat) : Dev :=
  { (d.satAdd (MK_IN_CNT.LOST k) 1).raise 689 with
    mkIn := tset {} d.mkIn k { tget {} d.mkIn k with lost := (tget {} d.mkIn k).lost + 1 } }

section
variable {d : Dev} {k : Nat} {rising : Bool} (hmode : ¬ (d.mode = .load ∨ d.mode = .sleep)) (hsel : d.edgeSelected k rising = true)
  (f now : Nat)
include hmode hsel

/-- What the mode and EDGE let pass is judged by its distance to the edge before. -/
theorem Dev.mkEdge_passes : ¬ (d.mode = .load ∨ d.mode = .sleep ∨ (!d.edgeSelected k rising) = true) := by simpa [hsel] using hmode

/-- An edge far enough from the one before it, or the first. -/
theorem Dev.mkEdge_taken (h : ∀ l, (tget {} d.mkIn k).last = some l →
      d.holdoff k ≤ 1024 * d.tk + f - l ∧ 1536 ≤ 1024 * d.tk + f - l) :
    d.mkEdge k rising f now = d.edgeWaits k rising f now := by
  rw [Dev.mkEdge, if_neg (Dev.mkEdge_passes hmode hsel)]
  cases hlast : (tget {} d.mkIn k).last with
  | none =>
    simp only [hlast]
    rfl
  | some l =>
    obtain ⟨hheld, hlost⟩ := h l hlast
    simp only [hlast, Option.map_some, Option.getD_some, decide_eq_false (Nat.not_lt.2 hheld), decide_eq_false (Nat.not_lt.2 hlost)]
    rfl

variable {l : Nat} (hlast : (tget {} d.mkIn k).last = some l)
include hlast

theorem Dev.mkEdge_held (h : 1024 * d.tk + f - l < d.holdoff k) : d.mkEdge k rising f now = d.satAdd (MK_IN_CNT.HELD k) 1 := by
  rw [Dev.mkEdge, if_neg (Dev.mkEdge_passes hmode hsel)]
  simp only [hlast, Option.map_some, Option.getD_some, decide_eq_true h]
  rfl

theorem Dev.mkEdge_lost (hheld : d.holdoff k ≤ 1024 * d.tk + f - l) (h : 1024 * d.tk + f - l < 1536) :
    d.mkEdge k rising f now = d.edgeLost k := by
  have hmk : ((d.satAdd (MK_IN_CNT.LOST k) 1).raise 689).mkIn = d.mkIn := Dev.raise_part Dev.mkIn (fun _ => rfl) _ _
  rw [Dev.mkEdge, if_neg (Dev.mkEdge_passes hmode hsel)]
  simp only [Dev.edgeLost, hlast, Option.map_some, Option.getD_some, decide_eq_false (Nat.not_lt.2 hheld), decide_eq_true h, hmk]
  rfl

end

theorem MK_IN_CNT.off_not_inRill {k : Nat} (h : k < 16) : ¬ inRill (MK_IN_CNT.off k) :=
  not_inRill_of_lt (show 0x30104 + 0x8 * k < 0x40000 by omega)

theorem MK_IN_CFG.off_not_inRill {k : Nat} (h : k < 16) : ¬ inRill (MK_IN_CFG.off k) :=
  not_inRill_of_lt (show 0x30100 + 0x8 * k < 0x40000 by omega)

theorem Dev.fget_edgeLost_LOST (d : Dev) {k : Nat} (h : k < 16) :
    (d.edgeLost k).fget (MK_IN_CNT.LOST k) = min 65535 (d.fget (MK_IN_CNT.LOST k) + 1) :=
  (Dev.fget_raise _ _ _ (MK_IN_CNT.off_not_inRill h)).trans (d.fget_satAdd _ 1 (by simp))

/-- A part of the device that neither events, nor registers, nor the marker inputs reach is as before. -/
theorem Dev.edgeLost_part {β : Type} (g : Dev → β) (hg : ∀ d, g (noEvents d) = g d)
    (hm : ∀ (d : Dev) m, g { d with mkIn := m } = g d) (d : Dev) (k : Nat) : g (d.edgeLost k) = g d :=
  (hm _ _).trans ((Dev.raise_part g hg _ 689).trans (Dev.fset_part g hg d (MK_IN_CNT.LOST k) _))

theorem Dev.lost_edgeLost (d : Dev) (k : Nat) : (tget {} (d.edgeLost k).mkIn k).lost = (tget {} d.mkIn k).lost + 1 :=
  congrArg MkIn.lost (tget_tset_same {} d.mkIn k { tget {} d.mkIn k with lost := (tget {} d.mkIn k).lost + 1 })

theorem Dev.last_edgeWaits (d : Dev) (k : Nat) (rising : Bool) (f now : Nat) :
    (tget {} (d.edgeWaits k rising f now).mkIn k).last = some (1024 * d.tk + f) :=
  congrArg MkIn.last (tget_tset_same {} d.mkIn k { tget {} d.mkIn k with last := some (1024 * d.tk + f) })

theorem plain_edgeLost (s : State) (k : Nat) : plain s (s.withDev fun _ => s.dev.edgeLost k) [MK_IN_CNT.off k] := by
  have hpart {β : Type} (g : Dev → β) (hg : ∀ d, g (noEvents d) = g d) (hm : ∀ (d : Dev) m, g { d with mkIn := m } = g d) :
      g (s.dev.edgeLost k) = g s.dev := Dev.edgeLost_part g hg hm s.dev k
  refine plain_withDev (hpart Dev.mem (fun _ => rfl) fun _ _ => rfl) (hpart Dev.ocs (fun _ => rfl) fun _ _ => rfl)
    (hpart Dev.ics (fun _ => rfl) fun _ _ => rfl) fun o ho hr => ?_
  exact ((eventsOnly_raise _ 689).2 o hr).trans (s.dev.reg_fset_ne (MK_IN_CNT.LOST k) _ fun h => ho (List.mem_singleton.2 h))

theorem markerEdge_effect (k : Fin 16) (rising : Bool) (f : BitVec 10) (s : State) (hl : s.dev.mode ≠ .load)
    (hs : s.dev.mode ≠ .sleep)
    (hsel : s.dev.fget (MK_IN_CFG.EDGE k) = 3 ∨ (s.dev.fget (MK_IN_CFG.EDGE k) = 1 ∧ rising = true) ∨
      (s.dev.fget (MK_IN_CFG.EDGE k) = 2 ∧ rising = false)) :
    completes (.markerEdge k rising f) s fun t =>
      let at_ := 1024 * s.dev.tk + f.toNat
      let m := tget {} s.dev.mkIn k
      ((∀ l, m.last = some l → s.dev.holdoff k ≤ at_ - l ∧ 1536 ≤ at_ - l) →
        t.dev.edges = s.dev.edges ++ [⟨k.val, rising, 1024 * s.clk.now.toNat + f.toNat, s.dev.tk + 6⟩] ∧
        (tget {} t.dev.mkIn k).last = some at_ ∧ still s t []) ∧
      (∀ l, m.last = some l → at_ - l < s.dev.holdoff k →
        t.dev.edges = s.dev.edges ∧ t.dev.fget (MK_IN_CNT.HELD k) = min 65535 (s.dev.fget (MK_IN_CNT.HELD k) + 1) ∧
        onlyRegs s t [MK_IN_CNT.off k]) ∧
      (∀ l, m.last = some l → s.dev.holdoff k ≤ at_ - l → at_ - l < 1536 →
        t.dev.edges = s.dev.edges ∧ t.dev.fget (MK_IN_CNT.LOST k) = min 65535 (s.dev.fget (MK_IN_CNT.LOST k) + 1) ∧
        (tget {} t.dev.mkIn k).lost = m.lost + 1 ∧ plain s t [MK_IN_CNT.off k]) := by
  have hmode := not_load_or_sleep hl hs
  rw [← Dev.edgeSelected_iff] at hsel
  have hexec := exec_markerEdge s k rising f
  by_cases hfar : ∀ l, (tget {} s.dev.mkIn k.val).last = some l →
      s.dev.holdoff k ≤ 1024 * s.dev.tk + f.toNat - l ∧ 1536 ≤ 1024 * s.dev.tk + f.toNat - l
  · refine completes_of_dev hexec (Dev.mkEdge_taken hmode hsel _ _ hfar) ⟨fun _ => ?_, fun l hl hheld => ?_, fun l hl _ hlost => ?_⟩
    · exact ⟨rfl, Dev.last_edgeWaits _ _ _ _ _, still_withDev rfl rfl rfl fun _ _ => rfl⟩
    · exact absurd (hfar l hl).1 (Nat.not_le.2 hheld)
    · exact absurd (hfar l hl).2 (Nat.not_le.2 hlost)
  · obtain ⟨l, hl⟩ := Classical.not_forall.1 hfar
    obtain ⟨hlast, hclose⟩ := Classical.not_imp.1 hl
    have hnear (hover : s.dev.holdoff k ≤ 1024 * s.dev.tk + f.toNat - l) : 1024 * s.dev.tk + f.toNat - l < 1536 :=
      Nat.not_le.1 fun hover' => hclose ⟨hover, hover'⟩
    have honly {l' : Nat} (h : (tget {} s.dev.mkIn k.val).last = some l') : l' = l := Option.some.inj (h.symm.trans hlast)
    by_cases hheld : 1024 * s.dev.tk + f.toNat - l < s.dev.holdoff k
    · refine completes_of_dev hexec (Dev.mkEdge_held hmode hsel _ _ hlast hheld)
        ⟨fun h => absurd h hfar, fun _ _ _ => ?_, fun l' hl' hover => ?_⟩
      · exact ⟨rfl, s.dev.fget_satAdd _ 1 (by simp), onlyRegs_fset s (MK_IN_CNT.HELD k) _⟩
      · exact absurd (honly hl' ▸ hover) (Nat.not_le.2 hheld)
    · have hover := Nat.not_lt.1 hheld
      refine completes_of_dev hexec (Dev.mkEdge_lost hmode hsel _ _ hlast hover (hnear hover))
        ⟨fun h => absurd h hfar, fun l' hl' hunder => ?_, fun _ _ _ _ => ?_⟩
      · exact absurd (honly hl' ▸ hunder) hheld
      · exact ⟨Dev.edgeLost_part Dev.edges (fun _ => rfl) (fun _ _ => rfl) _ _, s.dev.fget_edgeLost_LOST k.isLt,
          s.dev.lost_edgeLost k, plain_edgeLost s k⟩

theorem markerEdge_ignored (k : Fin 16) (rising : Bool) (f : BitVec 10) (s : State)
    (h : s.dev.fget (MK_IN_CFG.EDGE k) = 0 ∨ (s.dev.fget (MK_IN_CFG.EDGE k) = 1 ∧ rising = false) ∨
      (s.dev.fget (MK_IN_CFG.EDGE k) = 2 ∧ rising = true)) : completes (.markerEdge k rising f) s fun t => t = s :=
  ⟨_, exec_markerEdge s k rising f, State.withDev_eq_self (Dev.mkEdge_ignored h _ _)⟩

/-! ### Registration -/

/-- What the registration of an edge notes: its polarity, its intake and the start groups that it releases. -/
def Dev.edgeNoted (d : Dev) (e : EdgePend) : Dev :=
  { d with
    mkIn := tset {} d.mkIn e.k { tget {} d.mkIn e.k with pol := e.rising }
    mkIntake := d.mkIntake ++ [(d.tk, e.k, e.rising)]
    gsSoon := if e.rising then
        ((List.range 16).filter fun g => d.bit (GS_CTL.MKI_EN g) && d.fget (GS_CTL.MKI g) == e.k).foldl (fun l g => insNat g l) d.gsSoon
      else d.gsSoon }

/-- The stamp of an edge joins those of the tick when RING of its input is set. -/
def Dev.edgeStamped (d : Dev) (e : EdgePend) : Dev :=
  if d.bit (MK_IN_CFG.RING e.k) then d.stampAdd e.stamp e.k e.rising else d

theorem Dev.mkRegister_stages (d : Dev) (e : EdgePend) (now : Nat) :
    d.mkRegister e now =
      let x := ((d.raise (672 + e.k)).edgeNoted e).witExt e.k e.rising e.stamp now
      (if x.clReference e.k e.rising then x.clEdge e.stamp else x).edgeStamped e := by
  obtain ⟨k, rising, stamp, due⟩ := e
  cases rising <;> rfl

/-- An edge is no evidence while no trigger unit evaluates EXT. -/
theorem Dev.witExt_off {d : Dev} (h : ∀ u, u < 8 → d.tuOn u condExt = false) (k : Nat) (rising : Bool) (stamp now : Nat) :
    d.witExt k rising stamp now = d := by
  refine List.foldlRecOn (motive := fun e => e = d) _ _ rfl fun e he u hu => ?_
  rw [he, h u (List.mem_range.1 hu)]
  rfl

theorem eventsOnly_bit {d e : Dev} (h : eventsOnly d e) (f : Fld) (hf : ¬ inRill f.off) : e.bit f = d.bit f := by
  rw [Dev.bit, eventsOnly_fget h f hf, Dev.bit]

theorem eventsOnly_clReference {d e : Dev} (h : eventsOnly d e) (k : Nat) (rising : Bool) :
    e.clReference k rising = d.clReference k rising := by
  have hr : ¬ inRill CL_CFG.off := not_inRill_of_lt (by decide)
  rw [Dev.clReference, eventsOnly_bit h _ hr, eventsOnly_bit h _ hr, eventsOnly_fget h _ hr, Dev.clReference]

theorem TU_CTL.off_not_inRill (u : Nat) : ¬ inRill (TU_CTL.off u) := not_inRill_of_ge (show 0x50000 ≤ 0x1000100 + 0x20 * u by omega)

theorem eventsOnly_tuOn {d e : Dev} (h : eventsOnly d e) (u bit : Nat) : e.tuOn u bit = d.tuOn u bit := by
  have hacq : ¬ inRill ACQ_CTL.off := not_inRill_of_ge (by decide)
  have htu := TU_CTL.off_not_inRill u
  rw [Dev.tuOn, eventsOnly_bit h _ hacq, eventsOnly_bit h _ htu, eventsOnly_fget h _ htu, Dev.tuOn]

section
variable {d : Dev} {e : EdgePend}

/-- An edge that is neither a reference edge nor evidence raises its source, is noted, and is stamped. -/
theorem Dev.mkRegister_plain (href : d.clReference e.k e.rising = false) (htu : ∀ u, u < 8 → d.tuOn u condExt = false) (now : Nat) :
    d.mkRegister e now = ((d.raise (672 + e.k)).edgeNoted e).edgeStamped e := by
  have hev := eventsOnly_raise d (672 + e.k)
  have hext := Dev.witExt_off (d := (d.raise (672 + e.k)).edgeNoted e) (fun u hu => (eventsOnly_tuOn hev u condExt).trans (htu u hu))
    e.k e.rising e.stamp now
  have hcl : ((d.raise (672 + e.k)).edgeNoted e).clReference e.k e.rising = false := (eventsOnly_clReference hev _ _).trans href
  rw [Dev.mkRegister_stages, hext]
  dsimp only
  rw [hcl, if_neg Bool.false_ne_true]

/-- Stamping changes the stamps of the tick alone. -/
theorem Dev.edgeStamped_part {β : Type} (g : Dev → β) (hg : ∀ (d : Dev) l, g { d with stamps := l } = g d) (d : Dev) (e : EdgePend) :
    g (d.edgeStamped e) = g d := by
  rw [Dev.edgeStamped]
  split
  · exact hg d _
  · rfl

theorem Dev.stamps_edgeStamped (d : Dev) (e : EdgePend) : (d.edgeStamped e).stamps =
    if d.fget (MK_IN_CFG.RING e.k) = 1 then stampInsert ⟨e.k, e.stamp, e.rising⟩ d.stamps else d.stamps := by
  simp only [Dev.edgeStamped, d.bit_eq_true_iff (MK_IN_CFG.RING e.k) rfl]
  split <;> rfl

theorem Dev.mkRegisterDue_one (hmode : ¬ (d.mode = .load ∨ d.mode = .sleep)) (he : d.edges = [e]) (hdue : e.due ≤ d.tk) (now : Nat) :
    d.mkRegisterDue now = ({ d with edges := [] } : Dev).mkRegister e now := by
  rw [Dev.mkRegisterDue, if_neg hmode]
  simp [he, hdue, edgeInsert]

end

theorem markerEdgeRegister_one (e : EdgePend) (s : State) (he : s.dev.edges = [e]) (hdue : e.due ≤ s.dev.tk) (hk : e.k < 16)
    (href : s.dev.clReference e.k e.rising = false) (htu : ∀ u, u < 8 → s.dev.tuOn u condExt = false) (hl : s.dev.mode ≠ .load)
    (hs : s.dev.mode ≠ .sleep) :
    completes .markerEdgeRegister s fun t =>
      t.dev.edges = [] ∧ (s.dev.canRaise (672 + e.k) = true → 672 + e.k ∈ t.dev.raised) ∧
      (tget {} t.dev.mkIn e.k).pol = e.rising ∧ (s.dev.tk, e.k, e.rising) ∈ t.dev.mkIntake ∧
      t.dev.stamps = (if s.dev.fget (MK_IN_CFG.RING e.k) = 1 then stampInsert ⟨e.k, e.stamp, e.rising⟩ s.dev.stamps
        else s.dev.stamps) ∧
      plain s t [] := by
  let d : Dev := { s.dev with edges := [] }
  let r := d.raise (672 + e.k)
  have hev : eventsOnly d r := eventsOnly_raise d _
  have hpart {β : Type} (g : Dev → β) (hg : ∀ d, g (noEvents d) = g d) : g r = g d := eventsOnly_part g hg hev
  have hdev : s.dev.mkRegisterDue s.clk.now.toNat = (r.edgeNoted e).edgeStamped e :=
    (Dev.mkRegisterDue_one (not_load_or_sleep hl hs) he hdue _).trans (Dev.mkRegister_plain (d := d) href htu _)
  refine completes_of_dev (exec_markerEdgeRegister s) hdev ⟨?_, fun hr => ?_, ?_, ?_, ?_, plain_withDev ?_ ?_ ?_ fun o _ ho => ?_⟩
  · exact (Dev.edgeStamped_part Dev.edges (fun _ _ => rfl) _ _).trans (hpart Dev.edges fun _ => rfl)
  · have hin : 672 + e.k ∈ r.raised := Dev.mem_raised_raise (d := d) hr
    exact (Dev.edgeStamped_part Dev.raised (fun _ _ => rfl) (r.edgeNoted e) e).symm ▸ hin
  · have hmk : ((r.edgeNoted e).edgeStamped e).mkIn = _ := Dev.edgeStamped_part Dev.mkIn (fun _ _ => rfl) (r.edgeNoted e) e
    exact (congrArg (fun m : Tbl MkIn => (tget {} m e.k).pol) hmk).trans (congrArg MkIn.pol (tget_tset_same _ _ _ _))
  · have htk : r.tk = s.dev.tk := hpart Dev.tk fun _ => rfl
    have hin : ((r.edgeNoted e).edgeStamped e).mkIntake = r.mkIntake ++ [(r.tk, e.k, e.rising)] :=
      Dev.edgeStamped_part Dev.mkIntake (fun _ _ => rfl) _ _
    rw [State.withDev_dev, hin, htk]
    exact List.mem_append_right _ (List.mem_singleton_self _)
  · have hring : r.fget (MK_IN_CFG.RING e.k) = s.dev.fget (MK_IN_CFG.RING e.k) := eventsOnly_fget hev _ (MK_IN_CFG.off_not_inRill hk)
    have hst : r.stamps = s.dev.stamps := hpart Dev.stamps fun _ => rfl
    rw [← hring, ← hst]
    exact Dev.stamps_edgeStamped (r.edgeNoted e) e
  · exact (Dev.edgeStamped_part Dev.mem (fun _ _ => rfl) _ _).trans (hpart Dev.mem fun _ => rfl)
  · exact (Dev.edgeStamped_part Dev.ocs (fun _ _ => rfl) _ _).trans (hpart Dev.ocs fun _ => rfl)
  · exact (Dev.edgeStamped_part Dev.ics (fun _ _ => rfl) _ _).trans (hpart Dev.ics fun _ => rfl)
  · exact (Dev.edgeStamped_part (·.reg o) (fun _ _ => rfl) _ _).trans (hev.2 o ho)

theorem markerEdgeRegister_off (s : State) (h : s.dev.mode = .load ∨ s.dev.mode = .sleep) :
    completes .markerEdgeRegister s fun t => t.dev.edges = [] ∧ still s t [] :=
  completes_of_dev (exec_markerEdgeRegister s) (if_pos h) ⟨rfl, still_withDev rfl rfl rfl fun _ _ => rfl⟩

end Sys2Proof.Machine
end

section
/-! SUPPORT. The stamp ring (R388, R389): what the write of a stamp does with room in the ring and without, and how far the read pointer
moves. -/
namespace Sys2Proof.Machine

open Sys2Proof.Safety

/-! ### Writing a stamp -/

/-- The ring has no room: the stamp is counted as dropped, and the next record written carries SPILL. -/
def Dev.stampDropped (d : Dev) : Dev := { (d.satAdd TDC_CNT.DROP 1).flag TDC_STAT.DROP with stampSpill := true }

theorem Dev.fget_stampDropped (d : Dev) (f : Fld) :
    d.stampDropped.fget f = ((d.satAdd TDC_CNT.DROP 1).flag TDC_STAT.DROP).fget f := Dev.fget_congr rfl f

theorem Dev.fget_stampDropped_CNT (d : Dev) :
    d.stampDropped.fget TDC_CNT.DROP = min TDC_CNT.DROP.max (d.fget TDC_CNT.DROP + 1) := by
  have hflag := (d.satAdd TDC_CNT.DROP 1).reg_flag_ne TDC_STAT.DROP (o := TDC_CNT.off) (by decide)
  rw [Dev.fget_stampDropped, Dev.fget, hflag, ← Dev.fget, Dev.fget_satAdd _ _ _ (by decide)]

theorem Dev.fget_stampDropped_DROP (d : Dev) : d.stampDropped.fget TDC_STAT.DROP = 1 := by
  rw [Dev.fget_stampDropped, Dev.fget_flag_bit _ _ rfl (by decide)]

theorem Dev.fget_stampDropped_WR (d : Dev) : d.stampDropped.fget TDC_STAT.WR = d.fget TDC_STAT.WR := by
  rw [Dev.fget_stampDropped, Dev.fget_flag_bits _ TDC_STAT.DROP TDC_STAT.WR rfl (by decide) (by decide), Dev.satAdd,
    Dev.fget_fset_off _ _ _ _ (by decide)]

/-- The bytes of the record of a stamp. -/
def Dev.stampRecord (d : Dev) (stamp src : Nat) (pol : Bool) : List Byte :=
  (stampWords stamp src pol (d.bit TML_STATUS.TSUS) d.stampSpill (tget {} d.mkIn src).lost d.stampSeq.toNat).flatMap (leBytes 8)

theorem Dev.stampRecord_length (d : Dev) (stamp src : Nat) (pol : Bool) : (d.stampRecord stamp src pol).length = 16 := by
  simp [Dev.stampRecord, stampWords, leBytes_length]

/-- The record of a stamp stands at its place in the ring. -/
def Dev.stampPut (d : Dev) (stamp src : Nat) (pol : Bool) : Dev :=
  d.wrBytes (stampEntry (d.fget TDC_STAT.WR)) (d.stampRecord stamp src pol)

theorem Dev.rdBytes_stampPut (d : Dev) (stamp src : Nat) (pol : Bool) :
    (d.stampPut stamp src pol).rdBytes (stampEntry (d.fget TDC_STAT.WR)) 16 = d.stampRecord stamp src pol := by
  rw [← d.stampRecord_length stamp src pol]
  exact Dev.rdBytes_wrBytes d _ _

/-- The write of the record changes memory alone. -/
theorem Dev.stampPut_part {β : Type} (g : Dev → β) (hg : ∀ (d : Dev) m, g { d with mem := m } = g d) (d : Dev) (stamp src : Nat)
    (pol : Bool) : g (d.stampPut stamp src pol) = g d :=
  Dev.wrBytes_part g hg d _ _

/-- After the write of a record WR is `wr`, SPILL is clear, the next record has the next SEQ, and input `src` has lost nothing. -/
def Dev.stampPassed (d : Dev) (wr src : Nat) (m : MkIn) : Dev :=
  let d := d.fset TDC_STAT.WR wr
  { d with stampSpill := false, stampSeq := d.stampSeq + 1, mkIn := tset {} d.mkIn src { m with lost := 0 } }

section
variable (d : Dev) (wr src : Nat) (m : MkIn)

theorem Dev.fget_stampPassed (f : Fld) : (d.stampPassed wr src m).fget f = (d.fset TDC_STAT.WR wr).fget f := Dev.fget_congr rfl f

theorem Dev.fget_stampPassed_WR (h : wr < 2048) : (d.stampPassed wr src m).fget TDC_STAT.WR = wr := by
  rw [Dev.fget_stampPassed, Dev.fget_fset _ _ _ (by decide)]
  exact Nat.mod_eq_of_lt h

theorem Dev.lost_stampPassed : (tget {} (d.stampPassed wr src m).mkIn src).lost = 0 :=
  congrArg MkIn.lost (tget_tset_same {} d.mkIn src { m with lost := 0 })

theorem Dev.canRaise_stampPassed (s : Nat) : (d.stampPassed wr src m).canRaise s = d.canRaise s := by
  have hmode : (d.stampPassed wr src m).mode = d.mode :=
    Dev.mode_congr ((d.fget_stampPassed wr src m _).trans (d.fget_fset_off TDC_STAT.WR GLB_MODE.CUR wr (by decide)))
  exact Dev.canRaise_congr (d := d) (e := d.stampPassed wr src m) rfl hmode s

/-! Source 688 is raised over it. -/

theorem Dev.rdBytes_raise_stampPassed (a n : Nat) : ((d.stampPassed wr src m).raise 688).rdBytes a n = d.rdBytes a n :=
  Dev.rdBytes_congr _ _ _ _ fun a _ _ => Dev.rd8_congr (Dev.raise_mem (d.stampPassed wr src m) 688) a

theorem Dev.fget_raise_stampPassed_WR (h : wr < 2048) : ((d.stampPassed wr src m).raise 688).fget TDC_STAT.WR = wr := by
  rw [Dev.fget_raise _ _ _ (not_inRill_of_lt (by decide)), Dev.fget_stampPassed_WR _ _ _ _ h]

theorem Dev.stampSpill_raise_stampPassed : ((d.stampPassed wr src m).raise 688).stampSpill = false :=
  Dev.raise_part Dev.stampSpill (fun _ => rfl) (d.stampPassed wr src m) 688

theorem Dev.stampSeq_raise_stampPassed : ((d.stampPassed wr src m).raise 688).stampSeq = d.stampSeq + 1 :=
  Dev.raise_part Dev.stampSeq (fun _ => rfl) (d.stampPassed wr src m) 688

theorem Dev.lost_raise_stampPassed : (tget {} ((d.stampPassed wr src m).raise 688).mkIn src).lost = 0 := by
  rw [Dev.raise_part Dev.mkIn fun _ => rfl, Dev.lost_stampPassed]

theorem Dev.mem_raised_stampPassed (h : d.canRaise 688 = true) : 688 ∈ ((d.stampPassed wr src m).raise 688).raised :=
  Dev.mem_raised_raise ((d.canRaise_stampPassed wr src m 688).trans h)

end

theorem Dev.canRaise_stampPut (d : Dev) (stamp src : Nat) (pol : Bool) (s : Nat) : (d.stampPut stamp src pol).canRaise s = d.canRaise s :=
  Dev.stampPut_part (Dev.canRaise · s) (fun _ _ => rfl) d stamp src pol

section
variable (stamp src : Nat) (pol : Bool) {d : Dev}

theorem Dev.stampWrite_full (h : 1024 ≤ d.stampUnread) : d.stampWrite stamp src pol = d.stampDropped := if_pos h

theorem Dev.stampWrite_room (h : d.stampUnread < 1024) : d.stampWrite stamp src pol =
    ((d.stampPut stamp src pol).stampPassed ((d.fget TDC_STAT.WR + 1) % 2048) src (tget {} d.mkIn src)).raise 688 := by
  rw [Dev.stampWrite, if_neg (Nat.not_le.2 h)]
  rfl

end

theorem Dev.stampWrite_stores {stamp src : Nat} {pol : Bool} {d : Dev} (h : d.stampUnread < 1024) :
    let t := d.stampWrite stamp src pol
    t.rdBytes (stampEntry (d.fget TDC_STAT.WR)) 16 = d.stampRecord stamp src pol ∧
    t.fget TDC_STAT.WR = (d.fget TDC_STAT.WR + 1) % 2048 ∧ t.stampSpill = false ∧ t.stampSeq = d.stampSeq + 1 ∧
    (tget {} t.mkIn src).lost = 0 ∧ (d.canRaise 688 = true → 688 ∈ t.raised) := by
  dsimp only
  rw [Dev.stampWrite_room stamp src pol h]
  refine ⟨?_, ?_, ?_, ?_, ?_, fun hr => ?_⟩
  · rw [Dev.rdBytes_raise_stampPassed, Dev.rdBytes_stampPut]
  · rw [Dev.fget_raise_stampPassed_WR _ _ _ _ (Nat.mod_lt _ (by decide))]
  · rw [Dev.stampSpill_raise_stampPassed]
  · rw [Dev.stampSeq_raise_stampPassed, Dev.stampPut_part Dev.stampSeq fun _ _ => rfl]
  · rw [Dev.lost_raise_stampPassed]
  · exact Dev.mem_raised_stampPassed _ _ _ _ ((Dev.canRaise_stampPut _ _ _ _ _).trans hr)

theorem Dev.stampWrite_drops {stamp src : Nat} {pol : Bool} {d : Dev} (h : 1024 ≤ d.stampUnread) :
    let t := d.stampWrite stamp src pol
    t.fget TDC_CNT.DROP = min TDC_CNT.DROP.max (d.fget TDC_CNT.DROP + 1) ∧ t.fget TDC_STAT.DROP = 1 ∧ t.stampSpill = true ∧
    t.fget TDC_STAT.WR = d.fget TDC_STAT.WR ∧ t.mem = d.mem ∧ t.stampSeq = d.stampSeq := by
  dsimp only
  rw [Dev.stampWrite_full stamp src pol h]
  exact ⟨d.fget_stampDropped_CNT, d.fget_stampDropped_DROP, rfl, d.fget_stampDropped_WR, rfl, rfl⟩

/-- The stamps of a tick are written one after the other, in the order they stand in. -/
theorem Dev.stampFlush_cons {x : StampDue} {xs : List StampDue} {d : Dev} (h : d.stamps = x :: xs) :
    d.stampFlush = xs.foldl (fun d y => d.stampWrite y.stamp y.src y.pol)
      (({ d with stamps := [] } : Dev).stampWrite x.stamp x.src x.pol) := by
  rw [Dev.stampFlush, h, List.foldl_cons]

/-! ### Reading -/

theorem stampRdWrite_effect (v : W32) (s : State) : completes (.stampRdWrite v) s fun t =>
    ((TDC_RD.RD.of v + 2048 - s.dev.fget TDC_RD.RD) % 2048 ≤ s.dev.stampUnread → t.dev.fget TDC_RD.RD = TDC_RD.RD.of v) ∧
    (s.dev.stampUnread < (TDC_RD.RD.of v + 2048 - s.dev.fget TDC_RD.RD) % 2048 → t = s) ∧ onlyRegs s t [TDC_RD.off] := by
  have hexec := exec_stampRdWrite s v
  by_cases h : (TDC_RD.RD.of v + 2048 - s.dev.fget TDC_RD.RD) % 2048 ≤ s.dev.stampUnread
  · refine completes_of_dev hexec (if_pos h) ⟨fun _ => ?_, fun hpast => absurd h (Nat.not_le.2 hpast), onlyRegs_fset s TDC_RD.RD _⟩
    exact (s.dev.fget_fset TDC_RD.RD _ (by decide)).trans (Nat.mod_eq_of_lt (TDC_RD.RD.of_lt v))
  · exact completes_of_dev hexec (if_neg h) ⟨fun hin => absurd hin h, fun _ => rfl, onlyRegs_refl s _⟩

end Sys2Proof.Machine
end

section
/-! SUPPORT. The cycle lock (R397 to R401): what empties its measurement, the start of a quiet window, and the commit of held values. -/
namespace Sys2Proof.Machine

open Sys2Proof.Safety

theorem not_inRill_clStat : ¬ inRill CL_STAT.off := not_inRill_of_lt (by decide)

/-! ### The measurement ends (R398) -/

/-- VALID follows the prediction; of the rest only events are touched. -/
theorem onlyRegsEv_clUpdate (s : State) : onlyRegsEv s (s.withDev Dev.clUpdate) [CL_STAT.off] := by
  have hvalid := onlyRegsEv_fset s CL_STAT.VALID s.dev.prediction.isSome.toNat
  simp only [State.withDev, Dev.clUpdate]
  split
  · exact onlyRegsEv_trans hvalid (onlyRegsEv_raise _ _)
  · split
    · exact onlyRegsEv_trans hvalid (onlyRegsEv_raise _ _)
    · exact hvalid

/-- The fields of CL_STAT below VALID. -/
theorem Dev.fget_clUpdate_stat (d : Dev) {hi lo : Nat} (h : hi < 31) :
    d.clUpdate.fget ⟨CL_STAT.off, hi, lo⟩ = d.fget ⟨CL_STAT.off, hi, lo⟩ := by
  have hvalid : (d.fsetB CL_STAT.VALID d.prediction.isSome).fget ⟨CL_STAT.off, hi, lo⟩ = d.fget ⟨CL_STAT.off, hi, lo⟩ :=
    d.fget_fset_apart CL_STAT.off _ (by omega) (.inr h)
  unfold Dev.clUpdate
  dsimp only
  split
  · exact (Dev.fget_raise _ _ _ not_inRill_clStat).trans hvalid
  · split
    · exact (Dev.fget_raise _ _ _ not_inRill_clStat).trans hvalid
    · exact hvalid

/-- The measurement without the periods it counted. -/
def Dev.clEmptied (d : Dev) (hist : List Nat) : Dev :=
  { d.fset CL_STAT.NACC 0 with cycle := { d.cycle with hist := hist, measValid := false } }

theorem Dev.cycle_clDrop (d : Dev) (hist : List Nat) : (d.clDrop hist).cycle = { d.cycle with hist := hist, measValid := false } :=
  onlyRegsEv_part (onlyRegsEv_clUpdate { dev := d.clEmptied hist }) Dev.cycle fun _ => rfl

theorem Dev.fget_clDrop_NACC (d : Dev) (hist : List Nat) : (d.clDrop hist).fget CL_STAT.NACC = 0 :=
  (Dev.fget_clUpdate_stat _ (by decide)).trans (d.fget_fset_same _ 0 (by decide))

theorem Dev.reg_clDrop (d : Dev) (hist : List Nat) {o : Nat} (h : o ≠ CL_STAT.off) (hr : ¬ inRill o) :
    (d.clDrop hist).reg o = d.reg o :=
  (onlyRegsEv_regsSameEv (onlyRegsEv_clUpdate { dev := d.clEmptied hist }) o (by simpa using h) hr).trans (d.reg_fset_ne _ _ h)

/-- A part of the device that neither events, nor registers, nor the cycle lock reach is as before. -/
theorem Dev.clDrop_part {β : Type} (g : Dev → β) (hg : ∀ d, g (noEvents d) = g d)
    (hc : ∀ (d : Dev) c, g { d with cycle := c } = g d) (d : Dev) (hist : List Nat) : g (d.clDrop hist) = g d :=
  (onlyRegsEv_part (onlyRegsEv_clUpdate { dev := d.clEmptied hist }) g hg).trans ((hc _ _).trans (Dev.fset_part g hg d CL_STAT.NACC 0))

theorem cycleEdgeMissing_effect {x : Nat} {s : State} (hx : s.dev.clDeadline = some x) (hdue : x ≤ s.clk.now.toNat)
    (he : s.dev.edges = []) :
    completes .cycleEdgeMissing s fun t =>
      t.dev.fget CL_ERR.MISSING = 1 ∧ t.dev.fget CL_STAT.NACC = 0 ∧ t.dev.cycle.hist = [] ∧ t.dev.cycle.measValid = false ∧
      plain s t [CL_ERR.off, CL_STAT.off] := by
  have hexec : exec .cycleEdgeMissing s = .next (s.withDev fun d => (d.flag CL_ERR.MISSING).clDrop []) := by
    rw [exec_cycleEdgeMissing, execCycleEdgeMissing]
    simp [State.withDev, hx, hdue, he]
  have hpart {β : Type} (g : Dev → β) (hg : ∀ d, g (noEvents d) = g d) (hc : ∀ (d : Dev) c, g { d with cycle := c } = g d)
      (hf : g (s.dev.flag CL_ERR.MISSING) = g s.dev) : g ((s.dev.flag CL_ERR.MISSING).clDrop []) = g s.dev :=
    (Dev.clDrop_part g hg hc _ _).trans hf
  refine ⟨_, hexec, ?_, Dev.fget_clDrop_NACC _ _, congrArg CycleSt.hist (Dev.cycle_clDrop _ _),
    congrArg CycleSt.measValid (Dev.cycle_clDrop _ _), plain_withDev (hpart Dev.mem (fun _ => rfl) (fun _ _ => rfl) rfl)
      (hpart Dev.ocs (fun _ => rfl) (fun _ _ => rfl) rfl) (hpart Dev.ics (fun _ => rfl) (fun _ _ => rfl) rfl) fun o ho hr => ?_⟩
  · have hreg := (s.dev.flag CL_ERR.MISSING).reg_clDrop [] (o := CL_ERR.off) (by decide) (not_inRill_of_lt (by decide))
    exact (congrArg CL_ERR.MISSING.of hreg).trans (s.dev.fget_flag_bit CL_ERR.MISSING rfl (by decide))
  · rw [List.mem_cons, List.mem_singleton, not_or] at ho
    exact (Dev.reg_clDrop _ _ ho.2 hr).trans (s.dev.reg_flag_ne CL_ERR.MISSING ho.1)

/-! ### Quiet windows and held values (R399, R401) -/

theorem cycleWindowStart_effect {w : Fin 4} {s : State} (h : s.dev.nextWindow w s.clk.now.toNat = some s.clk.now.toNat) :
    completes (.cycleWindowStart w) s fun t =>
      (s.dev.canRaise (692 + w.val) = true → 692 + w.val ∈ t.dev.raised) ∧ onlyRegsEv s t [] :=
  completes_of_dev (exec_cycleWindowStart s w) (if_pos h) ⟨Dev.mem_raised_raise, onlyRegsEv_raise s _⟩

/-- The staged held values wait to come into force. -/
def Dev.holdPending (d : Dev) : Dev :=
  ({ d with cycle := { d.cycle with
      pend := some (d.cycle.stRef.toNat, d.cycle.stPer.toNat), pendAt := d.tk, pendGo := none } } : Dev).fset CL_STAT.PEND 1

theorem Dev.wrClCommit_held {d : Dev} {v : W32} (hv : CL_COMMIT.COMMIT.of v = 1) (hh : d.fget CL_CFG.HOLD = 1) :
    d.wrClCommit v = if periodOk d.cycle.stPer.toNat then d.holdPending else d.flag CL_ERR.HOLD_BAD := by
  have hhold : d.bit CL_CFG.HOLD = true := (d.bit_eq_true_iff _ rfl).2 hh
  have hgo : ¬ (CL_COMMIT.COMMIT.of v = 0 ∨ (!d.bit CL_CFG.HOLD) = true) := by simp [hv, hhold]
  rw [Dev.wrClCommit, if_neg hgo]
  rfl

theorem cycleHoldCommit_effect {v : W32} {s : State} (hv : CL_COMMIT.COMMIT.of v = 1) (hh : s.dev.fget CL_CFG.HOLD = 1) :
    completes (.cycleHoldCommit v) s fun t =>
      (periodOk s.dev.cycle.stPer.toNat = true →
        t.dev.cycle.pend = some (s.dev.cycle.stRef.toNat, s.dev.cycle.stPer.toNat) ∧ t.dev.fget CL_STAT.PEND = 1 ∧
        t.dev.cycle.held = s.dev.cycle.held) ∧
      (periodOk s.dev.cycle.stPer.toNat = false → t.dev.fget CL_ERR.HOLD_BAD = 1 ∧ t.dev.cycle = s.dev.cycle) ∧
      still s t [CL_STAT.off, CL_ERR.off] := by
  have hexec := exec_cycleHoldCommit s v
  have hdev := Dev.wrClCommit_held hv hh
  cases hok : periodOk s.dev.cycle.stPer.toNat with
  | true =>
    rw [hok, if_pos rfl] at hdev
    refine completes_of_dev hexec hdev ⟨fun _ => ⟨rfl, ?_, rfl⟩, nofun, still_withDev rfl rfl rfl fun o ho => ?_⟩
    · exact Dev.fget_fset_same _ _ 1 (by decide)
    · rw [List.mem_cons, not_or] at ho
      exact Dev.reg_fset_ne _ CL_STAT.PEND 1 ho.1
  | false =>
    rw [hok, if_neg Bool.false_ne_true] at hdev
    refine completes_of_dev hexec hdev ⟨nofun, fun _ => ⟨?_, rfl⟩, still_withDev rfl rfl rfl fun o ho => ?_⟩
    · exact s.dev.fget_flag_bit CL_ERR.HOLD_BAD rfl (by decide)
    · rw [List.mem_cons, List.mem_singleton, not_or] at ho
      exact s.dev.reg_flag_ne CL_ERR.HOLD_BAD ho.2

end Sys2Proof.Machine

open Sys2Proof Sys2Proof.Machine Sys2Proof.Safety

/-- Settles O48: each command by its own lemma. What an edge comes to is decided by its distance to the one before, what a stamp comes to
by the room in the ring. -/
theorem markersAndCycles : Obligations.MarkersAndCycles :=
  ⟨markerEdge_effect, markerEdge_ignored, markerEdgeRegister_one, markerEdgeRegister_off, fun _ _ _ => Dev.stampFlush_cons,
    fun _ _ _ _ => ⟨Dev.stampWrite_stores, Dev.stampWrite_drops⟩, stampRdWrite_effect, fun _ _ => cycleEdgeMissing_effect,
    fun _ _ => cycleWindowStart_effect, fun _ _ => cycleHoldCommit_effect⟩
end

section
/-! SUPPORT. The decision on a shot slot (R133, R460, R474): an engine whose next slot is decided already goes on past it. -/
namespace Sys2Proof.Machine

/-- At throttle level 1 an engine asks about slot 64, on its decision tick; slot 65, the next one for its DUR of 1, has been decided as
held before. -/
def nextSlotHeld : State :=
  { dev := { regs := [(THM_STAT.off, THM_STAT.LEVEL.put 0 1)], ocs := [(0, { eng := { slot := some ⟨64, 1⟩ } })],
             slots := [(65, some true)] } }

/-- Slot 64 is asked about, undecided, due and held by level 1. -/
theorem nextSlotHeld_asks :
    nextSlotHeld.dev.slotAsked 64 = true ∧ tget none nextSlotHeld.dev.slots 64 = none ∧
      64 ≤ nextSlotHeld.clk.now.toNat + 64 ∧ nextSlotHeld.dev.slotHeld 64 = true := by decide +kernel

/-- The engine takes both decisions (R133): it waits for slot 66. -/
theorem nextSlotHeld_takes : ((nextSlotHeld.dev.slotDecide 64 nextSlotHeld.clk.now.toNat).eng 0).slot = some ⟨66, 1⟩ := by
  decide +kernel

end Sys2Proof.Machine

open Sys2Proof Sys2Proof.Machine Sys2Proof.Safety

/-- Refutes O53: the clause of SLOT_HOLD_DECISION puts an engine that waits for the held slot one DUR further. A slot at which it then
waits may have been decided as held before, for another engine; R133 then takes it past that slot as well, in the same command. -/
theorem not_heatIsJudged : ¬ Obligations.HeatIsJudged := by
  unfold Obligations.HeatIsJudged
  rintro ⟨-, -, -, -, -, -, hslot⟩
  obtain ⟨hasked, hopen, hdue, hheld⟩ := nextSlotHeld_asks
  obtain ⟨t, hexec, -, -, hnext, -⟩ := hslot 64 nextSlotHeld hasked hopen hdue hheld
  cases hexec
  have h65 := hnext 0 ⟨64, 1⟩ rfl rfl
  have h66 := nextSlotHeld_takes.symm.trans h65
  exact absurd h66 (by decide)
end

section
/-! SUPPORT. A change of registers of some range that raises events on the way: what it leaves alone. -/
namespace Sys2Proof.Machine

open Sys2Proof.Safety

/-- `e` differs from `d` at most in the event network and, of the other registers, in those of `p`. -/
structure regsIn (p : Nat → Prop) (d e : Dev) : Prop where
  rest : noEvents e = noEvents d
  regs : ∀ o, ¬ p o → ¬ inRill o → e.reg o = d.reg o

theorem regsIn_refl (p : Nat → Prop) (d : Dev) : regsIn p d d := ⟨rfl, fun _ _ _ => rfl⟩

section
variable {p : Nat → Prop} {d e f : Dev} (h : regsIn p d e)
include h

theorem regsIn.trans (k : regsIn p e f) : regsIn p d f :=
  ⟨k.rest.trans h.rest, fun o ho hr => (k.regs o ho hr).trans (h.regs o ho hr)⟩

theorem regsIn.events (k : eventsOnly e f) : regsIn p d f := h.trans ⟨k.1, fun o _ => k.2 o⟩

theorem regsIn.raise (src : Nat) : regsIn p d (e.raise src) := h.events (eventsOnly_raise e src)

theorem regsIn.fset (g : Fld) (v : Nat) (hg : p g.off) : regsIn p d (e.fset g v) :=
  h.trans ⟨rfl, fun _ ho _ => e.reg_fset_ne g v fun ho' => ho (ho' ▸ hg)⟩

theorem regsIn.flag (g : Fld) (hg : p g.off) : regsIn p d (e.flag g) :=
  h.trans ⟨rfl, fun _ ho _ => e.reg_flag_ne g fun ho' => ho (ho' ▸ hg)⟩

theorem regsIn.fget (g : Fld) (hg : ¬ p g.off) (hr : ¬ inRill g.off) : e.fget g = d.fget g := by
  rw [Dev.fget, h.regs _ hg hr, Dev.fget]

/-- A part of the device that neither events nor registers reach is as before. -/
theorem regsIn.part {β : Type} (g : Dev → β) (hg : ∀ d, g (noEvents d) = g d) : g e = g d := by rw [← hg e, h.rest, hg d]

theorem regsIn.rd8 (a : Nat) : e.rd8 a = d.rd8 a := Dev.rd8_congr (h.part Dev.mem fun _ => rfl) a

end

/-- A command with such a change leaves everything alone but those registers. -/
theorem regsIn.plain {s : State} {e : Dev} {but : List Nat} (h : regsIn (· ∈ but) s.dev e) : plain s (s.withDev fun _ => e) but :=
  plain_withDev (h.part Dev.mem fun _ => rfl) (h.part Dev.ocs fun _ => rfl) (h.part Dev.ics fun _ => rfl) h.regs

/-- A source that has raised stays among those of the tick when another raises. -/
theorem Dev.mem_raised_raise_of_mem {d : Dev} {r : Nat} (s : Nat) (h : r ∈ d.raised) : r ∈ (d.raise s).raised := by
  have hun (e : Dev) (he : e.raised = d.raised) : r ∈ (e.raiseUnguarded s).raised := by
    rw [Dev.raiseUnguarded_raised, he]
    exact mem_insNat_of_mem s h
  have htrip (e : Dev) (he : e.raised = d.raised) : r ∈ (e.guardTrip s).raised := by
    refine Dev.raiseRilErr_keeps ?_
    rw [Dev.guardNote_raised]
    show r ∈ (if _ then _ else _ : Dev).raised
    split <;> exact mem_insNat_of_mem s (he ▸ h)
  unfold Dev.raise
  split
  · exact h
  · split
    · next h895 => exact h895 ▸ hun d rfl
    · dsimp only
      split
      · exact htrip _ rfl
      · exact hun _ rfl

/-- A flag outside GLB_MODE raises its source. -/
theorem Dev.mem_raised_flagRaise {d : Dev} {f : Fld} {s : Nat} (hf : GLB_MODE.off ≠ f.off) (h : d.canRaise s = true) :
    s ∈ (d.flagRaise f s).raised := by
  have hmode : (d.flag f).mode = d.mode := Dev.mode_congr (d.fget_fset_off f GLB_MODE.CUR f.max hf)
  exact Dev.mem_raised_raise ((Dev.canRaise_congr (d := d) (e := d.flag f) rfl hmode s).trans h)

/-- A one-bit flag outside the rill network reads 1 after it has raised its source. -/
theorem Dev.fget_flagRaise (d : Dev) (f : Fld) (s : Nat) (hr : ¬ inRill f.off) (h : f.hi = f.lo) (hlt : f.hi < 32) :
    (d.flagRaise f s).fget f = 1 :=
  (Dev.fget_raise _ s f hr).trans (d.fget_flag_bit f h hlt)

theorem regsIn_flagRaise {p : Nat → Prop} (d : Dev) (f : Fld) (s : Nat) (hf : p f.off) : regsIn p d (d.flagRaise f s) :=
  ((regsIn_refl p d).flag f hf).raise s

end Sys2Proof.Machine
end

section
/-! SUPPORT. The monitors of rails and of VDD_CORE (R466 to R468), and the time constants of the ledger (R472). -/
namespace Sys2Proof.Machine

open Sys2Proof.Safety

theorem not_inRill_thmErr : ¬ inRill THM_ERR.off := not_inRill_of_ge (by decide)

theorem not_inRill_droopCnt : ¬ inRill THM_DROOPCNT.off := not_inRill_of_ge (by decide)

/-! ### Rails (R468) -/

theorem railExcursion_effect (rail : Fin 11) (ns : Nat) (s : State) :
    completes (.railExcursion rail ns) s fun t =>
      (ns < 10000 → t = s) ∧
      (10000 ≤ ns → t.dev.fget THM_ERR.RAIL = 1 ∧ (s.dev.canRaise 711 = true → 711 ∈ t.dev.raised)) ∧ plain s t [THM_ERR.off] := by
  rcases Nat.lt_or_ge ns 10000 with h | h
  · exact completes_of_dev (exec_railExcursion s rail ns) (if_neg (Nat.not_le.2 h))
      ⟨fun _ => rfl, fun hge => absurd h (Nat.not_lt.2 hge), (regsIn_refl _ s.dev).plain⟩
  · exact completes_of_dev (exec_railExcursion s rail ns) (if_pos h)
      ⟨fun hlt => absurd h (Nat.not_le.2 hlt),
        fun _ => ⟨s.dev.fget_flagRaise THM_ERR.RAIL 711 not_inRill_thmErr rfl (by decide), Dev.mem_raised_flagRaise (by decide)⟩,
        (regsIn_flagRaise s.dev THM_ERR.RAIL 711 List.mem_cons_self).plain⟩

/-! ### Droop (R466, R467) -/

/-- The untimed clocks are stretched for a voltage `mv`, the lowest of a new droop. -/
def Dev.stretched (d : Dev) (mv : Nat) : Dev :=
  { d with heat := { d.heat with stretch := stretchFor (d.fget THM_DROOP.UNT_MV) mv, lowMv := mv, droopTk := d.tk } }

/-- The stretch is counted, and raises its source. -/
def Dev.stretchCounted (d : Dev) : Dev := (d.satAdd THM_DROOPCNT.STRETCHES 1).raise 709

/-- A droop that reaches the timed domains is counted, and raises its source. -/
def Dev.timedCounted (d : Dev) : Dev := (d.satAdd THM_DROOPCNT.TIMED 1).flagRaise THM_ERR.DROOP_TIMED 710

/-- What the first voltage below UNT_MV does. -/
theorem Dev.droop_first {d : Dev} {mv : Nat} (hm : d.mode ≠ .sleep) (hmv : mv < d.fget THM_DROOP.UNT_MV) (hst : d.heat.stretch = 0) :
    d.droop mv = if mv < d.fget THM_DROOP.TIM_MV then (d.stretched mv).stretchCounted.timedCounted.setTaint
      else (d.stretched mv).stretchCounted := by
  have hacts : ¬ (d.mode = .sleep ∨ d.fget THM_DROOP.UNT_MV ≤ mv) := not_or.2 ⟨hm, Nat.not_le.2 hmv⟩
  have hfresh : (d.heat.stretch == 0) = true := beq_iff_eq.2 hst
  simp only [Dev.droop, if_neg hacts, hfresh, if_true, Bool.true_or, Bool.and_true, decide_eq_true_eq]
  rfl

theorem regsIn_stretchCounted {p : Nat → Prop} (d : Dev) (hp : p THM_DROOPCNT.off) : regsIn p d d.stretchCounted :=
  ((regsIn_refl p d).fset THM_DROOPCNT.STRETCHES _ hp).raise 709

theorem regsIn_timedCounted {p : Nat → Prop} (d : Dev) (hp : p THM_DROOPCNT.off) (he : p THM_ERR.off) : regsIn p d d.timedCounted :=
  ((regsIn_refl p d).fset THM_DROOPCNT.TIMED _ hp).trans (regsIn_flagRaise _ _ 710 he)

theorem Dev.fget_stretchCounted_STRETCHES (d : Dev) :
    d.stretchCounted.fget THM_DROOPCNT.STRETCHES = min 65535 (d.fget THM_DROOPCNT.STRETCHES + 1) :=
  (Dev.fget_raise _ 709 _ not_inRill_droopCnt).trans (d.fget_satAdd THM_DROOPCNT.STRETCHES 1 (by decide))

theorem Dev.fget_stretchCounted_TIMED (d : Dev) : d.stretchCounted.fget THM_DROOPCNT.TIMED = d.fget THM_DROOPCNT.TIMED :=
  (Dev.fget_raise _ 709 _ not_inRill_droopCnt).trans (d.fget_fset_apart _ _ (by decide) (.inr (by decide)))

/-- DROOP_TIMED stands in another register than the counters. -/
theorem Dev.fget_timedCounted (d : Dev) {f : Fld} (hf : f.off = THM_DROOPCNT.off) :
    d.timedCounted.fget f = (d.satAdd THM_DROOPCNT.TIMED 1).fget f :=
  (Dev.fget_raise _ 710 f (hf ▸ not_inRill_droopCnt)).trans (Dev.fget_fset_off _ THM_ERR.DROOP_TIMED f _ (by rw [hf]; decide))

theorem Dev.fget_timedCounted_TIMED (d : Dev) : d.timedCounted.fget THM_DROOPCNT.TIMED = min 65535 (d.fget THM_DROOPCNT.TIMED + 1) :=
  (d.fget_timedCounted rfl).trans (d.fget_satAdd THM_DROOPCNT.TIMED 1 (by decide))

theorem Dev.fget_timedCounted_STRETCHES (d : Dev) : d.timedCounted.fget THM_DROOPCNT.STRETCHES = d.fget THM_DROOPCNT.STRETCHES :=
  (d.fget_timedCounted rfl).trans (d.fget_fset_apart _ _ (by decide) (.inl (by decide)))

theorem droopDetect_effect {mv : Nat} {s : State} (hm : s.dev.mode ≠ .sleep) (hmv : mv < s.dev.fget THM_DROOP.UNT_MV)
    (hst : s.dev.heat.stretch = 0) :
    completes (.droopDetect mv) s fun t =>
      t.dev.heat.stretch = min 4 (1 + (s.dev.fget THM_DROOP.UNT_MV - mv) / 10) ∧ t.dev.heat.lowMv = mv ∧
      t.dev.fget THM_DROOPCNT.STRETCHES = min 65535 (s.dev.fget THM_DROOPCNT.STRETCHES + 1) ∧
      (mv < s.dev.fget THM_DROOP.TIM_MV → t.dev.fget THM_ERR.DROOP_TIMED = 1 ∧ tainted s t ∧
        t.dev.fget THM_DROOPCNT.TIMED = min 65535 (s.dev.fget THM_DROOPCNT.TIMED + 1)) ∧
      (s.dev.fget THM_DROOP.TIM_MV ≤ mv → t.dev.taint = s.dev.taint) ∧ plain s t [THM_DROOPCNT.off, THM_ERR.off] := by
  have hdev := Dev.droop_first hm hmv hst
  have hcount := regsIn_stretchCounted (p := (· ∈ [THM_DROOPCNT.off, THM_ERR.off])) (s.dev.stretched mv) (by decide)
  have hheat : (s.dev.stretched mv).stretchCounted.heat = (s.dev.stretched mv).heat := hcount.part Dev.heat fun _ => rfl
  have hstretches := (s.dev.stretched mv).fget_stretchCounted_STRETCHES
  rcases Nat.lt_or_ge mv (s.dev.fget THM_DROOP.TIM_MV) with h | h
  · have htimed := hcount.trans (regsIn_timedCounted _ (by decide) (by decide))
    have hheat' : (s.dev.stretched mv).stretchCounted.timedCounted.heat = (s.dev.stretched mv).heat := htimed.part Dev.heat fun _ => rfl
    refine completes_of_dev (exec_droopDetect s mv) (hdev.trans (if_pos h))
      ⟨congrArg Heat.stretch hheat', congrArg Heat.lowMv hheat', (Dev.fget_timedCounted_STRETCHES _).trans hstretches,
        fun _ => ⟨Dev.fget_flagRaise _ THM_ERR.DROOP_TIMED 710 not_inRill_thmErr rfl (by decide),
          ⟨rfl, congrArg some (htimed.part Dev.tk fun _ => rfl)⟩, ?_⟩,
        fun hge => absurd h (Nat.not_lt.2 hge),
        plain_withDev (htimed.part Dev.mem fun _ => rfl) (htimed.part Dev.ocs fun _ => rfl) (htimed.part Dev.ics fun _ => rfl) htimed.regs⟩
    have hbefore := (s.dev.stretched mv).fget_stretchCounted_TIMED
    exact (Dev.fget_timedCounted_TIMED _).trans (congrArg (fun n => min 65535 (n + 1)) hbefore)
  · exact completes_of_dev (exec_droopDetect s mv) (hdev.trans (if_neg (Nat.not_lt.2 h)))
      ⟨congrArg Heat.stretch hheat, congrArg Heat.lowMv hheat, hstretches, fun hlt => absurd h (Nat.not_le.2 hlt),
        fun _ => hcount.part Dev.taint fun _ => rfl,
        plain_withDev (hcount.part Dev.mem fun _ => rfl) (hcount.part Dev.ocs fun _ => rfl) (hcount.part Dev.ics fun _ => rfl) hcount.regs⟩

theorem droopStretchEnd_effect {s : State} (hst : s.dev.heat.stretch ≠ 0)
    (hdue : s.dev.heat.droopTk + max 1 (s.dev.fget THM_DROOP.HOLD) ≤ s.dev.tk) :
    completes .droopStretchEnd s fun t => t.dev.heat.stretch = 0 ∧ still s t [] :=
  completes_of_dev (exec_droopStretchEnd s) (if_pos ⟨hst, hdue⟩) ⟨rfl, still_withDev rfl rfl rfl fun _ _ => rfl⟩

/-! ### Time constants of the ledger (R472) -/

theorem regRow_HL_ST_CFG : ∀ st : Fin 8, regRow? (HL_ST_CFG.off st) = some ⟨0x61100, [(8, 0x10)], .b, 1000, 0x8001ffff, 0, 0, 0⟩ := by
  decide +kernel

theorem tauWrite_effect (st : Fin 8) (v : W32) (s : State) :
    completes (.tauWrite st v) s fun t =>
      let tau := (HL_ST_CFG.TAU st).of v
      (1 ≤ tau ∧ tau ≤ 100000 → t.dev.fget (HL_ST_CFG.TAU st) = tau ∧
        t.dev.fget (HL_ST_CFG.EN st) = (HL_ST_CFG.EN st).of v ∧ onlyRegs s t [HL_ST_CFG.off st]) ∧
      (¬ (1 ≤ tau ∧ tau ≤ 100000) → t.dev.fget HL_ERR.TAU_BAD = 1 ∧ still s t [HL_ERR.off]) := by
  by_cases h : 1 ≤ (HL_ST_CFG.TAU st).of v ∧ (HL_ST_CFG.TAU st).of v ≤ 100000
  · have hfield (f : Fld) (hoff : f.off = HL_ST_CFG.off st) (hf : f.hi < 32) (hm : f.mask &&& 0x8001ffff#32 = f.mask) :
        (s.dev.writeCodes (HL_ST_CFG.off st) v).fget f = f.of v :=
      hoff ▸ s.dev.fget_writeCodes f v false ((congrArg regRow? hoff).trans (regRow_HL_ST_CFG st)) hm rfl hf
    exact completes_of_dev (exec_tauWrite s st v) (if_pos h)
      ⟨fun _ => ⟨hfield _ rfl (by simp) (by simp only [Fld.mask]; decide), hfield _ rfl (by simp) (by simp only [Fld.mask]; decide),
        onlyRegs_writeCodes s _ v false⟩, fun hbad => absurd h hbad⟩
  · exact completes_of_dev (exec_tauWrite s st v) (if_neg h)
      ⟨fun hok => absurd hok h, fun _ => ⟨s.dev.fget_flag_bit HL_ERR.TAU_BAD rfl (by decide),
        still_withDev rfl rfl rfl fun _ ho => s.dev.reg_flag_ne _ fun heq => ho (List.mem_singleton.2 heq)⟩⟩

end Sys2Proof.Machine
end

section
/-! SUPPORT. The cryostat heat ledger (R470 to R473): what a step shows of each stage, how its judgement ends, and the sums of squares it
starts anew. -/
namespace Sys2Proof.Machine

open Sys2Proof.Safety

/-- The registers of the ledger but those of the lines. -/
def inLedger (o : Nat) : Prop := 0x61000 ≤ o ∧ o < 0x62000

theorem inLedger_stage {st o : Nat} (hst : st < 8) (hlo : 0x61100 + 0x10 * st ≤ o) (hhi : o < 0x61110 + 0x10 * st) : inLedger o :=
  ⟨by omega, by omega⟩

/-! ### Power and heat of the stages (R470 to R472) -/

/-- One stage shows its power and moves its heat towards it. -/
def Dev.stageStep (powers : List Nat) (d : Dev) (st : Nat) : Dev :=
  let p := (powers[st]?).getD 0
  let d := d.fset (HL_ST_P.P st) (min (2 ^ 32 - 1) p)
  d.fset (HL_ST_H.H st) (ledgerFilter (d.fget (HL_ST_H.H st)) p (d.fget (HL_ST_CFG.TAU st)))

/-- The stages below `n` one after the other. -/
def Dev.stageSteps (d : Dev) (powers : List Nat) (n : Nat) : Dev := (List.range n).foldl (Dev.stageStep powers) d

theorem Dev.stageSteps_succ (d : Dev) (powers : List Nat) (n : Nat) :
    d.stageSteps powers (n + 1) = (d.stageSteps powers n).stageStep powers n := by
  rw [Dev.stageSteps, List.range_succ, List.foldl_append]
  rfl

/-- A register other than those that the step of stage `st` writes. -/
def apartFrom (st o : Nat) : Prop := o ≠ HL_ST_H.off st ∧ o ≠ HL_ST_P.off st

theorem apartFrom_CFG (st k : Nat) : apartFrom k (HL_ST_CFG.off st) :=
  ⟨show 0x61100 + 0x10 * st ≠ 0x61108 + 0x10 * k by omega, show 0x61100 + 0x10 * st ≠ 0x6110c + 0x10 * k by omega⟩

theorem apartFrom_BUD (st k : Nat) : apartFrom k (HL_ST_BUD.off st) :=
  ⟨show 0x61104 + 0x10 * st ≠ 0x61108 + 0x10 * k by omega, show 0x61104 + 0x10 * st ≠ 0x6110c + 0x10 * k by omega⟩

theorem HL_ST_H.off_ne_P (st k : Nat) : HL_ST_H.off st ≠ HL_ST_P.off k := show 0x61108 + 0x10 * st ≠ 0x6110c + 0x10 * k by omega

theorem apartFrom_H {st k : Nat} (h : st ≠ k) : apartFrom k (HL_ST_H.off st) :=
  ⟨show 0x61108 + 0x10 * st ≠ 0x61108 + 0x10 * k by omega, HL_ST_H.off_ne_P st k⟩

theorem apartFrom_P {st k : Nat} (h : st ≠ k) : apartFrom k (HL_ST_P.off st) :=
  ⟨(HL_ST_H.off_ne_P k st).symm, show 0x6110c + 0x10 * st ≠ 0x6110c + 0x10 * k by omega⟩

theorem ledgerFilter_lt (h p tau : Nat) : ledgerFilter h p tau < 2 ^ 32 := by
  rw [ledgerFilter]
  omega

section
variable (d : Dev) (powers : List Nat) (st : Nat)

/-- A stage's step writes its registers H and P alone. -/
theorem Dev.reg_stageStep {o : Nat} (h : apartFrom st o) : (d.stageStep powers st).reg o = d.reg o :=
  (Dev.reg_fset_ne _ (HL_ST_H.H st) _ h.1).trans (d.reg_fset_ne (HL_ST_P.P st) _ h.2)

theorem Dev.fget_stageStep_P : (d.stageStep powers st).fget (HL_ST_P.P st) = min (2 ^ 32 - 1) ((powers[st]?).getD 0) := by
  rw [Dev.stageStep, Dev.fget_fset_off _ _ _ _ (HL_ST_H.off_ne_P st st).symm]
  exact (d.fget_fset_same (HL_ST_P.off st) _ (by decide)).trans (Nat.mod_eq_of_lt (by omega))

theorem Dev.fget_stageStep_H : (d.stageStep powers st).fget (HL_ST_H.H st) =
    ledgerFilter (d.fget (HL_ST_H.H st)) ((powers[st]?).getD 0) (d.fget (HL_ST_CFG.TAU st)) := by
  rw [Dev.stageStep, Dev.fget_fset_same _ _ _ (by decide), Dev.fget_fset_off _ _ (HL_ST_H.H st) _ (HL_ST_H.off_ne_P st st),
    Dev.fget_fset_off _ _ (HL_ST_CFG.TAU st) _ (apartFrom_CFG st st).2]
  exact Nat.mod_eq_of_lt (ledgerFilter_lt _ _ _)

theorem regsIn_stageStep (hst : st < 8) : regsIn inLedger d (d.stageStep powers st) :=
  ((regsIn_refl inLedger d).fset (HL_ST_P.P st) _ (inLedger_stage hst (by simp) (by simp))).fset (HL_ST_H.H st) _
    (inLedger_stage hst (by simp) (by simp))

end

theorem regsIn_stageSteps (d : Dev) (powers : List Nat) : regsIn inLedger d (d.stageSteps powers 8) :=
  List.foldlRecOn _ _ (regsIn_refl inLedger d) fun e h st hst => h.trans (regsIn_stageStep e powers st (List.mem_range.1 hst))

/-- A register that no stage below `n` writes is as before. -/
theorem Dev.reg_stageSteps (d : Dev) (powers : List Nat) {n o : Nat} (h : ∀ st, st < n → apartFrom st o) :
    (d.stageSteps powers n).reg o = d.reg o := by
  induction n with
  | zero => rfl
  | succ n ih =>
    rw [Dev.stageSteps_succ, Dev.reg_stageStep _ _ _ (h n (Nat.lt_succ_self n))]
    exact ih fun st hst => h st (Nat.lt_succ_of_lt hst)

/-- After the steps a stage shows its power, and its heat follows from what it held before them. -/
theorem Dev.fget_stageSteps (d : Dev) (powers : List Nat) {n st : Nat} (h : st < n) :
    (d.stageSteps powers n).fget (HL_ST_P.P st) = min (2 ^ 32 - 1) ((powers[st]?).getD 0) ∧
    (d.stageSteps powers n).fget (HL_ST_H.H st) =
      ledgerFilter (d.fget (HL_ST_H.H st)) ((powers[st]?).getD 0) (d.fget (HL_ST_CFG.TAU st)) := by
  induction n with
  | zero => exact absurd h (Nat.not_lt_zero st)
  | succ n ih =>
    rw [Dev.stageSteps_succ]
    rcases Nat.lt_succ_iff_lt_or_eq.1 h with hlt | rfl
    · have hp := (d.stageSteps powers n).reg_stageStep powers n (apartFrom_P (Nat.ne_of_lt hlt))
      have hh := (d.stageSteps powers n).reg_stageStep powers n (apartFrom_H (Nat.ne_of_lt hlt))
      simpa only [Dev.fget, hp, hh] using ih hlt
    · have hh := d.reg_stageSteps powers (n := st) fun k hk => apartFrom_H (Nat.ne_of_gt hk)
      have htau := d.reg_stageSteps powers (n := st) fun k _ => apartFrom_CFG st k
      refine ⟨Dev.fget_stageStep_P _ powers st, (Dev.fget_stageStep_H _ powers st).trans ?_⟩
      simp only [Dev.fget, hh, htau]

/-! ### Judgement (R473) -/

/-- Whether a stage holds by its heat, with the hysteresis of one that held before. -/
def Dev.stageHolds (d : Dev) (st : Nat) (was : Bool) : Bool :=
  let h := d.fget (HL_ST_H.H st)
  let bud := d.fget (HL_ST_BUD.BUD st)
  let hold := d.fget HL_CTL.HOLD
  d.bit (HL_ST_CFG.EN st) && (if was then decide (bud * min hold (d.fget HL_CTL.RESUME) ≤ h) else decide (bud * hold ≤ h))

/-- HOLDING follows the heat of the stage. -/
def Dev.judgeHold (d : Dev) (st : Nat) : Dev :=
  let was := bitAt (d.fget HL_STAT.HOLDING) st
  let is := d.stageHolds st was
  if is && !was then (d.fset HL_STAT.HOLDING (putBit (d.fget HL_STAT.HOLDING) st true)).raise (713 + st)
  else if was && !is then (d.fset HL_STAT.HOLDING (putBit (d.fget HL_STAT.HOLDING) st false)).raise (721 + st) else d

/-- OVER shows whether a stage has reached its budget. -/
def Dev.judgeOver (d : Dev) (st : Nat) (overs : Bool) : Dev :=
  let d := d.fset HL_STAT.OVER (putBit (d.fget HL_STAT.OVER) st overs)
  if overs then d.flag HL_ERR.OVER else d

theorem Dev.judgeStage_eq (d : Dev) (st : Nat) :
    d.judgeStage st = (d.judgeHold st).judgeOver st (decide (256 * d.fget (HL_ST_BUD.BUD st) ≤ d.fget (HL_ST_H.H st))) := rfl

/-- The registers that a judgement writes. -/
def judged (o : Nat) : Prop := o = HL_STAT.off ∨ o = HL_ERR.off

theorem inLedger_of_judged {o : Nat} (h : judged o) : inLedger o := by
  rcases h with rfl | rfl <;> exact ⟨by decide, by decide⟩

theorem regsIn.mono {p q : Nat → Prop} {d e : Dev} (h : regsIn p d e) (hpq : ∀ o, p o → q o) : regsIn q d e :=
  ⟨h.rest, fun o ho => h.regs o fun hp => ho (hpq o hp)⟩

theorem regsIn_judgeHold (d : Dev) (st : Nat) : regsIn (· = HL_STAT.off) d (d.judgeHold st) := by
  have hwrite (v src : Nat) : regsIn (· = HL_STAT.off) d ((d.fset HL_STAT.HOLDING v).raise src) :=
    ((regsIn_refl (· = HL_STAT.off) d).fset HL_STAT.HOLDING v rfl).raise src
  unfold Dev.judgeHold
  dsimp only
  split
  · exact hwrite _ _
  · split
    · exact hwrite _ _
    · exact regsIn_refl _ d

theorem regsIn_judgeOver (d : Dev) (st : Nat) (overs : Bool) : regsIn judged d (d.judgeOver st overs) := by
  have hstat (v : Nat) : regsIn judged d (d.fset HL_STAT.OVER v) := (regsIn_refl judged d).fset HL_STAT.OVER v (.inl rfl)
  unfold Dev.judgeOver
  dsimp only
  split
  · exact (hstat _).flag HL_ERR.OVER (.inr rfl)
  · exact hstat _

theorem regsIn_judgeStage (d : Dev) (st : Nat) : regsIn judged d (d.judgeStage st) :=
  ((regsIn_judgeHold d st).mono fun _ h => .inl h).trans (regsIn_judgeOver _ st _)

theorem Dev.fget_judgeOver_flagged (d : Dev) (st : Nat) : (d.judgeOver st true).fget HL_ERR.OVER = 1 :=
  Dev.fget_flag_bit _ HL_ERR.OVER rfl (by decide)

/-- A judgement never clears HL_ERR.OVER. -/
theorem Dev.fget_judgeStage_keeps {d : Dev} (st : Nat) (h : d.fget HL_ERR.OVER = 1) : (d.judgeStage st).fget HL_ERR.OVER = 1 := by
  rw [Dev.judgeStage_eq]
  cases decide (256 * d.fget (HL_ST_BUD.BUD st) ≤ d.fget (HL_ST_H.H st)) with
  | true => exact Dev.fget_judgeOver_flagged _ st
  | false =>
    have hhold := (regsIn_judgeHold d st).fget HL_ERR.OVER (by decide) (not_inRill_of_ge (by decide))
    exact (Dev.fget_fset_off _ HL_STAT.OVER HL_ERR.OVER _ (by decide)).trans (hhold.trans h)

/-- All stages are judged. -/
def Dev.judgeAll (d : Dev) : Dev := (List.range 8).foldl Dev.judgeStage d

theorem regsIn_judgeAll (d : Dev) : regsIn judged d d.judgeAll :=
  List.foldlRecOn _ _ (regsIn_refl judged d) fun e h st _ => h.trans (regsIn_judgeStage e st)

/-- A field of a stage's registers is no matter of the judgement. -/
theorem regsIn.fget_stage {d e : Dev} (h : regsIn judged d e) {base : Nat} (st : Nat) {hi lo : Nat} (hb : 0x61100 ≤ base) :
    e.fget ⟨base + 0x10 * st, hi, lo⟩ = d.fget ⟨base + 0x10 * st, hi, lo⟩ := by
  refine h.fget _ (fun hj => ?_) (not_inRill_of_ge (show 0x50000 ≤ base + 0x10 * st by omega))
  rcases hj with hj | hj
  · have : base + 0x10 * st = 0x61004 := hj
    omega
  · have : base + 0x10 * st = 0x61008 := hj
    omega

/-- A stage that has reached its budget shows in HL_ERR.OVER. -/
theorem Dev.fget_judgeAll_over {d : Dev} {st : Nat} (hst : st < 8) (h : 256 * d.fget (HL_ST_BUD.BUD st) ≤ d.fget (HL_ST_H.H st)) :
    d.judgeAll.fget HL_ERR.OVER = 1 := by
  refine foldl_reaches (I := fun e : Dev => 256 * e.fget (HL_ST_BUD.BUD st) ≤ e.fget (HL_ST_H.H st)) (q := st)
    (P := fun e : Dev => e.fget HL_ERR.OVER = 1) (fun e k he => ?_) (fun e he => ?_) (fun e k _ he => e.fget_judgeStage_keeps k he)
    (List.mem_range.2 hst) h
  · have hbud : (e.judgeStage k).fget (HL_ST_BUD.BUD st) = _ := (regsIn_judgeStage e k).fget_stage st (by decide)
    have hheat : (e.judgeStage k).fget (HL_ST_H.H st) = _ := (regsIn_judgeStage e k).fget_stage st (by decide)
    rwa [hbud, hheat]
  · rw [Dev.judgeStage_eq, decide_eq_true he]
    exact Dev.fget_judgeOver_flagged _ st

/-! ### Sums of squares (R470) -/

/-- The sum of an output channel starts anew. -/
def Dev.sumReset (d : Dev) (n : Nat) : Dev := d.setOc n { d.oc n with sumSq := 0 }

/-- The sums of a list of channels start anew. -/
def Dev.sumsReset (d : Dev) (ns : List Nat) : Dev := ns.foldl Dev.sumReset d

theorem Dev.oc_sumReset (d : Dev) (n m : Nat) : (d.sumReset n).oc m = if m = n then { d.oc n with sumSq := 0 } else d.oc m := by
  split
  · next h => exact h ▸ tget_tset_same _ _ _ _
  · next h => exact tget_tset_ne _ _ _ _ h

theorem Dev.oc_sumsReset (d : Dev) (ns : List Nat) (m : Nat) :
    (d.sumsReset ns).oc m = if m ∈ ns then { d.oc m with sumSq := 0 } else d.oc m := by
  induction ns generalizing d with
  | nil => rfl
  | cons n ns ih =>
    rw [Dev.sumsReset, List.foldl_cons, ← Dev.sumsReset, ih, Dev.oc_sumReset]
    by_cases hn : m = n <;> by_cases hm : m ∈ ns <;> simp [hn, hm]

/-- Of the device the new start of a list of sums changes the output channels alone. -/
theorem Dev.sumsReset_part {β : Type} (g : Dev → β) (hg : ∀ (d : Dev) x, g { d with ocs := x } = g d) (d : Dev) (ns : List Nat) :
    g (d.sumsReset ns) = g d :=
  List.foldlRecOn (motive := fun e : Dev => g e = g d) ns _ rfl fun _ h _ _ => (hg _ _).trans h

theorem tget_not_listed {α : Type} (x : α) {t : Tbl α} {k : Nat} (h : k ∉ t.map (·.1)) : tget x t k = x := by
  induction t with
  | nil => rfl
  | cons e t ih =>
    rw [List.map_cons, List.mem_cons, not_or] at h
    rw [tget, if_neg (Ne.symm h.1), ih h.2]

theorem Dev.sumsReset_all {d : Dev} {ns : List Nat} (hns : ns = d.ocs.map (·.1)) (n : Nat) :
    ((d.sumsReset ns).oc n).sumSq = 0 ∧ (d.sumsReset ns).eng n = d.eng n := by
  simp only [Dev.eng, Dev.oc_sumsReset]
  split
  · exact ⟨rfl, rfl⟩
  · next h =>
    have hoc : d.oc n = ({} : OcSt) := tget_not_listed _ (hns ▸ h)
    exact ⟨congrArg OcSt.sumSq hoc, rfl⟩

/-! ### The step -/

/-- The powers of the stages. -/
def Dev.stagePowers (d : Dev) : List Nat := (List.range 8).map d.stagePower

/-- The device when all stages have been judged. -/
def Dev.ledgerJudged (d : Dev) : Dev := (d.stageSteps d.stagePowers 8).judgeAll

/-- A ledger step that is due. -/
def Dev.ledgerStepped (d : Dev) : Dev :=
  let e := d.ledgerJudged.sumsReset (d.ledgerJudged.ocs.map (·.1))
  { e with heat := { e.heat with ledgerTk := some e.tk } }

theorem Dev.ledgerStep_due {d : Dev} (hdue : ∀ k, d.heat.ledgerTk = some k → k + 6250 ≤ d.tk) (hl : d.mode ≠ .load)
    (hs : d.mode ≠ .sleep) : d.ledgerStep = d.ledgerStepped := by
  unfold Dev.ledgerStep
  dsimp only
  rw [if_pos]
  · rfl
  · cases hk : d.heat.ledgerTk with
    | none => simp [hl, hs]
    | some k => simp [hl, hs, hdue k hk]

theorem regsIn_ledgerJudged (d : Dev) : regsIn inLedger d d.ledgerJudged :=
  (regsIn_stageSteps d _).trans ((regsIn_judgeAll _).mono fun _ => inLedger_of_judged)

theorem Dev.stagePowers_get (d : Dev) {st : Nat} (h : st < 8) : ((d.stagePowers[st]?).getD 0) = d.stagePower st := by
  simp [Dev.stagePowers, h]

theorem Dev.fget_ledgerStepped (d : Dev) (f : Fld) : d.ledgerStepped.fget f = d.ledgerJudged.fget f :=
  Dev.sumsReset_part (Dev.fget · f) (fun _ _ => rfl) _ _

/-- What a stage shows after a ledger step. -/
theorem Dev.fget_ledgerStepped_stage (d : Dev) {st : Nat} (hst : st < 8) :
    d.ledgerStepped.fget (HL_ST_P.P st) = min (2 ^ 32 - 1) (d.stagePower st) ∧
    d.ledgerStepped.fget (HL_ST_H.H st) = ledgerFilter (d.fget (HL_ST_H.H st)) (d.stagePower st) (d.fget (HL_ST_CFG.TAU st)) ∧
    (256 * d.fget (HL_ST_BUD.BUD st) ≤ d.ledgerStepped.fget (HL_ST_H.H st) → d.ledgerStepped.fget HL_ERR.OVER = 1) := by
  have hjudge := regsIn_judgeAll (d.stageSteps d.stagePowers 8)
  obtain ⟨hp, hh⟩ := d.fget_stageSteps d.stagePowers hst
  rw [d.stagePowers_get hst] at hp hh
  have hbud : (d.stageSteps d.stagePowers 8).fget (HL_ST_BUD.BUD st) = d.fget (HL_ST_BUD.BUD st) :=
    congrArg (HL_ST_BUD.BUD st).of (d.reg_stageSteps d.stagePowers fun k _ => apartFrom_BUD st k)
  have hheat : d.ledgerStepped.fget (HL_ST_H.H st) = (d.stageSteps d.stagePowers 8).fget (HL_ST_H.H st) :=
    (d.fget_ledgerStepped _).trans (hjudge.fget_stage st (by decide))
  refine ⟨((d.fget_ledgerStepped _).trans (hjudge.fget_stage st (by decide))).trans hp, hheat.trans hh, fun hover => ?_⟩
  rw [hheat, ← hbud] at hover
  exact (d.fget_ledgerStepped _).trans (Dev.fget_judgeAll_over hst hover)

theorem ledgerStep_effect {s : State} (hdue : ∀ k, s.dev.heat.ledgerTk = some k → k + 6250 ≤ s.dev.tk) (hl : s.dev.mode ≠ .load)
    (hs : s.dev.mode ≠ .sleep) :
    completes .ledgerStep s fun t =>
      (∀ st, st < 8 → t.dev.fget (HL_ST_P.P st) = min (2 ^ 32 - 1) (s.dev.stagePower st) ∧
        t.dev.fget (HL_ST_H.H st) =
          ledgerFilter (s.dev.fget (HL_ST_H.H st)) (s.dev.stagePower st) (s.dev.fget (HL_ST_CFG.TAU st)) ∧
        (256 * s.dev.fget (HL_ST_BUD.BUD st) ≤ t.dev.fget (HL_ST_H.H st) → t.dev.fget HL_ERR.OVER = 1)) ∧
      (∀ n, (t.dev.oc n).sumSq = 0 ∧ t.dev.eng n = s.dev.eng n) ∧ t.dev.heat.ledgerTk = some s.dev.tk ∧ devOnly s t ∧
      memSame s t ∧ regsOutside s t 0x61000 0x62000 [] := by
  have hin := regsIn_ledgerJudged s.dev
  have hsums {β : Type} (g : Dev → β) (hg : ∀ (d : Dev) x, g { d with ocs := x } = g d) :=
    Dev.sumsReset_part g hg s.dev.ledgerJudged (s.dev.ledgerJudged.ocs.map (·.1))
  refine completes_of_dev (exec_ledgerStep s) (Dev.ledgerStep_due hdue hl hs) ⟨fun _ hst => s.dev.fget_ledgerStepped_stage hst,
    fun n => ?_, congrArg some ((hsums Dev.tk fun _ _ => rfl).trans (hin.part Dev.tk fun _ => rfl)), ⟨rfl, rfl⟩, fun a => ?_,
    fun o ho _ hr => ?_⟩
  · obtain ⟨hsum, heng⟩ := Dev.sumsReset_all (d := s.dev.ledgerJudged) rfl n
    exact ⟨hsum, heng.trans (hin.part (Dev.eng · n) fun _ => rfl)⟩
  · exact (hsums (Dev.rd8 · a) fun _ _ => rfl).trans (hin.rd8 a)
  · exact (hsums (Dev.reg · o) fun _ _ => rfl).trans (hin.regs o (fun h => by rcases h with ⟨hlo, hhi⟩; omega) hr)

end Sys2Proof.Machine
end

section
/-! SUPPORT. The shutdown (R463, R464, R469): what its start finds in the eNVM, what it sets going and leaves alone, and its record. -/
namespace Sys2Proof.Machine

open Sys2Proof.Safety

/-! ### The eNVM work a shutdown finds (R430) -/

theorem freeBytes_length (k n : Nat) : (freeBytes k n).length = 8 * n := by
  induction n with
  | zero => rfl
  | succ n ih =>
    rw [freeBytes, List.length_append, ih, leBytes_length]
    rfl

/-- All that the search for eNVM work can do: draw a free value; or abandon a commit, whose slot keeps at most its 256 data pages. -/
theorem Dev.nvWork_cases (d : Dev) :
    (∃ n, d.nvWork.2 = { d with free := n }) ∨
    ∃ set k start n bs, d.calStore = some (set, k, start) ∧ bs.length ≤ 0x4000 ∧
      d.nvWork.2 = ({ d with free := n, calStore := none } : Dev).wrBytes (setBase set k) bs := by
  unfold Dev.nvWork
  split
  · next set k start hstore =>
    refine .inr ⟨set, k, start, _, _, hstore, ?_, rfl⟩
    rw [freeBytes_length]
    omega
  · split <;> exact .inl ⟨_, rfl⟩

theorem Dev.nvWork_part {β : Type} (g : Dev → β) (hwork : ∀ (d : Dev) n x, g { d with free := n, calStore := x } = g d)
    (hmem : ∀ (d : Dev) m, g { d with mem := m } = g d) (d : Dev) : g d.nvWork.2 = g d := by
  rcases d.nvWork_cases with ⟨n, heq⟩ | ⟨set, k, start, n, bs, -, -, heq⟩ <;> rw [heq]
  · exact hwork d n d.calStore
  · exact (Dev.wrBytes_part g hmem _ _ bs).trans (hwork d n none)

theorem Dev.fget_nvWork (d : Dev) (f : Fld) : d.nvWork.2.fget f = d.fget f :=
  Dev.nvWork_part (Dev.fget · f) (fun _ _ _ => rfl) (fun _ _ => rfl) d

/-- Of the memories only the slot of an abandoned commit changes. -/
theorem Dev.rd8_nvWork {d : Dev} {a : Nat}
    (h : ∀ set k start, d.calStore = some (set, k, start) → a < setBase set k ∨ setBase set k + 0x4000 ≤ a) :
    d.nvWork.2.rd8 a = d.rd8 a := by
  rcases d.nvWork_cases with ⟨n, heq⟩ | ⟨set, k, start, n, bs, hstore, hlen, heq⟩ <;> rw [heq]
  · rfl
  · exact Dev.rd8_wrBytes_out _ _ a bs ((h set k start hstore).imp_right fun hle => by omega)

/-! ### SAFE cause 5 (R534) -/

/-- A shutdown shows in PRESENT, and its entry waits for the sediment record. -/
def Dev.safeShown (d : Dev) : Dev :=
  { (d.fset BBX_SAFE.PRESENT (d.fget BBX_SAFE.PRESENT + 16)).bbxAdd .safe 0 5 with safeDue := insNat 5 d.safeDue }

theorem Dev.safeArise_shutdown (d : Dev) : d.safeArise 5 = if bitAt (d.fget BBX_SAFE.PRESENT) 4 then d else d.safeShown := by
  simp [Dev.safeArise, Dev.safeShown, Dev.bbxAdd]

theorem Dev.safeArise_shutdown_part {β : Type} (g : Dev → β) (hg : ∀ d, g (noEvents d) = g d)
    (hsafe : ∀ (d : Dev) x, g { d with safeDue := x } = g d) (d : Dev) : g (d.safeArise 5) = g d := by
  rw [Dev.safeArise_shutdown]
  split
  · rfl
  · exact (hsafe _ _).trans ((eventsOnly_part g hg (eventsOnly_bbxAdd _ _ _ _)).trans (Dev.fset_part g hg d _ _))

theorem Dev.reg_safeArise_shutdown (d : Dev) {o : Nat} (h : o ≠ BBX_SAFE.off) : (d.safeArise 5).reg o = d.reg o := by
  rw [Dev.safeArise_shutdown]
  split
  · rfl
  · exact d.reg_fset_ne BBX_SAFE.PRESENT _ h

theorem bitAt_add_16 {v : Nat} (h : ¬ bitAt v 4 = true) : bitAt ((v + 16) % 32) 4 = true := by
  simp only [bitAt, beq_iff_eq] at h ⊢
  omega

theorem Dev.safeArise_shutdown_present (d : Dev) : bitAt ((d.safeArise 5).fget BBX_SAFE.PRESENT) 4 = true := by
  rw [Dev.safeArise_shutdown]
  split
  · next h => exact h
  · next h =>
    have hshown : d.safeShown.fget BBX_SAFE.PRESENT = _ := d.fget_fset BBX_SAFE.PRESENT _ (by decide)
    rw [hshown]
    exact bitAt_add_16 h

/-! ### The start (Table 16-4) -/

/-- The device when a shutdown `x` of a cause has started on it and raises its events; the loader stands as `b` says. -/
def Dev.shutdownBegun (d : Dev) (cause : Nat) (x : Shutdown) (b : BootSt) : Dev :=
  ((({ d with heat := { d.heat with shutdown := some x }, boot := b } : Dev).raise 707).freezeArise cause).safeArise 5

/-- All that the start of a shutdown can do: nothing while one runs or is latched; else the eNVM work ends, and the shutdown stands
with what its record is to hold. -/
theorem Dev.shutdownStart_cases (d : Dev) (c : Clock) (cause : Nat) :
    (d.shutdownStart c cause = d ∧ ¬ (d.heat.shutdown = none ∧ d.fget THM_STAT.SDLATCH = 0)) ∨
    ∃ x b, d.shutdownStart c cause = d.nvWork.2.shutdownBegun cause x b ∧
      (x.cause, x.level, x.shot, x.recorded) = (cause, d.fget THM_STAT.LEVEL, d.shot.toNat, false) := by
  unfold Dev.shutdownStart
  split
  · next h =>
    refine .inl ⟨rfl, fun hfree => ?_⟩
    simp [hfree.1, Dev.bit, hfree.2] at h
  · refine .inr ⟨_, _, rfl, ?_⟩
    have hshot : d.nvWork.2.shot = d.shot := Dev.nvWork_part Dev.shot (fun _ _ _ => rfl) (fun _ _ => rfl) d
    show (cause, d.nvWork.2.fget THM_STAT.LEVEL, d.nvWork.2.shot.toNat, false) = _
    rw [d.fget_nvWork, hshot]

section
variable (d : Dev) (cause : Nat) (x : Shutdown) (b : BootSt)

theorem Dev.shutdownBegun_part {β : Type} (g : Dev → β) (hg : ∀ d, g (noEvents d) = g d)
    (hheat : ∀ (d : Dev) h b, g { d with heat := h, boot := b } = g d) (hfrz : ∀ (d : Dev) l, g { d with frzDue := l } = g d)
    (hsafe : ∀ (d : Dev) l, g { d with safeDue := l } = g d) : g (d.shutdownBegun cause x b) = g d :=
  (Dev.safeArise_shutdown_part g hg hsafe _).trans ((hfrz _ _).trans ((Dev.raise_part g hg _ 707).trans (hheat _ _ _)))

theorem Dev.reg_shutdownBegun {o : Nat} (h : o ≠ BBX_SAFE.off) (hr : ¬ inRill o) : (d.shutdownBegun cause x b).reg o = d.reg o :=
  (Dev.reg_safeArise_shutdown _ h).trans ((eventsOnly_raise _ 707).2 o hr)

theorem Dev.shutdownBegun_keeps_raised {r : Nat} (h : r ∈ d.raised) : r ∈ (d.shutdownBegun cause x b).raised := by
  rw [Dev.shutdownBegun, Dev.safeArise_shutdown]
  split
  · exact Dev.mem_raised_raise_of_mem 707 h
  · exact Dev.mem_raised_raise_of_mem 707 h

/-- What stands once a shutdown has started. -/
theorem Dev.shutdownBegun_stands : (d.shutdownBegun cause x b).heat.shutdown = some x ∧ cause ∈ (d.shutdownBegun cause x b).frzDue ∧
    bitAt ((d.shutdownBegun cause x b).fget BBX_SAFE.PRESENT) 4 = true := by
  have hheat : (d.shutdownBegun cause x b).heat = { d.heat with shutdown := some x } :=
    (Dev.safeArise_shutdown_part Dev.heat (fun _ => rfl) (fun _ _ => rfl) _).trans (Dev.raise_part Dev.heat (fun _ => rfl) _ 707)
  refine ⟨congrArg Heat.shutdown hheat, ?_, Dev.safeArise_shutdown_present _⟩
  rw [Dev.shutdownBegun, Dev.safeArise_shutdown_part Dev.frzDue (fun _ => rfl) (fun _ _ => rfl)]
  exact mem_insNat cause _

end

/-! ### What the start leaves alone -/

section
variable (d : Dev) (c : Clock) (cause : Nat)

theorem Dev.shutdownStart_part {β : Type} (g : Dev → β) (hg : ∀ d, g (noEvents d) = g d)
    (hheat : ∀ (d : Dev) h b, g { d with heat := h, boot := b } = g d) (hfrz : ∀ (d : Dev) l, g { d with frzDue := l } = g d)
    (hsafe : ∀ (d : Dev) l, g { d with safeDue := l } = g d)
    (hwork : g d.nvWork.2 = g d) : g (d.shutdownStart c cause) = g d := by
  rcases d.shutdownStart_cases c cause with ⟨heq, -⟩ | ⟨x, b, heq, -⟩ <;> rw [heq]
  exact (Dev.shutdownBegun_part _ cause x b g hg hheat hfrz hsafe).trans hwork

theorem Dev.shutdownStart_ocs : (d.shutdownStart c cause).ocs = d.ocs :=
  d.shutdownStart_part c cause Dev.ocs (fun _ => rfl) (fun _ _ _ => rfl) (fun _ _ => rfl) (fun _ _ => rfl)
    (Dev.nvWork_part Dev.ocs (fun _ _ _ => rfl) (fun _ _ => rfl) d)

theorem Dev.shutdownStart_ics : (d.shutdownStart c cause).ics = d.ics :=
  d.shutdownStart_part c cause Dev.ics (fun _ => rfl) (fun _ _ _ => rfl) (fun _ _ => rfl) (fun _ _ => rfl)
    (Dev.nvWork_part Dev.ics (fun _ _ _ => rfl) (fun _ _ => rfl) d)

theorem Dev.rd8_shutdownStart {a : Nat}
    (h : ∀ set k start, d.calStore = some (set, k, start) → a < setBase set k ∨ setBase set k + 0x4000 ≤ a) :
    (d.shutdownStart c cause).rd8 a = d.rd8 a :=
  d.shutdownStart_part c cause (Dev.rd8 · a) (fun _ => rfl) (fun _ _ _ => rfl) (fun _ _ => rfl) (fun _ _ => rfl) (Dev.rd8_nvWork h)

theorem Dev.reg_shutdownStart {o : Nat} (h : o ≠ BBX_SAFE.off) (hr : ¬ inRill o) : (d.shutdownStart c cause).reg o = d.reg o := by
  rcases d.shutdownStart_cases c cause with ⟨heq, -⟩ | ⟨x, b, heq, -⟩ <;> rw [heq]
  exact (Dev.reg_shutdownBegun _ cause x b h hr).trans
    (Dev.nvWork_part (Dev.reg · o) (fun _ _ _ => rfl) (fun _ _ => rfl) d)

theorem Dev.shutdownStart_keeps_raised {r : Nat} (h : r ∈ d.raised) : r ∈ (d.shutdownStart c cause).raised := by
  rcases d.shutdownStart_cases c cause with ⟨heq, -⟩ | ⟨x, b, heq, -⟩ <;> rw [heq]
  · exact h
  · refine Dev.shutdownBegun_keeps_raised _ cause x b ?_
    rwa [Dev.nvWork_part Dev.raised (fun _ _ _ => rfl) (fun _ _ => rfl) d]

/-- A shutdown that starts: its cause, the level and the shot its record is to hold, its freeze and its SAFE cause. -/
theorem Dev.shutdownStart_starts (hs : d.heat.shutdown = none) (hl : d.fget THM_STAT.SDLATCH = 0) :
    ((d.shutdownStart c cause).heat.shutdown).map (fun y => (y.cause, y.level, y.shot, y.recorded)) =
      some (cause, d.fget THM_STAT.LEVEL, d.shot.toNat, false) ∧ cause ∈ (d.shutdownStart c cause).frzDue ∧
    bitAt ((d.shutdownStart c cause).fget BBX_SAFE.PRESENT) 4 = true := by
  rcases d.shutdownStart_cases c cause with ⟨-, hbusy⟩ | ⟨x, b, heq, hx⟩
  · exact absurd ⟨hs, hl⟩ hbusy
  · obtain ⟨hstand, hrest⟩ := d.nvWork.2.shutdownBegun_stands cause x b
    rw [heq, hstand]
    exact ⟨congrArg some hx, hrest⟩

end

/-! ### PFAIL_N (R469, R558) -/

theorem Dev.pinActs_short (d : Dev) {ns lo : Nat} (hi : Nat) (h : ns < lo) : d.pinActs ns lo hi = (false, d) := if_pos h

theorem Dev.pinActs_long (d : Dev) {ns lo hi : Nat} (hlo : lo ≤ ns) (hhi : hi ≤ ns) : d.pinActs ns lo hi = (true, d) := by
  rw [Dev.pinActs, if_neg (Nat.not_lt.2 hlo), if_pos hhi]

/-- A judgement of a pin draws at most a free value. -/
theorem Dev.pinActs_free (d : Dev) (ns lo hi : Nat) : ∃ acts n, d.pinActs ns lo hi = (acts, { d with free := n }) := by
  unfold Dev.pinActs
  split
  · exact ⟨_, _, rfl⟩
  · split <;> exact ⟨_, _, rfl⟩

/-- What PFAIL_N leaves alone, whether it acts or not. -/
def pfailFrame (s t : State) : Prop :=
  (s.dev.calStore = none → memSame s t) ∧
  (∀ set k start, s.dev.calStore = some (set, k, start) → memOutside s t (setBase set k) 0x4000) ∧
  devOnly s t ∧ t.dev.ocs = s.dev.ocs ∧ t.dev.ics = s.dev.ics ∧ regsSameEv s t [BBX_SAFE.off]

theorem pfailFrame_free (s : State) (n : Nat) : pfailFrame s (s.withDev fun d => { d with free := n }) :=
  ⟨fun _ _ => rfl, fun _ _ _ _ _ _ => rfl, ⟨rfl, rfl⟩, rfl, rfl, fun _ _ _ => rfl⟩

theorem pfailFrame_pfail (s : State) (n : Nat) (c : Clock) : pfailFrame s (s.withDev fun d => ({ d with free := n } : Dev).pfail c) := by
  have hpart {β : Type} (g : Dev → β) (hg : ∀ d, g (noEvents d) = g d) :
      g (({ s.dev with free := n } : Dev).raise 712) = g { s.dev with free := n } := Dev.raise_part g hg _ 712
  have hmem {a : Nat} (h : ∀ set k start, s.dev.calStore = some (set, k, start) → a < setBase set k ∨ setBase set k + 0x4000 ≤ a) :
      (({ s.dev with free := n } : Dev).pfail c).rd8 a = s.dev.rd8 a := by
    refine (Dev.rd8_shutdownStart _ c 2 fun set k start hstore => ?_).trans (hpart (Dev.rd8 · a) fun _ => rfl)
    rw [hpart Dev.calStore fun _ => rfl] at hstore
    exact h set k start hstore
  refine ⟨fun hstore a => hmem fun _ _ _ h => ?_, fun set k start hstore a ha => hmem fun set' k' start' h => ?_, ⟨rfl, rfl⟩,
    (Dev.shutdownStart_ocs _ c 2).trans (hpart Dev.ocs fun _ => rfl), (Dev.shutdownStart_ics _ c 2).trans (hpart Dev.ics fun _ => rfl),
    fun o ho hr => (Dev.reg_shutdownStart _ c 2 (fun h => ho (List.mem_singleton.2 h)) hr).trans ((eventsOnly_raise _ 712).2 o hr)⟩
  · rw [hstore] at h
    cases h
  · rw [hstore] at h
    cases h
    exact ha

theorem pfail_effect (ns : Nat) (s : State) :
    completes (.pfail ns) s fun t =>
      (ns < 200 → t = s) ∧
      (400 ≤ ns → (s.dev.canRaise 712 = true → 712 ∈ t.dev.raised) ∧
        (s.dev.heat.shutdown = none → s.dev.fget THM_STAT.SDLATCH = 0 →
          (t.dev.heat.shutdown).map (fun y => (y.cause, y.level, y.shot, y.recorded)) =
            some (2, s.dev.fget THM_STAT.LEVEL, s.dev.shot.toNat, false) ∧ 2 ∈ t.dev.frzDue ∧
          bitAt (t.dev.fget BBX_SAFE.PRESENT) 4 = true)) ∧ pfailFrame s t := by
  refine ⟨_, exec_pfail s ns, fun h => ?_, fun h => ?_, ?_⟩
  · refine State.withDev_eq_self ?_
    rw [Dev.pinActs_short _ _ h]
    rfl
  · have hacts : s.dev.pinActs ns 200 400 = (true, s.dev) := s.dev.pinActs_long (by omega) h
    simp only [State.withDev, hacts, if_true]
    refine ⟨fun hr => Dev.shutdownStart_keeps_raised _ _ 2 (Dev.mem_raised_raise hr), fun hs hl => ?_⟩
    have hlevel := s.dev.fget_raise 712 THM_STAT.LEVEL (not_inRill_of_ge (by decide))
    have hlatch := s.dev.fget_raise 712 THM_STAT.SDLATCH (not_inRill_of_ge (by decide))
    have hheat : (s.dev.raise 712).heat = s.dev.heat := Dev.raise_part Dev.heat (fun _ => rfl) _ _
    have hshot : (s.dev.raise 712).shot = s.dev.shot := Dev.raise_part Dev.shot (fun _ => rfl) _ _
    have hstarts := (s.dev.raise 712).shutdownStart_starts s.clk 2 (hheat ▸ hs) (hlatch.trans hl)
    rwa [hlevel, hshot] at hstarts
  · obtain ⟨acts, n, hacts⟩ := s.dev.pinActs_free ns 200 400
    simp only [State.withDev, hacts]
    cases acts with
    | false => exact pfailFrame_free s n
    | true => exact pfailFrame_pfail s n s.clk

/-! ### The record (R464) -/

theorem nvPage_length (body : List Byte) : (nvPage body).length = 64 := by
  simp [nvPage, leBytes_length]

theorem Shutdown.page_length (x : Shutdown) : x.page.length = 64 := nvPage_length _

/-- The page the record goes into: the lowest that is erased. -/
def Dev.recordPage (d : Dev) : Option Nat := (List.range 64).find? fun k => d.nvErased (shutdownPage k) 64

/-- The device with the record of a shutdown programmed, where a page is erased. -/
def Dev.recordPut (d : Dev) (x : Shutdown) : Dev :=
  match d.recordPage with
  | some k => d.wrBytes (shutdownPage k) x.page
  | none => d

theorem Dev.recordPut_part {β : Type} (g : Dev → β) (hg : ∀ (d : Dev) m, g { d with mem := m } = g d) (d : Dev) (x : Shutdown) :
    g (d.recordPut x) = g d := by
  unfold Dev.recordPut
  split
  · exact Dev.wrBytes_part g hg d _ _
  · rfl

theorem Dev.recordPut_some {d : Dev} (x : Shutdown) {k : Nat} (h : d.recordPage = some k) :
    (d.recordPut x).rdBytes (shutdownPage k) 64 = x.page ∧
    ∀ a, a < shutdownPage k ∨ shutdownPage k + 64 ≤ a → (d.recordPut x).rd8 a = d.rd8 a := by
  have hput : d.recordPut x = d.wrBytes (shutdownPage k) x.page := by
    unfold Dev.recordPut
    rw [h]
  rw [hput]
  refine ⟨?_, fun a ha => d.rd8_wrBytes_out _ a _ (x.page_length.symm ▸ ha)⟩
  have hread := d.rdBytes_wrBytes (shutdownPage k) x.page
  rwa [x.page_length] at hread

theorem Dev.recordPut_none {d : Dev} (x : Shutdown) (h : d.recordPage = none) : d.recordPut x = d := by
  unfold Dev.recordPut
  rw [h]

/-- The record is programmed once its freeze is over. -/
theorem Dev.shutdownRecord_due {d : Dev} {x : Shutdown} (hx : d.heat.shutdown = some x) (hr : x.recorded = false) (hf : d.freeze = none)
    (hd : d.frzDue.contains x.cause = false) :
    d.shutdownRecord = { d.recordPut x with heat := { d.heat with shutdown := some { x with recorded := true } } } := by
  have hheat : (d.recordPut x).heat = d.heat := Dev.recordPut_part Dev.heat (fun _ _ => rfl) d x
  have hgo : (x.recorded || d.freeze.isSome || d.frzDue.contains x.cause) = false := by rw [hr, hf, hd]; rfl
  rw [← hheat, Dev.shutdownRecord, hx]
  exact if_neg (by rw [hgo]; decide)

theorem shutdownRecord_effect {x : Shutdown} {s : State} (hx : s.dev.heat.shutdown = some x) (hr : x.recorded = false)
    (hf : s.dev.freeze = none) (hd : s.dev.frzDue.contains x.cause = false) :
    completes .shutdownRecord s fun t =>
      t.dev.heat.shutdown = some { x with recorded := true } ∧
      (∀ k, (List.range 64).find? (fun k => s.dev.nvErased (shutdownPage k) 64) = some k →
        t.dev.rdBytes (shutdownPage k) 64 = x.page ∧ memOutside s t (shutdownPage k) 64) ∧
      ((List.range 64).find? (fun k => s.dev.nvErased (shutdownPage k) 64) = none → memSame s t) ∧ devOnly s t ∧
      t.dev.ocs = s.dev.ocs ∧ regsSame s t [] := by
  refine completes_of_dev (exec_shutdownRecord s) (Dev.shutdownRecord_due hx hr hf hd) ⟨rfl, fun k hk => ?_, fun hnone a => ?_,
    ⟨rfl, rfl⟩, Dev.recordPut_part Dev.ocs (fun _ _ => rfl) _ x,
    fun o _ => Dev.recordPut_part (Dev.reg · o) (fun _ _ => rfl) _ x⟩
  · obtain ⟨hpage, hout⟩ := Dev.recordPut_some x hk
    exact ⟨(Dev.rdBytes_congr _ _ _ _ fun _ _ _ => rfl).trans hpage, hout⟩
  · show (s.dev.recordPut x).rd8 a = s.dev.rd8 a
    rw [Dev.recordPut_none x hnone]

end Sys2Proof.Machine
end

section
/-! SUPPORT. Resets of class B and the entry to SLEEP (R514, R517), as the end of a shutdown and AUTORESTART make them (R463, R465). -/
namespace Sys2Proof.Machine

open Sys2Proof.Safety

/-! ### What a reset of class B leaves (R21, R514) -/

/-- A register of class B or weaker, but for the two that a reset writes itself, is at default. -/
theorem Dev.reg_afterB (d : Dev) (pin pool : Bool) {o : Nat} (hsafe : o ≠ BBX_SAFE.off) (hsec : o ≠ SEC_STAT.off)
    (hcls : ((regRow? o).map fun r => r.cls == .a).getD false = false) : (d.afterB pin pool).reg o = regReset o := by
  have hkept : tget (regReset o) (keepRegs d.regs (· == .a)) o = regReset o := tget_filter_out _ _ _ fun _ => hcls
  unfold Dev.afterB
  dsimp only
  split
  · exact (Dev.reg_fset_ne _ _ _ hsec).trans ((Dev.reg_fset_ne _ _ _ hsafe).trans hkept)
  · exact (Dev.reg_fset_ne _ _ _ hsafe).trans hkept

theorem Dev.mode_afterB (d : Dev) (pin pool : Bool) : (d.afterB pin pool).mode = .load := by
  have hcur := d.reg_afterB pin pool (o := GLB_MODE.off) (by decide) (by decide) (by decide +kernel)
  have hreset : Mode.ofCode (GLB_MODE.CUR.of (regReset GLB_MODE.off)) = .load := by decide +kernel
  rw [Dev.mode, Dev.fget, hcur, hreset]

theorem Dev.otp_afterB (d : Dev) (pin pool : Bool) : (d.afterB pin pool).otp = d.otp := by
  unfold Dev.afterB
  dsimp only
  split <;> rfl

theorem Dev.boot_afterB (d : Dev) (pin pool : Bool) : (d.afterB pin pool).boot = {} := by
  unfold Dev.afterB
  dsimp only
  split <;> rfl

/-- Beside the cause, the entries of a reset are events alone. -/
theorem eventsOnly_resetEntries (d : Dev) (cause : Nat) (was : Mode) :
    eventsOnly (d.fset GLB_RSTCAUSE.CAUSE cause) (d.resetEntries cause was) := by
  have hreset := eventsOnly_bbxAdd (d.fset GLB_RSTCAUSE.CAUSE cause) .reset 0 cause
  unfold Dev.resetEntries
  dsimp only
  split
  · exact hreset
  · exact eventsOnly_trans hreset (eventsOnly_trans (eventsOnly_bbxAdd _ .mode 0 was.code) (eventsOnly_raise _ 839))

theorem Dev.fget_resetEntries_CAUSE (d : Dev) {cause : Nat} (was : Mode) (h : cause < 16) :
    (d.resetEntries cause was).fget GLB_RSTCAUSE.CAUSE = cause :=
  (eventsOnly_fget (eventsOnly_resetEntries d cause was) _ (not_inRill_of_lt (by decide))).trans
    ((d.fget_fset GLB_RSTCAUSE.CAUSE cause (by decide)).trans (Nat.mod_eq_of_lt h))

theorem Dev.mode_resetEntries (d : Dev) (cause : Nat) (was : Mode) : (d.resetEntries cause was).mode = d.mode :=
  Dev.mode_congr ((eventsOnly_fget (eventsOnly_resetEntries d cause was) _ (not_inRill_of_lt (by decide))).trans
    (d.fget_fset_off GLB_RSTCAUSE.CAUSE GLB_MODE.CUR cause (by decide)))

/-- A reset of class B: the device is in LOAD with the cause recorded, and its boot waits to begin. -/
theorem State.resetB_boots (s : State) {cause : Nat} (pin : Bool) (h : cause < 16) :
    (s.resetB cause pin).dev.mode = .load ∧ (s.resetB cause pin).dev.fget GLB_RSTCAUSE.CAUSE = cause ∧
      (s.resetB cause pin).dev.boot.phase = .waiting := by
  have hboot := eventsOnly_part Dev.boot (fun _ => rfl) (eventsOnly_resetEntries (s.dev.afterB pin true) cause s.dev.mode)
  exact ⟨(Dev.mode_resetEntries _ cause _).trans (s.dev.mode_afterB pin true), Dev.fget_resetEntries_CAUSE _ _ h,
    congrArg BootSt.phase (hboot.trans (s.dev.boot_afterB pin true))⟩

theorem autorestart_effect {s : State} (hl : s.dev.fget THM_STAT.SDLATCH = 1) (ha : s.dev.fget THM_CTL.AUTORESTART = 1)
    (hc : s.dev.cooled = true) :
    completes .autorestart s fun t => t.dev.mode = .load ∧ t.dev.fget GLB_RSTCAUSE.CAUSE = 1 ∧ t.dev.boot.phase = .waiting := by
  have hgo : (s.dev.bit THM_STAT.SDLATCH && s.dev.bit THM_CTL.AUTORESTART && s.dev.cooled) = true := by
    rw [(Dev.bit_eq_true_iff _ _ rfl).2 hl, (Dev.bit_eq_true_iff _ _ rfl).2 ha, hc]
    rfl
  have hexec : exec .autorestart s = .next (s.resetB 1 true) := congrArg Host.Outcome.next (if_pos hgo)
  exact ⟨_, hexec, s.resetB_boots true (by decide)⟩

/-! ### SLEEP (R517) -/

/-- The device in SLEEP, but for the MODE entry of its record. -/
def Dev.asleep (d : Dev) : Dev := ((d.afterB false false).fset GLB_MODE.CUR Mode.sleep.code).fset GLB_MODE.PREV d.mode.code

theorem eventsOnly_enterSleep (s : State) : eventsOnly s.dev.asleep s.enterSleep.dev := by
  unfold State.enterSleep
  dsimp only
  split
  · exact eventsOnly_refl _
  · exact eventsOnly_bbxAdd _ _ _ _

theorem State.fget_enterSleep_CUR (s : State) : s.enterSleep.dev.fget GLB_MODE.CUR = Mode.sleep.code :=
  (eventsOnly_fget (eventsOnly_enterSleep s) _ (not_inRill_of_lt (by decide))).trans
    ((Dev.fget_fset_apart _ GLB_MODE.off _ (by decide) (.inr (by decide))).trans (Dev.fget_fset_same _ GLB_MODE.off _ (by decide)))

theorem State.otp_enterSleep (s : State) : s.enterSleep.dev.otp = s.dev.otp :=
  (eventsOnly_part Dev.otp (fun _ => rfl) (eventsOnly_enterSleep s)).trans (s.dev.otp_afterB false false)

/-! ### The end of a shutdown (R463, R465) -/

/-- The device in SLEEP with the latch of a shutdown set, its cause recorded, and no pin reset waiting. -/
def Dev.latched (d : Dev) (cause : Nat) : Dev :=
  ((({ d with heat := { d.heat with pinWait := false } } : Dev).fset THM_STAT.SDLATCH 1).fset GLB_RSTCAUSE.CAUSE cause).bbxAdd .reset 0 cause

theorem State.pinWaiting_none {s : State} (h : s.dev.heat.pinWait = false) : s.pinWaiting = s := by
  rw [State.pinWaiting, h]
  rfl

theorem State.shutdownDown_recorded {s : State} {x : Shutdown} (hx : s.dev.heat.shutdown = some x) (hr : x.recorded = true)
    (hp : s.dev.heat.pinWait = false) :
    s.shutdownDown = s.enterSleep.withDev fun d => d.latched (if x.cause = 1 then 2 else 4) := by
  have hdown : s.shutdownDown = (s.enterSleep.withDev fun d => d.latched (if x.cause = 1 then 2 else 4)).pinWaiting := by
    simp only [State.shutdownDown, hx, hr, hp, if_true]
    rfl
  exact hdown.trans (State.pinWaiting_none rfl)

theorem Dev.fget_latched_SDLATCH (d : Dev) (cause : Nat) : (d.latched cause).fget THM_STAT.SDLATCH = 1 :=
  (Dev.fget_fset_off _ GLB_RSTCAUSE.CAUSE THM_STAT.SDLATCH cause (by decide)).trans (Dev.fget_fset_same _ THM_STAT.off 1 (by decide))

theorem Dev.fget_latched_CAUSE (d : Dev) {cause : Nat} (h : cause < 16) : (d.latched cause).fget GLB_RSTCAUSE.CAUSE = cause :=
  (Dev.fget_fset _ GLB_RSTCAUSE.CAUSE cause (by decide)).trans (Nat.mod_eq_of_lt h)

theorem Dev.fget_latched_CUR (d : Dev) (cause : Nat) : (d.latched cause).fget GLB_MODE.CUR = d.fget GLB_MODE.CUR :=
  (Dev.fget_fset_off _ GLB_RSTCAUSE.CAUSE GLB_MODE.CUR cause (by decide)).trans
    (Dev.fget_fset_off _ THM_STAT.SDLATCH GLB_MODE.CUR 1 (by decide))

theorem shutdownPowerDown_effect {x : Shutdown} {s : State} (hx : s.dev.heat.shutdown = some x) (hr : x.recorded = true)
    (hp : s.dev.heat.pinWait = false) :
    completes .shutdownPowerDown s fun t =>
      t.dev.mode = .sleep ∧ t.dev.fget THM_STAT.SDLATCH = 1 ∧
      t.dev.fget GLB_RSTCAUSE.CAUSE = (if x.cause = 1 then 2 else 4) ∧ t.clk.counting = false ∧ t.dev.otp = s.dev.otp ∧
      t.pending = s.pending := by
  have hexec : exec .shutdownPowerDown s = .next (s.enterSleep.withDev fun d => d.latched (if x.cause = 1 then 2 else 4)) :=
    congrArg Host.Outcome.next (State.shutdownDown_recorded hx hr hp)
  have hmode := (s.enterSleep.dev.fget_latched_CUR (if x.cause = 1 then 2 else 4)).trans s.fget_enterSleep_CUR
  refine ⟨_, hexec, congrArg Mode.ofCode hmode, Dev.fget_latched_SDLATCH _ _, Dev.fget_latched_CAUSE _ ?_, rfl, s.otp_enterSleep, rfl⟩
  split <;> decide

end Sys2Proof.Machine

open Sys2Proof Sys2Proof.Machine Sys2Proof.Safety

/-- Settles O54: each command by its own lemma. All that the start of a shutdown can do is one of two cases; the ledger's stages keep out of
one another's registers, and its judgement never clears HL_ERR.OVER. -/
theorem supplyAndLedger : Obligations.SupplyAndLedger :=
  ⟨pfail_effect, fun _ _ => shutdownRecord_effect, fun _ _ => shutdownPowerDown_effect, fun _ => autorestart_effect,
    railExcursion_effect, fun _ _ => droopDetect_effect, fun _ => droopStretchEnd_effect, fun _ => ledgerStep_effect, tauWrite_effect⟩
end
